-- ==== Sys2Proof/Word.lean ====
section
/-! DEFINITION. The byte, the index types of the manual's section 6.2 and the plain arithmetic (clamping and rounding up)
that every block of the HX-624 uses. -/

namespace Sys2Proof

/-- One byte of a frame. -/
abbrev Byte := BitVec 8

/-- PSU positions 0 to 5 (00_scope.md, section 6.2). -/
abbrev PsuId := Fin 6
/-- BBU positions 0 to 3. -/
abbrev BbuId := Fin 4
/-- Tray slots 0 to 23. -/
abbrev SlotId := Fin 24
/-- Leak zones 0 to 7. -/
abbrev ZoneId := Fin 8
/-- Sense points 0 to 28; 0 to 20 are analog, 21 to 28 are ropes (01, section 1.1). -/
abbrev PointId := Fin 29
/-- Analog sense points 0 to 20. -/
abbrev AnalogId := Fin 21
/-- Range table entries 0 to 7. -/
abbrev RangeId := Fin 8
/-- Cause numbers 0 to 136; 29 to 31 have no source (10, section 10.1). -/
abbrev CauseId := Fin 137

def psuIds : List PsuId := [0, 1, 2, 3, 4, 5]
def bbuIds : List BbuId := [0, 1, 2, 3]
def zoneIds : List ZoneId := [0, 1, 2, 3, 4, 5, 6, 7]
def rangeIds : List RangeId := [0, 1, 2, 3, 4, 5, 6, 7]
def slotIds : List SlotId :=
  [0, 1, 2, 3, 4, 5, 6, 7, 8, 9, 10, 11, 12, 13, 14, 15, 16, 17, 18, 19, 20, 21, 22, 23]
def analogIds : List AnalogId :=
  [0, 1, 2, 3, 4, 5, 6, 7, 8, 9, 10, 11, 12, 13, 14, 15, 16, 17, 18, 19, 20]
def pointIds : List PointId :=
  [0, 1, 2, 3, 4, 5, 6, 7, 8, 9, 10, 11, 12, 13, 14, 15, 16, 17, 18, 19, 20,
   21, 22, 23, 24, 25, 26, 27, 28]

/-- The nearer bound of `lo` to `hi` for a value outside the range, the value itself inside it (R170). -/
def clampNat (lo hi v : Nat) : Nat := max lo (min v hi)

/-- `clampNat` on signed quantities. -/
def clampInt (lo hi v : Int) : Int := max lo (min v hi)

/-- Division rounded up; the divisor is positive wherever it is used. -/
def ceilDiv (a b : Nat) : Nat := (a + (b - 1)) / b

end Sys2Proof
end

