-- ==== Sys2Proof/Machine/Settings.lean ====
section
/-! DEFINITION. The settings of the HX-624 (every value a SET request replaces, and so every field of the stored profile,
R174), the built-in defaults of each chapter, and the three profile sections (12, section 12.1). -/

namespace Sys2Proof.Machine

/-- Alarm mode of an analog point (R7; codes R172). -/
inductive AlarmMode where
  | off | compare | hysteresis | latch
  deriving DecidableEq, Repr

/-- Alarm direction (R7; codes R172). -/
inductive Direction where
  | above | below
  deriving DecidableEq, Repr

/-- Scaling pair and limit record of an analog point (01, section 1.1). -/
structure PointSettings where
  span : Int
  offset : Int
  mode : AlarmMode
  direction : Direction
  high : Int
  low : Int
  deriving DecidableEq, Repr

/-- One derate entry: T_k in °C and f_k in 256ths (02, section 2.2). -/
structure DerateEntry where
  t : Int
  f : Nat
  deriving DecidableEq, Repr

/-- Budget settings (02, section 2.2); the table has four entries, sorted by T_k (R22). -/
structure BudgetSettings where
  pRate : Nat
  nRed : Nat
  derate : List DerateEntry
  grace : Nat
  deriving DecidableEq, Repr

/-- Settings of one BBU (03, section 3.1). -/
structure BbuSettings where
  qFull : Nat
  qFloor : Nat
  eta : Nat
  vFloat : Nat
  iTaper : Nat
  taperTime : Nat
  anchor : Bool
  margin : Nat
  vCutoff : Nat
  detect : Nat
  tCrit : Int
  dRated : Nat
  testCurrent : Nat
  testLimit : Nat
  testReserve : Nat
  deriving DecidableEq, Repr

/-- The three urgencies and none (R112; codes R172). -/
inductive Urgency where
  | none | orderly | prompt | immediate
  deriving DecidableEq, Repr

/-- Target direction (R50; codes R172). -/
inductive TargetDirection where
  | falling | rising
  deriving DecidableEq, Repr

/-- Target action (03, section 3.6; codes R172). -/
inductive TargetAction where
  | noticeOnly | shed | inhibitPowerup | releasePowerup
  deriving DecidableEq, Repr

/-- One target table entry (03, section 3.6). -/
structure TargetEntry where
  threshold : Nat
  direction : TargetDirection
  action : TargetAction
  minClass : Nat
  urgency : Urgency
  deriving DecidableEq, Repr

/-- Target arm mode (R48; codes R172). -/
inductive ArmMode where
  | manual | onBridge
  deriving DecidableEq, Repr

/-- The target table's settings; n is the number of entries (R48). -/
structure TargetSettings where
  mode : ArmMode
  entries : List TargetEntry
  deriving DecidableEq, Repr

/-- One range entry (R53). -/
structure RangeEntry where
  low : Nat
  high : Nat
  gate : Bool
  deriving DecidableEq, Repr

/-- Holdup settings (04, section 4.1). -/
structure HoldupSettings where
  nAcMin : Nat
  vBridge : Nat
  vReturn : Nat
  vCollapse : Nat
  collapseTime : Nat
  tSettle : Nat
  tMax : Nat
  deriving DecidableEq, Repr

/-- Temperature source of the regulator (R89; codes R172). -/
inductive TempSource where
  | inlet | hottestBbu
  deriving DecidableEq, Repr

/-- Recharge settings (05, section 5.1). -/
structure RechargeSettings where
  hTgt : Nat
  hTol : Nat
  deltaI : Nat
  stepInterval : Nat
  iMax : Nat
  iFloor : Nat
  iStart : Nat
  floorTime : Nat
  source : TempSource
  tChgLim : Int
  deriving DecidableEq, Repr

/-- Slot class (06, section 6.1; codes R172). -/
inductive SlotClass where
  | critical | essential | deferrable
  deriving DecidableEq, Repr

/-- Attention role of a slot (codes R172). -/
inductive AttentionRole where
  | general | leak
  deriving DecidableEq, Repr

/-- Settings of one slot (06, section 6.1). -/
structure SlotSettings where
  enabled : Bool
  cls : SlotClass
  rank : Nat
  pReq : Nat
  pInrush : Nat
  soak : Nat
  drainLimit : Nat
  zone : Option ZoneId
  role : AttentionRole
  autoRestore : Bool
  deriving DecidableEq, Repr

/-- Sequence settings and the shed settings sent with them (R103). -/
structure SequenceSettings where
  staggerCount : Nat
  staggerUnit : Nat
  maxSoak : Nat
  autoStart : Bool
  noticeWindow : Nat
  holdCritical : Nat
  holdEssential : Nat
  holdDeferrable : Nat
  deriving DecidableEq, Repr

/-- Zone policy (09, section 9.1; codes R172). -/
inductive Policy where
  | notify | valve | valveAndShed
  deriving DecidableEq, Repr

/-- Settings of one leak zone (09, section 9.1). -/
structure ZoneSettings where
  shortThr : Nat
  wetThr : Nat
  dryThr : Nat
  openThr : Nat
  kRope : Nat
  kTray : Nat
  policy : Policy
  acceptTray : Bool
  deriving DecidableEq, Repr

/-- Line mode setting (R133; codes R172). -/
inductive LineSetting where
  | adaptive | alwaysContinuous
  deriving DecidableEq, Repr

/-- Status line settings (R140). -/
structure LineSettings where
  mode : LineSetting
  survey : Nat
  deriving DecidableEq, Repr

/-- Mask and alert-enable of one cause (10, section 10.1). -/
structure MaskSettings where
  mask : Bool
  alertEnable : Bool
  deriving DecidableEq, Repr

/-- Every setting of the part: the working settings, and equally the content of the stored profile (12, section 12.1). -/
structure Settings where
  points : Vector PointSettings 21
  budget : BudgetSettings
  bbus : Vector BbuSettings 4
  targets : TargetSettings
  ranges : Vector RangeEntry 8
  holdup : HoldupSettings
  recharge : RechargeSettings
  slots : Vector SlotSettings 24
  sequence : SequenceSettings
  zones : Vector ZoneSettings 8
  line : LineSettings
  masks : Vector MaskSettings 137
  globalAlert : Bool
  deriving DecidableEq, Repr

/-! Built-in defaults, taken when the profile check fails (R174). -/

/-- R18. -/
def defaultPoint (p : AnalogId) : PointSettings :=
  if p.val = 1 then ⟨20000, 0, .off, .above, 0, 0⟩
  else if 2 ≤ p.val ∧ p.val ≤ 7 then ⟨2500, 0, .off, .above, 0, 0⟩
  else if 12 ≤ p.val ∧ p.val ≤ 15 then ⟨12000, -6000, .off, .above, 0, 0⟩
  else if 16 ≤ p.val ∧ p.val ≤ 19 then ⟨200, -50, .hysteresis, .above, 50, 45⟩
  else if p.val = 20 then ⟨200, -50, .off, .above, 0, 0⟩
  else ⟨6000, 0, .off, .above, 0, 0⟩

/-- R34. -/
def defaultBudget : BudgetSettings :=
  ⟨5500, 1, [⟨127, 256⟩, ⟨127, 256⟩, ⟨127, 256⟩, ⟨127, 256⟩], 20⟩

/-- R58. -/
def defaultBbu : BbuSettings :=
  ⟨300000, 30000, 230, 5400, 50, 3000, true, 15000, 4400, 20, 65, 270000, 1500, 900, 120⟩

/-- R58: an empty target table in ON_BRIDGE mode. -/
def defaultTargets : TargetSettings := ⟨.onBridge, []⟩

/-- R58: an empty range table; R53 says which entry is empty. -/
def emptyRange : RangeEntry := ⟨0, 0, false⟩

/-- R79. -/
def defaultHoldup : HoldupSettings := ⟨2, 4800, 5000, 4200, 50, 50, 300⟩

/-- R93. -/
def defaultRecharge : RechargeSettings := ⟨1000, 200, 20, 10, 800, 50, 200, 300, .hottestBbu, 45⟩

/-- R110: rank equal to the slot number. -/
def defaultSlot (n : SlotId) : SlotSettings :=
  ⟨true, .essential, n.val, 1000, 500, 20, 5, none, .general, true⟩

/-- R110 for the sequence, R127 for the notice window and the hold limits. -/
def defaultSequence : SequenceSettings := ⟨50, 10, 2, true, 3000, 300, 120, 60⟩

/-- R154. -/
def defaultZone : ZoneSettings := ⟨100, 1200, 2400, 3995, 50, 3, .notify, true⟩

/-- R141. -/
def defaultLine : LineSettings := ⟨.adaptive, 100⟩

/-- R163: every cause unmasked; alert-enable set for causes 32 to 47, 72 to 95 and 130 to 132. -/
def defaultMask (c : CauseId) : MaskSettings :=
  ⟨false, decide ((32 ≤ c.val ∧ c.val ≤ 47) ∨ (72 ≤ c.val ∧ c.val ≤ 95) ∨ (130 ≤ c.val ∧ c.val ≤ 132))⟩

/-- The built-in defaults of every chapter (R174). -/
def defaultSettings : Settings where
  points := Vector.ofFn defaultPoint
  budget := defaultBudget
  bbus := Vector.replicate 4 defaultBbu
  targets := defaultTargets
  ranges := Vector.replicate 8 emptyRange
  holdup := defaultHoldup
  recharge := defaultRecharge
  slots := Vector.ofFn defaultSlot
  sequence := defaultSequence
  zones := Vector.replicate 8 defaultZone
  line := defaultLine
  masks := Vector.ofFn defaultMask
  globalAlert := true

/-! The three sections of the profile (12, section 12.1), as what a lock compares (R177). -/

/-- The SAFETY fields of the settings. -/
structure SafetyView where
  holdup : HoldupSettings
  zones : List (Nat × Nat × Nat × Nat × Policy)
  slots : List (SlotClass × Option ZoneId)
  bbus : List (Nat × Int × Nat)
  deriving DecidableEq, Repr

/-- The ORDER fields of the settings. -/
structure OrderView where
  slots : List (Bool × Nat × Nat × Nat × Nat × Bool)
  staggerCount : Nat
  staggerUnit : Nat
  maxSoak : Nat
  autoStart : Bool
  deriving DecidableEq, Repr

/-- The BBU settings of the GENERAL section: all of section 3.1 but Qfloor, V_cutoff and T_crit. -/
structure BbuGeneralView where
  qFull : Nat
  eta : Nat
  vFloat : Nat
  iTaper : Nat
  taperTime : Nat
  anchor : Bool
  margin : Nat
  detect : Nat
  dRated : Nat
  testCurrent : Nat
  testLimit : Nat
  testReserve : Nat
  deriving DecidableEq, Repr

/-- The GENERAL fields of the settings: every other setting that a SET request changes. -/
structure GeneralView where
  points : Vector PointSettings 21
  budget : BudgetSettings
  bbus : List BbuGeneralView
  targets : TargetSettings
  ranges : Vector RangeEntry 8
  recharge : RechargeSettings
  slots : List (Nat × AttentionRole)
  shed : Nat × Nat × Nat × Nat
  zones : List (Nat × Nat × Bool)
  line : LineSettings
  masks : Vector MaskSettings 137
  globalAlert : Bool
  deriving DecidableEq, Repr

def Settings.safety (p : Settings) : SafetyView where
  holdup := p.holdup
  zones := zoneIds.map fun z =>
    (p.zones[z].shortThr, p.zones[z].wetThr, p.zones[z].dryThr, p.zones[z].openThr, p.zones[z].policy)
  slots := slotIds.map fun n => (p.slots[n].cls, p.slots[n].zone)
  bbus := bbuIds.map fun i => (p.bbus[i].vCutoff, p.bbus[i].tCrit, p.bbus[i].qFloor)

def Settings.order (p : Settings) : OrderView where
  slots := slotIds.map fun n =>
    (p.slots[n].enabled, p.slots[n].rank, p.slots[n].pReq, p.slots[n].pInrush, p.slots[n].soak,
      p.slots[n].autoRestore)
  staggerCount := p.sequence.staggerCount
  staggerUnit := p.sequence.staggerUnit
  maxSoak := p.sequence.maxSoak
  autoStart := p.sequence.autoStart

def BbuSettings.general (b : BbuSettings) : BbuGeneralView :=
  ⟨b.qFull, b.eta, b.vFloat, b.iTaper, b.taperTime, b.anchor, b.margin, b.detect, b.dRated, b.testCurrent,
    b.testLimit, b.testReserve⟩

def Settings.general (p : Settings) : GeneralView where
  points := p.points
  budget := p.budget
  bbus := bbuIds.map fun i => p.bbus[i].general
  targets := p.targets
  ranges := p.ranges
  recharge := p.recharge
  slots := slotIds.map fun n => (p.slots[n].drainLimit, p.slots[n].role)
  shed := (p.sequence.noticeWindow, p.sequence.holdCritical, p.sequence.holdEssential, p.sequence.holdDeferrable)
  zones := zoneIds.map fun z => (p.zones[z].kRope, p.zones[z].kTray, p.zones[z].acceptTray)
  line := p.line
  masks := p.masks
  globalAlert := p.globalAlert

end Sys2Proof.Machine
end

