-- ==== Sys2Proof/Config.lean ====
section
/-! DEFINITION. The values the manual leaves open: constants without a body, so that nothing can be proved of them. -/

namespace Sys2Proof

/-- Whether a report of a timer's remaining time counts a part-elapsed unit as a whole one. The manual gives the unit of
each report (R35, R79, R93, R111, R127, R142) and not the rounding. DESIGN CHOICE (log 6). -/
opaque Config.reportRoundsUp : Bool

/-- The source temperature reported (R93) when the source is HOTTEST_BBU and the charging set is empty: the highest of no
temperature is not stated (R89). DESIGN CHOICE (log 7). -/
opaque Config.hottestOfNone : Int

/-- The seconds since power-on past 4,294,967,295, where the manual gives the range and not what follows it (04, section
4.6). DESIGN CHOICE (log 8). -/
opaque Config.secondsPastRange : Nat → Nat

/-- The CRC-32 of a stored profile, an opaque value whose parameters are internal to the part (R179). DESIGN CHOICE (log 9). -/
opaque Config.profileCrc : Machine.Settings → BitVec 32

/-- A fresh 32-bit value for each use of a value the manual does not state: the CRC held after an abandoned or badly verified
write (R176), the rope code of a WET entry that no sample set has preceded (R151). DESIGN CHOICE (log 9, log 10). -/
opaque Config.freeWord : Nat → BitVec 32

/-- Whether a stagger unit of 55, equally near 10 and 100, is clamped to 100 (R103). DESIGN CHOICE (log 11). -/
opaque Config.staggerTieUp : Bool

/-- Whether a capacity test that ends early leaves its delivered charge D, said to be discarded, in the test record (R57) or
empties it. DESIGN CHOICE (log 12). -/
opaque Config.keepsDiscardedCharge : Bool

/-- The code sent for an enumerated field of a reply that the table of R172 does not list, by field and value. DESIGN CHOICE (log
46). -/
opaque Config.unlistedCode : Nat → Nat → BitVec 8

end Sys2Proof
end

