-- ==== Sys2Proof/Syntax.lean ====
section
/-! DEFINITION. The commands of the HX-624: one constructor of `Instr` for each row of spec/opcode_table.json.
A row is an event at the part (a pin, a timer, the end of a sample interval, a frame, an internal publication) or the
execution of one request of the management link. A request row carries the tag of its frame and its body fields AT THEIR
WIRE WIDTHS (R170), so that every out-of-range value a frame can carry is an operand the meaning must clamp or refuse. -/

namespace Sys2Proof

/-- The three digital inputs of a PSU position (00_scope.md, section 4). -/
inductive PsuPin where
  | present | acOk | dcOk
  deriving DecidableEq, Repr

/-- The samples of one status line cycle (R132), slot n at bit n; a set bit is a LOW sample. -/
structure CycleSamples where
  x : BitVec 24
  a : BitVec 24
  b : BitVec 24
  t : BitVec 24
  deriving DecidableEq, Repr

/-- A good request frame as the request queue holds it (R166, R167): KIND, TAG and body. -/
structure Frame where
  kind : Byte
  tag : Byte
  body : List Byte
  deriving DecidableEq, Repr

/-- SET_LIMIT body (R7) after the point. The two limits take 2 bytes each, the width of the widest range a point can give them
(R170); the point says whether they are signed (DEDUCED, log 32). -/
structure LimitW where
  span : BitVec 32
  offset : BitVec 32
  mode : Byte
  direction : Byte
  high : BitVec 16
  low : BitVec 16
  deriving DecidableEq, Repr

/-- One derate entry of SET_BUDGET (R22). -/
structure DerateW where
  t : Byte
  f : BitVec 16
  deriving DecidableEq, Repr

/-- SET_BUDGET body (R22). -/
structure BudgetW where
  pRate : BitVec 16
  nRed : Byte
  e0 : DerateW
  e1 : DerateW
  e2 : DerateW
  e3 : DerateW
  grace : Byte
  deriving DecidableEq, Repr

/-- The fifteen settings of section 3.1 in table order (R36). -/
structure ChargeW where
  qFull : BitVec 32
  qFloor : BitVec 32
  eta : BitVec 16
  vFloat : BitVec 16
  iTaper : BitVec 16
  taperTime : BitVec 16
  anchor : Byte
  margin : BitVec 32
  vCutoff : BitVec 16
  detect : BitVec 16
  tCrit : Byte
  dRated : BitVec 32
  testCurrent : BitVec 16
  testLimit : BitVec 16
  testReserve : BitVec 16
  deriving DecidableEq, Repr

/-- One target entry of SET_TARGETS (R48). -/
structure TargetW where
  threshold : BitVec 32
  direction : Byte
  action : Byte
  minClass : Byte
  urgency : Byte
  deriving DecidableEq, Repr

/-- One range entry of SET_RANGES (R53). -/
structure RangeW where
  low : BitVec 16
  high : BitVec 16
  gate : Byte
  deriving DecidableEq, Repr

/-- The eight entries of SET_RANGES (R53). -/
structure RangesW where
  r0 : RangeW
  r1 : RangeW
  r2 : RangeW
  r3 : RangeW
  r4 : RangeW
  r5 : RangeW
  r6 : RangeW
  r7 : RangeW
  deriving DecidableEq, Repr

/-- SET_HOLDUP body (R61). -/
structure HoldupW where
  nAcMin : Byte
  vBridge : BitVec 16
  vReturn : BitVec 16
  vCollapse : BitVec 16
  collapseTime : BitVec 16
  tSettle : BitVec 16
  tMax : BitVec 16
  deriving DecidableEq, Repr

/-- SET_RECHARGE body: the ten settings of section 5.1 in table order (R82). -/
structure RechargeW where
  hTgt : BitVec 16
  hTol : BitVec 16
  deltaI : BitVec 16
  stepInterval : Byte
  iMax : BitVec 16
  iFloor : BitVec 16
  iStart : BitVec 16
  floorTime : BitVec 16
  source : Byte
  tChgLim : Byte
  deriving DecidableEq, Repr

/-- SET_SLOT body after the slot: the ten settings of section 6.1 in table order (R94). -/
structure SlotW where
  enabled : Byte
  cls : Byte
  rank : Byte
  pReq : BitVec 16
  pInrush : BitVec 16
  soak : BitVec 16
  drainLimit : Byte
  zone : Byte
  role : Byte
  autoRestore : Byte
  deriving DecidableEq, Repr

/-- SET_SEQUENCE body (R103). -/
structure SequenceW where
  staggerCount : BitVec 16
  staggerUnit : Byte
  maxSoak : Byte
  autoStart : Byte
  noticeWindow : BitVec 16
  holdCritical : BitVec 16
  holdEssential : BitVec 16
  holdDeferrable : BitVec 16
  deriving DecidableEq, Repr

/-- SET_ZONE body after the zone: the eight settings of section 9.1 in table order (R143). -/
structure ZoneW where
  shortThr : BitVec 16
  wetThr : BitVec 16
  dryThr : BitVec 16
  openThr : BitVec 16
  kRope : Byte
  kTray : Byte
  policy : Byte
  acceptTray : Byte
  deriving DecidableEq, Repr

/-- One entry of SET_MASKS (R158). -/
structure MaskW where
  cause : Byte
  mask : Byte
  alertEnable : Byte
  deriving DecidableEq, Repr

/-- The commands, one constructor per row of spec/opcode_table.json. Event rows come first, then the requests of the
message catalogue (R171, section 11.5), each with the tag of its frame. -/
inductive Instr where
  | powerOn (straps : BitVec 2)
  | pinResetAssert
  | pinResetRelease (straps : BitVec 2)
  | profileLoadComplete
  | sampleSet (codes : Vector (BitVec 12) 29)
  | psuInputChange (k : PsuId) (pin : PsuPin) (level : Bool)
  | headroomPublication
  | deficitTimerExpiry
  | deficitSelection
  | deficitAnswer
  | bbuPresentChange (i : BbuId) (level : Bool)
  | bbuFaultInputChange (i : BbuId) (level : Bool)
  | reservePublication
  | testTimerExpiry
  | settleTimerExpiry
  | bridgingTimerExpiry
  | collapseTimerExpiry
  | stepTimerExpiry
  | floorTimerExpiry
  | headReport
  | staggerTimerExpiry
  | soakTimerExpiry (n : SlotId)
  | pgChange (n : SlotId) (level : Bool)
  | noticeWindowExpiry (n : SlotId)
  | holdLimitExpiry (n : SlotId)
  | drainTimerExpiry (n : SlotId)
  | cycleStart (byTray : Bool)
  | surveyTimerExpiry
  | cycleEnd (samples : CycleSamples)
  | frameReceived (bytes : List Byte)
  | rxGapTimeout
  | txFrameEnd
  | storeWriteComplete (verified : Bool)
  | unknownKind (tag : Byte) (kind : Byte)
  | getStatus (tag : Byte)
  | getSense (tag first count : Byte)
  | getPsu (tag first count : Byte)
  | getBbu (tag first count : Byte)
  | getReserve (tag : Byte)
  | getTargets (tag first count : Byte)
  | getRanges (tag : Byte)
  | getSlots (tag first count : Byte)
  | getQueue (tag : Byte)
  | getZones (tag first count : Byte)
  | getCauses (tag first count : Byte)
  | getTransferRecord (tag : Byte)
  | getTest (tag : Byte)
  | getProfileInfo (tag : Byte)
  | setLimit (tag point : Byte) (w : LimitW)
  | setBudget (tag : Byte) (w : BudgetW)
  | setChargeParams (tag bbu : Byte) (w : ChargeW)
  | setTargets (tag mode : Byte) (entries : List TargetW)
  | setRanges (tag : Byte) (w : RangesW)
  | setHoldup (tag : Byte) (w : HoldupW)
  | setRecharge (tag : Byte) (w : RechargeW)
  | setSlot (tag slot : Byte) (w : SlotW)
  | setSequence (tag : Byte) (w : SequenceW)
  | setZone (tag zone : Byte) (w : ZoneW)
  | setLine (tag mode : Byte) (survey : BitVec 16)
  | setMasks (tag globalAlert : Byte) (entries : List MaskW)
  | armTargets (tag : Byte)
  | powerUp (tag : Byte) (slots : List Byte)
  | powerDown (tag urgency : Byte) (slots : List Byte)
  | releaseSlot (tag slot requeue : Byte)
  | clearZone (tag zone requeue : Byte)
  | clearLatch (tag point : Byte)
  | clearCause (tag : Byte) (causes : List Byte)
  | holdAll (tag : Byte)
  | releaseAll (tag : Byte)
  | setCharge (tag bbu : Byte) (value : BitVec 32)
  | startTest (tag bbu : Byte)
  | abortTest (tag : Byte)
  | clearTransferRecord (tag : Byte)
  | storeProfile (tag : Byte)
  | lockProfile (tag profileSection : Byte)
  | slotFrame23End
  | frameAbandoned
  deriving DecidableEq, Repr

end Sys2Proof
end

