-- ==== Sys2Proof/Decode.lean ====
section
/-! DEFINITION. The wire form of the requests (R169, R170, R173): frames, their check code, the request kinds of the message
catalogue and the bodies of each, read and written. opcode_table.json gives no row any bits, so `decodeTableWord` answers
none. -/

namespace Sys2Proof

/-! ### Byte order (R173: little-endian) -/

def le16 (b0 b1 : Byte) : BitVec 16 := b1 ++ b0
def le32 (b0 b1 b2 b3 : Byte) : BitVec 32 := b3 ++ b2 ++ b1 ++ b0
def bytes16 (w : BitVec 16) : List Byte := [w.extractLsb' 0 8, w.extractLsb' 8 8]
def bytes32 (w : BitVec 32) : List Byte :=
  [w.extractLsb' 0 8, w.extractLsb' 8 8, w.extractLsb' 16 8, w.extractLsb' 24 8]

/-! ### CRC-16 (R173: x^16 + x^12 + x^5 + 1, initial 0xFFFF, most significant bit first, no final inversion) -/

def crcBit (c : BitVec 16) : BitVec 16 := if c.msb then (c <<< 1) ^^^ 0x1021#16 else c <<< 1

def crcByte (c : BitVec 16) (b : Byte) : BitVec 16 :=
  crcBit (crcBit (crcBit (crcBit (crcBit (crcBit (crcBit (crcBit (c ^^^ (b ++ 0#8 : BitVec 16)))))))))

def crc16 (bytes : List Byte) : BitVec 16 := bytes.foldl crcByte 0xFFFF#16

/-- LEN, KIND, TAG and body of a frame: what the CRC covers (R173). -/
def Frame.covered (f : Frame) : List Byte := BitVec.ofNat 8 f.body.length :: f.kind :: f.tag :: f.body

/-- The whole frame on the line (R173). -/
def Frame.bytes (f : Frame) : List Byte := 0xA5#8 :: (f.covered ++ bytes16 (crc16 f.covered))

/-! ### Request kinds (section 11.5) -/

inductive Kind where
  | getStatus
  | getSense
  | getPsu
  | getBbu
  | getReserve
  | getTargets
  | getRanges
  | getSlots
  | getQueue
  | getZones
  | getCauses
  | getTransferRecord
  | getTest
  | getProfileInfo
  | setLimit
  | setBudget
  | setChargeParams
  | setTargets
  | setRanges
  | setHoldup
  | setRecharge
  | setSlot
  | setSequence
  | setZone
  | setLine
  | setMasks
  | armTargets
  | powerUp
  | powerDown
  | releaseSlot
  | clearZone
  | clearLatch
  | clearCause
  | holdAll
  | releaseAll
  | setCharge
  | startTest
  | abortTest
  | clearTransferRecord
  | storeProfile
  | lockProfile
  deriving DecidableEq, Repr

def Kind.code : Kind → Byte
  | .getStatus => 0x10#8
  | .getSense => 0x11#8
  | .getPsu => 0x12#8
  | .getBbu => 0x13#8
  | .getReserve => 0x14#8
  | .getTargets => 0x15#8
  | .getRanges => 0x16#8
  | .getSlots => 0x17#8
  | .getQueue => 0x18#8
  | .getZones => 0x19#8
  | .getCauses => 0x1A#8
  | .getTransferRecord => 0x1B#8
  | .getTest => 0x1C#8
  | .getProfileInfo => 0x1D#8
  | .setLimit => 0x30#8
  | .setBudget => 0x31#8
  | .setChargeParams => 0x32#8
  | .setTargets => 0x33#8
  | .setRanges => 0x34#8
  | .setHoldup => 0x35#8
  | .setRecharge => 0x36#8
  | .setSlot => 0x37#8
  | .setSequence => 0x38#8
  | .setZone => 0x39#8
  | .setLine => 0x3A#8
  | .setMasks => 0x3B#8
  | .armTargets => 0x50#8
  | .powerUp => 0x51#8
  | .powerDown => 0x52#8
  | .releaseSlot => 0x53#8
  | .clearZone => 0x54#8
  | .clearLatch => 0x55#8
  | .clearCause => 0x56#8
  | .holdAll => 0x57#8
  | .releaseAll => 0x58#8
  | .setCharge => 0x59#8
  | .startTest => 0x5A#8
  | .abortTest => 0x5B#8
  | .clearTransferRecord => 0x5C#8
  | .storeProfile => 0x5D#8
  | .lockProfile => 0x5E#8

def requestKinds : List Kind :=
  [.getStatus, .getSense, .getPsu, .getBbu, .getReserve, .getTargets, .getRanges, .getSlots, .getQueue,
   .getZones, .getCauses, .getTransferRecord, .getTest, .getProfileInfo, .setLimit, .setBudget,
   .setChargeParams, .setTargets, .setRanges, .setHoldup, .setRecharge, .setSlot, .setSequence, .setZone,
   .setLine, .setMasks, .armTargets, .powerUp, .powerDown, .releaseSlot, .clearZone, .clearLatch, .clearCause,
   .holdAll, .releaseAll, .setCharge, .startTest, .abortTest, .clearTransferRecord, .storeProfile, .lockProfile]

def Kind.ofByte (b : Byte) : Option Kind := requestKinds.find? fun k => k.code == b

/-! ### Bodies and their parts, each field at the width of R170 -/

def TargetW.bytes (e : TargetW) : List Byte := bytes32 e.threshold ++ [e.direction, e.action, e.minClass, e.urgency]
def RangeW.bytes (e : RangeW) : List Byte := bytes16 e.low ++ bytes16 e.high ++ [e.gate]
def DerateW.bytes (e : DerateW) : List Byte := e.t :: bytes16 e.f
def MaskW.bytes (e : MaskW) : List Byte := [e.cause, e.mask, e.alertEnable]

/-- Repeated target entries; none for a part entry (R170). -/
def decodeTargets : List Byte → Option (List TargetW)
  | [] => some []
  | t0 :: t1 :: t2 :: t3 :: d :: a :: c :: u :: rest =>
    (decodeTargets rest).map (⟨le32 t0 t1 t2 t3, d, a, c, u⟩ :: ·)
  | _ => none

/-- Repeated mask entries; none for a part entry (R170). -/
def decodeMasks : List Byte → Option (List MaskW)
  | [] => some []
  | c :: m :: a :: rest => (decodeMasks rest).map (⟨c, m, a⟩ :: ·)
  | _ => none

/-- SET_LIMIT after the point: span and offset of 4 bytes, the limits of 2 (R170; DEDUCED, log 32). -/
def LimitW.bytes (w : LimitW) : List Byte :=
  bytes32 w.span ++ bytes32 w.offset ++ [w.mode, w.direction] ++ bytes16 w.high ++ bytes16 w.low

/-- `LimitW.bytes` read back: 14 bytes, the limits at the width of log 32. -/
def LimitW.ofBytes : List Byte → Option LimitW
  | b0 :: b1 :: b2 :: b3 :: b4 :: b5 :: b6 :: b7 :: b8 :: b9 :: b10 :: b11 :: b12 :: b13 :: [] =>
    some ⟨le32 b0 b1 b2 b3, le32 b4 b5 b6 b7, b8, b9, le16 b10 b11, le16 b12 b13⟩
  | _ => none

def ChargeW.bytes (w : ChargeW) : List Byte :=
  bytes32 w.qFull ++ bytes32 w.qFloor ++ bytes16 w.eta ++ bytes16 w.vFloat ++ bytes16 w.iTaper ++
    bytes16 w.taperTime ++ [w.anchor] ++ bytes32 w.margin ++ bytes16 w.vCutoff ++ bytes16 w.detect ++
    [w.tCrit] ++ bytes32 w.dRated ++ bytes16 w.testCurrent ++ bytes16 w.testLimit ++ bytes16 w.testReserve

def ChargeW.ofBytes : List Byte → Option ChargeW
  | b0 :: b1 :: b2 :: b3 :: b4 :: b5 :: b6 :: b7 :: b8 :: b9 :: b10 :: b11 :: b12 :: b13 :: b14 :: b15 :: b16 ::
      b17 :: b18 :: b19 :: b20 :: b21 :: b22 :: b23 :: b24 :: b25 :: b26 :: b27 :: b28 :: b29 :: b30 :: b31 ::
      b32 :: b33 :: b34 :: b35 :: [] =>
    some ⟨le32 b0 b1 b2 b3, le32 b4 b5 b6 b7, le16 b8 b9, le16 b10 b11, le16 b12 b13, le16 b14 b15, b16,
      le32 b17 b18 b19 b20, le16 b21 b22, le16 b23 b24, b25, le32 b26 b27 b28 b29, le16 b30 b31, le16 b32 b33,
      le16 b34 b35⟩
  | _ => none

def HoldupW.bytes (w : HoldupW) : List Byte :=
  [w.nAcMin] ++ bytes16 w.vBridge ++ bytes16 w.vReturn ++ bytes16 w.vCollapse ++ bytes16 w.collapseTime ++
    bytes16 w.tSettle ++ bytes16 w.tMax

def HoldupW.ofBytes : List Byte → Option HoldupW
  | b0 :: b1 :: b2 :: b3 :: b4 :: b5 :: b6 :: b7 :: b8 :: b9 :: b10 :: b11 :: b12 :: [] =>
    some ⟨b0, le16 b1 b2, le16 b3 b4, le16 b5 b6, le16 b7 b8, le16 b9 b10, le16 b11 b12⟩
  | _ => none

def RechargeW.bytes (w : RechargeW) : List Byte :=
  bytes16 w.hTgt ++ bytes16 w.hTol ++ bytes16 w.deltaI ++ [w.stepInterval] ++ bytes16 w.iMax ++
    bytes16 w.iFloor ++ bytes16 w.iStart ++ bytes16 w.floorTime ++ [w.source, w.tChgLim]

def RechargeW.ofBytes : List Byte → Option RechargeW
  | b0 :: b1 :: b2 :: b3 :: b4 :: b5 :: b6 :: b7 :: b8 :: b9 :: b10 :: b11 :: b12 :: b13 :: b14 :: b15 :: b16 :: [] =>
    some ⟨le16 b0 b1, le16 b2 b3, le16 b4 b5, b6, le16 b7 b8, le16 b9 b10, le16 b11 b12, le16 b13 b14, b15, b16⟩
  | _ => none

def SlotW.bytes (w : SlotW) : List Byte :=
  [w.enabled, w.cls, w.rank] ++ bytes16 w.pReq ++ bytes16 w.pInrush ++ bytes16 w.soak ++
    [w.drainLimit, w.zone, w.role, w.autoRestore]

def SlotW.ofBytes : List Byte → Option SlotW
  | b0 :: b1 :: b2 :: b3 :: b4 :: b5 :: b6 :: b7 :: b8 :: b9 :: b10 :: b11 :: b12 :: [] =>
    some ⟨b0, b1, b2, le16 b3 b4, le16 b5 b6, le16 b7 b8, b9, b10, b11, b12⟩
  | _ => none

def SequenceW.bytes (w : SequenceW) : List Byte :=
  bytes16 w.staggerCount ++ [w.staggerUnit, w.maxSoak, w.autoStart] ++ bytes16 w.noticeWindow ++
    bytes16 w.holdCritical ++ bytes16 w.holdEssential ++ bytes16 w.holdDeferrable

def SequenceW.ofBytes : List Byte → Option SequenceW
  | b0 :: b1 :: b2 :: b3 :: b4 :: b5 :: b6 :: b7 :: b8 :: b9 :: b10 :: b11 :: b12 :: [] =>
    some ⟨le16 b0 b1, b2, b3, b4, le16 b5 b6, le16 b7 b8, le16 b9 b10, le16 b11 b12⟩
  | _ => none

def ZoneW.bytes (w : ZoneW) : List Byte :=
  bytes16 w.shortThr ++ bytes16 w.wetThr ++ bytes16 w.dryThr ++ bytes16 w.openThr ++
    [w.kRope, w.kTray, w.policy, w.acceptTray]

def ZoneW.ofBytes : List Byte → Option ZoneW
  | b0 :: b1 :: b2 :: b3 :: b4 :: b5 :: b6 :: b7 :: b8 :: b9 :: b10 :: b11 :: [] =>
    some ⟨le16 b0 b1, le16 b2 b3, le16 b4 b5, le16 b6 b7, b8, b9, b10, b11⟩
  | _ => none

def BudgetW.bytes (w : BudgetW) : List Byte :=
  bytes16 w.pRate ++ [w.nRed] ++ w.e0.bytes ++ w.e1.bytes ++ w.e2.bytes ++ w.e3.bytes ++ [w.grace]

def BudgetW.ofBytes : List Byte → Option BudgetW
  | b0 :: b1 :: b2 :: b3 :: b4 :: b5 :: b6 :: b7 :: b8 :: b9 :: b10 :: b11 :: b12 :: b13 :: b14 :: b15 :: [] =>
    some ⟨le16 b0 b1, b2, ⟨b3, le16 b4 b5⟩, ⟨b6, le16 b7 b8⟩, ⟨b9, le16 b10 b11⟩, ⟨b12, le16 b13 b14⟩, b15⟩
  | _ => none

def RangesW.bytes (w : RangesW) : List Byte :=
  w.r0.bytes ++ w.r1.bytes ++ w.r2.bytes ++ w.r3.bytes ++ w.r4.bytes ++ w.r5.bytes ++ w.r6.bytes ++ w.r7.bytes

def RangesW.ofBytes : List Byte → Option RangesW
  | b0 :: b1 :: b2 :: b3 :: b4 :: b5 :: b6 :: b7 :: b8 :: b9 :: b10 :: b11 :: b12 :: b13 :: b14 :: b15 :: b16 ::
      b17 :: b18 :: b19 :: b20 :: b21 :: b22 :: b23 :: b24 :: b25 :: b26 :: b27 :: b28 :: b29 :: b30 :: b31 ::
      b32 :: b33 :: b34 :: b35 :: b36 :: b37 :: b38 :: b39 :: [] =>
    some ⟨⟨le16 b0 b1, le16 b2 b3, b4⟩, ⟨le16 b5 b6, le16 b7 b8, b9⟩, ⟨le16 b10 b11, le16 b12 b13, b14⟩,
      ⟨le16 b15 b16, le16 b17 b18, b19⟩, ⟨le16 b20 b21, le16 b22 b23, b24⟩, ⟨le16 b25 b26, le16 b27 b28, b29⟩,
      ⟨le16 b30 b31, le16 b32 b33, b34⟩, ⟨le16 b35 b36, le16 b37 b38, b39⟩⟩
  | _ => none

/-- The request a body spells for its kind; none when its length is not what the kind's fields require (R170). -/
def decodeBody (k : Kind) (tag : Byte) (body : List Byte) : Option Instr :=
  match k with
  | .getStatus =>
    match body with
    | [] => some (.getStatus tag)
    | _ => none
  | .getSense =>
    match body with
    | [first, count] => some (.getSense tag first count)
    | _ => none
  | .getPsu =>
    match body with
    | [first, count] => some (.getPsu tag first count)
    | _ => none
  | .getBbu =>
    match body with
    | [first, count] => some (.getBbu tag first count)
    | _ => none
  | .getReserve =>
    match body with
    | [] => some (.getReserve tag)
    | _ => none
  | .getTargets =>
    match body with
    | [first, count] => some (.getTargets tag first count)
    | _ => none
  | .getRanges =>
    match body with
    | [] => some (.getRanges tag)
    | _ => none
  | .getSlots =>
    match body with
    | [first, count] => some (.getSlots tag first count)
    | _ => none
  | .getQueue =>
    match body with
    | [] => some (.getQueue tag)
    | _ => none
  | .getZones =>
    match body with
    | [first, count] => some (.getZones tag first count)
    | _ => none
  | .getCauses =>
    match body with
    | [first, count] => some (.getCauses tag first count)
    | _ => none
  | .getTransferRecord =>
    match body with
    | [] => some (.getTransferRecord tag)
    | _ => none
  | .getTest =>
    match body with
    | [] => some (.getTest tag)
    | _ => none
  | .getProfileInfo =>
    match body with
    | [] => some (.getProfileInfo tag)
    | _ => none
  | .setLimit =>
    match body with
    | point :: rest => (LimitW.ofBytes rest).map (.setLimit tag point)
    | _ => none
  | .setBudget => (BudgetW.ofBytes body).map (.setBudget tag)
  | .setChargeParams =>
    match body with
    | bbu :: rest => (ChargeW.ofBytes rest).map (.setChargeParams tag bbu)
    | _ => none
  | .setTargets =>
    match body with
    | mode :: rest => (decodeTargets rest).map (.setTargets tag mode)
    | _ => none
  | .setRanges => (RangesW.ofBytes body).map (.setRanges tag)
  | .setHoldup => (HoldupW.ofBytes body).map (.setHoldup tag)
  | .setRecharge => (RechargeW.ofBytes body).map (.setRecharge tag)
  | .setSlot =>
    match body with
    | slot :: rest => (SlotW.ofBytes rest).map (.setSlot tag slot)
    | _ => none
  | .setSequence => (SequenceW.ofBytes body).map (.setSequence tag)
  | .setZone =>
    match body with
    | zone :: rest => (ZoneW.ofBytes rest).map (.setZone tag zone)
    | _ => none
  | .setLine =>
    match body with
    | [mode, s0, s1] => some (.setLine tag mode (le16 s0 s1))
    | _ => none
  | .setMasks =>
    match body with
    | alert :: rest => (decodeMasks rest).map (.setMasks tag alert)
    | _ => none
  | .armTargets =>
    match body with
    | [] => some (.armTargets tag)
    | _ => none
  | .powerUp => some (.powerUp tag body)
  | .powerDown =>
    match body with
    | urgency :: slots => some (.powerDown tag urgency slots)
    | _ => none
  | .releaseSlot =>
    match body with
    | [slot, requeue] => some (.releaseSlot tag slot requeue)
    | _ => none
  | .clearZone =>
    match body with
    | [zone, requeue] => some (.clearZone tag zone requeue)
    | _ => none
  | .clearLatch =>
    match body with
    | [point] => some (.clearLatch tag point)
    | _ => none
  | .clearCause => some (.clearCause tag body)
  | .holdAll =>
    match body with
    | [] => some (.holdAll tag)
    | _ => none
  | .releaseAll =>
    match body with
    | [] => some (.releaseAll tag)
    | _ => none
  | .setCharge =>
    match body with
    | [bbu, v0, v1, v2, v3] => some (.setCharge tag bbu (le32 v0 v1 v2 v3))
    | _ => none
  | .startTest =>
    match body with
    | [bbu] => some (.startTest tag bbu)
    | _ => none
  | .abortTest =>
    match body with
    | [] => some (.abortTest tag)
    | _ => none
  | .clearTransferRecord =>
    match body with
    | [] => some (.clearTransferRecord tag)
    | _ => none
  | .storeProfile =>
    match body with
    | [] => some (.storeProfile tag)
    | _ => none
  | .lockProfile =>
    match body with
    | [profileSection] => some (.lockProfile tag profileSection)
    | _ => none

/-- Why a frame spells no request (R169, first two checks). -/
inductive FrameError where
  | unknownKind | badLength
  deriving DecidableEq, Repr

/-- The request a good frame spells, or the check it fails first (R169). -/
def decodeFrame (f : Frame) : Except FrameError Instr :=
  match Kind.ofByte f.kind with
  | none => .error .unknownKind
  | some k =>
    match decodeBody k f.tag f.body with
    | some i => .ok i
    | none => .error .badLength

/-- The frame of a request; none for an event. UNKNOWN_KIND is a frame with that KIND and an empty body. -/
def encodeRequest (i : Instr) : Option Frame :=
  match i with
  | .unknownKind tag kind => some ⟨kind, tag, []⟩
  | .getStatus tag => some ⟨Kind.getStatus.code, tag, []⟩
  | .getSense tag first count => some ⟨Kind.getSense.code, tag, [first, count]⟩
  | .getPsu tag first count => some ⟨Kind.getPsu.code, tag, [first, count]⟩
  | .getBbu tag first count => some ⟨Kind.getBbu.code, tag, [first, count]⟩
  | .getReserve tag => some ⟨Kind.getReserve.code, tag, []⟩
  | .getTargets tag first count => some ⟨Kind.getTargets.code, tag, [first, count]⟩
  | .getRanges tag => some ⟨Kind.getRanges.code, tag, []⟩
  | .getSlots tag first count => some ⟨Kind.getSlots.code, tag, [first, count]⟩
  | .getQueue tag => some ⟨Kind.getQueue.code, tag, []⟩
  | .getZones tag first count => some ⟨Kind.getZones.code, tag, [first, count]⟩
  | .getCauses tag first count => some ⟨Kind.getCauses.code, tag, [first, count]⟩
  | .getTransferRecord tag => some ⟨Kind.getTransferRecord.code, tag, []⟩
  | .getTest tag => some ⟨Kind.getTest.code, tag, []⟩
  | .getProfileInfo tag => some ⟨Kind.getProfileInfo.code, tag, []⟩
  | .setLimit tag point w => some ⟨Kind.setLimit.code, tag, point :: w.bytes⟩
  | .setBudget tag w => some ⟨Kind.setBudget.code, tag, w.bytes⟩
  | .setChargeParams tag bbu w => some ⟨Kind.setChargeParams.code, tag, bbu :: w.bytes⟩
  | .setTargets tag mode entries => some ⟨Kind.setTargets.code, tag, mode :: entries.flatMap TargetW.bytes⟩
  | .setRanges tag w => some ⟨Kind.setRanges.code, tag, w.bytes⟩
  | .setHoldup tag w => some ⟨Kind.setHoldup.code, tag, w.bytes⟩
  | .setRecharge tag w => some ⟨Kind.setRecharge.code, tag, w.bytes⟩
  | .setSlot tag slot w => some ⟨Kind.setSlot.code, tag, slot :: w.bytes⟩
  | .setSequence tag w => some ⟨Kind.setSequence.code, tag, w.bytes⟩
  | .setZone tag zone w => some ⟨Kind.setZone.code, tag, zone :: w.bytes⟩
  | .setLine tag mode survey => some ⟨Kind.setLine.code, tag, mode :: bytes16 survey⟩
  | .setMasks tag alert entries => some ⟨Kind.setMasks.code, tag, alert :: entries.flatMap MaskW.bytes⟩
  | .armTargets tag => some ⟨Kind.armTargets.code, tag, []⟩
  | .powerUp tag items => some ⟨Kind.powerUp.code, tag, items⟩
  | .powerDown tag urgency slots => some ⟨Kind.powerDown.code, tag, urgency :: slots⟩
  | .releaseSlot tag slot requeue => some ⟨Kind.releaseSlot.code, tag, [slot, requeue]⟩
  | .clearZone tag zone requeue => some ⟨Kind.clearZone.code, tag, [zone, requeue]⟩
  | .clearLatch tag point => some ⟨Kind.clearLatch.code, tag, [point]⟩
  | .clearCause tag items => some ⟨Kind.clearCause.code, tag, items⟩
  | .holdAll tag => some ⟨Kind.holdAll.code, tag, []⟩
  | .releaseAll tag => some ⟨Kind.releaseAll.code, tag, []⟩
  | .setCharge tag bbu value => some ⟨Kind.setCharge.code, tag, bbu :: bytes32 value⟩
  | .startTest tag bbu => some ⟨Kind.startTest.code, tag, [bbu]⟩
  | .abortTest tag => some ⟨Kind.abortTest.code, tag, []⟩
  | .clearTransferRecord tag => some ⟨Kind.clearTransferRecord.code, tag, []⟩
  | .storeProfile tag => some ⟨Kind.storeProfile.code, tag, []⟩
  | .lockProfile tag profileSection => some ⟨Kind.lockProfile.code, tag, [profileSection]⟩
  | .powerOn _ => none
  | .pinResetAssert => none
  | .pinResetRelease _ => none
  | .profileLoadComplete => none
  | .sampleSet _ => none
  | .psuInputChange _ _ _ => none
  | .headroomPublication => none
  | .deficitTimerExpiry => none
  | .deficitSelection => none
  | .deficitAnswer => none
  | .bbuPresentChange _ _ => none
  | .bbuFaultInputChange _ _ => none
  | .reservePublication => none
  | .testTimerExpiry => none
  | .settleTimerExpiry => none
  | .bridgingTimerExpiry => none
  | .collapseTimerExpiry => none
  | .stepTimerExpiry => none
  | .floorTimerExpiry => none
  | .headReport => none
  | .staggerTimerExpiry => none
  | .soakTimerExpiry _ => none
  | .pgChange _ _ => none
  | .noticeWindowExpiry _ => none
  | .holdLimitExpiry _ => none
  | .drainTimerExpiry _ => none
  | .cycleStart _ => none
  | .surveyTimerExpiry => none
  | .cycleEnd _ => none
  | .frameReceived _ => none
  | .rxGapTimeout => none
  | .txFrameEnd => none
  | .storeWriteComplete _ => none
  | .slotFrame23End => none
  | .frameAbandoned => none

/-- opcode_table.json gives no row any bits: no word spells a command. -/
def decodeTableWord (_nbits _w : Nat) : Option Instr := none

end Sys2Proof
end

