-- ==== Sys2Proof/Machine/Records.lean ====
section
/-! DEFINITION. The runtime records of the twelve blocks (00_scope.md, section 2): every piece of state a chapter names, with
its value after power-on beside it. Timers hold the milliseconds left, none when stopped (log 3). -/

namespace Sys2Proof.Machine

/-- A timer: milliseconds left, none when stopped (log 3). -/
abbrev Timer := Option Nat

/-! ### Pins -/

/-- The digital inputs of one PSU position (00_scope.md, section 4). -/
structure PsuPins where
  present : Bool
  acOk : Bool
  dcOk : Bool
  deriving DecidableEq, Repr

/-- The digital inputs of one BBU position. -/
structure BbuPins where
  present : Bool
  fault : Bool
  deriving DecidableEq, Repr

/-- The levels at the part's digital input pins, whether or not the part has seen them yet. -/
structure Pins where
  psu : Vector PsuPins 6
  bbu : Vector BbuPins 4
  pg : Vector Bool 24
  deriving DecidableEq, Repr

/-- Nothing fitted, every input low (log 2). -/
def Pins.allLow : Pins :=
  ⟨Vector.replicate 6 ⟨false, false, false⟩, Vector.replicate 4 ⟨false, false⟩, Vector.replicate 24 false⟩

/-! ### Sense scanner (01) -/

/-- Point record, less its settings (01, section 1.1). -/
structure Point where
  raw : Option (BitVec 12)
  value : Int
  stale : Bool
  alarm : Bool
  deriving DecidableEq, Repr

/-- R16. -/
def Point.init : Point := ⟨none, 0, true, false⟩

/-- The scanner: the point records, the load window, I_avg, the last published set and its number. `seen` says that a set
has been published since the reset. Before it R16 gives "no set published" for the number and `setNo` is 0, which is what
GET_SENSE then carries (DESIGN CHOICE, log 33). -/
structure Sense where
  points : Vector Point 29
  window : List Nat
  iAvg : Nat
  pub : Vector Point 29
  setNo : Nat
  seen : Bool
  deriving DecidableEq, Repr

/-- R16. -/
def Sense.init : Sense :=
  ⟨Vector.replicate 29 Point.init, [], 0, Vector.replicate 29 Point.init, 0, false⟩

/-! ### Budget unit (02) -/

/-- PSU states (codes R172). -/
inductive PsuState where
  | absent | noAc | fault | good
  deriving DecidableEq, Repr

/-- PSU record: state and input levels as last seen (02, section 2.1). -/
structure Psu where
  state : PsuState
  present : Bool
  acOk : Bool
  dcOk : Bool
  deriving DecidableEq, Repr

/-- Deficit states (02, section 2.5). -/
inductive DeficitState where
  | idle | grace | selecting | covered
  deriving DecidableEq, Repr

/-- The budget unit. `pubs` are the pairs published and not yet taken by the consumers, `selAsked` the selections asked and
not yet made, `answers` the selection answers not yet taken (log 4). The oldest `stale` of the selections and answers
outstanding belong to an ONLINE that has been left since, and their answers move no deficit state (R33, log 48). -/
structure Budget where
  psus : Vector Psu 6
  nGood : Nat
  cRaw : Nat
  f : Nat
  cap : Nat
  sigma : Nat
  pChg : Nat
  h : Int
  hp : Int
  deficit : DeficitState
  timer : Timer
  pubs : List (Int × Int)
  selAsked : Nat
  answers : List (Int × Nat)
  stale : Nat
  deriving DecidableEq, Repr

/-- R34; the input levels are those read at the end of the reset. R34 gives no f: it is 256 until the first recompute, whatever
table was loaded (DESIGN CHOICE, log 34). -/
def Budget.init (pins : Pins) : Budget where
  psus := Vector.ofFn fun k => ⟨.absent, pins.psu[k].present, pins.psu[k].acOk, pins.psu[k].dcOk⟩
  nGood := 0
  cRaw := 0
  f := 256
  cap := 0
  sigma := 0
  pChg := 0
  h := 0
  hp := 0
  deficit := .idle
  timer := none
  pubs := []
  selAsked := 0
  answers := []
  stale := 0

/-! ### Charge accounting unit (03) -/

/-- BBU states (codes R172). -/
inductive BbuState where
  | absent | fault | standby | charging | discharging | testing | depleted
  deriving DecidableEq, Repr

/-- The three outputs of a BBU (R41): DIS_EN, CHG_EN and the setpoint, positive in charge sense and negative in discharge
sense. -/
structure BbuOut where
  disEn : Bool
  chgEn : Bool
  setpoint : Int
  deriving DecidableEq, Repr

/-- BBU record, less its settings (03, section 3.1). `critInForce` and `detectInForce` are T_crit and the discharge-detect
current as the last sample set found them: new ones apply from the next sample set (R36). -/
structure Bbu where
  state : BbuState
  q : Nat
  r : Nat
  calibrated : Bool
  bottomed : Bool
  full : Bool
  taper : Nat
  health : Option Nat
  present : Bool
  faultIn : Bool
  critInForce : Int
  detectInForce : Nat
  out : BbuOut
  deriving DecidableEq, Repr

/-- Test results (codes R172). -/
inductive TestResult where
  | none | complete | abortedAc | abortedManager | abortedTime | abortedFault
  deriving DecidableEq, Repr

/-- Capacity test record (03, section 3.8) with the test timer and the test current it started with. -/
structure TestRecord where
  running : Bool
  bbu : Option BbuId
  start : Nat
  d : Nat
  residue : Nat
  elapsed : Nat
  limit : Nat
  current : Nat
  result : TestResult
  timer : Timer
  deriving DecidableEq, Repr

/-- R58: an empty test record. -/
def TestRecord.empty : TestRecord := ⟨false, none, 0, 0, 0, 0, 0, 0, .none, none⟩

/-- One reserve publication (R47, R70): R, T_est, the band set, the gated-range inhibit, the number of counted BBUs, and
whether it was made on or after the first sample set since the reset (R73). -/
structure ReservePub where
  r : Nat
  tEst : Nat
  band : Vector Bool 8
  inhibit : Bool
  counted : Nat
  afterSet : Bool
  deriving DecidableEq, Repr

/-- The charge accounting unit. `pubs` are the publications made and not yet taken (log 4). -/
structure Charge where
  bbus : Vector Bbu 4
  r : Nat
  tEst : Nat
  band : Vector Bool 8
  p : Nat
  armed : Bool
  halted : Bool
  test : TestRecord
  pubs : List ReservePub
  deriving DecidableEq, Repr

/-- R58, after power-on: Q is Qfloor and the flags are clear. -/
def Bbu.powerOn (set : BbuSettings) (pins : BbuPins) : Bbu where
  state := .absent
  q := set.qFloor
  r := 0
  calibrated := false
  bottomed := false
  full := false
  taper := 0
  health := none
  present := pins.present
  faultIn := pins.fault
  critInForce := set.tCrit
  detectInForce := set.detect
  out := ⟨false, false, 0⟩

/-- R58, after a pin reset with reloaded settings: Q, r, the flags, the health and the latched DIS_EN (R41) are kept. -/
def Bbu.pinReset (old : Bbu) (set : BbuSettings) (pins : BbuPins) : Bbu :=
  { old with
    state := .absent
    taper := 0
    present := pins.present
    faultIn := pins.fault
    critInForce := set.tCrit
    detectInForce := set.detect
    out := ⟨old.out.disEn, false, 0⟩ }

/-- R58. -/
def Charge.init (bbus : Vector Bbu 4) (test : TestRecord) : Charge :=
  ⟨bbus, 0, 65535, Vector.replicate 8 false, 0, false, false, test, []⟩

/-! ### Holdup controller (04) -/

/-- Holdup states (codes R172). -/
inductive HoldupState where
  | starting | online | bridging | returning | blackout
  deriving DecidableEq, Repr

/-- AC on the last evaluation (R60). -/
inductive AcEval where
  | neither | good | failed
  deriving DecidableEq, Repr

/-- Trigger of an event (R62). -/
inductive Trigger where
  | acCount | busSag
  deriving DecidableEq, Repr

/-- End reason of a transfer record (R77). -/
inductive EndReason where
  | acReturn | blackout | reset
  deriving DecidableEq, Repr

/-- The transfer record (04, section 4.6); a field that is cleared is 0, none or empty. -/
structure Transfer where
  valid : Bool
  isOpen : Bool
  seqNo : Nat
  start : Nat
  trigger : Option Trigger
  rStart : Nat
  tEstStart : Nat
  minBusV : Nat
  flickers : Nat
  matched : List Nat
  duration : Nat
  rEnd : Nat
  endReason : Option EndReason
  since : Nat
  deriving DecidableEq, Repr

/-- An empty record (R78, R79). -/
def Transfer.empty : Transfer := ⟨false, false, 0, 0, none, 0, 0, 0, 0, [], 0, 0, none, 0⟩

/-- What the first sample set after a reset showed under the settings of that set, on which the start decision is taken (R61,
R73): the evaluation of AC, the trigger an event would have, and whether BUS_V was at or above V_collapse. -/
structure FirstSet where
  acEval : AcEval
  trigger : Trigger
  busHeld : Bool
  deriving DecidableEq, Repr

/-- The holdup controller, with R, T_est and the counted BBUs of the last reserve publication taken. `first` is the model's
note of the first sample set, held until the start decision (R73). -/
structure Holdup where
  state : HoldupState
  settle : Timer
  bridging : Timer
  collapse : Timer
  eventOpen : Bool
  events : Nat
  acCount : Nat
  acEval : AcEval
  lastR : Nat
  lastTEst : Nat
  lastCounted : Nat
  first : Option FirstSet
  record : Transfer
  deriving DecidableEq, Repr

/-- R79; the event counter and the record are what the reset keeps. The copy of the last reserve publication, for which R79 gives
no value, is that of a reserve after a reset (DESIGN CHOICE, log 60). -/
def Holdup.init (events : Nat) (record : Transfer) : Holdup :=
  ⟨.starting, none, none, none, false, events, 0, .neither, 0, 65535, 0, none, record⟩

/-! ### Recharge regulator (05) -/

/-- Regulator states a query can find; START is entered and left in one event (05, section 5.1). -/
inductive RegState where
  | off | cruise | floor | paused | thermalHold
  deriving DecidableEq, Repr

/-- The recharge regulator with its last-received copies (05, introduction). `lastHead` is the need of a head blocked by
headroom alone, none for "no head blocked by headroom alone". `sourceInForce` and `tChgLimInForce` are the temperature source
and T_chg_lim as the last sample set found them: new ones apply from the next sample set (R82). -/
structure Recharge where
  state : RegState
  iSet : Nat
  members : Vector Bool 4
  shares : Vector Nat 4
  step : Timer
  floorTimer : Timer
  yielded : Bool
  lastH : Int
  lastBand : Vector Bool 8
  lastInhibit : Bool
  lastHoldup : HoldupState
  lastHead : Option Nat
  sourceInForce : TempSource
  tChgLimInForce : Int
  deriving DecidableEq, Repr

/-- R93, with the settings as loaded. -/
def Recharge.init (set : RechargeSettings) : Recharge :=
  ⟨.off, 0, Vector.replicate 4 false, Vector.replicate 4 0, none, none, false, 0, Vector.replicate 8 false, false,
    .starting, none, set.source, set.tChgLim⟩

/-! ### Sequencer and shed controller (06, 07) -/

/-- Slot states (codes R172). -/
inductive SlotState where
  | off | queued | soak | on | notice | held | draining | faulted | locked
  deriving DecidableEq, Repr

/-- Shed reasons (codes R172). -/
inductive ShedReason where
  | none | manager | reserve | deficit | leak | blackout | limit | fault | reset
  deriving DecidableEq, Repr

/-- Slot record, less its settings: the runtime fields of section 6.1, the shed fields and timers of chapter 7, and the EN
output. `adoptedOff` is the model's own mark of a slot adopted OFF and still in OFF (R108). -/
structure Slot where
  state : SlotState
  reason : ShedReason
  urgency : Urgency
  restore : Bool
  soak : Timer
  notice : Bool
  window : Timer
  hold : Timer
  drain : Timer
  pg : Bool
  en : Bool
  adoptedOff : Bool
  deriving DecidableEq, Repr

/-- R110, R127, after power-on; PG is the level read. -/
def Slot.powerOn (pg : Bool) : Slot :=
  ⟨.off, .none, .none, false, none, false, none, none, none, pg, false, false⟩

/-- The sequencer: slot records, queue, stagger timer, target inhibit, last-received copies, last head report and the reports
sent and not yet taken (log 4). `onlineSeen` says that ONLINE has been entered since the reset (R108); `headSeen` is the head
and its need at the last event of R101, none for an empty queue (R96). -/
structure Sequencer where
  slots : Vector Slot 24
  queue : List SlotId
  stagger : Timer
  targetInhibit : Bool
  lastH : Int
  lastHoldup : HoldupState
  lastInhibit : Bool
  lastReport : Option Nat
  reports : List (Option Nat)
  onlineSeen : Bool
  headSeen : Option (SlotId × Nat)
  deriving DecidableEq, Repr

/-- R110. -/
def Sequencer.init (slots : Vector Slot 24) : Sequencer :=
  ⟨slots, [], none, false, 0, .starting, false, none, [], false, none⟩

/-- The shed controller's last-received headroom pair (R26, R126); its fields and timers stand in the slot record. -/
structure Shed where
  lastH : Int
  lastHp : Int
  deriving DecidableEq, Repr

/-- R127 gives the pair no reset value: 0 and 0 (DESIGN CHOICE, log 60). -/
def Shed.init : Shed := ⟨0, 0⟩

/-! ### Status line controller (08) -/

/-- Line state (codes R172). -/
inductive LineState where
  | ok | failed
  deriving DecidableEq, Repr

/-- Line mode (codes R172). -/
inductive LineMode where
  | continuous | quiet
  deriving DecidableEq, Repr

/-- Phase of a slot frame (R130). -/
inductive LinePhase where
  | n | x | a | b | r | t
  deriving DecidableEq, Repr

/-- The place of a phase in its slot frame, in clock periods (R130). -/
def LinePhase.offset : LinePhase → Nat
  | .n => 0
  | .x => 1
  | .a => 2
  | .b => 3
  | .r => 4
  | .t => 5

/-- Length of the stop frame that announces a mode (R130, R134). -/
def LineMode.stopLength : LineMode → Nat
  | .continuous => 3
  | .quiet => 2

/-- What holds SSL_DAT in one clock period, as far as the part tells it (R130): the part drives it low, the tray that starts a
cycle does, or the part releases it. -/
inductive LineClock where
  | partLow | trayLow | released
  deriving DecidableEq, Repr

/-- Cycle state (08, introduction): idle, the gap of CONTINUOUS mode included; a clock period of the start frame, with who began
it (R135); a phase of a slot frame; a stop frame of so many clock periods. A command's end never falls inside a start frame (log
16). -/
inductive CycleState where
  | idle
  | startFrame (byTray : Bool) (clock : Fin 4)
  | slotFrame (n : SlotId) (phase : LinePhase)
  | stopFrame (clocks : Nat)
  deriving DecidableEq, Repr

/-- The status line controller. `latched` keeps the copy of the last cycle until the next cycle latches its own (DESIGN CHOICE,
log 42). `startDue` records a start event of R135 that the part has not driven yet. `wave` is SSL_DAT clock by clock since the
cycle in progress began, or over the whole of the last cycle and its gap on an idle line (log 16). -/
structure Line where
  enabled : Bool
  state : LineState
  mode : LineMode
  cycle : CycleState
  startDue : Bool
  latched : BitVec 24
  attention : BitVec 24
  hold : BitVec 24
  leak : BitVec 8
  leakHeld : Bool
  faultRun : Nat
  cleanRun : Nat
  faults : Nat
  cycleNo : Nat
  survey : Timer
  wave : List LineClock
  deriving DecidableEq, Repr

/-- R141, which gives the "held" flag of the leak-report vector no value: it is clear (DESIGN CHOICE, log 43). -/
def Line.init (enabled : Bool) : Line :=
  ⟨enabled, .ok, .continuous, .idle, false, 0, 0, 0, 0, false, 0, 0, 0, 0, none, []⟩

/-! ### Leak monitor (09) -/

/-- Zone states (codes R172). -/
inductive ZoneState where
  | dry | suspect | wet | fault
  deriving DecidableEq, Repr

/-- Rope classes (codes R172). -/
inductive RopeClass where
  | none | short | wet | dry | open
  deriving DecidableEq, Repr

/-- Confirmation of a WET entry (codes R172). -/
inductive Confirmation where
  | none | rope | tray | both
  deriving DecidableEq, Repr

/-- Zone record, less its settings (09, section 9.1). `awaitSet` and `awaitCycle` say, of a zone kept SUSPECT by a pin reset,
which of the two events has not yet reached it (R150, R154). -/
structure Zone where
  state : ZoneState
  cls : RopeClass
  code : Option (BitVec 12)
  ropeFault : Bool
  ropeCount : Nat
  trayCount : Nat
  report : Bool
  reportHeld : Bool
  confirmation : Confirmation
  valve : Bool
  awaitSet : Bool
  awaitCycle : Bool
  deriving DecidableEq, Repr

/-- R154, after power-on. It gives the held flag of the tray report no value: it is clear, here and after a pin reset (DESIGN
CHOICE, log 54). -/
def Zone.powerOn : Zone :=
  ⟨.dry, .none, none, false, 0, 0, false, false, .none, false, false, false⟩

/-- R154, after a pin reset. -/
def Zone.pinReset (old : Zone) : Zone :=
  { Zone.powerOn with
    state := old.state
    ropeFault := old.ropeFault
    confirmation := old.confirmation
    valve := old.valve
    awaitSet := old.state == .suspect
    awaitCycle := old.state == .suspect }

/-- The leak monitor's eight zone records. -/
structure Leak where
  zones : Vector Zone 8
  deriving DecidableEq, Repr

/-! ### Cause controller (10) -/

/-- Cause record, less mask and alert-enable, which are settings (10, section 10.1). -/
structure Cause where
  condition : Bool
  pending : Bool
  count : Nat
  value : BitVec 32
  code : Byte
  deriving DecidableEq, Repr

/-- R163. -/
def Cause.init (condition : Bool) : Cause := ⟨condition, false, 0, 0, 0⟩

/-- The cause controller. -/
structure Causes where
  recs : Vector Cause 137
  outbox : List CauseId
  hold : Bool
  alert : Bool
  deriving DecidableEq, Repr

/-- A NOTICE as begun (R161; body R173). -/
structure Notice where
  cause : CauseId
  count : Nat
  condition : Bool
  code : Byte
  value : BitVec 32
  deriving DecidableEq, Repr

/-! ### Profile store (12) -/

/-- Result of the last store (R179). -/
inductive StoreResult where
  | none | ok | verifyFailed
  deriving DecidableEq, Repr

/-- A write in flight: the snapshot and the milliseconds since acceptance (R175, R179). -/
structure Writing where
  snapshot : Settings
  elapsed : Nat
  deriving DecidableEq, Repr

/-- The nonvolatile memory: the stored profile, whether its check passes and the CRC-32 held (R174, R179). -/
structure Nvm where
  profile : Settings
  valid : Bool
  crc : BitVec 32
  deriving DecidableEq, Repr

/-- A profile that was never written (R174). -/
def Nvm.blank : Nvm := ⟨defaultSettings, false, 0⟩

/-- Source of the working settings (R174). -/
inductive Source where
  | stored | defaults
  deriving DecidableEq, Repr

/-- The profile store. The store state is WRITING exactly when `writing` is not none. -/
structure Store where
  nvm : Nvm
  writing : Option Writing
  lockSafety : Bool
  lockOrder : Bool
  lockGeneral : Bool
  source : Source
  unstored : Bool
  lastResult : StoreResult
  count : Nat
  deriving DecidableEq, Repr

/-- The store right after a load that took `source` (R174, R179). -/
def Store.init (nvm : Nvm) (source : Source) : Store :=
  ⟨nvm, none, false, false, false, source, false, .none, 0⟩

/-! ### Life of the part (R178) -/

/-- Where the part is in its start-up. `cold` marks that no load has completed since power-on, so that no BBU has a Qfull, a
Qfloor or a counter yet that a pin reset could keep (log 17). -/
inductive Phase where
  | inReset (cold : Bool)
  | loading (cold : Bool)
  | running
  deriving DecidableEq, Repr

/-- The kind of the last reset (00_scope.md, section 6.6). -/
inductive ResetKind where
  | powerOn | pin
  deriving DecidableEq, Repr

end Sys2Proof.Machine
end

