-- ==== Sys2Proof/Machine/Replies.lean ====
section
/-! DEFINITION. What the part sends on TXD: the reply fields of every request kind (11, section 11.5, as the cited rule of each
kind gives them), REFUSED and NOTICE. Machine/Wire.lean gives their frames and bytes. -/

namespace Sys2Proof.Machine

/-- Refusal codes (R169; numbered in this order from 1, R172). -/
inductive RefusalCode where
  | busy | unknownKind | badLength | outOfRange | wrongState | locked | storeBusy
  deriving DecidableEq, Repr

/-- Per-slot results of POWER_UP and POWER_DOWN (codes R172). -/
inductive SlotResult where
  | queued | noChange | withdrawn | refusedWrongState | notice | draining | off | held
  deriving DecidableEq, Repr

/-- One entry of a POWER_UP or POWER_DOWN ACK: slot, result and state after the request (R172). -/
structure SlotOutcome where
  slot : SlotId
  result : SlotResult
  state : SlotState
  deriving DecidableEq, Repr

/-- One point of GET_SENSE (R17): record, and settings for an analog point. -/
structure SenseReport where
  point : PointId
  raw : Option (BitVec 12)
  value : Int
  stale : Bool
  alarm : Option Bool
  settings : Option PointSettings
  deriving DecidableEq, Repr

/-- One PSU of GET_PSU (R35); all fields but the state are zero when the PSU is absent. -/
structure PsuReport where
  psu : PsuId
  present : Bool
  state : PsuState
  acOk : Bool
  dcOk : Bool
  current : Int
  stale : Bool
  alarm : Bool
  deriving DecidableEq, Repr

/-- Budget summary of GET_PSU (R35). -/
structure BudgetSummary where
  nGood : Nat
  cRaw : Nat
  f : Nat
  cap : Nat
  sigma : Nat
  pChg : Nat
  h : Int
  hp : Int
  deficit : DeficitState
  timer : Nat
  deriving DecidableEq, Repr

/-- One BBU of GET_BBU (R59); Q, r and the flags are zero when the BBU is absent. -/
structure BbuReport where
  bbu : BbuId
  present : Bool
  state : BbuState
  q : Nat
  r : Nat
  calibrated : Bool
  bottomed : Bool
  full : Bool
  taper : Nat
  health : Option Nat
  settings : BbuSettings
  deriving DecidableEq, Repr

/-- GET_TEST (R59). -/
structure TestReport where
  bbu : Option BbuId
  start : Nat
  d : Nat
  elapsed : Nat
  limit : Nat
  running : Bool
  result : TestResult
  deriving DecidableEq, Repr

/-- GET_QUEUE (R111). -/
structure QueueReport where
  queue : List (SlotId × Nat)
  holdup : HoldupState
  stagger : Nat
  targetInhibit : Bool
  gatedInhibit : Bool
  soakCount : Nat
  maxSoak : Nat
  h : Int
  headNeed : Option Nat
  lastReport : Option Nat
  deriving DecidableEq, Repr

/-- One zone of GET_ZONES (R155). -/
structure ZoneReport where
  zone : ZoneId
  settings : ZoneSettings
  state : ZoneState
  confirmation : Confirmation
  code : Option (BitVec 12)
  cls : RopeClass
  ropeFault : Bool
  ropeCount : Nat
  trayCount : Nat
  report : Bool
  reportHeld : Bool
  valve : Bool
  slots : List (SlotId × SlotState)
  deriving DecidableEq, Repr

/-- One cause of GET_CAUSES (R164); `assigned` is false for 29 to 31. -/
structure CauseReport where
  cause : CauseId
  assigned : Bool
  condition : Bool
  pending : Bool
  count : Nat
  value : BitVec 32
  code : Byte
  mask : Bool
  alertEnable : Bool
  queued : Bool
  deriving DecidableEq, Repr

/-- Summary of GET_CAUSES (R164). -/
structure CauseSummary where
  outboxLength : Nat
  head : Option CauseId
  hold : Bool
  globalAlert : Bool
  alert : Bool
  deriving DecidableEq, Repr

/-- GET_STATUS (R79, R93, R142, R162, R179). -/
structure StatusReport where
  holdup : HoldupState
  acCount : Nat
  acEval : AcEval
  eventOpen : Bool
  events : Nat
  settle : Nat
  bridging : Nat
  collapse : Nat
  regulator : RegState
  iSet : Nat
  members : Vector Bool 4
  shares : Vector Nat 4
  yielded : Bool
  sourceTemp : Int
  step : Nat
  floorTime : Nat
  line : LineState
  lineMode : LineMode
  cycleRunning : Bool
  cycleNo : Nat
  faultRun : Nat
  cleanRun : Nat
  faults : Nat
  notices : BitVec 24
  latched : BitVec 24
  attention : BitVec 24
  holds : BitVec 24
  leak : BitVec 8
  leakHeld : Bool
  survey : Nat
  lineSettings : LineSettings
  alert : Bool
  seconds : Nat
  writing : Bool
  unstored : Bool
  deriving DecidableEq, Repr

/-- GET_PROFILE_INFO (R179); `writingTime` is the time since acceptance in 10 ms units, in WRITING. -/
structure ProfileReport where
  source : Source
  checkPassed : Bool
  crc : BitVec 32
  unstored : Bool
  lockSafety : Bool
  lockOrder : Bool
  lockGeneral : Bool
  writingTime : Option Nat
  lastResult : StoreResult
  count : Nat
  deriving DecidableEq, Repr

/-- The reply fields of an ACK after the KIND, one constructor for each shape. -/
inductive Ack where
  | plain
  | status (r : StatusReport)
  | sense (first count : Nat) (points : List SenseReport) (iAvg setNo : Nat)
  | psus (first count : Nat) (psus : List PsuReport) (summary : BudgetSummary)
  | bbus (first count : Nat) (bbus : List BbuReport)
  | reserve (r tEst iAvg : Nat) (band : Vector Bool 8) (inhibit : Bool) (usable : List Nat)
  | targets (mode : ArmMode) (n p : Nat) (armed halted : Bool) (first count : Nat) (entries : List TargetEntry)
  | ranges (entries : Vector RangeEntry 8) (band : Vector Bool 8)
  | slots (body : List Byte)
  | queue (r : QueueReport)
  | zones (first count : Nat) (zones : List ZoneReport)
  | causes (first count : Nat) (causes : List CauseReport) (summary : CauseSummary)
  | transfer (r : Transfer)
  | test (r : TestReport)
  | profile (r : ProfileReport)
  | limit (settings : PointSettings) (alarm : Bool)
  | budget (settings : BudgetSettings) (cap : Nat) (h : Int)
  | chargeParams (settings : BbuSettings)
  | targetTable (settings : TargetSettings)
  | holdup (settings : HoldupSettings) (state : HoldupState)
  | recharge (settings : RechargeSettings) (state : RegState) (iSet : Nat)
  | slot (settings : SlotSettings) (state : SlotState)
  | sequence (settings : SequenceSettings)
  | zone (settings : ZoneSettings) (state : ZoneState)
  | line (settings : LineSettings) (state : LineState) (mode : LineMode)
  | masks (globalAlert : Bool) (entries : List (CauseId × MaskSettings))
  | slotList (entries : List SlotOutcome)
  | released (state : SlotState)
  | cleared (state : ZoneState) (requeued : List (SlotId × SlotState))
  | latch (mode : AlarmMode) (alarm : Bool)
  | conditions (entries : List (CauseId × Bool))
  | globalHold (hold : Bool)
  | charge (q : Nat)
  | locks (safety order general : Bool)
  deriving DecidableEq, Repr

/-- A reply frame: ACK with the request's KIND, or REFUSED with the code and the KIND (R168, R169). -/
inductive Reply where
  | ack (tag kind : Byte) (fields : Ack)
  | refused (tag : Byte) (code : RefusalCode) (kind : Byte)
  deriving DecidableEq, Repr

/-- BUSY replies arise only for a full queue; every other reply is an execution reply (R167, R168). -/
def Reply.isBusy : Reply → Bool
  | .refused _ .busy _ => true
  | _ => false

/-- The frame on TXD. -/
inductive Sending where
  | reply (r : Reply)
  | notice (n : Notice)
  deriving DecidableEq, Repr

/-! ### Link controller (11) -/

/-- Receiver states (R166); HEADER, BODY and CHECK carry the bytes taken since LEN, LEN first. -/
inductive RxState where
  | hunt
  | length
  | header (bytes : List Byte)
  | body (bytes : List Byte)
  | check (bytes : List Byte)
  deriving DecidableEq, Repr

/-- The link controller: the strap-selected rate, receiver, request queue, waiting replies and transmitter. -/
structure Link where
  straps : BitVec 2
  rx : RxState
  queue : List Frame
  replies : List Reply
  tx : Option Sending
  deriving DecidableEq, Repr

/-- R165: the link holds no state across a reset. -/
def Link.init (straps : BitVec 2) : Link := ⟨straps, .hunt, [], [], none⟩

end Sys2Proof.Machine
end

