-- ==== Sys2Proof/Machine/Operands.lean ====
section
/-! DEFINITION. What a request's fields come to (R170): flags, enumerated codes clamped to their largest, numbers clamped to
their ranges in the order each rule gives, identifiers in or out of range, and the count of a bulk read (R171). -/

namespace Sys2Proof.Machine

/-! ### Flags and codes (R170, R172) -/

/-- A flag is set by any value other than 0 (R170). -/
def takeFlag (b : Byte) : Bool := b != 0

def takeAlarmMode (b : Byte) : AlarmMode :=
  match b.toNat with | 0 => .off | 1 => .compare | 2 => .hysteresis | _ => .latch
def takeDirection (b : Byte) : Direction := match b.toNat with | 0 => .above | _ => .below
def takeUrgency (b : Byte) : Urgency :=
  match b.toNat with | 0 => .none | 1 => .orderly | 2 => .prompt | _ => .immediate
def takeTargetDirection (b : Byte) : TargetDirection := match b.toNat with | 0 => .falling | _ => .rising
def takeTargetAction (b : Byte) : TargetAction :=
  match b.toNat with | 0 => .noticeOnly | 1 => .shed | 2 => .inhibitPowerup | _ => .releasePowerup
def takeArmMode (b : Byte) : ArmMode := match b.toNat with | 0 => .manual | _ => .onBridge
def takeTempSource (b : Byte) : TempSource := match b.toNat with | 0 => .inlet | _ => .hottestBbu
def takeClass (b : Byte) : SlotClass := match b.toNat with | 0 => .critical | 1 => .essential | _ => .deferrable
def takeRole (b : Byte) : AttentionRole := match b.toNat with | 0 => .general | _ => .leak
def takePolicy (b : Byte) : Policy := match b.toNat with | 0 => .notify | 1 => .valve | _ => .valveAndShed
def takeLineSetting (b : Byte) : LineSetting := match b.toNat with | 0 => .adaptive | _ => .alwaysContinuous

/-- POWER_DOWN urgency: 0 is none given and taken as ORDERLY, IMMEDIATE and above are clamped to PROMPT (R125, R172). -/
def takePowerDownUrgency (b : Byte) : Urgency := match b.toNat with | 0 => .orderly | 1 => .orderly | _ => .prompt

/-! ### Codes sent (R172) -/

def SlotState.code : SlotState → Nat
  | .off => 0 | .queued => 1 | .soak => 2 | .on => 3 | .notice => 4 | .held => 5 | .draining => 6 | .faulted => 7 | .locked => 8
def ShedReason.code : ShedReason → Nat
  | .none => 0 | .manager => 1 | .reserve => 2 | .deficit => 3 | .leak => 4 | .blackout => 5 | .limit => 6 | .fault => 7
  | .reset => 8
def Urgency.code : Urgency → Nat | .none => 0 | .orderly => 1 | .prompt => 2 | .immediate => 3
def SlotClass.code : SlotClass → Nat | .critical => 0 | .essential => 1 | .deferrable => 2
def HoldupState.code : HoldupState → Nat
  | .starting => 0 | .online => 1 | .bridging => 2 | .returning => 3 | .blackout => 4
def BbuState.code : BbuState → Nat
  | .absent => 0 | .fault => 1 | .standby => 2 | .charging => 3 | .discharging => 4 | .testing => 5 | .depleted => 6
def PsuState.code : PsuState → Nat | .absent => 0 | .noAc => 1 | .fault => 2 | .good => 3
def RopeClass.code : RopeClass → Nat | .none => 0 | .short => 1 | .wet => 2 | .dry => 3 | .open => 4
def Confirmation.code : Confirmation → Nat | .none => 0 | .rope => 1 | .tray => 2 | .both => 3
def TestResult.code : TestResult → Nat
  | .none => 0 | .complete => 1 | .abortedAc => 2 | .abortedManager => 3 | .abortedTime => 4 | .abortedFault => 5
def RefusalCode.code : RefusalCode → Nat
  | .busy => 1 | .unknownKind => 2 | .badLength => 3 | .outOfRange => 4 | .wrongState => 5 | .locked => 6 | .storeBusy => 7

def ZoneState.code : ZoneState → Nat | .dry => 0 | .suspect => 1 | .wet => 2 | .fault => 3
def SlotResult.code : SlotResult → Nat
  | .queued => 0 | .noChange => 1 | .withdrawn => 2 | .refusedWrongState => 3 | .notice => 4 | .draining => 5 | .off => 6
  | .held => 7
def LineState.code : LineState → Nat | .ok => 0 | .failed => 1
def LineMode.code : LineMode → Nat | .continuous => 0 | .quiet => 1
def AlarmMode.code : AlarmMode → Nat | .off => 0 | .compare => 1 | .hysteresis => 2 | .latch => 3
def Direction.code : Direction → Nat | .above => 0 | .below => 1
def TargetDirection.code : TargetDirection → Nat | .falling => 0 | .rising => 1
def TargetAction.code : TargetAction → Nat
  | .noticeOnly => 0 | .shed => 1 | .inhibitPowerup => 2 | .releasePowerup => 3
def ArmMode.code : ArmMode → Nat | .manual => 0 | .onBridge => 1
def TempSource.code : TempSource → Nat | .inlet => 0 | .hottestBbu => 1
def AttentionRole.code : AttentionRole → Nat | .general => 0 | .leak => 1
def Policy.code : Policy → Nat | .notify => 0 | .valve => 1 | .valveAndShed => 2
def LineSetting.code : LineSetting → Nat | .adaptive => 0 | .alwaysContinuous => 1

/-- Store state: IDLE, WRITING (R172). -/
def storeStateCode (writing : Bool) : Nat := if writing then 1 else 0

/-! The enumerated fields of replies that the table of R172 does not list. Their codes are free (log 46); the first number names
the field, the second the value in the order its chapter gives. -/

def AcEval.code : AcEval → Byte
  | .good => Config.unlistedCode 0 0 | .failed => Config.unlistedCode 0 1 | .neither => Config.unlistedCode 0 2
def RegState.code : RegState → Byte
  | .off => Config.unlistedCode 1 0 | .cruise => Config.unlistedCode 1 1 | .floor => Config.unlistedCode 1 2
  | .paused => Config.unlistedCode 1 3 | .thermalHold => Config.unlistedCode 1 4
def DeficitState.code : DeficitState → Byte
  | .idle => Config.unlistedCode 2 0 | .grace => Config.unlistedCode 2 1 | .selecting => Config.unlistedCode 2 2
  | .covered => Config.unlistedCode 2 3
/-- The cleared field is a value of its own. -/
def triggerCode : Option Trigger → Byte
  | none => Config.unlistedCode 3 0 | some .acCount => Config.unlistedCode 3 1 | some .busSag => Config.unlistedCode 3 2
/-- The cleared field is a value of its own. -/
def endReasonCode : Option EndReason → Byte
  | none => Config.unlistedCode 4 0 | some .acReturn => Config.unlistedCode 4 1
  | some .blackout => Config.unlistedCode 4 2 | some .reset => Config.unlistedCode 4 3
def Source.code : Source → Byte | .stored => Config.unlistedCode 5 0 | .defaults => Config.unlistedCode 5 1
def StoreResult.code : StoreResult → Byte
  | .ok => Config.unlistedCode 6 0 | .verifyFailed => Config.unlistedCode 6 1 | .none => Config.unlistedCode 6 2

/-! ### Identifiers (R170) -/

/-- An identifier byte as an index below `n`, none out of range. -/
def takeId (n : Nat) (b : Byte) : Option (Fin n) := if h : b.toNat < n then some ⟨b.toNat, h⟩ else none

/-- An assigned cause number: 0 to 28 or 32 to 136 (R156, R170). -/
def assignedCause (c : CauseId) : Bool := decide (c.val < 29 ∨ 32 ≤ c.val)

def takeCause (b : Byte) : Option CauseId := (takeId 137 b).filter assignedCause

/-- The leak zone of SET_SLOT: 0 to 7, 255 for none, anything else out of range (R94, R170). -/
def takeZone (b : Byte) : Option (Option ZoneId) := if b = 255#8 then some none else (takeId 8 b).map some

/-- A whole list of identifiers, none when any is out of range (R169). -/
def takeIds {α : Type} (take : Byte → Option α) : List Byte → Option (List α)
  | [] => some []
  | b :: bs =>
    match take b, takeIds take bs with
    | some x, some xs => some (x :: xs)
    | _, _ => none

/-! ### Sense points -/

/-- Value range of a point (01, section 1.1). -/
def pointRange (p : PointId) : Int × Int :=
  if p.val = 0 ∨ (8 ≤ p.val ∧ p.val ≤ 11) then (0, 65535)
  else if p.val ≤ 7 then (0, 32767)
  else if p.val ≤ 15 then (-32768, 32767)
  else if p.val ≤ 20 then (-128, 127)
  else (0, 4095)

/-- The point record of an analog point. -/
def AnalogId.point (p : AnalogId) : PointId := ⟨p.val, by omega⟩

/-- A 2-byte value of a point, signed where the point is (01, section 1.1; log 32). -/
def pointWord (p : PointId) (w : BitVec 16) : Int := if (pointRange p).1 < 0 then w.toInt else w.toNat

/-- SET_LIMIT's fields clamped (R7): the limits to the value range of the point, the low limit to at most the high one. -/
def takeLimit (p : AnalogId) (w : LimitW) : PointSettings :=
  let range := pointRange (AnalogId.point p)
  let high := clampInt range.1 range.2 (pointWord (AnalogId.point p) w.high)
  let low := clampInt range.1 range.2 (pointWord (AnalogId.point p) w.low)
  { span := clampInt (-65535) 65535 w.span.toInt
    offset := clampInt (-65535) 65535 w.offset.toInt
    mode := takeAlarmMode w.mode
    direction := takeDirection w.direction
    high := high
    low := min low high }

/-! ### Budget -/

/-- Insertion by T_k that keeps equal T_k in the order given (R22). -/
def insertDerate (e : DerateEntry) : List DerateEntry → List DerateEntry
  | [] => [e]
  | d :: ds => if d.t ≤ e.t then d :: insertDerate e ds else e :: d :: ds

/-- The stable sort of R22, first entry inserted first. -/
def sortDerate (es : List DerateEntry) : List DerateEntry := es.foldl (fun acc e => insertDerate e acc) []

def takeDerate (w : DerateW) : DerateEntry := ⟨clampInt (-128) 127 w.t.toInt, clampNat 0 256 w.f.toNat⟩

/-- SET_BUDGET's fields clamped and sorted (R22). -/
def takeBudget (w : BudgetW) : BudgetSettings where
  pRate := clampNat 0 20000 w.pRate.toNat
  nRed := clampNat 0 3 w.nRed.toNat
  derate := sortDerate [takeDerate w.e0, takeDerate w.e1, takeDerate w.e2, takeDerate w.e3]
  grace := clampNat 0 100 w.grace.toNat

/-! ### BBU, targets and ranges -/

/-- SET_CHARGE_PARAMS' fields clamped in table order, Qfull first (R36). -/
def takeCharge (w : ChargeW) : BbuSettings :=
  let qFull := clampNat 1 16777215 w.qFull.toNat
  { qFull := qFull
    qFloor := clampNat 0 (qFull - 1) w.qFloor.toNat
    eta := clampNat 1 256 w.eta.toNat
    vFloat := clampNat 0 65535 w.vFloat.toNat
    iTaper := clampNat 0 32767 w.iTaper.toNat
    taperTime := clampNat 1 6000 w.taperTime.toNat
    anchor := takeFlag w.anchor
    margin := clampNat 1 qFull w.margin.toNat
    vCutoff := clampNat 0 65535 w.vCutoff.toNat
    detect := clampNat 1 32767 w.detect.toNat
    tCrit := clampInt (-128) 127 w.tCrit.toInt
    dRated := clampNat 1 16777215 w.dRated.toNat
    testCurrent := clampNat 1 32767 w.testCurrent.toNat
    testLimit := clampNat 1 36000 w.testLimit.toNat
    testReserve := clampNat 0 65535 w.testReserve.toNat }

/-- One target entry as taken (R48): an urgency of none in a SHED entry is ORDERLY. -/
def takeTarget (w : TargetW) : TargetEntry :=
  let action := takeTargetAction w.action
  let urgency := takeUrgency w.urgency
  { threshold := clampNat 0 67108860 w.threshold.toNat
    direction := takeTargetDirection w.direction
    action := action
    minClass := clampNat 1 2 w.minClass.toNat
    urgency := if action = .shed ∧ urgency = .none then .orderly else urgency }

/-- One range entry as taken (R53): a low bound above the high bound is set equal to it. -/
def takeRange (w : RangeW) : RangeEntry := ⟨min w.low.toNat w.high.toNat, w.high.toNat, takeFlag w.gate⟩

def takeRanges (w : RangesW) : Vector RangeEntry 8 :=
  #v[takeRange w.r0, takeRange w.r1, takeRange w.r2, takeRange w.r3, takeRange w.r4, takeRange w.r5, takeRange w.r6,
    takeRange w.r7]

/-! ### Holdup and recharge -/

/-- SET_HOLDUP's fields clamped, V_bridge first (R61). -/
def takeHoldup (w : HoldupW) : HoldupSettings :=
  let vBridge := clampNat 0 65485 w.vBridge.toNat
  { nAcMin := clampNat 1 6 w.nAcMin.toNat
    vBridge := vBridge
    vReturn := clampNat (vBridge + 50) 65535 w.vReturn.toNat
    vCollapse := clampNat 0 vBridge w.vCollapse.toNat
    collapseTime := clampNat 1 500 w.collapseTime.toNat
    tSettle := clampNat 5 600 w.tSettle.toNat
    tMax := clampNat 0 3600 w.tMax.toNat }

/-- SET_RECHARGE's fields clamped in the order of R82. -/
def takeRecharge (w : RechargeW) : RechargeSettings :=
  let hTgt := clampNat 0 20000 w.hTgt.toNat
  let iMax := clampNat 1 32767 w.iMax.toNat
  let iFloor := clampNat 1 iMax w.iFloor.toNat
  { hTgt := hTgt
    hTol := clampNat 0 hTgt w.hTol.toNat
    deltaI := clampNat 1 1000 w.deltaI.toNat
    stepInterval := clampNat 1 100 w.stepInterval.toNat
    iMax := iMax
    iFloor := iFloor
    iStart := clampNat iFloor iMax w.iStart.toNat
    floorTime := clampNat 1 3600 w.floorTime.toNat
    source := takeTempSource w.source
    tChgLim := clampInt (-128) 127 w.tChgLim.toInt }

/-! ### Slots, sequence, zones, line and masks -/

/-- SET_SLOT's fields clamped (R94), for a leak zone already found in range. -/
def takeSlot (zone : Option ZoneId) (w : SlotW) : SlotSettings where
  enabled := takeFlag w.enabled
  cls := takeClass w.cls
  rank := clampNat 0 255 w.rank.toNat
  pReq := clampNat 0 12000 w.pReq.toNat
  pInrush := clampNat 0 12000 w.pInrush.toNat
  soak := clampNat 1 600 w.soak.toNat
  drainLimit := clampNat 1 30 w.drainLimit.toNat
  zone := zone
  role := takeRole w.role
  autoRestore := takeFlag w.autoRestore

/-- The stagger unit clamped to the nearest of 1, 10 and 100 (R103, R170). 55 lies midway between 10 and 100 and the manual
names neither: which it takes is free (log 11). -/
def takeStaggerUnit (b : Byte) : Nat :=
  if b.toNat ≤ 5 then 1
  else if b.toNat < 55 then 10
  else if b.toNat = 55 then (if Config.staggerTieUp then 100 else 10)
  else 100

/-- SET_SEQUENCE's fields clamped (R103). -/
def takeSequence (w : SequenceW) : SequenceSettings where
  staggerCount := clampNat 1 9999 w.staggerCount.toNat
  staggerUnit := takeStaggerUnit w.staggerUnit
  maxSoak := clampNat 1 4 w.maxSoak.toNat
  autoStart := takeFlag w.autoStart
  noticeWindow := clampNat 5 6000 w.noticeWindow.toNat
  holdCritical := clampNat 0 600 w.holdCritical.toNat
  holdEssential := clampNat 0 600 w.holdEssential.toNat
  holdDeferrable := clampNat 0 600 w.holdDeferrable.toNat

/-- SET_ZONE's fields clamped, the thresholds in order (R143). -/
def takeZoneSettings (w : ZoneW) : ZoneSettings :=
  let short := clampNat 0 4092 w.shortThr.toNat
  let wet := clampNat (short + 1) 4093 w.wetThr.toNat
  let dry := clampNat (wet + 1) 4094 w.dryThr.toNat
  { shortThr := short
    wetThr := wet
    dryThr := dry
    openThr := clampNat (dry + 1) 4095 w.openThr.toNat
    kRope := clampNat 1 255 w.kRope.toNat
    kTray := clampNat 1 255 w.kTray.toNat
    policy := takePolicy w.policy
    acceptTray := takeFlag w.acceptTray }

/-- SET_LINE's fields clamped (R140). -/
def takeLine (mode : Byte) (survey : BitVec 16) : LineSettings := ⟨takeLineSetting mode, clampNat 1 1000 survey.toNat⟩

/-- One SET_MASKS entry (R158), none for an unassigned cause. -/
def takeMask (w : MaskW) : Option (CauseId × MaskSettings) :=
  (takeCause w.cause).map fun c => (c, ⟨takeFlag w.mask, takeFlag w.alertEnable⟩)

def takeMasks : List MaskW → Option (List (CauseId × MaskSettings))
  | [] => some []
  | w :: ws =>
    match takeMask w, takeMasks ws with
    | some x, some xs => some (x :: xs)
    | _, _ => none

/-! ### Bulk reads -/

/-- First index and count actually returned (R171): none for a first index at or beyond the table size, else a count of 0
taken as 1 and lowered to the kind's largest and to the end of the table. -/
def takeBulk (size largest : Nat) (first count : Byte) : Option (Nat × Nat) :=
  if first.toNat < size then
    some (first.toNat, min (max 1 count.toNat) (min largest (size - first.toNat)))
  else none

end Sys2Proof.Machine
end

