-- ==== Sys2Proof/Machine/State.lean ====
section
/-! DEFINITION. The state of the HX-624: the twelve blocks of 00_scope.md section 2, the input pins, the life of the part, the
count of time, the free-value counter of the model, and the queue of waiting commands. -/

namespace Sys2Proof.Machine

/-- The part. Plain data; INVENTORY.md lists every field with its rule. -/
structure State where
  phase : Phase
  lastReset : ResetKind
  pins : Pins
  settings : Settings
  sense : Sense
  budget : Budget
  charge : Charge
  holdup : Holdup
  recharge : Recharge
  seq : Sequencer
  shed : Shed
  line : Line
  leak : Leak
  causes : Causes
  link : Link
  store : Store
  clock : Nat
  free : Nat
  pending : List Instr
  deriving DecidableEq, Repr

/-- Why the block could stop. No command of the manual stops it: every row has an effect in every state. -/
inductive Fault where
  /-- Raised by nobody: the manual names no event that stops the part. Safe. -/
  | unreached
  deriving DecidableEq, Repr

/-- Why a command could be turned away by the model. -/
inductive Refusal where
  /-- Raised by an arm of `exec` whose command has no meaning yet; no arm is left so. Safe. -/
  | notModelled (mnemonic : String)
  deriving DecidableEq, Repr

/-- The state right after a power-on reset has ended and before its profile load completes (R178 step 1): everything
volatile starts from empty, the pins and the nonvolatile memory are what they are. -/
def State.poweredOn (pins : Pins) (straps : BitVec 2) (nvm : Nvm) (free : Nat) (pending : List Instr) : State where
  phase := .loading true
  lastReset := .powerOn
  pins := pins
  settings := defaultSettings
  sense := Sense.init
  budget := Budget.init pins
  charge := Charge.init (Vector.ofFn fun i => Bbu.powerOn defaultSettings.bbus[i] pins.bbu[i]) TestRecord.empty
  holdup := Holdup.init 0 Transfer.empty
  recharge := Recharge.init defaultSettings.recharge
  seq := Sequencer.init (Vector.ofFn fun n => Slot.powerOn pins.pg[n])
  shed := Shed.init
  line := Line.init false
  leak := ⟨Vector.replicate 8 Zone.powerOn⟩
  causes := ⟨Vector.replicate 137 (Cause.init false), [], false, false⟩
  link := Link.init straps
  store := Store.init nvm .defaults
  clock := 0
  free := free
  pending := pending

/-- Right after reset, as the reset tables of every chapter state it: the power-on reset has ended and its profile load has
completed (R178 step 2) on a part whose profile was never written, so every setting is the built-in default, causes 0 to 20
are active (R163) and the notice of cause 135, raised by the failed check (R174), is in progress (R161). The pins are low
(log 1, log 2). -/
def State.reset : State :=
  { State.poweredOn Pins.allLow 0 Nvm.blank 0 [] with
    phase := .running
    line := Line.init true
    causes :=
      ⟨Vector.ofFn fun c =>
          if c.val = 135 then ⟨true, false, 0, 0, 1⟩ else Cause.init (decide (c.val < 21)),
        [], false, false⟩
    link := { Link.init 0 with tx := some (.notice ⟨135, 1, true, 1, 0⟩) } }

end Sys2Proof.Machine
end

