-- ==== Sys2Proof/Machine/Flags.lean ====
section
/-! DEFINITION. The pure computations of the chapters: scaling, alarms, classifications, capacity, commitments, reserve, AC
conditions, rope classes, and the conditions that are read off the state as it stands. -/

namespace Sys2Proof.Machine

/-! ### Sense points (01) -/

/-- A rail code (R4). -/
def railCode (c : BitVec 12) : Bool := c == 0 || c == 4095

/-- R2 and R3: the scaled value, saturated to the value range of the point. -/
def scaledValue (p : AnalogId) (set : PointSettings) (c : BitVec 12) : Int :=
  let range := pointRange (AnalogId.point p)
  clampInt range.1 range.2 (set.offset + ((c.toNat : Int) * set.span) / 4096)

/-- The condition that sets an alarm, and that COMPARE follows (section 1.6). -/
def overLimit (set : PointSettings) (v : Int) : Bool :=
  match set.direction with
  | .above => decide (set.high < v)
  | .below => decide (v < set.low)

/-- The condition that clears a HYSTERESIS alarm (R10). -/
def underLimit (set : PointSettings) (v : Int) : Bool :=
  match set.direction with
  | .above => decide (v < set.low)
  | .below => decide (set.high < v)

/-- R9 to R11: the alarm after a good value. -/
def alarmNext (set : PointSettings) (v : Int) (alarm : Bool) : Bool :=
  match set.mode with
  | .off => false
  | .compare => overLimit set v
  | .hysteresis => if alarm then !underLimit set v else overLimit set v
  | .latch => alarm || overLimit set v

/-- The mean of the load window, 0 while it is empty (R6). -/
def windowMean (w : List Nat) : Nat := w.foldl (· + ·) 0 / 8

/-- The load window after a sample set (R6): the first good BUS_I fills it; later sets shift it. -/
def windowNext (w : List Nat) (good : Bool) (v : Nat) : List Nat :=
  match w with
  | [] => if good then List.replicate 8 v else []
  | _ :: rest => rest ++ [v]

def busVPoint : PointId := 0
def busIPoint : PointId := 1
def inletPoint : PointId := 20
def psuIPoint (k : PsuId) : PointId := ⟨2 + k.val, by omega⟩
def bbuVPoint (i : BbuId) : PointId := ⟨8 + i.val, by omega⟩
def bbuIPoint (i : BbuId) : PointId := ⟨12 + i.val, by omega⟩
def bbuTPoint (i : BbuId) : PointId := ⟨16 + i.val, by omega⟩
def ropePoint (z : ZoneId) : PointId := ⟨21 + z.val, by omega⟩

/-- A value of the last published sample set (R1); 0 before the first (R16). -/
def State.pubValue (s : State) (p : PointId) : Int := s.sense.pub[p].value

/-- BUS_V of the last published sample set, in 10 mV; its range has no negative value. -/
def State.busV (s : State) : Nat := (s.pubValue busVPoint).toNat

/-! ### Budget (02) -/

/-- R19. -/
def psuClass (p : Psu) (alarm : Bool) : PsuState :=
  if !p.present then .absent
  else if !p.acOk then .noAc
  else if !p.dcOk || alarm then .fault
  else .good

/-- R23: the f_k of the last entry of the sorted table at or below the inlet temperature, 256 if none. -/
def derateFactor (table : List DerateEntry) (t : Int) : Nat :=
  table.foldl (fun f e => if e.t ≤ t then e.f else f) 256

/-- R25. -/
def commitment (set : SlotSettings) (slot : Slot) : Nat :=
  match slot.state with
  | .off | .queued | .locked => 0
  | .soak => set.pReq + set.pInrush
  | .on | .notice | .held | .draining => set.pReq
  | .faulted => if slot.pg then set.pReq else 0

/-- A shed in flight (R26): NOTICE, HELD or DRAINING. -/
def SlotState.inFlight : SlotState → Bool
  | .notice | .held | .draining => true
  | _ => false

/-- Σ (R25). -/
def State.commitmentSum (s : State) : Nat :=
  (slotIds.map fun n => commitment s.settings.slots[n] s.seq.slots[n]).sum

/-- The P_req of every shed in flight, which H_P adds to H (R26). -/
def State.inFlightSum (s : State) : Nat :=
  (slotIds.map fun n => if s.seq.slots[n].state.inFlight then s.settings.slots[n].pReq else 0).sum

/-- P_chg of a charge current at a bus voltage (R26), and P(x) of R84. -/
def chargePower (x busV : Nat) : Nat := ceilDiv (x * busV) 1000

/-- The number of GOOD PSUs (R24). -/
def State.goodPsus (s : State) : Nat := psuIds.countP fun k => s.budget.psus[k].state == .good

def State.online (s : State) : Bool := s.holdup.state == .online

/-! ### Charge accounting (03) -/

/-- R36. -/
def BbuSettings.rechargePoint (b : BbuSettings) : Nat := b.qFull - b.margin

/-- The state a BBU takes by its charge alone (R37 last rows, R38, R39, R57). -/
def restState (set : BbuSettings) (q : Nat) : BbuState := if set.rechargePoint < q then .standby else .charging

/-- R37, against a temperature and a current of the last published sample set, with the T_crit and the discharge-detect current
in force (R36). -/
def bbuClass (set : BbuSettings) (b : Bbu) (t i : Int) : BbuState :=
  if !b.present then .absent
  else if b.faultIn || decide (b.critInForce ≤ t) then .fault
  else if i ≤ -(b.detectInForce : Int) then .discharging
  else restState set b.q

/-- STANDBY, CHARGING, DISCHARGING and TESTING are counted (section 3.2). -/
def BbuState.counted : BbuState → Bool
  | .standby | .charging | .discharging | .testing => true
  | _ => false

/-- U_i (R47). -/
def usable (set : BbuSettings) (b : Bbu) : Nat := b.q - set.qFloor

/-- R (R47). -/
def State.reserveSum (s : State) : Nat :=
  (bbuIds.map fun i =>
    if s.charge.bbus[i].state.counted then usable s.settings.bbus[i] s.charge.bbus[i] else 0).sum

def State.countedBbus (s : State) : Nat := bbuIds.countP fun i => s.charge.bbus[i].state.counted

/-- T_est of a reserve at a load (R47, R54). -/
def projectedTime (r iAvg : Nat) : Nat := if iAvg < 10 then 65535 else min 65535 (r / iAvg)

/-- An entry of the range table that is in the band set (R53). -/
def inBand (e : RangeEntry) (t : Nat) : Bool :=
  !(e.low == 0 && e.high == 0 && !e.gate) && decide (e.low ≤ t ∧ t ≤ e.high)

/-- The band set at a projected time (R53). -/
def State.bandAt (s : State) (t : Nat) : Vector Bool 8 := Vector.ofFn fun k => inBand s.settings.ranges[k] t

/-- The gated-range inhibit of a band set (R53). -/
def State.gatedBy (s : State) (band : Vector Bool 8) : Bool :=
  rangeIds.any fun k => band[k] && s.settings.ranges[k].gate

/-- R50. -/
def targetMatches (e : TargetEntry) (r : Nat) : Bool :=
  match e.direction with
  | .falling => decide (r ≤ e.threshold)
  | .rising => decide (e.threshold ≤ r)

/-! ### Holdup (04) -/

/-- The AC count (R60), read from the pins. -/
def State.acPinCount (s : State) : Nat := psuIds.countP fun k => s.pins.psu[k].present && s.pins.psu[k].acOk

/-- The two AC conditions (R60). -/
def acEvaluation (set : HoldupSettings) (count busV : Nat) : AcEval :=
  if count < set.nAcMin ∨ busV < set.vBridge then .failed
  else if set.vReturn ≤ busV then .good
  else .neither

/-! ### Recharge (05) -/

/-- The charging set as it would be formed now (R80). -/
def State.chargingSet (s : State) : Vector Bool 4 :=
  Vector.ofFn fun i => s.charge.bbus[i].state == .charging && !s.sense.pub[bbuTPoint i].alarm

/-- The number of members of a charging set. -/
def memberCount (m : Vector Bool 4) : Nat := bbuIds.countP fun i => m[i]

/-- Members of lower index than `i`. -/
def membersBelow (m : Vector Bool 4) (i : BbuId) : Nat := bbuIds.countP fun j => m[j] && decide (j < i)

/-- The shares of a total setpoint (R81): equal parts, the remainder one unit each to the lowest indices. -/
def sharesOf (m : Vector Bool 4) (total : Nat) : Vector Nat 4 :=
  Vector.ofFn fun i =>
    if m[i] then
      total / memberCount m + (if membersBelow m i < total % memberCount m then 1 else 0)
    else 0

/-- The highest BBU temperature among the members of the charging set, none when the set is empty (R89). -/
def State.hottestMember (s : State) : Option Int :=
  bbuIds.foldl (fun acc i =>
    if s.recharge.members[i] then
      match acc with
      | none => some (s.pubValue (bbuTPoint i))
      | some t => some (max t (s.pubValue (bbuTPoint i)))
    else acc) none

/-- The source temperature (R89) of the temperature source in force (R82); free for HOTTEST_BBU with no member. -/
def State.sourceTemp (s : State) : Int :=
  match s.recharge.sourceInForce with
  | .inlet => s.pubValue inletPoint
  | .hottestBbu => s.hottestMember.getD Config.hottestOfNone

/-! ### Slots and line (06, 08) -/

/-- R95: the four states in which EN is asserted. -/
def SlotState.powered : SlotState → Bool
  | .soak | .on | .notice | .held => true
  | _ => false

/-- The need of a slot (06, section 6.1). -/
def SlotSettings.need (set : SlotSettings) : Nat := set.pReq + set.pInrush

def SlotClass.level : SlotClass → Nat | .critical => 0 | .essential => 1 | .deferrable => 2

/-- Urgencies in the order of R112, none below all. -/
def Urgency.level : Urgency → Nat | .none => 0 | .orderly => 1 | .prompt => 2 | .immediate => 3

/-- The class hold limit of a slot, in seconds (R117). -/
def SequenceSettings.holdLimit (q : SequenceSettings) : SlotClass → Nat
  | .critical => q.holdCritical
  | .essential => q.holdEssential
  | .deferrable => q.holdDeferrable

/-- The slot's leak zone is in WET (R97). -/
def State.slotWet (s : State) (n : SlotId) : Bool :=
  match s.settings.slots[n].zone with
  | none => false
  | some z => s.leak.zones[z].state == .wet

/-- The slot's leak zone is in WET under policy VALVE_AND_SHED (R99, R109). -/
def State.slotWetShed (s : State) (n : SlotId) : Bool :=
  match s.settings.slots[n].zone with
  | none => false
  | some z => s.leak.zones[z].state == .wet && s.settings.zones[z].policy == .valveAndShed

/-- Slots now in SOAK (R100). -/
def State.soakCount (s : State) : Nat := slotIds.countP fun n => s.seq.slots[n].state == .soak

/-- Every condition of R100 but the headroom. -/
def State.grantable (s : State) : Bool :=
  s.seq.lastHoldup == .online && s.seq.stagger.isNone && !s.seq.targetInhibit && !s.seq.lastInhibit &&
    decide (s.soakCount < s.settings.sequence.maxSoak)

/-- The queue head and its need (R96). -/
def State.headNow (s : State) : Option (SlotId × Nat) :=
  s.seq.queue.head?.map fun n => (n, s.settings.slots[n].need)

/-- The head's need when the head is blocked by headroom alone (R102). -/
def State.blockedHead (s : State) : Option Nat :=
  match s.seq.queue with
  | [] => none
  | n :: _ =>
    if s.grantable && decide (s.seq.lastH < (s.settings.slots[n].need : Int)) then some s.settings.slots[n].need
    else none

/-- R133. -/
def State.continuousCondition (s : State) : Bool :=
  slotIds.any (fun n => match s.seq.slots[n].state with | .soak | .notice | .held => true | _ => false) ||
    zoneIds.any (fun z => s.leak.zones[z].state == .suspect) ||
    s.line.state == .failed || s.settings.line.mode == .alwaysContinuous

/-- The notice bits as the shed controller holds them (R131), slot n at bit n. -/
def State.noticeVector (s : State) : BitVec 24 :=
  slotIds.foldl (fun v n => if s.seq.slots[n].notice then v ||| (1#24 <<< n.val) else v) 0

/-! ### Leak zones (09) -/

/-- R144. -/
def ropeClass (set : ZoneSettings) (old : RopeClass) (c : BitVec 12) : RopeClass :=
  if c.toNat ≤ set.shortThr then .short
  else if set.openThr ≤ c.toNat then .open
  else if c.toNat ≤ set.wetThr then .wet
  else if set.dryThr ≤ c.toNat then .dry
  else if old = .wet then .wet
  else .dry

/-- Policy VALVE or above (09, section 9.1). -/
def Policy.closesValve : Policy → Bool
  | .notify => false
  | _ => true

/-! ### Causes (10) -/

def causePoint (p : PointId) : CauseId := ⟨p.val, by omega⟩
def causeZoneWet (z : ZoneId) : CauseId := ⟨32 + z.val, by omega⟩
def causeRopeFault (z : ZoneId) : CauseId := ⟨40 + z.val, by omega⟩
def causeAttention (n : SlotId) : CauseId := ⟨48 + n.val, by omega⟩
def causeSlot (n : SlotId) : CauseId := ⟨72 + n.val, by omega⟩
def causeTarget (p : Fin 16) : CauseId := ⟨96 + p.val, by omega⟩
def causeRange (k : RangeId) : CauseId := ⟨112 + k.val, by omega⟩
def causeBbu (i : BbuId) : CauseId := ⟨120 + i.val, by omega⟩
def causePsu (k : PsuId) : CauseId := ⟨124 + k.val, by omega⟩
def causeHoldup : CauseId := 130
def causeDeficit : CauseId := 131
def causeLine : CauseId := 132
def causeTest : CauseId := 133
def causeStore : CauseId := 134
def causeFallback : CauseId := 135
def causeRecharge : CauseId := 136

/-- The event-source causes: 96 to 111, 133, 134 and 135 (R156). -/
def eventSource (c : CauseId) : Bool := decide ((96 ≤ c.val ∧ c.val ≤ 111) ∨ (133 ≤ c.val ∧ c.val ≤ 135))

/-- The ALERT level the conditions and alert-enables call for (R162). -/
def State.alertLevel (s : State) : Bool :=
  s.settings.globalAlert &&
    (List.zipWith (fun (m : MaskSettings) (r : Cause) => m.alertEnable && r.condition)
      s.settings.masks.toList s.causes.recs.toList).any id

/-- A snapshot code that names a state: 16 plus the state's code (R172). -/
def stateCode (n : Nat) : Byte := BitVec.ofNat 8 (16 + n)

/-! ### Reports of time -/

/-- A remaining time in units of `unit` ms (log 6): exact for whole units, free rounding otherwise; 0 when stopped. -/
def reportTime (unit : Nat) (t : Timer) : Nat :=
  match t with
  | none => 0
  | some ms => ms / unit + (if ms % unit = 0 then 0 else if Config.reportRoundsUp then 1 else 0)

/-- Seconds since power-on (04, section 4.6). -/
def State.seconds (s : State) : Nat :=
  let t := s.clock / 1000
  if t < 4294967296 then t else Config.secondsPastRange t

end Sys2Proof.Machine
end

