-- ==== Sys2Proof/Machine/Ops.lean ====
section
/-! DEFINITION. The shared operations: updates of one block, raising and reporting causes, ALERT, the transmitter, replies, the
request wrapper and the passing of a sample interval. -/

namespace Sys2Proof.Machine

/-! ### Updates of one block -/

def State.setSettings (s : State) (x : Settings) : State := { s with settings := x }
def State.setSense (s : State) (x : Sense) : State := { s with sense := x }
def State.setBudget (s : State) (x : Budget) : State := { s with budget := x }
def State.setCharge (s : State) (x : Charge) : State := { s with charge := x }
def State.setHoldup (s : State) (x : Holdup) : State := { s with holdup := x }
def State.setRecharge (s : State) (x : Recharge) : State := { s with recharge := x }
def State.setSeq (s : State) (x : Sequencer) : State := { s with seq := x }
def State.setShed (s : State) (x : Shed) : State := { s with shed := x }
def State.setLine (s : State) (x : Line) : State := { s with line := x }
def State.setLeak (s : State) (x : Leak) : State := { s with leak := x }
def State.setCauses (s : State) (x : Causes) : State := { s with causes := x }
def State.setLink (s : State) (x : Link) : State := { s with link := x }
def State.setStore (s : State) (x : Store) : State := { s with store := x }
def State.setPins (s : State) (x : Pins) : State := { s with pins := x }

def State.setPoint (s : State) (p : PointId) (x : Point) : State :=
  s.setSense { s.sense with points := s.sense.points.set p x }
def State.setPsu (s : State) (k : PsuId) (x : Psu) : State :=
  s.setBudget { s.budget with psus := s.budget.psus.set k x }
def State.setBbu (s : State) (i : BbuId) (x : Bbu) : State :=
  s.setCharge { s.charge with bbus := s.charge.bbus.set i x }
def State.setSlot (s : State) (n : SlotId) (x : Slot) : State :=
  s.setSeq { s.seq with slots := s.seq.slots.set n x }
def State.setZone (s : State) (z : ZoneId) (x : Zone) : State :=
  s.setLeak { s.leak with zones := s.leak.zones.set z x }
def State.setCause (s : State) (c : CauseId) (x : Cause) : State :=
  s.setCauses { s.causes with recs := s.causes.recs.set c x }
def State.setBbuSettings (s : State) (i : BbuId) (x : BbuSettings) : State :=
  s.setSettings { s.settings with bbus := s.settings.bbus.set i x }

/-! ### Transmitter (R161) -/

/-- Beginning a notice for a cause (R161): the notice copies the record; the cause leaves the outbox and its pending flag and
count are cleared; the snapshot is kept. -/
def State.beginNotice (c : CauseId) (rest : List CauseId) (s : State) : State :=
  let r := s.causes.recs[c]
  let s := s.setCauses
    { s.causes with
      recs := s.causes.recs.set c { r with pending := false, count := 0 }
      outbox := rest }
  s.setLink { s.link with tx := some (.notice ⟨c, r.count, r.condition, r.code, r.value⟩) }

/-- R161, whenever the transmitter is free: the oldest waiting reply first, else a notice for the outbox head unless the
global hold is set, else idle. -/
def serveTransmitter (s : State) : State :=
  match s.link.tx with
  | some _ => s
  | none =>
    match s.link.replies with
    | r :: rs => s.setLink { s.link with tx := some (.reply r), replies := rs }
    | [] =>
      if s.causes.hold then s
      else
        match s.causes.outbox with
        | c :: cs => s.beginNotice c cs
        | [] => s

/-- A reply made ready joins the waiting replies (R167, R168). -/
def pushReply (r : Reply) (s : State) : State :=
  serveTransmitter (s.setLink { s.link with replies := s.link.replies ++ [r] })

/-! ### Causes and ALERT (R156, R157, R162) -/

def judgeAlert (s : State) : State := s.setCauses { s.causes with alert := s.alertLevel }

/-- A condition report (R156): it changes the condition and nothing else in the record; ALERT is judged afresh (R162). -/
def reportCondition (c : CauseId) (active : Bool) (s : State) : State :=
  if s.causes.recs[c].condition = active then s
  else judgeAlert (s.setCause c { s.causes.recs[c] with condition := active })

/-- The record after a raise (R157); an event-source cause's condition is made active (R156). -/
def raised (r : Cause) (event : Bool) (value : Int) (code : Byte) : Cause where
  condition := r.condition || event
  pending := true
  count := min 255 (r.count + 1)
  value := BitVec.ofInt 32 value
  code := code

/-- Joining the outbox tail, unless masked or already in it (R157). -/
def joinOutbox (c : CauseId) (s : State) : State :=
  if s.settings.masks[c].mask || s.causes.outbox.contains c then s
  else s.setCauses { s.causes with outbox := s.causes.outbox ++ [c] }

/-- A raise (R157). A notice begins at once when the transmitter is free (R161). -/
def raise (c : CauseId) (value : Int) (code : Byte) (s : State) : State :=
  let s := s.setCause c (raised s.causes.recs[c] (eventSource c) value code)
  let s := if eventSource c then judgeAlert s else s
  serveTransmitter (joinOutbox c s)

/-! ### Requests (R168, R169) -/

/-- What an accepted request does and answers, or the refusal. -/
abbrev Judged := Except RefusalCode (State × Ack)

/-- R168 step 3: the one reply of an execution. A refused request changes nothing (R169). -/
def answer (tag kind : Byte) (judged : Judged) (s : State) : State :=
  match judged with
  | .ok (s', ack) => pushReply (.ack tag kind ack) s'
  | .error code => pushReply (.refused tag code kind) s

def Sending.isExecution : Sending → Bool
  | .reply r => !r.isBusy
  | .notice _ => false

/-- R168: a request is executed when no execution reply is waiting or being sent, and only in a part whose start-up has reached
step 2 or 3 of R178. -/
def State.canExecute (s : State) : Bool :=
  s.phase == .running && s.link.replies.all Reply.isBusy &&
    (match s.link.tx with | none => true | some t => !t.isExecution)

/-- BUSY replies now waiting (R167). -/
def State.busyWaiting (s : State) : Nat := s.link.replies.countP Reply.isBusy

/-- R167: a good frame joins the request queue, or finds it full and is answered BUSY, or finds four BUSY replies waiting too
and is dropped. -/
def offerFrame (f : Frame) (s : State) : State :=
  if s.link.queue.length < 4 then s.setLink { s.link with queue := s.link.queue ++ [f] }
  else if s.busyWaiting < 4 then pushReply (.refused f.tag .busy f.kind) s
  else s

/-- A request row. The request is executed at once where R168 lets it be, as the request queue's only frame; else its frame
is offered to the queue (R167) and executed in its turn. While RST_N is low RXD is ignored (R165). -/
def request (i : Instr) (run : State → Judged) (s : State) : State :=
  match encodeRequest i with
  | none => s
  | some f =>
    match s.phase with
    | .inReset _ => s
    | _ => if s.canExecute && s.link.queue.isEmpty then answer f.tag f.kind (run s) s else offerFrame f s

/-- A request is refused as a whole unless a condition holds. -/
def demand (ok : Bool) (code : RefusalCode) (judged : Judged) : Judged := if ok then judged else .error code

/-- No field of a locked section would change (R177). -/
def State.lockAllows (s : State) (new : Settings) : Bool :=
  (!s.store.lockSafety || s.settings.safety == new.safety) &&
    (!s.store.lockOrder || s.settings.order == new.order) &&
    (!s.store.lockGeneral || s.settings.general == new.general)

/-- An accepted SET: the working settings change and the unstored-changes flag is set (R175). -/
def State.adopt (s : State) (new : Settings) : State :=
  (s.setSettings new).setStore { s.store with unstored := true }

/-! ### Free values -/

/-- A fresh free value (log 9, log 10); the counter moves on so that no two uses are tied to each other. -/
def State.freshWord (s : State) : BitVec 32 := Config.freeWord s.free
def State.spendFree (s : State) : State := { s with free := s.free + 1 }

/-! ### Time (log 3) -/

/-- One sample interval off a timer; a timer at 0 is due and waits for its expiry. -/
def Timer.pass (t : Timer) : Timer := t.map (· - 10)

def Slot.pass (x : Slot) : Slot :=
  { x with soak := Timer.pass x.soak, window := Timer.pass x.window, hold := Timer.pass x.hold, drain := Timer.pass x.drain }

/-- The 10 ms that end with a sample set, on every running timer and on the count of time (R1, log 3). -/
def passInterval (s : State) : State :=
  { s with
    clock := s.clock + 10
    budget := { s.budget with timer := Timer.pass s.budget.timer }
    charge := { s.charge with test := { s.charge.test with timer := Timer.pass s.charge.test.timer } }
    holdup :=
      { s.holdup with
        settle := Timer.pass s.holdup.settle
        bridging := Timer.pass s.holdup.bridging
        collapse := Timer.pass s.holdup.collapse }
    recharge :=
      { s.recharge with
        step := Timer.pass s.recharge.step
        floorTimer := Timer.pass s.recharge.floorTimer }
    seq :=
      { s.seq with
        stagger := Timer.pass s.seq.stagger
        slots := Vector.ofFn fun n => Slot.pass s.seq.slots[n] }
    line := { s.line with survey := Timer.pass s.line.survey }
    store := { s.store with writing := s.store.writing.map fun w => { w with elapsed := w.elapsed + 10 } } }

end Sys2Proof.Machine
end

