-- ==== Sys2Proof/Machine/BudgetOps.lean ====
section
/-! DEFINITION. The BBU outputs and the regulator's shares (R41, R81), the regulator's pause (R88), and the budget unit: capacity,
headroom, the negative-headroom instruction and the deficit state (chapter 2). -/

namespace Sys2Proof.Machine

/-! ### BBU outputs (R41) -/

/-- The table of section 3.2 for a present classification: outputs by state, share and test current. -/
def outputsOf (st : BbuState) (share testCurrent : Nat) : BbuOut :=
  match st with
  | .absent | .fault | .depleted => ⟨false, false, 0⟩
  | .standby | .discharging => ⟨true, false, 0⟩
  | .charging => ⟨true, decide (0 < share), share⟩
  | .testing => ⟨true, false, -(testCurrent : Int)⟩

/-- R41: a BBU's outputs follow its state. Before the first classification after a reset they stay as the reset left them. -/
def driveBbu (i : BbuId) (s : State) : State :=
  if s.sense.seen then
    let b := s.charge.bbus[i]
    s.setBbu i { b with out := outputsOf b.state s.recharge.shares[i] s.charge.test.current }
  else s

def driveBbus (s : State) : State := bbuIds.foldl (fun s i => driveBbu i s) s

/-! ### Shares and the pause of the regulator -/

/-- R81: the shares are worked out again and handed to the outputs. -/
def reshare (s : State) : State :=
  driveBbus (s.setRecharge { s.recharge with shares := sharesOf s.recharge.members s.recharge.iSet })

/-- Entry to PAUSED (R84, R86, R88): I_set and the shares 0, timers cancelled, yield flag cleared, cause 136 raised. -/
def enterPaused (value : Int) (code : Byte) (s : State) : State :=
  let s := reshare (s.setRecharge
    { s.recharge with state := .paused, iSet := 0, step := none, floorTimer := none, yielded := false })
  raise causeRecharge value code (reportCondition causeRecharge true s)

/-- Snapshot codes of cause 136 (R172: numbered in the order of chapter 10). -/
def codeNoRoom : Byte := 1
def codeFloorTime : Byte := 2
def codeNegativeH : Byte := 3
def codeThermal : Byte := 4

/-! ### Deficit state (R28 to R33) -/

/-- Snapshot codes of cause 131. -/
def codeGraceStart : Byte := 1
def codeSelection : Byte := 2
def codeStillShort : Byte := 3
def codeShortAgain : Byte := 4

/-- Entry to GRACE: the deficit timer starts with the deficit grace, and cause 131 is raised. -/
def enterGrace (value : Int) (code : Byte) (s : State) : State :=
  let s := s.setBudget { s.budget with deficit := .grace, timer := some (s.settings.budget.grace * 100) }
  raise causeDeficit value code (reportCondition causeDeficit true s)

/-- Entry to IDLE: the deficit timer is cancelled and the condition of cause 131 becomes inactive. -/
def endDeficit (s : State) : State :=
  reportCondition causeDeficit false (s.setBudget { s.budget with deficit := .idle, timer := none })

/-- What a recompute under ONLINE does to the deficit state (R28, R29, R31, R32). -/
def judgeDeficit (s : State) : State :=
  match s.budget.deficit with
  | .idle => if s.budget.h < 0 then enterGrace s.budget.h codeGraceStart s else s
  | .grace => if 0 ≤ s.budget.h then endDeficit s else s
  | .selecting => s
  | .covered =>
    if 0 ≤ s.budget.h then endDeficit s
    else if s.budget.hp < 0 then enterGrace s.budget.hp codeShortAgain s
    else s

/-! ### Capacity and headroom -/

/-- R23 and R24. -/
def recomputeCapacity (s : State) : State :=
  let good := s.goodPsus
  let f := derateFactor s.settings.budget.derate (s.pubValue inletPoint)
  let raw := (good - s.settings.budget.nRed) * s.settings.budget.pRate
  s.setBudget { s.budget with nGood := good, cRaw := raw, f := f, cap := raw * f / 256 }

/-- H for the charge setpoint as it stands (R26). -/
def State.headroomNow (s : State) : Int :=
  (s.budget.cap : Int) - (s.commitmentSum : Int) - (chargePower s.recharge.iSet s.busV : Int)

/-- The recompute proper (R26): Σ, P_chg, H and H_P, published when the pair changed. -/
def settleHeadroom (s : State) : State :=
  let h := s.headroomNow
  let hp := h + (s.inFlightSum : Int)
  let changed := h ≠ s.budget.h ∨ hp ≠ s.budget.hp
  s.setBudget
    { s.budget with
      sigma := s.commitmentSum
      pChg := chargePower s.recharge.iSet s.busV
      h := h
      hp := hp
      pubs := if changed then s.budget.pubs ++ [(h, hp)] else s.budget.pubs }

/-- R27, R88: the negative-headroom instruction, sent when the headroom for the setpoint as it stands is below 0 while charge
power is drawn. Its cause carries H as last published. -/
def instructRegulator (s : State) : State :=
  if s.headroomNow < 0 ∧ 0 < chargePower s.recharge.iSet s.busV then enterPaused s.budget.h codeNegativeH s else s

/-- R26 to R29 and R32: one recompute. Under ONLINE the instruction comes first, so that the pair published is the one with
P_chg at 0 (R27), and the deficit state is judged last. -/
def recompute (s : State) : State :=
  if s.online then judgeDeficit (settleHeadroom (instructRegulator s)) else settleHeadroom s

/-- R33: leaving ONLINE ends deficit handling, and no answer to a selection asked by then moves the deficit state. -/
def leaveDeficit (s : State) : State :=
  let s := endDeficit s
  s.setBudget { s.budget with stale := s.budget.selAsked + s.budget.answers.length }

/-- R19 to R21: PSU `k` classified against the last published sample set; a change raises cause 124+k, before what the recompute
that follows raises (DESIGN CHOICE, log 59). -/
def reclassifyPsu (k : PsuId) (s : State) : State :=
  let u := s.budget.psus[k]
  let st := psuClass u s.sense.pub[psuIPoint k].alarm
  if st = u.state then s
  else
    let s := s.setPsu k { u with state := st }
    let s := reportCondition (causePsu k) (st == .noAc || st == .fault) s
    raise (causePsu k) (if st = .absent then 0 else s.pubValue (psuIPoint k)) (stateCode st.code) s

end Sys2Proof.Machine
end

