-- ==== Sys2Proof/Machine/SlotOps.lean ====
section
/-! DEFINITION. The slot operations shared by the sequencer and the shed controller: state moves with EN (R95), the power-up
queue and its grant checks (R96 to R102), and the shed protocol (R112 to R126). -/

namespace Sys2Proof.Machine

/-! ### Moves -/

/-- The line is idle or in a stop frame. -/
def CycleState.waiting : CycleState → Bool
  | .idle | .stopFrame _ => true
  | .startFrame _ _ | .slotFrame _ _ => false

/-- R135: a start event on a quiet line. The continuous condition that comes to hold on an idle line, or during the stop frame
of a QUIET cycle (R134), calls for a cycle; the start cancels the survey timer. -/
def lineWatch (s : State) : State :=
  if s.line.enabled && s.line.mode == .quiet && s.line.cycle.waiting && !s.line.startDue && s.continuousCondition then
    s.setLine { s.line with startDue := true, survey := none }
  else s

/-- A slot takes a state: EN by R95, the fault cause's condition by R107, the line's continuous condition by R133. `upd` gives
the other fields their values. -/
def moveSlot (n : SlotId) (st : SlotState) (upd : Slot → Slot) (s : State) : State :=
  let x := upd s.seq.slots[n]
  let s := s.setSlot n { x with state := st, en := st.powered, adoptedOff := x.adoptedOff && st == .off }
  lineWatch (reportCondition (causeSlot n) (st == .faulted) s)

/-- A slot state change as the budget unit sees it (R25, R26). -/
def shiftSlot (n : SlotId) (st : SlotState) (upd : Slot → Slot) (s : State) : State := recompute (moveSlot n st upd s)

/-- The shed protocol's timers and notice bit cleared (R116, R118, R121). -/
def Slot.quit (x : Slot) : Slot := { x with notice := false, window := none, hold := none, drain := none }

/-- No shed in flight. -/
def Slot.noShed (x : Slot) : Slot := { x.quit with reason := .none, urgency := .none }

/-! ### Queue -/

/-- The order of R96: (rank, slot number). -/
def State.before (s : State) (a b : SlotId) : Bool :=
  decide (s.settings.slots[a].rank < s.settings.slots[b].rank ∨
    (s.settings.slots[a].rank = s.settings.slots[b].rank ∧ a < b))

def insertSlot (before : SlotId → SlotId → Bool) (n : SlotId) : List SlotId → List SlotId
  | [] => [n]
  | m :: ms => if before n m then n :: m :: ms else m :: insertSlot before n ms

/-- Joining the queue at its place (R96). -/
def joinQueue (n : SlotId) (s : State) : State :=
  s.setSeq { s.seq with queue := insertSlot s.before n (s.seq.queue.filter (· ≠ n)) }

def leaveQueue (n : SlotId) (s : State) : State :=
  s.setSeq { s.seq with queue := s.seq.queue.filter (· ≠ n) }

/-- Entering QUEUED, or LOCKED instead for a slot of a WET zone (R97); queueing clears restore-pending (R122). -/
def enterQueue (n : SlotId) (s : State) : State :=
  if s.slotWet n then moveSlot n .locked (fun x => { x with restore := false }) s
  else joinQueue n (moveSlot n .queued (fun x => { x with restore := false }) s)

/-! ### Grants (R100 to R102) -/

/-- R101: the head leaves the queue for SOAK, and the soak and stagger timers start. -/
def grant (n : SlotId) (s : State) : State :=
  let s := leaveQueue n s
  let s := s.setSeq
    { s.seq with stagger := some (s.settings.sequence.staggerCount * s.settings.sequence.staggerUnit) }
  shiftSlot n .soak (fun x => { x with soak := some (s.settings.slots[n].soak * 100) }) s

/-- R100: every condition holds for the head. -/
def State.grantsHead (s : State) (n : SlotId) : Bool :=
  s.grantable && decide ((s.settings.slots[n].need : Int) ≤ s.seq.lastH)

/-- R102: one head report, with the head and its need as of now remembered. -/
def sendReport (s : State) : State :=
  s.setSeq
    { s.seq with
      headSeen := s.headNow
      lastReport := s.blockedHead
      reports := s.seq.reports ++ [s.blockedHead] }

/-- R101: a grant is followed by a report of the head it leaves, whatever was reported before it (R102). -/
def grantCheck (s : State) : State :=
  match s.seq.queue with
  | [] => s
  | n :: _ => if s.grantsHead n then sendReport (grant n s) else s

/-- R96, R102: a report is sent when the head or its need changed, and when what it says changed, since the last event (a head
change with nothing to say but "no head blocked" is reported too: DEDUCED, log 49). -/
def reportHead (s : State) : State :=
  if s.headNow = s.seq.headSeen ∧ s.blockedHead = s.seq.lastReport then s else sendReport s

/-- An event of R101: a grant check, then the head report of R102. -/
def seqEvent (s : State) : State := reportHead (grantCheck s)

/-! ### Drain (R118, R119, R122) -/

/-- R108, R122: a slot in OFF with restore-pending is queued while the shelf is ONLINE; not enabled, it stays OFF and the flag
is cleared. -/
def restoreSlot (n : SlotId) (s : State) : State :=
  let x := s.seq.slots[n]
  if x.restore && x.state == .off then
    if s.settings.slots[n].enabled then enterQueue n s else s.setSlot n { x with restore := false }
  else s

/-- R122: the hand-over of a slot whose restore-pending flag is set, at once when the holdup controller is ONLINE. -/
def handOver (n : SlotId) (s : State) : State :=
  if s.online && s.seq.slots[n].restore && s.seq.slots[n].state == .off then seqEvent (restoreSlot n s) else s

/-- The reasons that restore (07, section 7.1). -/
def ShedReason.restores : ShedReason → Bool
  | .reserve | .limit | .deficit | .blackout | .reset => true
  | _ => false

/-- R119: the final state of a drain, by the reason that stands. -/
def completeDrain (n : SlotId) (s : State) : State :=
  let x := s.seq.slots[n]
  match x.reason with
  | .leak =>
    shiftSlot n .locked (fun x => { x.quit with reason := .leak, urgency := .immediate, restore := false }) s
  | r =>
    let restore :=
      if r.restores then (s.settings.slots[n].autoRestore || x.restore) else if r = .manager then false else x.restore
    handOver n (shiftSlot n .off (fun x => { x.noShed with restore := restore }) s)

/-- R118: with PG already low the drain completes in the event that starts it. -/
def settleDrain (n : SlotId) (s : State) : State := if s.seq.slots[n].pg then recompute s else completeDrain n s

/-- R118: entry to DRAINING. -/
def enterDraining (n : SlotId) (s : State) : State :=
  settleDrain n (moveSlot n .draining
    (fun x => { x.quit with soak := none, drain := some (s.settings.slots[n].drainLimit * 1000) }) s)

/-! ### Sheds (R113 to R115) -/

/-- R113: what a shed makes of a slot with no power. -/
def unpowerSlot (n : SlotId) (reason : ShedReason) (s : State) : State :=
  match reason with
  | .leak => moveSlot n .locked (fun x => { x with reason := .leak, urgency := .immediate, restore := false }) s
  | .manager => moveSlot n .off (fun x => { x with restore := false }) s
  | _ => moveSlot n .off (fun x => { x with restore := x.restore || s.settings.slots[n].autoRestore }) s

/-- A queue change, when there is one, is an event of R101. -/
def seqEventIf (changed : Bool) (s : State) : State := if changed then seqEvent s else s

/-- R122: a shed whose reason restores hands the slot over. -/
def handOverFor (n : SlotId) (reason : ShedReason) (s : State) : State :=
  if reason.restores then handOver n s else s

/-- R113: a shed of a slot with no power. A slot that leaves the queue is a queue change. -/
def shedUnpowered (n : SlotId) (reason : ShedReason) (s : State) : State :=
  handOverFor n reason
    (seqEventIf (s.seq.slots[n].state == .queued) (unpowerSlot n reason (leaveQueue n s)))

/-- R114 for SOAK: to DRAINING at once; the soak place is free for a grant. With PG low the drain completes, and a reason that
restores re-queues the slot, before the grant check for the freed place (DESIGN CHOICE, log 41). -/
def shedSoak (n : SlotId) (reason : ShedReason) (urgency : Urgency) (s : State) : State :=
  let s := s.setSlot n { s.seq.slots[n] with reason := reason, urgency := urgency }
  seqEvent (enterDraining n s)

/-- R114 for ON. -/
def shedOn (n : SlotId) (reason : ShedReason) (urgency : Urgency) (s : State) : State :=
  if urgency = .immediate then
    enterDraining n (s.setSlot n { s.seq.slots[n] with reason := reason, urgency := urgency })
  else
    shiftSlot n .notice
      (fun x =>
        { x with
          reason := reason
          urgency := urgency
          notice := true
          window := some (s.settings.sequence.noticeWindow * 10) }) s

/-- R115: the move of a shed in flight under its new urgency. -/
def escalate (n : SlotId) (urgency : Urgency) (s : State) : State :=
  match s.seq.slots[n].state, urgency with
  | .notice, .immediate => enterDraining n s
  | .held, .prompt => enterDraining n s
  | .held, .immediate => enterDraining n s
  | _, _ => s

/-- R115 and the LEAK clause of R112: a shed that reaches a slot whose shed is in flight. -/
def shedInFlight (n : SlotId) (reason : ShedReason) (urgency : Urgency) (s : State) : State :=
  let x := s.seq.slots[n]
  if x.reason = .leak then s
  else if x.urgency.level ≤ urgency.level then
    escalate n urgency (s.setSlot n { x with reason := reason, urgency := urgency })
  else if reason = .manager ∧ (x.reason = .reserve ∨ x.reason = .limit ∨ x.reason = .deficit ∨ x.reason = .reset) then
    s.setSlot n { x with reason := .manager }
  else s

/-- One shed request on one slot, by the slot's state (R112 to R115). -/
def shedSlot (n : SlotId) (reason : ShedReason) (urgency : Urgency) (s : State) : State :=
  match s.seq.slots[n].state with
  | .off | .queued => shedUnpowered n reason s
  | .soak => shedSoak n reason urgency s
  | .on => shedOn n reason urgency s
  | .notice | .held | .draining => shedInFlight n reason urgency s
  | .faulted | .locked =>
    if reason = .leak then s.setSlot n { s.seq.slots[n] with reason := .leak } else s

/-- R121. -/
def withdrawSlot (n : SlotId) (s : State) : State := shiftSlot n .on Slot.noShed s

/-- SOAK, ON, NOTICE or HELD: the states a RESERVE or LIMIT shed reaches (section 7.1). -/
def SlotState.reached (st : SlotState) : Bool := st.powered

/-- R123: the slots of class `k` or higher in SOAK, ON, NOTICE or HELD, fixed when the request is taken (R112). -/
def State.classGroup (s : State) (k : Nat) : List SlotId :=
  slotIds.filter fun n => decide (k ≤ s.settings.slots[n].cls.level) && s.seq.slots[n].state.reached

/-- R123: RESERVE and LIMIT sheds, in ascending slot order. -/
def shedClass (reason : ShedReason) (k : Nat) (urgency : Urgency) (s : State) : State :=
  (s.classGroup k).foldl (fun s n => shedSlot n reason urgency s) s

/-- R124: the blackout shed. -/
def shedAll (s : State) : State := slotIds.foldl (fun s n => shedSlot n .blackout .immediate s) s

/-- The slots assigned to a zone. -/
def State.zoneSlots (s : State) (z : ZoneId) : List SlotId :=
  slotIds.filter fun n => s.settings.slots[n].zone == some z

/-- R124: the leak shed of a zone. R124 gives an order for the blackout shed alone; the zone's slots come in ascending slot order
too (DESIGN CHOICE, log 57). -/
def shedZone (z : ZoneId) (s : State) : State :=
  (s.zoneSlots z).foldl (fun s n => shedSlot n .leak .immediate s) s

/-- R97: every QUEUED slot of a zone that has entered WET leaves the queue for LOCKED, in ascending slot order (DESIGN CHOICE,
log 57). -/
def lockZone (z : ZoneId) (s : State) : State :=
  let slots := (s.zoneSlots z).filter fun n => s.seq.slots[n].state == .queued
  if slots.isEmpty then s
  else
    seqEvent (slots.foldl
      (fun s n => moveSlot n .locked (fun x => { x with restore := false }) (leaveQueue n s)) s)

/-! ### Fault entries of a slot (R104, R105, R120) -/

/-- Snapshot codes of cause 72+n (R107, R120). -/
def codeSoakNoPg : Byte := 1
def codePgLost : Byte := 2
def codePgWithoutEn : Byte := 3
def codePgStuck : Byte := 4

/-- A slot enters FAULTED with reason FAULT, and its cause is raised with its P_req, before what the recompute raises (DESIGN
CHOICE, log 59). -/
def faultSlot (n : SlotId) (code : Byte) (s : State) : State :=
  let s := moveSlot n .faulted
    (fun x => { x.quit with soak := none, reason := .fault, urgency := .none, restore := false }) s
  recompute (raise (causeSlot n) s.settings.slots[n].pReq code s)

/-- R117: a NOTICE slot whose tray holds moves to HELD. -/
def holdSlot (n : SlotId) (limit : Nat) (s : State) : State :=
  shiftSlot n .held (fun x => { x with window := none, hold := some (limit * 1000) }) s

/-- R117: one slot judged at a status line cycle end. -/
def judgeHold (asserted : Bool) (n : SlotId) (s : State) : State :=
  let x := s.seq.slots[n]
  let limit := s.settings.sequence.holdLimit s.settings.slots[n].cls
  match x.state with
  | .notice => if asserted && x.urgency == .orderly && decide (0 < limit) then holdSlot n limit s else s
  | .held => if asserted then s else enterDraining n s
  | _ => s

/-! ### DEFICIT selection (R126) -/

/-- ON slots of a class with P_req above 0, highest rank first, then highest slot number first. -/
def State.candidates (s : State) (c : SlotClass) : List SlotId :=
  ((slotIds.filter fun n =>
      s.seq.slots[n].state == .on && s.settings.slots[n].cls == c && decide (0 < s.settings.slots[n].pReq)).foldl
    (fun acc n => insertSlot s.before n acc) []).reverse

/-- The slots taken and the projected headroom reached: candidates while it is below 0. -/
def selectSlots (pReq : SlotId → Nat) : List SlotId → Int → List SlotId × Int
  | [], h => ([], h)
  | n :: ns, h =>
    if h < 0 then
      let r := selectSlots pReq ns (h + (pReq n : Int))
      (n :: r.1, r.2)
    else ([], h)

end Sys2Proof.Machine
end

