-- ==== Sys2Proof/Machine/ChargeOps.lean ====
section
/-! DEFINITION. The charge accounting unit (chapter 3): BBU state changes, the reserve recompute with its range and target
comparison, arming and disarming, the end of a capacity test, and what one sample set does to one BBU. -/

namespace Sys2Proof.Machine

/-! ### BBU states (R37 to R42) -/

/-- The condition of cause 120+i (R42). -/
def Bbu.alarming (b : Bbu) : Bool := b.state == .fault || b.state == .depleted || b.bottomed

def reportBbu (i : BbuId) (s : State) : State := reportCondition (causeBbu i) s.charge.bbus[i].alarming s

/-- Snapshot codes of cause 120+i that name no state (R172). -/
def codeBottomed : Byte := 1
def codeAnchored : Byte := 2

/-- A BBU takes a state with its outputs and its condition; leaving CHARGING ends the taper run (R41, R42, R45). -/
def moveBbu (i : BbuId) (st : BbuState) (s : State) : State :=
  reportBbu i (driveBbu i (s.setBbu i { s.charge.bbus[i] with state := st, taper := 0 }))

/-- R42: a change of state, raised with the new state and Q; a classification to the present state changes nothing. -/
def changeBbu (i : BbuId) (st : BbuState) (s : State) : State :=
  if s.charge.bbus[i].state = st then s
  else raise (causeBbu i) s.charge.bbus[i].q (stateCode st.code) (moveBbu i st s)

/-- R37's classification against the last published sample set, with the settings in force. -/
def State.classOf (s : State) (i : BbuId) : BbuState :=
  bbuClass s.settings.bbus[i] s.charge.bbus[i] (s.pubValue (bbuTPoint i)) (s.pubValue (bbuIPoint i))

/-- The state that the charge alone gives (R38, R57). -/
def State.restOf (s : State) (i : BbuId) : BbuState := restState s.settings.bbus[i] s.charge.bbus[i].q

/-- A changed Q by SET_CHARGE, SET_CHARGE_PARAMS, an anchor or a test: r is 0 and the full flag follows (R43 to R46). -/
def Bbu.withCharge (b : Bbu) (qFull q : Nat) : Bbu := { b with q := q, r := 0, full := q == qFull }

/-! ### Target table (R48 to R52) -/

/-- R51, R102: the sequencer's target inhibit; a change of it is an event of R101. -/
def setTargetInhibit (on : Bool) (s : State) : State :=
  if s.seq.targetInhibit = on then s else seqEvent (s.setSeq { s.seq with targetInhibit := on })

/-- R76: a matched index handed back to the holdup controller. -/
def listMatch (p : Nat) (s : State) : State :=
  let t := s.holdup.record
  if t.isOpen && decide (t.matched.length < 16) then
    s.setHoldup { s.holdup with record := { t with matched := t.matched ++ [p] } }
  else s

/-- R51: the action of a matched entry goes to its owner. -/
def targetAction (e : TargetEntry) (s : State) : State :=
  match e.action with
  | .noticeOnly => s
  | .shed => shedClass .reserve e.minClass e.urgency s
  | .inhibitPowerup => setTargetInhibit true s
  | .releasePowerup => setTargetInhibit false s

def codeMatched : Byte := 1

/-- R50: entry p matched. Its action, its cause and its index are handed on, p moves, and reaching n clears armed. -/
def matchEntry (e : TargetEntry) (s : State) : State :=
  let p := s.charge.p
  let s := listMatch p (targetAction e s)
  let s := raise (causeTarget ⟨p % 16, by omega⟩) s.charge.r codeMatched s
  s.setCharge
    { s.charge with
      p := p + 1
      armed := s.charge.armed && decide (p + 1 < s.settings.targets.entries.length) }

/-- R50: matching entries from p onward, in order; `fuel` bounds the entries left. -/
def compareFrom (fuel : Nat) (s : State) : State :=
  match fuel with
  | 0 => s
  | fuel + 1 =>
    match s.settings.targets.entries[s.charge.p]? with
    | none => s
    | some e => if targetMatches e s.charge.r then compareFrom fuel (matchEntry e s) else s

/-- R50: the comparison of an armed table that has not halted. -/
def compareTargets (s : State) : State :=
  if s.charge.armed && !s.charge.halted then compareFrom s.settings.targets.entries.length s else s

/-- R49: arming starts again at entry 0 and compares at once. -/
def armTable (s : State) : State :=
  compareTargets (s.setCharge { s.charge with p := 0, armed := true, halted := false })

/-- R49, R71: armed cleared, p left as it stood. -/
def disarmTable (s : State) : State := s.setCharge { s.charge with armed := false }

/-- R49, R63: an arming by the holdup controller, in ON_BRIDGE mode and with n above 0. -/
def armOnBridge (s : State) : State :=
  if s.settings.targets.mode = .onBridge ∧ s.settings.targets.entries ≠ [] then armTable s else s

/-- R52. -/
def haltTable (s : State) : State := s.setCharge { s.charge with armed := false, halted := true }

/-! ### Reserve (R47, R53) -/

def codeEntered : Byte := 1

/-- One range entry under a new band set (R53): its condition, and its cause when it joins. -/
def judgeRange (old new : Vector Bool 8) (t : Nat) (k : RangeId) (s : State) : State :=
  let s := reportCondition (causeRange k) new[k] s
  if new[k] && !old[k] then raise (causeRange k) t codeEntered s else s

/-- R53: the band set at T_est as it stands. A SET_RANGES before the first sample set is no exception: T_est is then
65,535, and an entry that holds it joins the band set (DESIGN CHOICE, log 37). Entries are judged in index order (DESIGN CHOICE,
log 59). -/
def recomputeBand (s : State) : State :=
  let old := s.charge.band
  let new := s.bandAt s.charge.tEst
  rangeIds.foldl (fun s' k => judgeRange old new s.charge.tEst k s') (s.setCharge { s.charge with band := new })

/-- R47: R, T_est, the band set, the gated-range inhibit and the counted BBUs go to the consumers (log 4). -/
def publishReserve (s : State) : State :=
  s.setCharge
    { s.charge with
      pubs := s.charge.pubs ++
        [⟨s.charge.r, s.charge.tEst, s.charge.band, s.gatedBy s.charge.band, s.countedBbus, s.sense.seen⟩] }

/-- R47: one recompute, followed by target comparison and publication. `compare` is false in the sample set that halts the
table (R52). -/
def recomputeReserve (s : State) : State :=
  let r := s.reserveSum
  publishReserve (compareTargets (recomputeBand
    (s.setCharge { s.charge with r := r, tEst := projectedTime r s.sense.iAvg })))

/-! ### Capacity test (R54 to R57) -/

/-- R57: an early end of the running test. Cause 133 is raised, then the BBU takes `st`; the reserve recompute is the
caller's. What becomes of the discarded D is free (log 12). -/
def abortTest (result : TestResult) (st : BbuId → State → BbuState) (s : State) : State :=
  let t := s.charge.test
  match t.bbu with
  | none => s
  | some i =>
    let s := s.setCharge
      { s.charge with
        test :=
          { t with
            running := false
            timer := none
            result := result
            d := if Config.keepsDiscardedCharge then t.d else 0
            residue := if Config.keepsDiscardedCharge then t.residue else 0 } }
    let s := raise causeTest 0 (BitVec.ofNat 8 result.code) s
    changeBbu i (st i s) s

/-- BBU `i` is the one under test. -/
def State.testing (s : State) (i : BbuId) : Bool := s.charge.test.running && s.charge.test.bbu == some i

/-- A BBU goes to FAULT or ABSENT, which ends its test (R37, R38, R57). -/
def failBbu (i : BbuId) (st : BbuState) (s : State) : State :=
  if s.testing i then abortTest .abortedFault (fun _ _ => st) s else changeBbu i st s

/-- R55: D takes the delivered charge of one sample. -/
def TestRecord.deliver (t : TestRecord) (c : Int) : TestRecord :=
  let a := (t.d : Int) * 25600 + t.residue - c * 256
  if a < 0 then { t with d := 0, residue := 0 }
  else
    let d := (a / 25600).toNat
    if 16777215 < d then { t with d := 16777215, residue := 0 } else { t with d := d, residue := (a % 25600).toNat }

/-- R56: the test of BBU `i` completes. The reserve recompute is the sample set's own. D_rated is the one set now, not the one
at the start of the test (DESIGN CHOICE, log 35). The unstored-changes flag is set when the test changes Qfull (R175). -/
def completeTest (i : BbuId) (s : State) : State :=
  let t := s.charge.test
  let set := s.settings.bbus[i]
  let qFull := max (set.qFloor + 1) (min 16777215 (set.qFloor + t.d))
  let s := s.setBbuSettings i { set with qFull := qFull, margin := min set.margin qFull }
  let s := s.setStore { s.store with unstored := s.store.unstored || qFull != set.qFull }
  let b := s.charge.bbus[i]
  let s := s.setBbu i
    { b with
      q := set.qFloor
      r := 0
      calibrated := true
      bottomed := false
      full := false
      health := some (min 255 (t.d * 100 / set.dRated)) }
  let s := s.setCharge { s.charge with test := { t with running := false, timer := none, result := .complete } }
  let s := raise causeTest t.d (BitVec.ofNat 8 TestResult.complete.code) s
  changeBbu i .charging s

/-! ### Requests of the holdup controller -/

/-- The states that blackout empties (R40). -/
def BbuState.depletes : BbuState → Bool
  | .standby | .charging | .discharging => true
  | _ => false

/-- BBU `i` in a state of `from_` takes `new`, followed by a reserve recompute (R47). -/
def shiftBbu (from_ : BbuState → Bool) (new : BbuState) (i : BbuId) (s : State) : State :=
  if from_ s.charge.bbus[i].state then recomputeReserve (changeBbu i new s) else s

/-- Every BBU in a state of `from_` takes `new`, one after another in index order (log 13). -/
def shiftBbus (from_ : BbuState → Bool) (new : BbuState) (s : State) : State :=
  bbuIds.foldl (fun s i => shiftBbu from_ new i s) s

/-- R40, R71: blackout removes DIS_EN from every BBU. -/
def depleteAll (s : State) : State := shiftBbus BbuState.depletes .depleted s

/-- R40, R66: ONLINE returns every DEPLETED BBU to CHARGING. -/
def refillDepleted (s : State) : State := shiftBbus (· == .depleted) .charging s

/-- R57: BRIDGING ends a running test. -/
def abortTestForAc (s : State) : State :=
  if s.charge.test.running then recomputeReserve (abortTest .abortedAc (fun _ _ => .discharging) s) else s

/-! ### One BBU on one sample set (R37 to R45, R55, R56) -/

/-- R43 and R44: Q, r and the flags after a sample of current `c`; the Bool says that the counter bottomed. -/
def integrate (set : BbuSettings) (b : Bbu) (c : Int) : Bbu × Bool :=
  let d := if 0 < c then c * set.eta else c * 256
  let a := (b.q : Int) * 25600 + b.r + d
  if a < 0 then ({ b with q := 0, r := 0, full := false, bottomed := true }, true)
  else if (set.qFull : Int) ≤ a / 25600 then ({ b with q := set.qFull, r := 0, full := true }, false)
  else ({ b with q := (a / 25600).toNat, r := (a % 25600).toNat, full := false }, false)

/-- R43, R44, R52 and R55 for BBU `i`; the Bool says that it bottomed. The elapsed seconds of a test count from the recorded
whole second of its start (DESIGN CHOICE, log 36). -/
def integrateBbu (i : BbuId) (s : State) : State × Bool :=
  let b := s.charge.bbus[i]
  if b.state = .absent then (s, false)
  else
    let c := s.pubValue (bbuIPoint i)
    let r := integrate s.settings.bbus[i] b c
    let s := s.setBbu i r.1
    let s := if r.2 && b.state.counted then haltTable s else s
    let s :=
      if s.testing i then
        let t := s.charge.test.deliver c
        s.setCharge { s.charge with test := { t with elapsed := s.seconds - t.start } }
      else s
    (s, r.2)

/-- R45: the anchor condition of the set just published. -/
def State.anchorHolds (s : State) (i : BbuId) : Bool :=
  let set := s.settings.bbus[i]
  decide ((set.vFloat : Int) ≤ s.pubValue (bbuVPoint i) ∧ 0 ≤ s.pubValue (bbuIPoint i) ∧
    s.pubValue (bbuIPoint i) ≤ (set.iTaper : Int))

/-- R45: the anchor, raised as ANCHORED in place of STANDBY. -/
def anchorBbu (i : BbuId) (s : State) : State :=
  let qFull := s.settings.bbus[i].qFull
  let b := { s.charge.bbus[i] with q := qFull, r := 0, calibrated := true, full := true, bottomed := false }
  raise (causeBbu i) qFull codeAnchored (moveBbu i .standby (s.setBbu i b))

/-- R39 and R45 for a BBU in CHARGING that is not discharging. -/
def judgeCharging (i : BbuId) (s : State) : State :=
  let set := s.settings.bbus[i]
  let b := s.charge.bbus[i]
  if set.anchor then
    if s.anchorHolds i then
      if set.taperTime ≤ b.taper + 1 then anchorBbu i s else s.setBbu i { b with taper := b.taper + 1 }
    else s.setBbu i { b with taper := 0 }
  else if b.full then changeBbu i .standby s
  else s.setBbu i { b with taper := 0 }

/-- R38, R39, R40 and R56 for a present BBU, by its state, after integration. On a set that carries both T_crit and the cut-off
voltage of a test, which R57 lets come in either order, FAULT comes first (DESIGN CHOICE, log 50). -/
def judgeBbu (i : BbuId) (s : State) : State :=
  let set := s.settings.bbus[i]
  let b := s.charge.bbus[i]
  let t := s.pubValue (bbuTPoint i)
  let v := s.pubValue (bbuVPoint i)
  let discharging := decide (s.pubValue (bbuIPoint i) ≤ -(set.detect : Int))
  if b.state = .absent then s
  else if b.state = .fault then
    if !b.faultIn && decide (t < set.tCrit) then changeBbu i (s.restOf i) s else s
  else if set.tCrit ≤ t then failBbu i .fault s
  else
    match b.state with
    | .standby =>
      if discharging then changeBbu i .discharging s
      else if b.q ≤ set.rechargePoint then changeBbu i .charging s
      else s
    | .charging => if discharging then changeBbu i .discharging s else judgeCharging i s
    | .discharging =>
      if v ≤ (set.vCutoff : Int) then changeBbu i .depleted s
      else if discharging then s
      else changeBbu i (s.restOf i) s
    | .testing => if s.testing i && decide (v ≤ (set.vCutoff : Int)) then completeTest i s else s
    | .depleted => if s.online then changeBbu i .charging s else s
    | .absent | .fault => s

/-- R42: BOTTOMED is raised after the state change of the same set. -/
def raiseBottomed (i : BbuId) (s : State) : State := raise (causeBbu i) 0 codeBottomed (reportBbu i s)

/-- R36: a sample set takes T_crit and the discharge-detect current as they are set. -/
def refreshBbu (i : BbuId) (s : State) : State :=
  s.setBbu i
    { s.charge.bbus[i] with critInForce := s.settings.bbus[i].tCrit, detectInForce := s.settings.bbus[i].detect }

/-- One BBU on one sample set; `fresh` marks the first set after a reset, which classifies it first (R37). -/
def sampleBbu (fresh : Bool) (i : BbuId) (s : State) : State :=
  let s := refreshBbu i s
  let s := if fresh then driveBbu i (changeBbu i (s.classOf i) s) else s
  let r := integrateBbu i s
  let s := judgeBbu i r.1
  if r.2 then raiseBottomed i s else s

/-- The unit on one sample set: the four BBUs, then one reserve recompute (R47). -/
def sampleCharge (fresh : Bool) (s : State) : State :=
  recomputeReserve (bbuIds.foldl (fun s i => sampleBbu fresh i s) s)

end Sys2Proof.Machine
end

