-- ==== Sys2Proof/Machine/RegulatorOps.lean ====
section
/-! DEFINITION. The recharge regulator (chapter 5): OFF, START, the charging set, the yield, and what a sample set, a headroom
publication, a reserve publication, a head report and the two timers do to it. -/

namespace Sys2Proof.Machine

/-- P(x) at the last published BUS_V (R84). -/
def State.chargePowerOf (s : State) (x : Nat) : Int := (chargePower x s.busV : Nat)

/-- A recompute that follows a change of I_set, and only a change (R26, R85). -/
def recomputeIfSet (before : Nat) (s : State) : State := if s.recharge.iSet = before then s else recompute s

/-- OFF from any state (R80, R83): I_set and the shares 0, timers cancelled, yield flag cleared. -/
def regulatorOff (s : State) : State :=
  let before := s.recharge.iSet
  let s := reshare (s.setRecharge
    { s.recharge with state := .off, iSet := 0, step := none, floorTimer := none, yielded := false })
  recomputeIfSet before (reportCondition causeRecharge false s)

/-- The step timer's start value (R84 to R86). -/
def State.stepTime (s : State) : Timer := some (s.settings.recharge.stepInterval * 100)

/-- CRUISE at a setpoint, with the step timer started (R84, R86, R89). -/
def enterCruise (iSet : Nat) (s : State) : State :=
  let before := s.recharge.iSet
  let s := reshare (s.setRecharge
    { s.recharge with state := .cruise, iSet := iSet, step := s.stepTime, floorTimer := none })
  recomputeIfSet before (reportCondition causeRecharge false s)

/-- THERMAL_HOLD (R84, R89): I_floor, timers cancelled, cause 136 with the source temperature, before what the recompute raises
(DESIGN CHOICE, log 59). -/
def enterThermal (s : State) : State :=
  let before := s.recharge.iSet
  let t := s.sourceTemp
  let s := reshare (s.setRecharge
    { s.recharge with
      state := .thermalHold
      iSet := s.settings.recharge.iFloor
      step := none
      floorTimer := none
      yielded := false })
  recomputeIfSet before (raise causeRecharge t codeThermal (reportCondition causeRecharge true s))

/-- PAUSED by the regulator's own decision (R84, R86). -/
def pauseRegulator (code : Byte) (s : State) : State :=
  recomputeIfSet s.recharge.iSet (enterPaused s.recharge.lastH code s)

/-- START (R84), left in the same event. -/
def startRegulator (s : State) : State :=
  let set := s.settings.recharge
  if memberCount s.recharge.members = 0 then regulatorOff s
  else if s.recharge.lastH - s.chargePowerOf set.iStart < (set.hTgt : Int) then pauseRegulator codeNoRoom s
  else if s.recharge.tChgLimInForce < s.sourceTemp then enterThermal s
  else enterCruise set.iStart s

/-- R80: the charging set formed afresh. -/
def formSet (s : State) : State :=
  let old := s.recharge.members
  let new := s.chargingSet
  let s := if new = old then s else reshare (s.setRecharge { s.recharge with members := new })
  if memberCount new = 0 then (if s.recharge.state = .off then s else regulatorOff s)
  else if memberCount old = 0 ∧ s.recharge.state = .off ∧ s.recharge.lastHoldup = .online then startRegulator s
  else s

/-- The restart threshold of PAUSED (R87). -/
def State.restartThreshold (s : State) : Int :=
  (s.settings.recharge.hTgt : Int) + s.settings.recharge.hTol + s.chargePowerOf s.settings.recharge.iStart

/-- R87. -/
def restartIfRoom (s : State) : State := if s.restartThreshold ≤ s.recharge.lastH then startRegulator s else s

/-- Lower bound of the headroom band (R85). -/
def State.bandLow (s : State) : Int := (s.settings.recharge.hTgt : Int) - s.settings.recharge.hTol
/-- Upper bound of the headroom band (R85). -/
def State.bandHigh (s : State) : Int := (s.settings.recharge.hTgt : Int) + s.settings.recharge.hTol

/-! ### Yield (R90) -/

/-- R90 steps 1 to 3, never above the I_set in force (repeated yields only lower it: DEDUCED, log 14). -/
def State.yieldTo (s : State) (need : Nat) : Nat :=
  let needed := (need : Int) - s.recharge.lastH
  let target := s.chargePowerOf s.recharge.iSet - needed
  let iFloor := s.settings.recharge.iFloor
  if s.busV = 0 then iFloor
  else min s.recharge.iSet (max iFloor (target * 1000 / (s.busV : Int)).toNat)

/-- R90: the yield, when its conditions hold. -/
def tryYield (s : State) : State :=
  match s.recharge.lastHead with
  | none => s
  | some need =>
    if s.recharge.state = .cruise ∧ s.recharge.lastInhibit = false ∧ s.settings.recharge.iFloor < s.recharge.iSet then
      let before := s.recharge.iSet
      recomputeIfSet before (reshare (s.setRecharge
        { s.recharge with iSet := s.yieldTo need, step := s.stepTime, yielded := true }))
    else s

/-! ### Events of the regulator -/

/-- R82: a sample set takes the temperature source and T_chg_lim as they are set. -/
def refreshRecharge (s : State) : State :=
  s.setRecharge
    { s.recharge with
      sourceInForce := s.settings.recharge.source
      tChgLimInForce := s.settings.recharge.tChgLim }

/-- R80, R87, R89 on a sample set. The charging set is formed first, and the tests of R87 and R89 are made in the state which
that leaves (DESIGN CHOICE, log 40). -/
def sampleRegulator (s : State) : State :=
  let s := formSet (refreshRecharge s)
  let lim := s.recharge.tChgLimInForce
  match s.recharge.state with
  | .off => s
  | .cruise | .floor => if lim < s.sourceTemp then enterThermal s else s
  | .paused => restartIfRoom s
  | .thermalHold => if s.sourceTemp ≤ lim - 2 then enterCruise s.settings.recharge.iFloor s else s

/-- R86, R87, R90 on a headroom publication, by the state it finds (log 14). -/
def regulatorHeadroom (h : Int) (s : State) : State :=
  let s := s.setRecharge { s.recharge with lastH := h }
  match s.recharge.state with
  | .off | .thermalHold => s
  | .floor => if s.bandLow ≤ h then enterCruise s.recharge.iSet s else s
  | .paused => restartIfRoom s
  | .cruise => tryYield s

/-- R80, R90 on a reserve publication. The yield is tested in the state the publication finds (log 14). -/
def regulatorReserve (p : ReservePub) (s : State) : State :=
  let found := s.recharge.state
  let s := formSet (s.setRecharge { s.recharge with lastBand := p.band, lastInhibit := p.inhibit })
  if found = .cruise then tryYield s else s

/-- R90, R91 on a head report. -/
def regulatorHead (head : Option Nat) (s : State) : State :=
  let keep := head.isSome && head == s.recharge.lastHead
  tryYield (s.setRecharge { s.recharge with lastHead := head, yielded := s.recharge.yielded && keep })

/-- R85 on a step expiry in CRUISE, judged on the last H. -/
def stepRegulator (s : State) : State :=
  let set := s.settings.recharge
  let x := s.recharge
  let h := x.lastH
  if s.bandHigh < h then
    let next := if x.yielded then x.iSet else min (x.iSet + set.deltaI) set.iMax
    enterCruise next s
  else if s.bandLow ≤ h then enterCruise x.iSet s
  else if set.iFloor < x.iSet then enterCruise (max (x.iSet - set.deltaI) set.iFloor) s
  else
    s.setRecharge
      { x with state := .floor, step := none, floorTimer := some (set.floorTime * 1000), yielded := false }

end Sys2Proof.Machine
end

