-- ==== Sys2Proof/Machine/HoldupOps.lean ====
section
/-! DEFINITION. The holdup controller (chapter 4): its transitions with the requests they hand out, the transfer record, the
start decision, and what a sample set, an input change, a reserve publication and its timers do to it. -/

namespace Sys2Proof.Machine

/-! ### Transfer record (R75 to R77) -/

/-- BUS_V for a new record: 65,535 when stale or none (R75). -/
def State.recordBusV (s : State) : Nat := if s.sense.pub[busVPoint].stale then 65535 else s.busV

/-- R75: the record is offered the event that has just been counted. -/
def offerRecord (trigger : Trigger) (s : State) : State :=
  let t := s.holdup.record
  let new : Transfer :=
    if t.valid then { t with since := min 255 (t.since + 1) }
    else if t.isOpen then t
    else
      { Transfer.empty with
        isOpen := true
        seqNo := s.holdup.events
        start := s.seconds
        trigger := some trigger
        rStart := s.holdup.lastR
        tEstStart := s.holdup.lastTEst
        minBusV := s.recordBusV }
  s.setHoldup { s.holdup with record := new }

/-- R77. -/
def Transfer.close (t : Transfer) (why : EndReason) (r : Nat) : Transfer :=
  if t.isOpen then { t with isOpen := false, valid := true, rEnd := r, endReason := some why } else t

def closeRecord (why : EndReason) (s : State) : State :=
  s.setHoldup { s.holdup with record := s.holdup.record.close why s.holdup.lastR }

/-- R76: one sample set of an open record. -/
def followRecord (s : State) : State :=
  let t := s.holdup.record
  if t.isOpen then
    s.setHoldup
      { s.holdup with
        record :=
          { t with
            duration := min 4294967295 (t.duration + 1)
            minBusV := if s.sense.pub[busVPoint].stale then t.minBusV else min t.minBusV s.busV } }
  else s

/-! ### Changes of state (R74) -/

/-- The condition of cause 130. -/
def HoldupState.alarming : HoldupState → Bool
  | .bridging | .returning | .blackout => true
  | .starting | .online => false

/-- Snapshot code of cause 130 that names no state (R172). -/
def codeLimit : Byte := 1

/-- A change of holdup state: the readers' copies, the condition and cause 130 (R74), raised before what the requests of the
transition raise (DESIGN CHOICE, log 59). -/
def moveHoldup (st : HoldupState) (s : State) : State :=
  let s := s.setHoldup { s.holdup with state := st }
  let s := s.setSeq { s.seq with lastHoldup := st }
  let s := s.setRecharge { s.recharge with lastHoldup := st }
  raise causeHoldup s.busV (stateCode st.code) (reportCondition causeHoldup st.alarming s)

/-- R71: entry to BLACKOUT with its requests. -/
def enterBlackout (s : State) : State :=
  let s := s.setHoldup { s.holdup with settle := none, bridging := none, collapse := none, eventOpen := false }
  let s := moveHoldup .blackout (closeRecord .blackout s)
  seqEvent (disarmTable (depleteAll (shedAll s)))

/-- R70: an entry to BRIDGING judges the number of counted BBUs last taken. -/
def judgeCounted (s : State) : State := if s.holdup.lastCounted = 0 then enterBlackout s else s

/-- R62, R63, R68: the transition into BRIDGING that opens an event. -/
def openEvent (trigger : Trigger) (s : State) : State :=
  let tMax := s.settings.holdup.tMax
  let s := s.setHoldup
    { s.holdup with
      events := min 65535 (s.holdup.events + 1)
      eventOpen := true
      settle := none
      collapse := none
      bridging := if 0 < tMax then some (tMax * 1000) else none }
  let s := moveHoldup .bridging (offerRecord trigger s)
  judgeCounted (seqEvent (leaveDeficit (regulatorOff (abortTestForAc (armOnBridge s)))))

/-- R64, R72. -/
def enterReturn (s : State) : State :=
  let s := s.setHoldup { s.holdup with settle := some (s.settings.holdup.tSettle * 100), collapse := none }
  seqEvent (moveHoldup .returning s)

/-- R67, R72: RETURN back to BRIDGING; an open record counts the flicker. -/
def flicker (s : State) : State :=
  let t := s.holdup.record
  let s := s.setHoldup
    { s.holdup with
      settle := none
      record := if t.isOpen then { t with flickers := min 255 (t.flickers + 1) } else t }
  judgeCounted (seqEvent (moveHoldup .bridging s))

/-! ### ONLINE (R65, R66, R108, R121) -/

/-- R121: what an ONLINE entry withdraws. -/
def Slot.withdrawable (x : Slot) : Bool :=
  (x.state == .notice || x.state == .held) && (x.reason == .reserve || x.reason == .limit)

/-- R121 at the ONLINE entry: the slots are withdrawn in ascending slot order, each with its recompute (DESIGN CHOICE, log 58). -/
def withdrawSheds (s : State) : State :=
  slotIds.foldl (fun s n => if s.seq.slots[n].withdrawable then withdrawSlot n s else s) s

/-- R108: the slots that the first ONLINE entry after a reset queues. -/
def State.autoStarts (s : State) (n : SlotId) : Bool :=
  let x := s.seq.slots[n]
  let set := s.settings.slots[n]
  s.settings.sequence.autoStart && !s.seq.onlineSeen && x.state == .off && set.enabled &&
    (match s.lastReset with
      | .powerOn => true
      | .pin => x.adoptedOff && set.autoRestore)

/-- R108: auto-start and restoration are one queue change. -/
def queueAtOnline (s : State) : State :=
  let auto := slotIds.filter s.autoStarts
  let s := auto.foldl (fun s n => enterQueue n s) s
  let s := slotIds.foldl (fun s n => restoreSlot n s) s
  s.setSeq { s.seq with onlineSeen := true }

/-- R49, R66. -/
def disarmOnBridge (s : State) : State :=
  if s.settings.targets.mode = .onBridge then disarmTable s else s

/-- R65, R66: entry to ONLINE. -/
def enterOnline (s : State) : State :=
  let s := s.setHoldup { s.holdup with settle := none, bridging := none, collapse := none, eventOpen := false }
  let s := moveHoldup .online (closeRecord .acReturn s)
  let s := withdrawSheds (refillDepleted (disarmOnBridge s))
  recompute (startRegulator (seqEvent (queueAtOnline s)))

/-! ### AC (R60) -/

/-- R62. -/
def State.triggerOf (s : State) (count : Nat) : Trigger :=
  if count < s.settings.holdup.nAcMin then .acCount else .busSag

/-- R60: the AC count and the last evaluation. -/
def evaluateAc (s : State) : State :=
  s.setHoldup
    { s.holdup with
      acCount := s.acPinCount
      acEval := acEvaluation s.settings.holdup s.acPinCount s.busV }

/-- The transition the last evaluation causes, by state (R62, R64, R67, R72). -/
def judgeAc (s : State) : State :=
  match s.holdup.state, s.holdup.acEval with
  | .online, .failed => openEvent (s.triggerOf s.holdup.acCount) s
  | .bridging, .good => enterReturn s
  | .returning, .failed => flicker s
  | .blackout, .good => enterReturn s
  | _, _ => s

/-- R69: the collapse timer on a sample set that finds BRIDGING and leaves it BRIDGING. -/
def judgeCollapse (s : State) : State :=
  let x := s.holdup
  if s.busV < s.settings.holdup.vCollapse then
    match x.collapse with
    | some _ => s
    | none => s.setHoldup { x with collapse := some (s.settings.holdup.collapseTime * 10) }
  else s.setHoldup { x with collapse := none }

/-- R73: the first sample set after a reset, noted for the start decision with what that set's settings make of it (R61). -/
def noteFirstSet (s : State) : State :=
  match s.holdup.first with
  | some _ => s
  | none =>
    let held := decide (s.settings.holdup.vCollapse ≤ s.busV)
    s.setHoldup { s.holdup with first := some ⟨s.holdup.acEval, s.triggerOf s.holdup.acCount, held⟩ }

/-- The controller on a sample set (R60, R69, R73, R76). -/
def sampleHoldup (s : State) : State :=
  let found := s.holdup.state
  let s := evaluateAc (followRecord s)
  if found = .starting then noteFirstSet s
  else
    let s := judgeAc s
    if found = .bridging ∧ s.holdup.state = .bridging then judgeCollapse s else s

/-- The controller on a change of a PRESENT or AC_OK input (R60); in STARTING it is recorded at the pins alone. -/
def inputHoldup (s : State) : State := if s.holdup.state = .starting then s else judgeAc (evaluateAc s)

/-! ### Reserve publication (R70, R73) -/

/-- R73: the decision on the first sample set. -/
def startDecision (f : FirstSet) (s : State) : State :=
  if f.acEval = .good then enterOnline s
  else if 0 < s.holdup.lastCounted ∧ f.busHeld = true then openEvent f.trigger s
  else enterBlackout s

/-- The controller on a reserve publication. -/
def reserveHoldup (p : ReservePub) (s : State) : State :=
  let s := s.setHoldup { s.holdup with lastR := p.r, lastTEst := p.tEst, lastCounted := p.counted }
  match s.holdup.state with
  | .starting =>
    match s.holdup.first with
    | some f => if p.afterSet then startDecision f s else s
    | none => s
  | .bridging => judgeCounted s
  | _ => s

end Sys2Proof.Machine
end

