-- ==== Sys2Proof/Machine/SenseOps.lean ====
section
/-! DEFINITION. The sense scanner (chapter 1) and the budget unit's part of a sample set (R20). -/

namespace Sys2Proof.Machine

/-- Snapshot codes of causes 0 to 28 (R14, R5). -/
def codeAboveLimit : Byte := 1
def codeBelowLimit : Byte := 2
def codeStale : Byte := 3
def codeRailLow : Byte := 1
def codeRailHigh : Byte := 2

def limitCode : Direction → Byte
  | .above => codeAboveLimit
  | .below => codeBelowLimit

/-- R14: the condition of an analog point's cause. -/
def Point.alarming (x : Point) : Bool := x.alarm || x.stale

/-- R4: a raw code that had not put the point in a stale run. -/
def startsRun (raw : Option (BitVec 12)) : Bool :=
  match raw with
  | none => true
  | some c => !railCode c

/-- R2 to R4 and R9 to R12: the record of an analog point after a code. -/
def nextPoint (p : AnalogId) (set : PointSettings) (x : Point) (c : BitVec 12) : Point :=
  if railCode c then { x with raw := some c, stale := true }
  else
    let v := scaledValue p set c
    { raw := some c, value := v, stale := false, alarm := alarmNext set v x.alarm }

/-- One analog point takes a code: record, condition, then STALE or the alarm's activation (R4, R14). -/
def scanAnalog (p : AnalogId) (c : BitVec 12) (s : State) : State :=
  let set := s.settings.points[p]
  let q := AnalogId.point p
  let old := s.sense.points[q]
  let new := nextPoint p set old c
  let s := reportCondition (causePoint q) new.alarming (s.setPoint q new)
  if railCode c then (if startsRun old.raw then raise (causePoint q) old.value codeStale s else s)
  else if new.alarm && !old.alarm then raise (causePoint q) new.value (limitCode set.direction) s
  else s

/-- One rope point takes a code (R5). -/
def scanRope (z : ZoneId) (c : BitVec 12) (s : State) : State :=
  let q := ropePoint z
  let old := s.sense.points[q]
  let s := s.setPoint q { old with raw := some c, value := (c.toNat : Int), stale := false }
  let s := reportCondition (causePoint q) (railCode c) s
  if railCode c && old.raw != some c then
    raise (causePoint q) (c.toNat : Int) (if c = 0 then codeRailLow else codeRailHigh) s
  else s

/-- R1, R6: the load window, I_avg and the publication. -/
def publishSet (s : State) : State :=
  let x := s.sense
  let busI := x.points[busIPoint]
  let window := windowNext x.window (!busI.stale) busI.value.toNat
  s.setSense
    { x with
      window := window
      iAvg := windowMean window
      pub := x.points
      setNo := (x.setNo + 1) % 4294967296
      seen := true }

/-- The scanner's whole interval (R1, section 1.9). -/
def scanSet (codes : Vector (BitVec 12) 29) (s : State) : State :=
  let s := analogIds.foldl (fun s p => scanAnalog p codes[AnalogId.point p] s) s
  publishSet (zoneIds.foldl (fun s z => scanRope z codes[ropePoint z] s) s)

/-- The budget unit on a sample set: six reclassifications, then capacity and headroom (R20, R24, R26). -/
def sampleBudget (s : State) : State :=
  recompute (recomputeCapacity (psuIds.foldl (fun s k => reclassifyPsu k s) s))

end Sys2Proof.Machine
end

