-- ==== Sys2Proof/Machine/LeakOps.lean ====
section
/-! DEFINITION. The leak monitor (chapter 9): zone states, the rope on a sample set, the tray report on a cycle end,
confirmation, fallback and WET entry. -/

namespace Sys2Proof.Machine

/-- A zone takes a record; a SUSPECT entry can start a quiet line (R135, R147). The condition of cause 32+z follows the
state (R152). -/
def moveZone (z : ZoneId) (x : Zone) (s : State) : State :=
  let keep := x.state == .suspect
  let x := { x with awaitSet := x.awaitSet && keep, awaitCycle := x.awaitCycle && keep }
  lineWatch (reportCondition (causeZoneWet z) (x.state == .wet) (s.setZone z x))

/-- Snapshot codes of cause 40+z. -/
def codeShort : Byte := 1
def codeOpen : Byte := 2

/-- The rope code as a snapshot value; a WET entry that no sample set has preceded has none, and its value is free (log 10). -/
def State.ropeValue (s : State) (z : ZoneId) : Int :=
  match s.leak.zones[z].code with
  | some c => (c.toNat : Int)
  | none => s.freshWord.toInt

/-- Spends the free value that `ropeValue` takes. -/
def spendRope (z : ZoneId) (s : State) : State :=
  match s.leak.zones[z].code with
  | some _ => s
  | none => s.spendFree

/-- R151: confirmation of a zone. Cause 32+z comes before what the shed of its slots raises (DESIGN CHOICE, log 59). -/
def enterWet (z : ZoneId) (how : Confirmation) (s : State) : State :=
  let set := s.settings.zones[z]
  let x := s.leak.zones[z]
  let value := s.ropeValue z
  let s := moveZone z
    { x with state := .wet, confirmation := how, valve := x.valve || set.policy.closesValve } (spendRope z s)
  let s := raise (causeZoneWet z) value (BitVec.ofNat 8 how.code) s
  let s := lockZone z s
  if set.policy = .valveAndShed then shedZone z s else s

/-- R150: the fallback of a zone in SUSPECT. -/
def fallBack (z : ZoneId) (s : State) : State :=
  let x := s.leak.zones[z]
  if x.state = .suspect ∧ x.ropeCount = 0 ∧ x.trayCount = 0 ∧ x.awaitSet = false ∧ x.awaitCycle = false then
    moveZone z { x with state := if x.ropeFault then .fault else .dry } s
  else s

/-- R149 at an update of one counter: the zone's confirmation, if any. `count` is the counter updated, `k` its setting. -/
def confirmation (x : Zone) (count k : Nat) (alone : Confirmation) : Confirmation :=
  if x.state = .suspect then
    if 0 < x.ropeCount ∧ 0 < x.trayCount then .both else if k ≤ count then alone else .none
  else .none

/-- R149, then R150. -/
def judgeZone (z : ZoneId) (how : Confirmation) (s : State) : State :=
  if how = .none then fallBack z s else enterWet z how s

/-- R147, R148 on a sample set: the rope counter of a zone in DRY or SUSPECT. -/
def countRope (z : ZoneId) (wet : Bool) (s : State) : State :=
  let x := s.leak.zones[z]
  match x.state with
  | .dry => if wet then moveZone z { x with state := .suspect, ropeCount := 1, trayCount := 0 } s else s
  | .suspect => s.setZone z { x with ropeCount := if wet then min 255 (x.ropeCount + 1) else 0, awaitSet := false }
  | .wet | .fault => s

/-- R147, R148 on a cycle end: the tray counter of a zone in DRY, FAULT or SUSPECT. -/
def countTray (z : ZoneId) (accepted : Bool) (s : State) : State :=
  let x := s.leak.zones[z]
  match x.state with
  | .dry | .fault => if accepted then moveZone z { x with state := .suspect, ropeCount := 0, trayCount := 1 } s else s
  | .suspect =>
    s.setZone z { x with trayCount := if accepted then min 255 (x.trayCount + 1) else 0, awaitCycle := false }
  | .wet => s

/-- The rope is not trusted at this reading. -/
def RopeClass.broken : RopeClass → Bool
  | .short | .open => true
  | _ => false

def ropeFaultCode (cls : RopeClass) : Byte := if cls = .short then codeShort else codeOpen

/-- R145: the rope fault flag of a zone that is not WET, and the moves it makes. `old` is the class before this reading:
a flag that stays set is raised again when it was the other broken class, and not across a reading between the two (DESIGN
CHOICE, log 52). -/
def judgeRope (z : ZoneId) (old : RopeClass) (s : State) : State :=
  let x := s.leak.zones[z]
  if x.cls.broken then
    if x.ropeFault then
      if old.broken && old != x.cls then raise (causeRopeFault z) (s.ropeValue z) (ropeFaultCode x.cls) s else s
    else
      let next : ZoneState :=
        match x.state with
        | .dry => .fault
        | .suspect => if 0 < x.trayCount then .suspect else .fault
        | st => st
      let ropeCount := if x.state = .suspect then 0 else x.ropeCount
      let s := moveZone z { x with state := next, ropeFault := true, ropeCount := ropeCount } s
      raise (causeRopeFault z) (s.ropeValue z) (ropeFaultCode x.cls) (reportCondition (causeRopeFault z) true s)
  else if x.cls = .dry ∧ x.ropeFault = true then
    let s := moveZone z { x with state := if x.state = .fault then .dry else x.state, ropeFault := false } s
    reportCondition (causeRopeFault z) false s
  else s

/-- One zone on a sample set (R144 to R150, R152). In WET the rope is recorded and not judged, a set fault flag included (DEDUCED,
log 53). -/
def sampleZone (z : ZoneId) (s : State) : State :=
  let set := s.settings.zones[z]
  let x := s.leak.zones[z]
  match s.sense.pub[ropePoint z].raw with
  | none => s
  | some c =>
    let s := s.setZone z { x with code := some c, cls := ropeClass set x.cls c }
    if x.state = .wet then s
    else
      let s := judgeRope z x.cls s
      let y := s.leak.zones[z]
      let s := countRope z (y.cls == .wet && !y.ropeFault) s
      let y := s.leak.zones[z]
      judgeZone z (confirmation y y.ropeCount set.kRope .rope) s

def sampleLeak (s : State) : State := zoneIds.foldl (fun s z => sampleZone z s) s

/-- One zone on a cycle end (R146 to R152). -/
def cycleZone (z : ZoneId) (report held : Bool) (s : State) : State :=
  let set := s.settings.zones[z]
  let x := s.leak.zones[z]
  let s := s.setZone z { x with report := report, reportHeld := held }
  if x.state = .wet then s
  else
    let s := countTray z (report && set.acceptTray) s
    let y := s.leak.zones[z]
    judgeZone z (confirmation y y.trayCount set.kTray .tray) s

def cycleLeak (s : State) : State :=
  zoneIds.foldl (fun s z => cycleZone z (s.line.leak.getLsbD z.val) s.line.leakHeld s) s

end Sys2Proof.Machine
end

