-- ==== Sys2Proof/Machine/LineOps.lean ====
section
/-! DEFINITION. The slot status line (chapter 8): the samples decoded, the counts, the line state the hand-over of a cycle end,
and the two wires clock period by clock period (log 16). -/

namespace Sys2Proof.Machine

/-- Snapshot codes of cause 132. -/
def codeLineFailed : Byte := 1
def codeLineOk : Byte := 2

/-- R136: a slot that the part knows to be unpowered is read as released. -/
def Slot.believed (x : Slot) : Bool :=
  match x.state with
  | .off | .queued | .locked | .faulted => x.pg
  | _ => true

/-- The bits of the slots that satisfy a test, slot n at bit n. -/
def slotVector (f : SlotId → Bool) : BitVec 24 :=
  slotIds.foldl (fun v n => if f n then v ||| (1#24 <<< n.val) else v) 0

/-- R136: sampled bits as believed. -/
def State.believe (s : State) (bits : BitVec 24) : BitVec 24 :=
  slotVector fun n => bits.getLsbD n.val && s.seq.slots[n].believed

/-- R136: the leak-report vector of an attention vector. -/
def State.leakReports (s : State) (attention : BitVec 24) : BitVec 8 :=
  zoneIds.foldl (fun v z =>
    if slotIds.any fun n =>
        s.settings.slots[n].role == .leak && s.settings.slots[n].zone == some z && attention.getLsbD n.val
    then v ||| (1#8 <<< z.val) else v) 0

/-- R138: at least one contention. -/
def cycleFaulted (c : CycleSamples) : Bool := c.x != 0 || c.t != 0

/-- R138: the three counts after a cycle. -/
def Line.count (x : Line) (faulted : Bool) : Line :=
  if faulted then
    { x with faults := min 65535 (x.faults + 1), faultRun := min 3 (x.faultRun + 1), cleanRun := 0 }
  else { x with faultRun := 0, cleanRun := min 16 (x.cleanRun + 1) }

/-- R139: the line state after the counts. -/
def Line.judge (x : Line) (faulted : Bool) : LineState :=
  match x.state with
  | .ok => if faulted && x.faultRun == 3 then .failed else .ok
  | .failed => if !faulted && x.cleanRun == 16 then .ok else .failed

/-! ### SSL_DAT clock by clock (R130, R131, R134, R135) -/

/-- R131: whether the part drives SSL_DAT low in a phase of slot frame `n`, by the latched notice vector: in N when the slot's
bit is set, and nowhere else in the frame. -/
def drivesPhase (latched : BitVec 24) (n : SlotId) (phase : LinePhase) : Bool := phase == .n && latched.getLsbD n.val

/-- R130, R131, R135: one clock period at a place of the cycle. The part drives a start frame, but for clock 0 of a start by a
tray, which is that tray's own low; it drives its stop frame, by inference (DEDUCED, log 47); it releases an idle line and the gap
of CONTINUOUS mode. -/
def CycleState.clock (latched : BitVec 24) : CycleState → LineClock
  | .idle => .released
  | .startFrame byTray k => if byTray && k == 0 then .trayLow else .partLow
  | .slotFrame n phase => if drivesPhase latched n phase then .partLow else .released
  | .stopFrame _ => .partLow

/-- The phases of a slot frame in order, one clock period each (R130). -/
def linePhases : List LinePhase := [.n, .x, .a, .b, .r, .t]

/-- R130, R135: clocks 0 to 3 of a cycle, the start frame. -/
def startClocks (byTray : Bool) : List LineClock := [0, 1, 2, 3].map fun k => (CycleState.startFrame byTray k).clock 0

/-- R130, R131: clocks 4 to 147 of a cycle, the slot frames. -/
def slotClocks (latched : BitVec 24) : List LineClock :=
  slotIds.flatMap fun n => linePhases.map fun phase => (CycleState.slotFrame n phase).clock latched

/-- R130: a stop frame, from clock 148 on. -/
def stopClocks (clocks : Nat) : List LineClock := List.replicate clocks ((CycleState.stopFrame clocks).clock 0)

/-- R130, R134: the idle gap between two cycles of CONTINUOUS mode, eight clock periods released. A quiet line has none. -/
def gapClocks : LineMode → List LineClock
  | .continuous => List.replicate 8 (CycleState.idle.clock 0)
  | .quiet => []

/-- The stop frame of a cycle state. -/
def CycleState.stopFrameClocks : CycleState → List LineClock
  | .stopFrame clocks => stopClocks clocks
  | .idle | .startFrame _ _ | .slotFrame _ _ => []

/-- R130: a whole cycle with its gap, whose stop frame announces `mode`. -/
def cycleClocks (byTray : Bool) (latched : BitVec 24) (mode : LineMode) : List LineClock :=
  startClocks byTray ++ slotClocks latched ++ stopClocks mode.stopLength ++ gapClocks mode

/-! ### Cycle end -/

/-- R130, R136, R138, R139: the controller's own state at a cycle end. The stop frame has been driven, and the gap follows in
CONTINUOUS mode; the vectors are decoded from a clean cycle of a line that is OK, and kept or released otherwise. The latched notice
vector stays (log 42). -/
def closeCycle (c : CycleSamples) (s : State) : State :=
  let x := s.line.count (cycleFaulted c)
  let state := x.judge (cycleFaulted c)
  let decoded := !cycleFaulted c && state == .ok
  let attention := if decoded then s.believe c.a else x.attention
  s.setLine
    { x with
      state := state
      cycle := .idle
      wave := x.wave ++ x.cycle.stopFrameClocks ++ gapClocks x.mode
      cycleNo := (x.cycleNo + 1) % 4294967296
      attention := attention
      hold := if decoded then s.believe c.b else 0
      leak := if decoded then s.leakReports attention else x.leak
      leakHeld := !decoded }

/-- R139: cause 132 at a change of line state. -/
def reportLine (old : LineState) (s : State) : State :=
  if s.line.state = old then s
  else
    raise causeLine (s.line.faults : Nat) (if s.line.state = .failed then codeLineFailed else codeLineOk)
      (reportCondition causeLine (s.line.state == .failed) s)

/-- R137: one slot's attention cause. -/
def reportAttention (old : BitVec 24) (n : SlotId) (s : State) : State :=
  let now := s.line.attention.getLsbD n.val
  let s := reportCondition (causeAttention n) now s
  if now && !old.getLsbD n.val then
    raise (causeAttention n) (s.line.cycleNo : Nat) (stateCode s.seq.slots[n].state.code) s
  else s

/-- R137: the hold vector at the shed controller. -/
def cycleHolds (s : State) : State :=
  slotIds.foldl (fun s n => judgeHold (s.line.hold.getLsbD n.val) n s) s

/-- A whole cycle end (R136 to R139). R137 gives the owners no order: cause 132 comes first, then the attention causes by slot,
then what the holds and the zones raise (DESIGN CHOICE, log 51). -/
def endCycle (c : CycleSamples) (s : State) : State :=
  let old := s.line
  let s := reportLine old.state (closeCycle c s)
  let s := slotIds.foldl (fun s n => reportAttention old.attention n s) s
  lineWatch (cycleLeak (cycleHolds s))

/-- R135: the starts that the line in its present mode admits. -/
def State.admitsStart (s : State) (byTray : Bool) : Bool :=
  s.line.enabled && s.line.cycle == .idle &&
    (match s.line.mode with
      | .continuous => !byTray
      | .quiet => byTray || s.line.startDue)

/-! ### Cycle start -/

/-- R130, R135: the start frame is driven, by the part for its four clock periods or for three after the low clock of a tray. The
start meets what was due and cancels the survey timer. -/
def driveStartFrame (byTray : Bool) (s : State) : State :=
  s.setLine
    { s.line with cycle := .startFrame byTray 3, startDue := false, survey := none, wave := startClocks byTray }

/-- R131: the start frame ends with the notice vector latched, and slot frame 0 begins. -/
def latchNotices (s : State) : State :=
  s.setLine { s.line with cycle := .slotFrame 0 .n, latched := s.noticeVector }

/-- R131, R135: a cycle begins with its start frame and stands at its first slot frame (log 16). -/
def beginCycle (byTray : Bool) (s : State) : State := latchNotices (driveStartFrame byTray s)

/-! ### End of slot frame 23 -/

/-- R130, R131: the slot frames are driven from a phase on to the end of frame 23. -/
def driveSlotFrames (n : SlotId) (phase : LinePhase) (s : State) : State :=
  s.setLine
    { s.line with wave := s.line.wave ++ (slotClocks s.line.latched).drop (6 * n.val + phase.offset) }

/-- R134: the judgement at the end of slot frame 23. -/
def judgeMode (s : State) : State :=
  if s.continuousCondition then
    s.setLine { s.line with mode := .continuous, cycle := .stopFrame LineMode.continuous.stopLength }
  else
    s.setLine
      { s.line with
        mode := .quiet
        cycle := .stopFrame LineMode.quiet.stopLength
        survey := some (s.settings.line.survey * 10) }

/-! ### The outputs (R128 to R131) -/

/-- R130, R131: whether the part drives SSL_DAT low. In reset the line is idle and so released (R129). -/
def Line.drivesLow (x : Line) : Bool := x.cycle.clock x.latched == .partLow

/-- One period of SSL_CLK in microseconds: 50 kHz (R128). -/
def lineClockMicros : Nat := 20

/-- R129: SSL_CLK runs exactly while the line is enabled. -/
def Line.clockRuns (x : Line) : Bool := x.enabled

/-- The two parts of a clock period: from the falling edge, at which the part changes what it drives, and from the rising edge, at
which it samples (R128). -/
inductive ClockHalf where
  | afterFall | afterRise
  deriving DecidableEq, Repr

/-- The level of SSL_CLK, true for high: running, low after each falling edge and high after each rising one (R128); stopped, low
throughout (R129). R129 stops it so at the fall of RST_N; before the load that follows a power-on it is low too (DESIGN CHOICE, log
64). -/
def Line.clockHigh (x : Line) (half : ClockHalf) : Bool := x.clockRuns && half == .afterRise

end Sys2Proof.Machine
end

