-- ==== Sys2Proof/Machine/Queries.lean ====
section
/-! DEFINITION. The queries (GET requests): each reports the records as they stand when it is executed and changes nothing
(R17, R35, R59, R78, R79, R93, R111, R142, R155, R164, R171, R179). -/

namespace Sys2Proof.Machine

/-! ### Reports -/

def State.statusReport (s : State) : StatusReport where
  holdup := s.holdup.state
  acCount := s.holdup.acCount
  acEval := s.holdup.acEval
  eventOpen := s.holdup.eventOpen
  events := s.holdup.events
  settle := reportTime 100 s.holdup.settle
  bridging := reportTime 1000 s.holdup.bridging
  collapse := reportTime 10 s.holdup.collapse
  regulator := s.recharge.state
  iSet := s.recharge.iSet
  members := s.recharge.members
  shares := s.recharge.shares
  yielded := s.recharge.yielded
  sourceTemp := s.sourceTemp
  step := reportTime 100 s.recharge.step
  floorTime := reportTime 1000 s.recharge.floorTimer
  line := s.line.state
  lineMode := s.line.mode
  cycleRunning := s.line.cycle != .idle
  cycleNo := s.line.cycleNo
  faultRun := s.line.faultRun
  cleanRun := s.line.cleanRun
  faults := s.line.faults
  notices := s.noticeVector
  latched := s.line.latched
  attention := s.line.attention
  holds := s.line.hold
  leak := s.line.leak
  leakHeld := s.line.leakHeld
  survey := reportTime 10 s.line.survey
  lineSettings := s.settings.line
  alert := s.causes.alert
  seconds := s.seconds
  writing := s.store.writing.isSome
  unstored := s.store.unstored

/-- The settings of a point, if it is analog. -/
def State.analogSettings (s : State) (p : PointId) : Option PointSettings :=
  if h : p.val < 21 then some s.settings.points[(⟨p.val, h⟩ : AnalogId)] else none

def State.senseReport (s : State) (p : PointId) : SenseReport :=
  let x := s.sense.points[p]
  let analog := decide (p.val < 21)
  ⟨p, x.raw, x.value, x.stale, if analog then some x.alarm else none, s.analogSettings p⟩

/-- R35: an ABSENT PSU is reported with its presence flag false and its fields zero. -/
def State.psuReport (s : State) (k : PsuId) : PsuReport :=
  let u := s.budget.psus[k]
  let x := s.sense.pub[psuIPoint k]
  if u.state = .absent then ⟨k, false, .absent, false, false, 0, false, false⟩
  else ⟨k, true, u.state, u.acOk, u.dcOk, x.value, x.stale, x.alarm⟩

def State.budgetSummary (s : State) : BudgetSummary :=
  let b := s.budget
  ⟨b.nGood, b.cRaw, b.f, b.cap, b.sigma, b.pChg, b.h, b.hp, b.deficit, reportTime 100 b.timer⟩

/-- R59: an ABSENT BBU is reported with Q, r and the flags zero, and with its taper run and health as they stand (DESIGN CHOICE,
log 38). -/
def State.bbuReport (s : State) (i : BbuId) : BbuReport :=
  let b := s.charge.bbus[i]
  let set := s.settings.bbus[i]
  if b.state = .absent then ⟨i, false, .absent, 0, 0, false, false, false, b.taper, b.health, set⟩
  else ⟨i, true, b.state, b.q, b.r, b.calibrated, b.bottomed, b.full, b.taper, b.health, set⟩

/-- An entry of the target table at index n or above (R171). -/
def emptyTarget : TargetEntry := ⟨0, .falling, .noticeOnly, 0, .none⟩

def State.targetReport (s : State) (k : Nat) : TargetEntry := (s.settings.targets.entries[k]?).getD emptyTarget

/-- The place of a slot in the queue, from 0 at the head; 255 for none (R173). -/
def State.queuePlace (s : State) (n : SlotId) : Nat :=
  if s.seq.queue.contains n then s.seq.queue.idxOf n else 255

/-- Bits 0 to 5 of a slot record's flag byte (R173). -/
def slotFlags (set : SlotSettings) (x : Slot) : Nat :=
  (if set.enabled then 1 else 0) + (if set.autoRestore then 2 else 0) + (if set.role = .leak then 4 else 0) +
    (if x.restore then 8 else 0) + (if x.pg then 16 else 0) + (if x.en then 32 else 0)

/-- Remaining shed time in the unit of the running timer (R173). -/
def Slot.shedTime (x : Slot) : Nat :=
  match x.state with
  | .notice => reportTime 10 x.window
  | .held => reportTime 1000 x.hold
  | .draining => reportTime 1000 x.drain
  | _ => 0

def byteOf (n : Nat) : Byte := BitVec.ofNat 8 n
def wordBytes (n : Nat) : List Byte := bytes16 (BitVec.ofNat 16 n)

/-- The 22-byte slot record (R173). -/
def State.slotRecord (s : State) (n : SlotId) : List Byte :=
  let set := s.settings.slots[n]
  let x := s.seq.slots[n]
  [byteOf n.val, byteOf (slotFlags set x), byteOf set.cls.code, byteOf set.rank] ++ wordBytes set.pReq ++
    wordBytes set.pInrush ++ wordBytes set.soak ++
    [byteOf set.drainLimit, byteOf (match set.zone with | none => 255 | some z => z.val), byteOf x.state.code,
      byteOf x.reason.code, byteOf x.urgency.code, byteOf (s.queuePlace n)] ++
    wordBytes (reportTime 100 x.soak) ++ wordBytes x.shedTime ++ wordBytes (commitment set x)

def State.queueReport (s : State) : QueueReport where
  queue := s.seq.queue.map fun n => (n, s.settings.slots[n].need)
  holdup := s.seq.lastHoldup
  stagger := reportTime 1 s.seq.stagger
  targetInhibit := s.seq.targetInhibit
  gatedInhibit := s.seq.lastInhibit
  soakCount := s.soakCount
  maxSoak := s.settings.sequence.maxSoak
  h := s.seq.lastH
  headNeed := s.seq.queue.head?.map fun n => s.settings.slots[n].need
  lastReport := s.seq.lastReport

def State.zoneReport (s : State) (z : ZoneId) : ZoneReport :=
  let x := s.leak.zones[z]
  ⟨z, s.settings.zones[z], x.state, x.confirmation, x.code, x.cls, x.ropeFault, x.ropeCount, x.trayCount, x.report,
    x.reportHeld, x.valve, (s.zoneSlots z).map fun n => (n, s.seq.slots[n].state)⟩

/-- R164. An unassigned cause carries its flag and the record it has, which nothing writes (DESIGN CHOICE, log 55). -/
def State.causeReport (s : State) (c : CauseId) : CauseReport :=
  let r := s.causes.recs[c]
  let m := s.settings.masks[c]
  ⟨c, assignedCause c, r.condition, r.pending, r.count, r.value, r.code, m.mask, m.alertEnable,
    s.causes.outbox.contains c⟩

/-- Cause numbers in order. -/
def causeIds : List CauseId := List.ofFn fun c : CauseId => c

def State.causeSummary (s : State) : CauseSummary :=
  ⟨s.causes.outbox.length, s.causes.outbox.head?, s.causes.hold, s.settings.globalAlert, s.causes.alert⟩

def State.testReport (s : State) : TestReport :=
  let t := s.charge.test
  ⟨t.bbu, t.start, t.d, t.elapsed, t.limit, t.running, t.result⟩

/-- R179. While a write is in flight the CRC is that of the profile stored before it (DESIGN CHOICE, log 56). -/
def State.profileReport (s : State) : ProfileReport where
  source := s.store.source
  checkPassed := s.store.source == .stored
  crc := s.store.nvm.crc
  unstored := s.store.unstored
  lockSafety := s.store.lockSafety
  lockOrder := s.store.lockOrder
  lockGeneral := s.store.lockGeneral
  writingTime := s.store.writing.map fun w => reportTime 10 (some w.elapsed)
  lastResult := s.store.lastResult
  count := s.store.count

/-! ### Judging -/

/-- R171: a bulk read, refused OUT_OF_RANGE past the table, else answered with the clamped count. -/
def bulk (size largest : Nat) (first count : Byte) (report : Nat → Nat → Ack) (s : State) : Judged :=
  match takeBulk size largest first count with
  | none => .error .outOfRange
  | some r => .ok (s, report r.1 r.2)

/-- The records of `n` items from index `first`. -/
def slice {α β : Type} (ids : List α) (f : α → β) (first n : Nat) : List β := ((ids.drop first).take n).map f

def runGetStatus (s : State) : Judged := .ok (s, .status s.statusReport)

/-- R17; the set number before the first set is 0 (log 33). -/
def runGetSense (first count : Byte) (s : State) : Judged :=
  bulk 29 12 first count
    (fun f n => .sense f n (slice pointIds s.senseReport f n) s.sense.iAvg s.sense.setNo) s

def runGetPsu (first count : Byte) (s : State) : Judged :=
  bulk 6 6 first count (fun f n => .psus f n (slice psuIds s.psuReport f n) s.budgetSummary) s

def runGetBbu (first count : Byte) (s : State) : Judged :=
  bulk 4 4 first count (fun f n => .bbus f n (slice bbuIds s.bbuReport f n)) s

def runGetReserve (s : State) : Judged :=
  .ok (s, .reserve s.charge.r s.charge.tEst s.sense.iAvg s.charge.band (s.gatedBy s.charge.band)
    (bbuIds.map fun i => usable s.settings.bbus[i] s.charge.bbus[i]))

def runGetTargets (first count : Byte) (s : State) : Judged :=
  bulk 16 16 first count
    (fun f n =>
      .targets s.settings.targets.mode s.settings.targets.entries.length s.charge.p s.charge.armed s.charge.halted f n
        (slice (List.range 16) s.targetReport f n)) s

def runGetRanges (s : State) : Judged := .ok (s, .ranges s.settings.ranges s.charge.band)

def runGetSlots (first count : Byte) (s : State) : Judged :=
  bulk 24 11 first count
    (fun f n => .slots ([0x17#8, byteOf f, byteOf n] ++ (slice slotIds s.slotRecord f n).flatten)) s

def runGetQueue (s : State) : Judged := .ok (s, .queue s.queueReport)

def runGetZones (first count : Byte) (s : State) : Judged :=
  bulk 8 4 first count (fun f n => .zones f n (slice zoneIds s.zoneReport f n)) s

def runGetCauses (first count : Byte) (s : State) : Judged :=
  bulk 137 16 first count (fun f n => .causes f n (slice causeIds s.causeReport f n) s.causeSummary) s

def runGetTransferRecord (s : State) : Judged := .ok (s, .transfer s.holdup.record)

def runGetTest (s : State) : Judged := .ok (s, .test s.testReport)

def runGetProfileInfo (s : State) : Judged := .ok (s, .profile s.profileReport)

/-! ### Meanings -/

/-- The outcome of a command of this part: always a next state. -/
abbrev Result := Host.Outcome State Fault Refusal

/-- R79, R93, R142, R162, R179. -/
def execGetStatus (tag : Byte) (s : State) : Result := .next (request (.getStatus tag) runGetStatus s)
/-- R17. -/
def execGetSense (tag first count : Byte) (s : State) : Result :=
  .next (request (.getSense tag first count) (runGetSense first count) s)
/-- R35. -/
def execGetPsu (tag first count : Byte) (s : State) : Result :=
  .next (request (.getPsu tag first count) (runGetPsu first count) s)
/-- R59. -/
def execGetBbu (tag first count : Byte) (s : State) : Result :=
  .next (request (.getBbu tag first count) (runGetBbu first count) s)
/-- R59. -/
def execGetReserve (tag : Byte) (s : State) : Result := .next (request (.getReserve tag) runGetReserve s)
/-- R59, R171. -/
def execGetTargets (tag first count : Byte) (s : State) : Result :=
  .next (request (.getTargets tag first count) (runGetTargets first count) s)
/-- R59. -/
def execGetRanges (tag : Byte) (s : State) : Result := .next (request (.getRanges tag) runGetRanges s)
/-- R111, R173. -/
def execGetSlots (tag first count : Byte) (s : State) : Result :=
  .next (request (.getSlots tag first count) (runGetSlots first count) s)
/-- R111. -/
def execGetQueue (tag : Byte) (s : State) : Result := .next (request (.getQueue tag) runGetQueue s)
/-- R155. -/
def execGetZones (tag first count : Byte) (s : State) : Result :=
  .next (request (.getZones tag first count) (runGetZones first count) s)
/-- R164, R171. -/
def execGetCauses (tag first count : Byte) (s : State) : Result :=
  .next (request (.getCauses tag first count) (runGetCauses first count) s)
/-- R78. -/
def execGetTransferRecord (tag : Byte) (s : State) : Result :=
  .next (request (.getTransferRecord tag) runGetTransferRecord s)
/-- R59. -/
def execGetTest (tag : Byte) (s : State) : Result := .next (request (.getTest tag) runGetTest s)
/-- R179. -/
def execGetProfileInfo (tag : Byte) (s : State) : Result :=
  .next (request (.getProfileInfo tag) runGetProfileInfo s)

end Sys2Proof.Machine
end

