-- ==== Sys2Proof/Machine/SetRequests.lean ====
section
/-! DEFINITION. The SET requests: the settings taken, the lock check (R177), the effect at acceptance and the ACK. The checks
stand in the order of R169. -/

namespace Sys2Proof.Machine

/-- A SET whose identifiers are in range: refused LOCKED, else the settings are adopted, their effect at acceptance follows,
and the ACK is read off the result. -/
def takeSettings (new : Settings) (effect : State → State) (ack : State → Ack) (s : State) : Judged :=
  demand (s.lockAllows new) .locked (let t := effect (s.adopt new); .ok (t, ack t))

/-- A request that names one item; an identifier out of range is refused (R170). -/
def withId {α : Type} (id : Option α) (run : α → Judged) : Judged :=
  match id with
  | none => .error .outOfRange
  | some x => run x

/-! ### SET_LIMIT (R7, R8, R14) -/

/-- R8: mode OFF makes the alarm inactive at acceptance, with its condition (R14). -/
def limitTaken (p : AnalogId) (s : State) : State :=
  let q := AnalogId.point p
  let x := s.sense.points[q]
  let x := { x with alarm := x.alarm && s.settings.points[p].mode != .off }
  reportCondition (causePoint q) x.alarming (s.setPoint q x)

def runSetLimit (point : Byte) (w : LimitW) (s : State) : Judged :=
  withId (takeId 21 point) fun p : AnalogId =>
    takeSettings { s.settings with points := s.settings.points.set p (takeLimit p w) } (limitTaken p)
      (fun t => .limit t.settings.points[p] t.sense.points[AnalogId.point p].alarm) s

/-! ### SET_BUDGET (R22) -/

def runSetBudget (w : BudgetW) (s : State) : Judged :=
  takeSettings { s.settings with budget := takeBudget w } (fun t => recompute (recomputeCapacity t))
    (fun t => .budget t.settings.budget t.budget.cap t.budget.h) s

/-! ### SET_CHARGE_PARAMS (R36) -/

/-- R36: Q is brought down to the new Qfull, the full flag follows, and the reserve is recomputed. With the anchor disabled the
taper run is kept at 0 (R45). -/
def chargeTaken (i : BbuId) (s : State) : State :=
  let b := s.charge.bbus[i]
  let qFull := s.settings.bbus[i].qFull
  let b := if qFull < b.q then b.withCharge qFull qFull else { b with full := b.q == qFull }
  let b := { b with taper := if s.settings.bbus[i].anchor then b.taper else 0 }
  recomputeReserve (s.setBbu i b)

def runSetChargeParams (bbu : Byte) (w : ChargeW) (s : State) : Judged :=
  withId (takeId 4 bbu) fun i : BbuId =>
    takeSettings { s.settings with bbus := s.settings.bbus.set i (takeCharge w) } (chargeTaken i)
      (fun t => .chargeParams t.settings.bbus[i]) s

/-! ### SET_TARGETS and SET_RANGES (R48, R53) -/

def runSetTargets (mode : Byte) (entries : List TargetW) (s : State) : Judged :=
  demand (decide (entries.length ≤ 16)) .badLength
    (takeSettings { s.settings with targets := ⟨takeArmMode mode, entries.map takeTarget⟩ }
      (fun t => t.setCharge { t.charge with p := 0, armed := false }) (fun t => .targetTable t.settings.targets) s)

def runSetRanges (w : RangesW) (s : State) : Judged :=
  takeSettings { s.settings with ranges := takeRanges w } (fun t => publishReserve (recomputeBand t))
    (fun t => .ranges t.settings.ranges t.charge.band) s

/-! ### SET_HOLDUP and SET_RECHARGE (R61, R82) -/

def runSetHoldup (w : HoldupW) (s : State) : Judged :=
  takeSettings { s.settings with holdup := takeHoldup w } id (fun t => .holdup t.settings.holdup t.holdup.state) s

/-- R82: the setpoint that the new settings call for at once. -/
def State.iSetTaken (s : State) : Nat :=
  let set := s.settings.recharge
  match s.recharge.state with
  | .cruise => clampNat set.iFloor set.iMax s.recharge.iSet
  | .floor | .thermalHold => set.iFloor
  | .off | .paused => s.recharge.iSet

def rechargeTaken (s : State) : State :=
  let before := s.recharge.iSet
  if s.iSetTaken = before then s
  else recompute (reshare (s.setRecharge { s.recharge with iSet := s.iSetTaken }))

def runSetRecharge (w : RechargeW) (s : State) : Judged :=
  takeSettings { s.settings with recharge := takeRecharge w } rechargeTaken
    (fun t => .recharge t.settings.recharge t.recharge.state t.recharge.iSet) s

/-! ### SET_SLOT (R94) -/

/-- The head's need (R96). -/
def State.headNeed (s : State) : Option Nat := s.seq.queue.head?.map fun n => s.settings.slots[n].need

/-- Enabled cleared: a QUEUED slot leaves the queue for OFF, and restore-pending is cleared. -/
def disableSlot (n : SlotId) (s : State) : State :=
  let s := s.setSlot n { s.seq.slots[n] with restore := false }
  if s.seq.slots[n].state = .queued then moveSlot n .off id (leaveQueue n s) else s

/-- A reason whose shed is withdrawn when the slot becomes CRITICAL (R112, R121). -/
def ShedReason.yieldsToCritical : ShedReason → Bool
  | .reserve | .limit | .deficit => true
  | _ => false

/-- R94, R121: the slot has become CRITICAL in NOTICE or HELD. -/
def criticalTaken (n : SlotId) (s : State) : State :=
  let x := s.seq.slots[n]
  if (x.state = .notice ∨ x.state = .held) ∧ x.reason.yieldsToCritical = true then withdrawSlot n s else s

/-- The effects of an accepted SET_SLOT, from the settings the slot had and the need its head had. -/
def slotTaken (n : SlotId) (old : SlotSettings) (oldNeed : Option Nat) (s : State) : State :=
  let new := s.settings.slots[n]
  let queue := s.seq.queue
  let s := if old.enabled && !new.enabled then disableSlot n s else s
  let moved := s.seq.slots[n].state == .queued && old.rank != new.rank
  let s := if moved then enterQueue n (leaveQueue n s) else s
  let s := if old.cls ≠ .critical ∧ new.cls = .critical then criticalTaken n s else s
  let s := if old.pReq ≠ new.pReq ∨ old.pInrush ≠ new.pInrush then recompute s else s
  if moved || s.seq.queue != queue || s.headNeed != oldNeed then seqEvent s else s

/-- R94: the named zone is a new one for the slot and is WET. -/
def State.zoneRefused (s : State) (n : SlotId) (zone : Option ZoneId) : Bool :=
  zone != s.settings.slots[n].zone &&
    (match zone with
      | none => false
      | some z => s.leak.zones[z].state == .wet)

def runSetSlot (slot : Byte) (w : SlotW) (s : State) : Judged :=
  withId (takeId 24 slot) fun n : SlotId =>
    withId (takeZone w.zone) fun zone =>
      let new := { s.settings with slots := s.settings.slots.set n (takeSlot zone w) }
      demand (s.lockAllows new) .locked
        (demand (!s.zoneRefused n zone) .wrongState
          (takeSettings new (slotTaken n s.settings.slots[n] s.headNeed)
            (fun t => .slot t.settings.slots[n] t.seq.slots[n].state) s))

/-! ### SET_SEQUENCE (R103) -/

def runSetSequence (w : SequenceW) (s : State) : Judged :=
  takeSettings { s.settings with sequence := takeSequence w } seqEvent (fun t => .sequence t.settings.sequence) s

/-! ### SET_ZONE (R143) -/

/-- R143: a cleared accept-tray-reports flag empties the tray counter, and a SUSPECT zone is judged for fallback. -/
def zoneTaken (z : ZoneId) (old : ZoneSettings) (s : State) : State :=
  if old.acceptTray && !s.settings.zones[z].acceptTray then
    fallBack z (s.setZone z { s.leak.zones[z] with trayCount := 0 })
  else s

def runSetZone (zone : Byte) (w : ZoneW) (s : State) : Judged :=
  withId (takeId 8 zone) fun z : ZoneId =>
    let set := takeZoneSettings w
    let new := { s.settings with zones := s.settings.zones.set z set }
    demand (s.lockAllows new) .locked
      (demand (!(s.leak.zones[z].state == .wet && set.policy != s.settings.zones[z].policy)) .wrongState
        (takeSettings new (zoneTaken z s.settings.zones[z])
          (fun t => .zone t.settings.zones[z] t.leak.zones[z].state) s))

/-! ### SET_LINE (R140) -/

def runSetLine (mode : Byte) (survey : BitVec 16) (s : State) : Judged :=
  takeSettings { s.settings with line := takeLine mode survey } lineWatch
    (fun t => .line t.settings.line t.line.state t.line.mode) s

/-! ### SET_MASKS (R158) -/

/-- One entry: the mask and alert-enable of a cause, and what a changed mask does to the outbox. -/
def takeMaskEntry (e : CauseId × MaskSettings) (s : State) : State :=
  let old := s.settings.masks[e.1].mask
  let s := s.setSettings { s.settings with masks := s.settings.masks.set e.1 e.2 }
  if e.2.mask && !old then s.setCauses { s.causes with outbox := s.causes.outbox.filter (· ≠ e.1) }
  else if old && !e.2.mask && s.causes.recs[e.1].pending then joinOutbox e.1 s
  else s

/-- R169, R177: neither the global alert-enable nor any one entry of the list would change a locked field. -/
def State.masksAllowed (s : State) (alert : Bool) (entries : List (CauseId × MaskSettings)) : Bool :=
  s.lockAllows { s.settings with globalAlert := alert } &&
    entries.all fun e => s.lockAllows { s.settings with masks := s.settings.masks.set e.1 e.2 }

def runSetMasks (alert : Byte) (entries : List MaskW) (s : State) : Judged :=
  demand (decide (entries.length ≤ 82)) .badLength
    (withId (takeMasks entries) fun es =>
      demand (s.masksAllowed (takeFlag alert) es) .locked
        (let s := s.adopt { s.settings with globalAlert := takeFlag alert }
         let t := judgeAlert (es.foldl (fun s e => takeMaskEntry e s) s)
         .ok (t, .masks t.settings.globalAlert es)))

/-! ### Meanings -/

/-- R7, R8. -/
def execSetLimit (tag point : Byte) (w : LimitW) (s : State) : Result :=
  .next (request (.setLimit tag point w) (runSetLimit point w) s)
/-- R22. -/
def execSetBudget (tag : Byte) (w : BudgetW) (s : State) : Result :=
  .next (request (.setBudget tag w) (runSetBudget w) s)
/-- R36. -/
def execSetChargeParams (tag bbu : Byte) (w : ChargeW) (s : State) : Result :=
  .next (request (.setChargeParams tag bbu w) (runSetChargeParams bbu w) s)
/-- R48. -/
def execSetTargets (tag mode : Byte) (entries : List TargetW) (s : State) : Result :=
  .next (request (.setTargets tag mode entries) (runSetTargets mode entries) s)
/-- R53. -/
def execSetRanges (tag : Byte) (w : RangesW) (s : State) : Result :=
  .next (request (.setRanges tag w) (runSetRanges w) s)
/-- R61. -/
def execSetHoldup (tag : Byte) (w : HoldupW) (s : State) : Result :=
  .next (request (.setHoldup tag w) (runSetHoldup w) s)
/-- R82. -/
def execSetRecharge (tag : Byte) (w : RechargeW) (s : State) : Result :=
  .next (request (.setRecharge tag w) (runSetRecharge w) s)
/-- R94. -/
def execSetSlot (tag slot : Byte) (w : SlotW) (s : State) : Result :=
  .next (request (.setSlot tag slot w) (runSetSlot slot w) s)
/-- R103. -/
def execSetSequence (tag : Byte) (w : SequenceW) (s : State) : Result :=
  .next (request (.setSequence tag w) (runSetSequence w) s)
/-- R143. -/
def execSetZone (tag zone : Byte) (w : ZoneW) (s : State) : Result :=
  .next (request (.setZone tag zone w) (runSetZone zone w) s)
/-- R140. -/
def execSetLine (tag mode : Byte) (survey : BitVec 16) (s : State) : Result :=
  .next (request (.setLine tag mode survey) (runSetLine mode survey) s)
/-- R158. -/
def execSetMasks (tag globalAlert : Byte) (entries : List MaskW) (s : State) : Result :=
  .next (request (.setMasks tag globalAlert entries) (runSetMasks globalAlert entries) s)

end Sys2Proof.Machine
end

