-- ==== Sys2Proof/Machine/Actions.lean ====
section
/-! DEFINITION. The action requests of section 11.5 (50H to 5EH): their checks in the order of R169, their effect and their
ACK. -/

namespace Sys2Proof.Machine

/-! ### ARM_TARGETS (R49) -/

def runArmTargets (s : State) : Judged :=
  demand (!s.settings.targets.entries.isEmpty) .wrongState (.ok (armTable s, .plain))

/-! ### POWER_UP, POWER_DOWN and RELEASE_SLOT (R98, R99, R125) -/

/-- R98: one entry of the list. -/
def powerUpSlot (n : SlotId) (s : State) : State × SlotResult :=
  let x := s.seq.slots[n]
  match x.state with
  | .off =>
    if s.settings.slots[n].enabled && !s.slotWet n then (seqEvent (enterQueue n s), .queued)
    else (s, .refusedWrongState)
  | .queued | .soak | .on => (s, .noChange)
  | .notice | .held =>
    if x.reason == .manager && !s.slotWet n then (withdrawSlot n s, .withdrawn) else (s, .refusedWrongState)
  | .draining | .faulted | .locked => (s, .refusedWrongState)

/-- The per-slot result that names a state (R125, R172). -/
def SlotState.result : SlotState → SlotResult
  | .notice => .notice
  | .held => .held
  | .draining => .draining
  | .off => .off
  | _ => .noChange

/-- R125: one entry of the list. -/
def powerDownSlot (urgency : Urgency) (n : SlotId) (s : State) : State × SlotResult :=
  match s.seq.slots[n].state with
  | .off => (shedSlot n .manager urgency s, .noChange)
  | .queued => (shedSlot n .manager urgency s, .off)
  | .soak => (shedSlot n .manager urgency s, .draining)
  | .on => (shedSlot n .manager urgency s, .notice)
  | .notice | .held | .draining =>
    let t := shedSlot n .manager urgency s
    (t, t.seq.slots[n].state.result)
  | .faulted | .locked => (s.setSlot n { s.seq.slots[n] with restore := false }, .noChange)

/-- A list taken one by one, the results in list order. -/
def takeSlots (one : SlotId → State → State × SlotResult) : List SlotId → State → State × List (SlotId × SlotResult)
  | [], s => (s, [])
  | n :: ns, s =>
    let r := one n s
    let rest := takeSlots one ns r.1
    (rest.1, (n, r.2) :: rest.2)

/-- R98, R125: the list checks, then the entries, and one outcome for each (R172). -/
def slotList (slots : List Byte) (one : SlotId → State → State × SlotResult) (s : State) : Judged :=
  demand (decide (1 ≤ slots.length ∧ slots.length ≤ 24)) .badLength
    (withId (takeIds (takeId 24) slots) fun ns =>
      let r := takeSlots one ns s
      .ok (r.1, .slotList (r.2.map fun e => ⟨e.1, e.2, r.1.seq.slots[e.1].state⟩)))

def runPowerUp (slots : List Byte) (s : State) : Judged := slotList slots powerUpSlot s

def runPowerDown (urgency : Byte) (slots : List Byte) (s : State) : Judged :=
  slotList slots (powerDownSlot (takePowerDownUrgency urgency)) s

/-- R99: whether the slot's state allows a release. -/
def State.releasable (s : State) (n : SlotId) : Bool :=
  match s.seq.slots[n].state with
  | .faulted => !s.seq.slots[n].pg
  | .locked => !s.slotWet n
  | _ => false

/-- R99: the release of a slot that allows it. -/
def releaseSlot (n : SlotId) (requeue : Bool) (s : State) : State :=
  let clear : Slot → Slot := fun x => { x with reason := .none, urgency := .none, restore := false }
  if s.slotWetShed n then moveSlot n .locked clear s
  else if s.slotWet n then moveSlot n .off clear s
  else if requeue && s.settings.slots[n].enabled then seqEvent (enterQueue n (moveSlot n .off clear s))
  else moveSlot n .off clear s

/-- R99. The ACK reports the state after the grant check that a queue change starts (R101): a slot that joins the queue and is granted
in the same event is reported SOAK and not QUEUED (DESIGN CHOICE, log 63). -/
def runReleaseSlot (slot requeue : Byte) (s : State) : Judged :=
  withId (takeId 24 slot) fun n : SlotId =>
    demand (s.releasable n) .wrongState
      (let t := releaseSlot n (takeFlag requeue) s
       .ok (t, .released t.seq.slots[n].state))

/-! ### CLEAR_ZONE (R153) -/

/-- R153: the evidence that blocks a clear. -/
def Zone.blocked (x : Zone) : Bool := x.cls == .wet || x.report

/-- R153: the zone's own record. -/
def clearZone (z : ZoneId) (s : State) : State :=
  let x := s.leak.zones[z]
  let calm : ZoneState := if x.ropeFault then .fault else .dry
  match x.state with
  | .wet => moveZone z { x with state := calm, valve := false, ropeCount := 0, trayCount := 0 } s
  | .suspect => moveZone z { x with state := calm, ropeCount := 0, trayCount := 0 } s
  | .dry | .fault => s.setZone z { x with ropeCount := 0, trayCount := 0 }

/-- R153: one LOCKED slot of the zone leaves it. -/
def requeueSlot (n : SlotId) (s : State) : State :=
  let clear : Slot → Slot := fun x => { x with reason := .none, urgency := .none }
  let s := moveSlot n .off clear s
  if s.settings.slots[n].enabled then enterQueue n s else s

/-- The LOCKED slots of a zone. -/
def State.lockedSlots (s : State) (z : ZoneId) : List SlotId :=
  (s.zoneSlots z).filter fun n => s.seq.slots[n].state == .locked

/-- R153. The ACK lists every LOCKED slot that left, in ascending slot order, one that is not enabled and so goes to OFF among them
(DESIGN CHOICE, log 61). -/
def runClearZone (zone requeue : Byte) (s : State) : Judged :=
  withId (takeId 8 zone) fun z : ZoneId =>
    demand (!s.leak.zones[z].blocked) .wrongState
      (let slots := if takeFlag requeue then s.lockedSlots z else []
       let t := slots.foldl (fun s n => requeueSlot n s) (clearZone z s)
       let t := if slots.isEmpty then t else seqEvent t
       .ok (t, .cleared t.leak.zones[z].state (slots.map fun n => (n, t.seq.slots[n].state))))

/-! ### CLEAR_LATCH (R13) -/

/-- R13: a LATCH alarm whose condition no longer holds becomes inactive. -/
def clearLatch (p : AnalogId) (s : State) : State :=
  let q := AnalogId.point p
  let x := s.sense.points[q]
  let set := s.settings.points[p]
  if set.mode = .latch ∧ x.alarm = true ∧ overLimit set x.value = false then
    let x := { x with alarm := false }
    reportCondition (causePoint q) x.alarming (s.setPoint q x)
  else s

def runClearLatch (point : Byte) (s : State) : Judged :=
  withId (takeId 21 point) fun p : AnalogId =>
    let t := clearLatch p s
    .ok (t, .latch t.settings.points[p].mode t.sense.points[AnalogId.point p].alarm)

/-! ### CLEAR_CAUSE, HOLD_ALL and RELEASE_ALL (R159, R160) -/

/-- R159: one entry. -/
def clearCause (c : CauseId) (s : State) : State :=
  let r := s.causes.recs[c]
  let s := s.setCauses
    { s.causes with
      recs := s.causes.recs.set c { r with pending := false, count := 0, value := 0, code := 0 }
      outbox := s.causes.outbox.filter (· ≠ c) }
  if eventSource c then reportCondition c false s else s

def runClearCause (causes : List Byte) (s : State) : Judged :=
  demand (decide (1 ≤ causes.length ∧ causes.length ≤ 134)) .badLength
    (withId (takeIds takeCause causes) fun cs =>
      let t := cs.foldl (fun s c => clearCause c s) s
      .ok (t, .conditions (cs.map fun c => (c, t.causes.recs[c].condition))))

def runHoldAll (s : State) : Judged := .ok (s.setCauses { s.causes with hold := true }, .globalHold true)

def runReleaseAll (s : State) : Judged := .ok (s.setCauses { s.causes with hold := false }, .globalHold false)

/-! ### SET_CHARGE, START_TEST and ABORT_TEST (R46, R54, R57) -/

def setCharge (i : BbuId) (value : Nat) (s : State) : State :=
  let qFull := s.settings.bbus[i].qFull
  let b := { (s.charge.bbus[i].withCharge qFull (clampNat 0 qFull value)) with calibrated := true, bottomed := false }
  recomputeReserve (reportBbu i (s.setBbu i b))

def runSetCharge (bbu : Byte) (value : BitVec 32) (s : State) : Judged :=
  withId (takeId 4 bbu) fun i : BbuId =>
    demand (s.charge.bbus[i].state != .absent) .wrongState
      (let t := setCharge i value.toNat s
       .ok (t, .charge t.charge.bbus[i].q))

/-- T_other (R54). -/
def State.timeWithout (s : State) (i : BbuId) : Nat :=
  projectedTime (s.charge.r - usable s.settings.bbus[i] s.charge.bbus[i]) s.sense.iAvg

/-- R54: the four conditions of a start. -/
def State.testable (s : State) (i : BbuId) : Bool :=
  s.online && s.charge.bbus[i].state == .standby && s.charge.bbus[i].calibrated && !s.charge.test.running &&
    decide (s.settings.bbus[i].testReserve ≤ s.timeWithout i)

def startTest (i : BbuId) (s : State) : State :=
  let set := s.settings.bbus[i]
  let s := s.setCharge
    { s.charge with
      test := ⟨true, some i, s.seconds, 0, 0, 0, set.testLimit, set.testCurrent, .none, some (set.testLimit * 1000)⟩ }
  recomputeReserve (changeBbu i .testing s)

def runStartTest (bbu : Byte) (s : State) : Judged :=
  withId (takeId 4 bbu) fun i : BbuId => demand (s.testable i) .wrongState (.ok (startTest i s, .plain))

def runAbortTest (s : State) : Judged :=
  demand s.charge.test.running .wrongState
    (.ok (recomputeReserve (abortTest .abortedManager (fun i t => t.restOf i) s), .plain))

/-! ### CLEAR_TRANSFER_RECORD, STORE_PROFILE and LOCK_PROFILE (R78, R175, R177) -/

def runClearTransferRecord (s : State) : Judged :=
  demand (!s.holdup.record.isOpen) .wrongState
    (.ok (s.setHoldup { s.holdup with record := Transfer.empty }, .plain))

def runStoreProfile (s : State) : Judged :=
  demand s.store.writing.isNone .storeBusy
    (.ok (s.setStore
      { s.store with writing := some ⟨s.settings, 0⟩, unstored := false, count := s.store.count + 1 }, .plain))

/-- The lock flag of section 0, 1 or 2. -/
def Store.lock (x : Store) (profileSection : Fin 3) : Store :=
  match profileSection with
  | 0 => { x with lockSafety := true }
  | 1 => { x with lockOrder := true }
  | 2 => { x with lockGeneral := true }

def runLockProfile (profileSection : Byte) (s : State) : Judged :=
  withId (takeId 3 profileSection) fun k =>
    let x := s.store.lock k
    .ok (s.setStore x, .locks x.lockSafety x.lockOrder x.lockGeneral)

/-! ### Meanings -/

/-- R49. -/
def execArmTargets (tag : Byte) (s : State) : Result := .next (request (.armTargets tag) runArmTargets s)
/-- R98. -/
def execPowerUp (tag : Byte) (slots : List Byte) (s : State) : Result :=
  .next (request (.powerUp tag slots) (runPowerUp slots) s)
/-- R125. -/
def execPowerDown (tag urgency : Byte) (slots : List Byte) (s : State) : Result :=
  .next (request (.powerDown tag urgency slots) (runPowerDown urgency slots) s)
/-- R99. -/
def execReleaseSlot (tag slot requeue : Byte) (s : State) : Result :=
  .next (request (.releaseSlot tag slot requeue) (runReleaseSlot slot requeue) s)
/-- R153. -/
def execClearZone (tag zone requeue : Byte) (s : State) : Result :=
  .next (request (.clearZone tag zone requeue) (runClearZone zone requeue) s)
/-- R13. -/
def execClearLatch (tag point : Byte) (s : State) : Result :=
  .next (request (.clearLatch tag point) (runClearLatch point) s)
/-- R159. -/
def execClearCause (tag : Byte) (causes : List Byte) (s : State) : Result :=
  .next (request (.clearCause tag causes) (runClearCause causes) s)
/-- R160. -/
def execHoldAll (tag : Byte) (s : State) : Result := .next (request (.holdAll tag) runHoldAll s)
/-- R160. -/
def execReleaseAll (tag : Byte) (s : State) : Result := .next (request (.releaseAll tag) runReleaseAll s)
/-- R46. -/
def execSetCharge (tag bbu : Byte) (value : BitVec 32) (s : State) : Result :=
  .next (request (.setCharge tag bbu value) (runSetCharge bbu value) s)
/-- R54. -/
def execStartTest (tag bbu : Byte) (s : State) : Result :=
  .next (request (.startTest tag bbu) (runStartTest bbu) s)
/-- R57. -/
def execAbortTest (tag : Byte) (s : State) : Result := .next (request (.abortTest tag) runAbortTest s)
/-- R78. -/
def execClearTransferRecord (tag : Byte) (s : State) : Result :=
  .next (request (.clearTransferRecord tag) runClearTransferRecord s)
/-- R175. -/
def execStoreProfile (tag : Byte) (s : State) : Result :=
  .next (request (.storeProfile tag) runStoreProfile s)
/-- R177. -/
def execLockProfile (tag profileSection : Byte) (s : State) : Result :=
  .next (request (.lockProfile tag profileSection) (runLockProfile profileSection) s)

end Sys2Proof.Machine
end

