-- ==== Sys2Proof/Machine/Link.lean ====
section
/-! DEFINITION. The link controller (chapter 11): the judging and execution of queued frames (R168, R169), the receiver (R166)
and the four commands of the link. -/

namespace Sys2Proof.Machine

/-! ### Execution (R168, R169) -/

/-- What a decoded request does, past the first two checks of R169. The event rows are no requests. -/
def perform (i : Instr) (s : State) : Judged :=
  match i with
  | .unknownKind _ _ => .error .unknownKind
  | .getStatus _ => runGetStatus s
  | .getSense _ first count => runGetSense first count s
  | .getPsu _ first count => runGetPsu first count s
  | .getBbu _ first count => runGetBbu first count s
  | .getReserve _ => runGetReserve s
  | .getTargets _ first count => runGetTargets first count s
  | .getRanges _ => runGetRanges s
  | .getSlots _ first count => runGetSlots first count s
  | .getQueue _ => runGetQueue s
  | .getZones _ first count => runGetZones first count s
  | .getCauses _ first count => runGetCauses first count s
  | .getTransferRecord _ => runGetTransferRecord s
  | .getTest _ => runGetTest s
  | .getProfileInfo _ => runGetProfileInfo s
  | .setLimit _ point w => runSetLimit point w s
  | .setBudget _ w => runSetBudget w s
  | .setChargeParams _ bbu w => runSetChargeParams bbu w s
  | .setTargets _ mode entries => runSetTargets mode entries s
  | .setRanges _ w => runSetRanges w s
  | .setHoldup _ w => runSetHoldup w s
  | .setRecharge _ w => runSetRecharge w s
  | .setSlot _ slot w => runSetSlot slot w s
  | .setSequence _ w => runSetSequence w s
  | .setZone _ zone w => runSetZone zone w s
  | .setLine _ mode survey => runSetLine mode survey s
  | .setMasks _ globalAlert entries => runSetMasks globalAlert entries s
  | .armTargets _ => runArmTargets s
  | .powerUp _ slots => runPowerUp slots s
  | .powerDown _ urgency slots => runPowerDown urgency slots s
  | .releaseSlot _ slot requeue => runReleaseSlot slot requeue s
  | .clearZone _ zone requeue => runClearZone zone requeue s
  | .clearLatch _ point => runClearLatch point s
  | .clearCause _ causes => runClearCause causes s
  | .holdAll _ => runHoldAll s
  | .releaseAll _ => runReleaseAll s
  | .setCharge _ bbu value => runSetCharge bbu value s
  | .startTest _ bbu => runStartTest bbu s
  | .abortTest _ => runAbortTest s
  | .clearTransferRecord _ => runClearTransferRecord s
  | .storeProfile _ => runStoreProfile s
  | .lockProfile _ profileSection => runLockProfile profileSection s
  | .powerOn _ | .pinResetAssert | .pinResetRelease _ | .profileLoadComplete | .sampleSet _ | .psuInputChange _ _ _
  | .headroomPublication | .deficitTimerExpiry | .deficitSelection | .deficitAnswer | .bbuPresentChange _ _
  | .bbuFaultInputChange _ _ | .reservePublication | .testTimerExpiry | .settleTimerExpiry | .bridgingTimerExpiry
  | .collapseTimerExpiry | .stepTimerExpiry | .floorTimerExpiry | .headReport | .staggerTimerExpiry
  | .soakTimerExpiry _ | .pgChange _ _ | .noticeWindowExpiry _ | .holdLimitExpiry _ | .drainTimerExpiry _
  | .cycleStart _ | .surveyTimerExpiry | .cycleEnd _ | .frameReceived _ | .rxGapTimeout | .txFrameEnd
  | .storeWriteComplete _ | .slotFrame23End | .frameAbandoned => .error .unknownKind

/-- R169 on a queued frame. -/
def judgeFrame (f : Frame) (s : State) : Judged :=
  match decodeFrame f with
  | .error .unknownKind => .error .unknownKind
  | .error .badLength => .error .badLength
  | .ok i => perform i s

/-- R168: the head request leaves the queue and is executed, when it may be. -/
def executeHead (s : State) : State :=
  if s.canExecute then
    match s.link.queue with
    | [] => s
    | f :: fs =>
      let s := s.setLink { s.link with queue := fs }
      answer f.tag f.kind (judgeFrame f s) s
  else s

/-! ### Receiver (R166) -/

/-- The bytes after SOF of a frame whose LEN is at the head: LEN, KIND, TAG and body, then the two CRC bytes. -/
def frameLen (bytes : List Byte) : Nat := match bytes with | [] => 0 | len :: _ => len.toNat

/-- At CHECK: the frame, when its CRC is the one computed. -/
def checkFrame (bytes : List Byte) : Option Frame :=
  let covered := bytes.take (3 + frameLen bytes)
  match covered, bytes.drop (3 + frameLen bytes) with
  | _ :: kind :: tag :: body, [c0, c1] => if le16 c0 c1 = crc16 covered then some ⟨kind, tag, body⟩ else none
  | _, _ => none

/-- One byte in each receiver state; a good frame comes out at its last byte. -/
def rxByte (b : Byte) (rx : RxState) : RxState × Option Frame :=
  match rx with
  | .hunt => (if b = 0xA5 then .length else .hunt, none)
  | .length => (if b.toNat ≤ 248 then .header [b] else .hunt, none)
  | .header bytes =>
    let bytes := bytes ++ [b]
    if bytes.length < 3 then (.header bytes, none)
    else if frameLen bytes = 0 then (.check bytes, none)
    else (.body bytes, none)
  | .body bytes =>
    let bytes := bytes ++ [b]
    if bytes.length < 3 + frameLen bytes then (.body bytes, none) else (.check bytes, none)
  | .check bytes =>
    let bytes := bytes ++ [b]
    if bytes.length < 5 + frameLen bytes then (.check bytes, none) else (.hunt, checkFrame bytes)

/-- A good frame is offered to the queue, and the queue's head executed where R168 lets it be. -/
def acceptFrame (f : Frame) (s : State) : State := executeHead (offerFrame f s)

/-- One byte from RXD. -/
def receiveByte (b : Byte) (s : State) : State :=
  let r := rxByte b s.link.rx
  let s := s.setLink { s.link with rx := r.1 }
  match r.2 with
  | none => s
  | some f => acceptFrame f s

/-- The receiver drops a frame in progress and hunts (R166). -/
def huntAgain (s : State) : State := s.setLink { s.link with rx := .hunt }

/-- While RST_N is low RXD is ignored and TXD idle (R165). -/
def whenOut (f : State → State) (s : State) : State :=
  match s.phase with
  | .inReset _ => s
  | .loading _ | .running => f s

/-! ### Meanings -/

/-- R166: the bytes of a frame, one after another. -/
def execFrameReceived (bytes : List Byte) (s : State) : Result :=
  .next (whenOut (fun s => bytes.foldl (fun s b => receiveByte b s) s) s)

/-- R166: more than 2 ms between two bytes. -/
def execRxGapTimeout (s : State) : Result := .next (whenOut huntAgain s)

/-- R166: a byte with a low stop bit, dropped, or a LEN above 248. -/
def execFrameAbandoned (s : State) : Result := .next (whenOut huntAgain s)

/-- R161, R168: the frame on TXD has ended. The transmitter is served, and the next request executed once its turn has
come. -/
def endFrame (s : State) : State :=
  match s.link.tx with
  | none => s
  | some _ => executeHead (serveTransmitter (s.setLink { s.link with tx := none }))

def execTxFrameEnd (s : State) : Result := .next (whenOut endFrame s)

/-- R169: a frame whose KIND is outside the catalogue. -/
def execUnknownKind (tag kind : Byte) (s : State) : Result :=
  .next (request (.unknownKind tag kind) (fun _ => .error .unknownKind) s)

end Sys2Proof.Machine
end

