-- ==== Sys2Proof/Machine/Power.lean ====
section
/-! DEFINITION. The resets, the profile load with adoption and the rebuilt causes, and the end of a store (R58, R79, R109,
R129, R154, R163, R165, R174, R176, R178, and the reset table of every chapter). -/

namespace Sys2Proof.Machine

/-! ### Loss of a write (R176) -/

/-- A write in flight is abandoned: the stored profile fails its next check, and its CRC is free (log 9). -/
def abandonWrite (s : State) : State :=
  match s.store.writing with
  | none => s
  | some _ =>
    let crc := s.freshWord
    (s.setStore
      { s.store with writing := none, nvm := { s.store.nvm with valid := false, crc := crc } }).spendFree

/-! ### Resets -/

/-- R178 step 1 at power-on: everything but the pins and the nonvolatile memory starts from empty. -/
def powerOn (straps : BitVec 2) (s : State) : State :=
  let s := abandonWrite s
  State.poweredOn s.pins straps s.store.nvm s.free s.pending

/-- R41: what a falling RST_N leaves of a BBU's outputs. -/
def Bbu.latch (b : Bbu) : Bbu := { b with out := ⟨b.out.disEn, false, 0⟩ }

/-- RST_N falls on a part that has completed no load since power-on (`cold`) or has: the link and the causes are lost with ALERT held, the line stops, the
outputs are latched, an open record closes and a running test and a write are abandoned (R41, R57, R77, R129, R163, R165,
R176). -/
def assertReset (cold : Bool) (s : State) : State :=
  let s := abandonWrite (closeRecord .reset s)
  let test := if s.charge.test.running then TestRecord.empty else s.charge.test
  { s with
    phase := .inReset cold
    charge := { s.charge with bbus := Vector.ofFn fun i => Bbu.latch s.charge.bbus[i], test := test }
    line := Line.init false
    causes := ⟨Vector.replicate 137 (Cause.init false), [], false, s.causes.alert⟩
    link := Link.init s.link.straps }

def pinResetAssert (s : State) : State :=
  match s.phase with
  | .inReset _ => s
  | .loading cold => assertReset cold s
  | .running => assertReset false s

/-- RST_N rises: the straps are read and the load begins (R165, R178). The reset that ends is a pin reset, whether or not a load
had completed before it. -/
def pinResetRelease (straps : BitVec 2) (s : State) : State :=
  match s.phase with
  | .inReset cold =>
    { s with
      phase := .loading cold
      lastReset := .pin
      link := Link.init straps }
  | .loading _ | .running => s

/-! ### Profile load (R174) -/

/-- The profile the load takes. -/
def Store.loaded (x : Store) : Settings := if x.nvm.valid then x.nvm.profile else defaultSettings

/-- R58, R174: after a pin reset a BBU keeps Qfull and Qfloor, and the margin is clamped to the kept Qfull. -/
def BbuSettings.keepFull (new old : BbuSettings) : BbuSettings :=
  { new with qFull := old.qFull, qFloor := old.qFloor, margin := min new.margin old.qFull }

/-- R154, R174: after a pin reset a zone kept WET keeps its policy. -/
def keepPolicy (new old : ZoneSettings) (x : Zone) : ZoneSettings :=
  if x.state = .wet then { new with policy := old.policy } else new

/-- R58: a BBU's settings after a load. Where no load has completed since power-on there is no Qfull and no Qfloor to keep, and
both are loaded, after a pin reset too (DESIGN CHOICE, log 17). -/
def State.bbuSettingsAfterLoad (s : State) (cold : Bool) : Vector BbuSettings 4 :=
  let p := s.store.loaded
  if cold then p.bbus else Vector.ofFn fun i => p.bbus[i].keepFull s.settings.bbus[i]

/-- R154: the zone settings after a load. -/
def State.zoneSettingsAfterLoad (s : State) : Vector ZoneSettings 8 :=
  let p := s.store.loaded
  match s.lastReset with
  | .powerOn => p.zones
  | .pin => Vector.ofFn fun z => keepPolicy p.zones[z] s.settings.zones[z] s.leak.zones[z]

/-- R174: the working settings after a load. -/
def State.settingsAfterLoad (s : State) (cold : Bool) : Settings :=
  { s.store.loaded with bbus := s.bbuSettingsAfterLoad cold, zones := s.zoneSettingsAfterLoad }

/-- R109: the adopted state of a slot. -/
def adoptedState (en pg wet : Bool) : SlotState :=
  if wet then (if pg then .draining else .locked)
  else
    match en, pg with
    | true, true => .on
    | false, true => .draining
    | _, false => .off

/-- R109, R110, R127: an adopted slot. -/
def adoptSlot (set : SlotSettings) (en pg wet : Bool) : Slot :=
  let st := adoptedState en pg wet
  let shed := st == .draining || st == .locked
  { state := st
    reason := if !shed then .none else if wet then .leak else .reset
    urgency := if shed then .immediate else .none
    restore := false
    soak := none
    notice := false
    window := none
    hold := none
    drain := if st = .draining then some (set.drainLimit * 1000) else none
    pg := pg
    en := st.powered
    adoptedOff := st == .off }

/-- R163: the conditions the owning blocks report at the rebuild. -/
def rebuiltCondition (leak : Leak) (bbus : Vector Bbu 4) (c : CauseId) : Bool :=
  decide (c.val < 21) ||
    zoneIds.any (fun z => (c == causeZoneWet z && leak.zones[z].state == .wet) ||
      (c == causeRopeFault z && leak.zones[z].ropeFault)) ||
    bbuIds.any (fun i => c == causeBbu i && bbus[i].bottomed)

/-- R154: the zone records after a load. -/
def State.zonesAfterLoad (s : State) : Vector Zone 8 :=
  match s.lastReset with
  | .powerOn => Vector.replicate 8 Zone.powerOn
  | .pin => Vector.ofFn fun z => Zone.pinReset s.leak.zones[z]

/-- R58: the BBU records after a load that leaves the settings `set`. Where no load has completed since power-on no counter has been
formed that could be kept, and it starts at Qfloor, after a pin reset too (DESIGN CHOICE, log 17). -/
def State.bbusAfterLoad (s : State) (cold : Bool) (set : Settings) : Vector Bbu 4 :=
  if cold then Vector.ofFn fun i => Bbu.powerOn set.bbus[i] s.pins.bbu[i]
  else Vector.ofFn fun i => Bbu.pinReset s.charge.bbus[i] set.bbus[i] s.pins.bbu[i]

/-- The part as every chapter's reset table gives it, before cause 135 and adoption. -/
def State.loadedState (s : State) (cold : Bool) : State :=
  let set := s.settingsAfterLoad cold
  let leak : Leak := ⟨s.zonesAfterLoad⟩
  let bbus := s.bbusAfterLoad cold set
  judgeAlert
    { s with
      phase := .running
      settings := set
      sense := Sense.init
      budget := Budget.init s.pins
      charge := Charge.init bbus s.charge.test
      holdup := Holdup.init s.holdup.events s.holdup.record
      recharge := Recharge.init set.recharge
      shed := Shed.init
      line := Line.init true
      leak := leak
      causes := ⟨Vector.ofFn fun c => Cause.init (rebuiltCondition leak bbus c), [], false, false⟩
      store := Store.init s.store.nvm (if s.store.nvm.valid then .stored else .defaults) }

def codeCheckFailed : Byte := 1

/-- R174: a failed check raises cause 135 right after the rebuild. -/
def raiseFallback (s : State) : State :=
  match s.store.source with
  | .stored => s
  | .defaults => raise causeFallback 0 codeCheckFailed s

/-- R109, R110: the slots at the end of the load, adopted after every pin reset. -/
def State.slotsAfterLoad (s : State) : Vector Slot 24 :=
  match s.lastReset with
  | .powerOn => Vector.ofFn fun n => Slot.powerOn s.pins.pg[n]
  | .pin => Vector.ofFn fun n => adoptSlot s.settings.slots[n] s.seq.slots[n].en s.pins.pg[n] (s.slotWetShed n)

/-- R178 step 3: the sequencer takes its slots; Σ and H are then formed (R34). -/
def adoptSlots (s : State) : State := settleHeadroom (s.setSeq (Sequencer.init s.slotsAfterLoad))

/-- R174, R178 steps 2 and 3. -/
def completeLoad (cold : Bool) (s : State) : State :=
  executeHead (adoptSlots (raiseFallback (s.loadedState cold)))

/-! ### Meanings -/

/-- R178. -/
def execPowerOn (straps : BitVec 2) (s : State) : Result := .next (powerOn straps s)
/-- R165. -/
def execPinResetAssert (s : State) : Result := .next (pinResetAssert s)
/-- R178. -/
def execPinResetRelease (straps : BitVec 2) (s : State) : Result := .next (pinResetRelease straps s)
/-- R174. -/
def execProfileLoadComplete (s : State) : Result :=
  .next
    (match s.phase with
      | .loading cold => completeLoad cold s
      | .inReset _ => s
      | .running => s)

/-- Snapshot codes of cause 134. -/
def codeStoreOk : Byte := 1
def codeVerifyFailed : Byte := 2

/-- R176: the completion of a write. -/
def completeWrite (verified : Bool) (w : Writing) (s : State) : State :=
  if verified then
    raise causeStore (s.store.count : Nat) codeStoreOk
      (s.setStore
        { s.store with
          nvm := ⟨w.snapshot, true, Config.profileCrc w.snapshot⟩
          writing := none
          lastResult := .ok })
  else
    raise causeStore (s.store.count : Nat) codeVerifyFailed
      ((s.setStore
        { s.store with
          nvm := ⟨w.snapshot, false, s.freshWord⟩
          writing := none
          lastResult := .verifyFailed
          unstored := true }).spendFree)

/-- R176. -/
def execStoreWriteComplete (verified : Bool) (s : State) : Result :=
  .next
    (match s.store.writing with
      | none => s
      | some w => completeWrite verified w s)

end Sys2Proof.Machine
end

