-- ==== Sys2Proof/Machine/Inputs.lean ====
section
/-! DEFINITION. The sample set and the level changes at the digital inputs (R1, R20, R37, R38, R60, R105, R106). -/

namespace Sys2Proof.Machine

/-- An event of a part whose start-up has reached load completion; before it, and while RST_N is low, no block acts (R178). -/
def whenRunning (f : State → State) (s : State) : State :=
  match s.phase with
  | .running => f s
  | .inReset _ | .loading _ => s

/-! ### SAMPLE_SET -/

/-- R1: the interval that ends, the scanner, and its consumers (log 5 gives the order among them). -/
def sampleSet (codes : Vector (BitVec 12) 29) (s : State) : State :=
  let fresh := !s.sense.seen
  let s := scanSet codes (passInterval s)
  sampleRegulator (sampleLeak (sampleHoldup (sampleCharge fresh (sampleBudget s))))

def execSampleSet (codes : Vector (BitVec 12) 29) (s : State) : Result := .next (whenRunning (sampleSet codes) s)

/-! ### PSU inputs (R20, R60) -/

def PsuPins.level (x : PsuPins) (pin : PsuPin) : Bool :=
  match pin with | .present => x.present | .acOk => x.acOk | .dcOk => x.dcOk

def PsuPins.with (x : PsuPins) (pin : PsuPin) (level : Bool) : PsuPins :=
  match pin with
  | .present => { x with present := level }
  | .acOk => { x with acOk := level }
  | .dcOk => { x with dcOk := level }

/-- R20: the levels as last seen. -/
def Psu.see (u : Psu) (x : PsuPins) : Psu := { u with present := x.present, acOk := x.acOk, dcOk := x.dcOk }

/-- R20: one PSU reclassified on a change of its inputs; a change of state recomputes capacity and headroom. -/
def inputBudget (k : PsuId) (s : State) : State :=
  let s := s.setPsu k (s.budget.psus[k].see s.pins.psu[k])
  if s.sense.seen then
    let t := reclassifyPsu k s
    if t.budget.psus[k].state = s.budget.psus[k].state then t else recompute (recomputeCapacity t)
  else s

/-- R60: DC_OK is no input of the holdup controller. -/
def PsuPin.atHoldup (pin : PsuPin) : Bool := match pin with | .present | .acOk => true | .dcOk => false

/-- R20, R60. The budget unit takes the change before the holdup controller does (DESIGN CHOICE, log 39). -/
def psuChange (k : PsuId) (pin : PsuPin) (s : State) : State :=
  let s := inputBudget k s
  if PsuPin.atHoldup pin then inputHoldup s else s

/-- R20: a level change; a level that is already there is no change. -/
def execPsuInputChange (k : PsuId) (pin : PsuPin) (level : Bool) (s : State) : Result :=
  .next
    (let x := s.pins.psu[k]
     if x.level pin = level then s
     else whenRunning (psuChange k pin) (s.setPins { s.pins with psu := s.pins.psu.set k (x.with pin level) }))

/-! ### BBU inputs (R37, R38) -/

/-- R37: the module in the position is taken to be a different one. -/
def Bbu.fit (b : Bbu) (set : BbuSettings) : Bbu :=
  { b with q := set.qFloor, r := 0, calibrated := false, bottomed := false, full := false, taper := 0, health := none }

/-- R37 on a change of PRESENT seen after the first sample set. -/
def presentChange (i : BbuId) (level : Bool) (s : State) : State :=
  let st := s.charge.bbus[i].state
  if level then
    if st = .absent then
      let s := s.setBbu i (s.charge.bbus[i].fit s.settings.bbus[i])
      recomputeReserve (changeBbu i (s.classOf i) (reportBbu i s))
    else s
  else if st = .absent then s
  else recomputeReserve (failBbu i .absent s)

/-- R38 on a change of FAULT seen after the first sample set, with the T_crit in force (R36). -/
def faultChange (i : BbuId) (level : Bool) (s : State) : State :=
  let st := s.charge.bbus[i].state
  if st = .absent then s
  else if level then (if st = .fault then s else recomputeReserve (failBbu i .fault s))
  else if st = .fault ∧ s.pubValue (bbuTPoint i) < s.charge.bbus[i].critInForce then
    recomputeReserve (changeBbu i (s.restOf i) s)
  else s

/-- The levels as last seen, and the effect of the change once the first sample set has classified the BBU. -/
def bbuChange (i : BbuId) (effect : State → State) (s : State) : State :=
  let x := s.pins.bbu[i]
  let s := s.setBbu i { s.charge.bbus[i] with present := x.present, faultIn := x.fault }
  if s.sense.seen then effect s else s

/-- R37. -/
def execBbuPresentChange (i : BbuId) (level : Bool) (s : State) : Result :=
  .next
    (let x := s.pins.bbu[i]
     if x.present = level then s
     else
      whenRunning (bbuChange i (presentChange i level))
        (s.setPins { s.pins with bbu := s.pins.bbu.set i { x with present := level } }))

/-- R38. -/
def execBbuFaultInputChange (i : BbuId) (level : Bool) (s : State) : Result :=
  .next
    (let x := s.pins.bbu[i]
     if x.fault = level then s
     else
      whenRunning (bbuChange i (faultChange i level))
        (s.setPins { s.pins with bbu := s.pins.bbu.set i { x with fault := level } }))

/-! ### PG (R104 to R106, R119) -/

/-- A rise of PG, by the slot's state. -/
def pgRise (n : SlotId) (s : State) : State :=
  match s.seq.slots[n].state with
  | .off | .queued | .locked => raise (causeSlot n) s.settings.slots[n].pReq codePgWithoutEn s
  | .faulted => recompute s
  | .soak | .on | .notice | .held | .draining => s

/-- A fall of PG, by the slot's state. -/
def pgFall (n : SlotId) (s : State) : State :=
  match s.seq.slots[n].state with
  | .on | .notice | .held => faultSlot n codePgLost s
  | .draining => completeDrain n s
  | .faulted => recompute s
  | .off | .queued | .locked | .soak => s

def pgChange (n : SlotId) (level : Bool) (s : State) : State :=
  let s := s.setSlot n { s.seq.slots[n] with pg := level }
  if level then pgRise n s else pgFall n s

/-- R105. -/
def execPgChange (n : SlotId) (level : Bool) (s : State) : Result :=
  .next
    (if s.pins.pg[n] = level then s
     else whenRunning (pgChange n level) (s.setPins { s.pins with pg := s.pins.pg.set n level }))

end Sys2Proof.Machine
end

