-- ==== Sys2Proof/Machine/Events.lean ====
section
/-! DEFINITION. The publications between blocks, the timers and the status line's events, and which of them an idle part
takes next (log 4). An expiry is an event of a running timer: the expiry of a stopped one does not occur. -/

namespace Sys2Proof.Machine

/-- An expiry, taken when its timer runs. -/
def onExpiry (t : Timer) (f : State → State) (s : State) : State :=
  match t with
  | none => s
  | some _ => f s

/-! ### Publications (R26, R47, R102) -/

/-- R26: one headroom publication at the sequencer, the regulator and the shed controller. -/
def deliverHeadroom (p : Int × Int) (s : State) : State :=
  let s := seqEvent (s.setSeq { s.seq with lastH := p.1 })
  let s := regulatorHeadroom p.1 s
  s.setShed ⟨p.1, p.2⟩

def headroomPublication (s : State) : State :=
  s.budget.pubs.foldl (fun s p => deliverHeadroom p s) (s.setBudget { s.budget with pubs := [] })

def execHeadroomPublication (s : State) : Result := .next (whenRunning headroomPublication s)

/-- R53, R101: the gated-range inhibit at the sequencer. -/
def sequencerReserve (inhibit : Bool) (s : State) : State :=
  if s.seq.lastInhibit = inhibit then s else seqEvent (s.setSeq { s.seq with lastInhibit := inhibit })

/-- R47: one reserve publication at the sequencer, the regulator and the holdup controller. -/
def deliverReserve (p : ReservePub) (s : State) : State :=
  reserveHoldup p (regulatorReserve p (sequencerReserve p.inhibit s))

def reservePublication (s : State) : State :=
  s.charge.pubs.foldl (fun s p => deliverReserve p s) (s.setCharge { s.charge with pubs := [] })

def execReservePublication (s : State) : Result := .next (whenRunning reservePublication s)

/-- R90, R91, R102. -/
def headReport (s : State) : State :=
  s.seq.reports.foldl (fun s r => regulatorHead r s) (s.setSeq { s.seq with reports := [] })

def execHeadReport (s : State) : Result := .next (whenRunning headReport s)

/-! ### Deficit (R30, R31, R126) -/

/-- R30. -/
def expireDeficit (s : State) : State :=
  if s.budget.deficit = .grace then
    raise causeDeficit s.budget.h codeSelection
      (s.setBudget { s.budget with deficit := .selecting, timer := none, selAsked := s.budget.selAsked + 1 })
  else s

def execDeficitTimerExpiry (s : State) : Result :=
  .next (whenRunning (onExpiry s.budget.timer expireDeficit) s)

/-- R126: one selection, made in one event and answered. -/
def selectDeficit (s : State) : State :=
  if s.budget.selAsked = 0 then s
  else
    let s := s.setBudget { s.budget with selAsked := s.budget.selAsked - 1 }
    let start := s.shed.lastH + (s.inFlightSum : Int)
    let r := selectSlots (fun n => s.settings.slots[n].pReq) (s.candidates .deferrable ++ s.candidates .essential) start
    let s := r.1.foldl (fun s n => shedSlot n .deficit .prompt s) s
    s.setBudget { s.budget with answers := s.budget.answers ++ [(r.2, r.1.length)] }

def execDeficitSelection (s : State) : Result := .next (whenRunning selectDeficit s)

/-- R31: the three cases of an answer. -/
def judgeAnswer (projected : Int) (s : State) : State :=
  if 0 ≤ s.budget.h then endDeficit s
  else if 0 ≤ projected then s.setBudget { s.budget with deficit := .covered }
  else enterGrace projected codeStillShort s

/-- R31, R33: the oldest answer not yet taken. Answers come in the order in which the selections were asked (DEDUCED, log 48), so
the stale ones come first. -/
def takeAnswer (s : State) : State :=
  match s.budget.answers with
  | [] => s
  | a :: rest =>
    let stale := s.budget.stale
    let s := s.setBudget { s.budget with answers := rest, stale := stale - 1 }
    if stale = 0 ∧ s.budget.deficit = .selecting then judgeAnswer a.1 (recompute s) else s

def execDeficitAnswer (s : State) : Result := .next (whenRunning takeAnswer s)

/-! ### Timers of the charge accounting unit, the holdup controller and the regulator -/

/-- R57. -/
def expireTest (s : State) : State :=
  if s.charge.test.running then recomputeReserve (abortTest .abortedTime (fun i t => t.restOf i) s) else s

def execTestTimerExpiry (s : State) : Result :=
  .next (whenRunning (onExpiry s.charge.test.timer expireTest) s)

/-- R65, R72. -/
def expireSettle (s : State) : State := if s.holdup.state = .returning then enterOnline s else s

def execSettleTimerExpiry (s : State) : Result := .next (whenRunning (onExpiry s.holdup.settle expireSettle) s)

/-- R68, R123. The shed comes before the raise of cause 130 (DESIGN CHOICE, log 59). -/
def expireBridging (s : State) : State :=
  let s := s.setHoldup { s.holdup with bridging := none }
  raise causeHoldup s.busV codeLimit (shedClass .limit 1 .prompt s)

def execBridgingTimerExpiry (s : State) : Result :=
  .next (whenRunning (onExpiry s.holdup.bridging expireBridging) s)

/-- R69. -/
def expireCollapse (s : State) : State := if s.holdup.state = .bridging then enterBlackout s else s

def execCollapseTimerExpiry (s : State) : Result :=
  .next (whenRunning (onExpiry s.holdup.collapse expireCollapse) s)

/-- R85. -/
def expireStep (s : State) : State := if s.recharge.state = .cruise then stepRegulator s else s

def execStepTimerExpiry (s : State) : Result := .next (whenRunning (onExpiry s.recharge.step expireStep) s)

/-- R86. -/
def expireFloor (s : State) : State :=
  if s.recharge.state = .floor then pauseRegulator codeFloorTime s else s

def execFloorTimerExpiry (s : State) : Result :=
  .next (whenRunning (onExpiry s.recharge.floorTimer expireFloor) s)

/-! ### Timers of the sequencer and the shed controller -/

/-- R101. -/
def expireStagger (s : State) : State := seqEvent (s.setSeq { s.seq with stagger := none })

def execStaggerTimerExpiry (s : State) : Result := .next (whenRunning (onExpiry s.seq.stagger expireStagger) s)

/-- R104. -/
def expireSoak (n : SlotId) (s : State) : State :=
  if s.seq.slots[n].state = .soak then
    seqEvent
      (if s.seq.slots[n].pg then shiftSlot n .on (fun x => { x with soak := none }) s
       else faultSlot n codeSoakNoPg s)
  else s

def execSoakTimerExpiry (n : SlotId) (s : State) : Result :=
  .next (whenRunning (onExpiry s.seq.slots[n].soak (expireSoak n)) s)

/-- R116. -/
def expireWindow (n : SlotId) (s : State) : State :=
  if s.seq.slots[n].state = .notice then enterDraining n s else s

def execNoticeWindowExpiry (n : SlotId) (s : State) : Result :=
  .next (whenRunning (onExpiry s.seq.slots[n].window (expireWindow n)) s)

/-- R117. -/
def expireHold (n : SlotId) (s : State) : State :=
  if s.seq.slots[n].state = .held then enterDraining n s else s

def execHoldLimitExpiry (n : SlotId) (s : State) : Result :=
  .next (whenRunning (onExpiry s.seq.slots[n].hold (expireHold n)) s)

/-- R120: a slot in DRAINING whose PG is still high. -/
def expireDrain (n : SlotId) (s : State) : State :=
  if s.seq.slots[n].state = .draining ∧ s.seq.slots[n].pg = true then faultSlot n codePgStuck s else s

def execDrainTimerExpiry (n : SlotId) (s : State) : Result :=
  .next (whenRunning (onExpiry s.seq.slots[n].drain (expireDrain n)) s)

/-! ### Status line -/

/-- R130, R131, R135: a start by the part or by a tray, on a line that admits it. -/
def startCycle (byTray : Bool) (s : State) : State := if s.admitsStart byTray then beginCycle byTray s else s

def execCycleStart (byTray : Bool) (s : State) : Result := .next (whenRunning (startCycle byTray) s)

/-- R130, R134: the slot frames have been driven, and the next mode is judged. -/
def endFrame23 (s : State) : State :=
  match s.line.cycle with
  | .slotFrame n phase => judgeMode (driveSlotFrames n phase s)
  | .idle | .startFrame _ _ | .stopFrame _ => s

def execSlotFrame23End (s : State) : Result := .next (whenRunning endFrame23 s)

/-- R135. -/
def expireSurvey (s : State) : State := s.setLine { s.line with startDue := true, survey := none }

def execSurveyTimerExpiry (s : State) : Result := .next (whenRunning (onExpiry s.line.survey expireSurvey) s)

/-- R136 to R139. -/
def cycleEnd (samples : CycleSamples) (s : State) : State :=
  match s.line.cycle with
  | .stopFrame _ => endCycle samples s
  | .idle | .startFrame _ _ | .slotFrame _ _ => s

def execCycleEnd (samples : CycleSamples) (s : State) : Result := .next (whenRunning (cycleEnd samples) s)

/-! ### What an idle part takes next (log 4) -/

/-- A timer that has run out and waits for its expiry. -/
def Timer.due (t : Timer) : Bool := t == some 0

/-- The first command of a list of outstanding ones. -/
def firstOf : List (Bool × Instr) → Option Instr
  | [] => none
  | (true, i) :: _ => some i
  | (false, _) :: rest => firstOf rest

/-- The internal events outstanding, in the order an idle part takes them (DESIGN CHOICE, log 4). -/
def State.outstanding (s : State) : List (Bool × Instr) :=
  [(!s.budget.pubs.isEmpty, .headroomPublication), (!s.charge.pubs.isEmpty, .reservePublication),
    (!s.seq.reports.isEmpty, .headReport), (decide (0 < s.budget.selAsked), .deficitSelection),
    (!s.budget.answers.isEmpty, .deficitAnswer), (Timer.due s.budget.timer, .deficitTimerExpiry),
    (Timer.due s.charge.test.timer, .testTimerExpiry), (Timer.due s.holdup.settle, .settleTimerExpiry),
    (Timer.due s.holdup.bridging, .bridgingTimerExpiry), (Timer.due s.holdup.collapse, .collapseTimerExpiry),
    (Timer.due s.recharge.step, .stepTimerExpiry), (Timer.due s.recharge.floorTimer, .floorTimerExpiry),
    (Timer.due s.seq.stagger, .staggerTimerExpiry), (Timer.due s.line.survey, .surveyTimerExpiry)] ++
    slotIds.flatMap fun n =>
      [(Timer.due s.seq.slots[n].soak, .soakTimerExpiry n), (Timer.due s.seq.slots[n].window, .noticeWindowExpiry n),
        (Timer.due s.seq.slots[n].hold, .holdLimitExpiry n), (Timer.due s.seq.slots[n].drain, .drainTimerExpiry n)]

/-- The internal event an idle running part takes, if one is outstanding. -/
def State.nextInternal (s : State) : Option Instr :=
  match s.phase with
  | .running => firstOf s.outstanding
  | .inReset _ | .loading _ => none

end Sys2Proof.Machine
end

