-- ==== Sys2Proof/Machine/Dispatch.lean ====
section
/-! DEFINITION. One arm for each command: each calls the meaning of its own. -/

namespace Sys2Proof.Machine

def exec (i : Instr) (s : State) : Host.Outcome State Fault Refusal :=
  match i with
  | .powerOn straps => Sys2Proof.Machine.execPowerOn straps s
  | .pinResetAssert => Sys2Proof.Machine.execPinResetAssert s
  | .pinResetRelease straps => Sys2Proof.Machine.execPinResetRelease straps s
  | .profileLoadComplete => Sys2Proof.Machine.execProfileLoadComplete s
  | .sampleSet codes => Sys2Proof.Machine.execSampleSet codes s
  | .psuInputChange k pin level => Sys2Proof.Machine.execPsuInputChange k pin level s
  | .headroomPublication => Sys2Proof.Machine.execHeadroomPublication s
  | .deficitTimerExpiry => Sys2Proof.Machine.execDeficitTimerExpiry s
  | .deficitSelection => Sys2Proof.Machine.execDeficitSelection s
  | .deficitAnswer => Sys2Proof.Machine.execDeficitAnswer s
  | .bbuPresentChange k level => Sys2Proof.Machine.execBbuPresentChange k level s
  | .bbuFaultInputChange k level => Sys2Proof.Machine.execBbuFaultInputChange k level s
  | .reservePublication => Sys2Proof.Machine.execReservePublication s
  | .testTimerExpiry => Sys2Proof.Machine.execTestTimerExpiry s
  | .settleTimerExpiry => Sys2Proof.Machine.execSettleTimerExpiry s
  | .bridgingTimerExpiry => Sys2Proof.Machine.execBridgingTimerExpiry s
  | .collapseTimerExpiry => Sys2Proof.Machine.execCollapseTimerExpiry s
  | .stepTimerExpiry => Sys2Proof.Machine.execStepTimerExpiry s
  | .floorTimerExpiry => Sys2Proof.Machine.execFloorTimerExpiry s
  | .headReport => Sys2Proof.Machine.execHeadReport s
  | .staggerTimerExpiry => Sys2Proof.Machine.execStaggerTimerExpiry s
  | .soakTimerExpiry n => Sys2Proof.Machine.execSoakTimerExpiry n s
  | .pgChange n level => Sys2Proof.Machine.execPgChange n level s
  | .noticeWindowExpiry n => Sys2Proof.Machine.execNoticeWindowExpiry n s
  | .holdLimitExpiry n => Sys2Proof.Machine.execHoldLimitExpiry n s
  | .drainTimerExpiry n => Sys2Proof.Machine.execDrainTimerExpiry n s
  | .cycleStart byTray => Sys2Proof.Machine.execCycleStart byTray s
  | .surveyTimerExpiry => Sys2Proof.Machine.execSurveyTimerExpiry s
  | .cycleEnd samples => Sys2Proof.Machine.execCycleEnd samples s
  | .frameReceived bytes => Sys2Proof.Machine.execFrameReceived bytes s
  | .rxGapTimeout => Sys2Proof.Machine.execRxGapTimeout s
  | .txFrameEnd => Sys2Proof.Machine.execTxFrameEnd s
  | .storeWriteComplete verified => Sys2Proof.Machine.execStoreWriteComplete verified s
  | .unknownKind tag kind => Sys2Proof.Machine.execUnknownKind tag kind s
  | .getStatus tag => Sys2Proof.Machine.execGetStatus tag s
  | .getSense tag first count => Sys2Proof.Machine.execGetSense tag first count s
  | .getPsu tag first count => Sys2Proof.Machine.execGetPsu tag first count s
  | .getBbu tag first count => Sys2Proof.Machine.execGetBbu tag first count s
  | .getReserve tag => Sys2Proof.Machine.execGetReserve tag s
  | .getTargets tag first count => Sys2Proof.Machine.execGetTargets tag first count s
  | .getRanges tag => Sys2Proof.Machine.execGetRanges tag s
  | .getSlots tag first count => Sys2Proof.Machine.execGetSlots tag first count s
  | .getQueue tag => Sys2Proof.Machine.execGetQueue tag s
  | .getZones tag first count => Sys2Proof.Machine.execGetZones tag first count s
  | .getCauses tag first count => Sys2Proof.Machine.execGetCauses tag first count s
  | .getTransferRecord tag => Sys2Proof.Machine.execGetTransferRecord tag s
  | .getTest tag => Sys2Proof.Machine.execGetTest tag s
  | .getProfileInfo tag => Sys2Proof.Machine.execGetProfileInfo tag s
  | .setLimit tag point w => Sys2Proof.Machine.execSetLimit tag point w s
  | .setBudget tag w => Sys2Proof.Machine.execSetBudget tag w s
  | .setChargeParams tag bbu w => Sys2Proof.Machine.execSetChargeParams tag bbu w s
  | .setTargets tag mode entries => Sys2Proof.Machine.execSetTargets tag mode entries s
  | .setRanges tag w => Sys2Proof.Machine.execSetRanges tag w s
  | .setHoldup tag w => Sys2Proof.Machine.execSetHoldup tag w s
  | .setRecharge tag w => Sys2Proof.Machine.execSetRecharge tag w s
  | .setSlot tag slot w => Sys2Proof.Machine.execSetSlot tag slot w s
  | .setSequence tag w => Sys2Proof.Machine.execSetSequence tag w s
  | .setZone tag zone w => Sys2Proof.Machine.execSetZone tag zone w s
  | .setLine tag mode survey => Sys2Proof.Machine.execSetLine tag mode survey s
  | .setMasks tag globalAlert entries => Sys2Proof.Machine.execSetMasks tag globalAlert entries s
  | .armTargets tag => Sys2Proof.Machine.execArmTargets tag s
  | .powerUp tag slots => Sys2Proof.Machine.execPowerUp tag slots s
  | .powerDown tag urgency slots => Sys2Proof.Machine.execPowerDown tag urgency slots s
  | .releaseSlot tag slot requeue => Sys2Proof.Machine.execReleaseSlot tag slot requeue s
  | .clearZone tag zone requeue => Sys2Proof.Machine.execClearZone tag zone requeue s
  | .clearLatch tag point => Sys2Proof.Machine.execClearLatch tag point s
  | .clearCause tag causes => Sys2Proof.Machine.execClearCause tag causes s
  | .holdAll tag => Sys2Proof.Machine.execHoldAll tag s
  | .releaseAll tag => Sys2Proof.Machine.execReleaseAll tag s
  | .setCharge tag bbu value => Sys2Proof.Machine.execSetCharge tag bbu value s
  | .startTest tag bbu => Sys2Proof.Machine.execStartTest tag bbu s
  | .abortTest tag => Sys2Proof.Machine.execAbortTest tag s
  | .clearTransferRecord tag => Sys2Proof.Machine.execClearTransferRecord tag s
  | .storeProfile tag => Sys2Proof.Machine.execStoreProfile tag s
  | .lockProfile tag profileSection => Sys2Proof.Machine.execLockProfile tag profileSection s
  | .slotFrame23End => Sys2Proof.Machine.execSlotFrame23End s
  | .frameAbandoned => Sys2Proof.Machine.execFrameAbandoned s

end Sys2Proof.Machine
end

