-- ==== Sys2Proof/Machine/Step.lean ====
section
/-! DEFINITION. One step: the command at the front of the queue, or for an empty queue the internal event outstanding, or
idling. -/

namespace Sys2Proof.Machine

/-- The front command is taken and executed with the queue's rest. On an empty queue the block takes the internal event it has
outstanding, and idles when it has none (DESIGN CHOICE, log 4). -/
def step (s : State) : Host.Outcome State Fault Refusal :=
  match s.pending with
  | i :: rest => exec i { s with pending := rest }
  | [] =>
    match s.nextInternal with
    | some i => exec i s
    | none => .next s

/-- The command a table word spells, at the front of the queue; no row of the table has bits, so no word spells one. -/
def State.withFetchWord (s : State) (nbits w : Nat) : State :=
  match decodeTableWord nbits w with
  | some i => { s with pending := i :: s.pending }
  | none => s

end Sys2Proof.Machine
end

