-- ==== Sys2Proof/Machine/Wire.lean ====
section
/-! DEFINITION. The frames the part sends (R161, R168 to R173): the body of every ACK, of REFUSED and of NOTICE, and the
bytes on TXD, with the rate and the bits of the line (R165). The manual gives a byte layout for the frame, the NOTICE
body and the slot record alone; in every other body the fields stand in the order its rule lists them, each at the width
of R170, with the first index, the count and the records of a bulk read before its summary (R171) and a list after the
fixed fields (R170). What that leaves open is the model's choice (log 45). -/

namespace Sys2Proof.Machine

/-! ### Fields by width (R170, R173: little-endian, two's complement) -/

def longBytes (n : Nat) : List Byte := bytes32 (BitVec.ofNat 32 n)
def signedByte (x : Int) : Byte := BitVec.ofInt 8 x
def signedWord (x : Int) : List Byte := bytes16 (BitVec.ofInt 16 x)
def signedLong (x : Int) : List Byte := bytes32 (BitVec.ofInt 32 x)
def flagByte (b : Bool) : Byte := if b then 1 else 0

/-- A field that can be none: a flag, then the value, 0 for none (log 45). -/
def optional (field : Nat → List Byte) : Option Nat → List Byte
  | none => flagByte false :: field 0
  | some n => flagByte true :: field n

/-- Up to eight flags as one byte, flag 0 at bit 0 (log 45). -/
def packFlags : List Bool → Nat
  | [] => 0
  | b :: bs => (if b then 1 else 0) + 2 * packFlags bs

/-! ### Settings -/

def PointSettings.bytes (x : PointSettings) : List Byte :=
  signedLong x.span ++ signedLong x.offset ++ [byteOf x.mode.code, byteOf x.direction.code] ++ signedWord x.high ++
    signedWord x.low

def DerateEntry.bytes (x : DerateEntry) : List Byte := signedByte x.t :: wordBytes x.f

def BudgetSettings.bytes (x : BudgetSettings) : List Byte :=
  wordBytes x.pRate ++ [byteOf x.nRed] ++ x.derate.flatMap DerateEntry.bytes ++ [byteOf x.grace]

def BbuSettings.bytes (x : BbuSettings) : List Byte :=
  longBytes x.qFull ++ longBytes x.qFloor ++ wordBytes x.eta ++ wordBytes x.vFloat ++ wordBytes x.iTaper ++
    wordBytes x.taperTime ++ [flagByte x.anchor] ++ longBytes x.margin ++ wordBytes x.vCutoff ++ wordBytes x.detect ++
    [signedByte x.tCrit] ++ longBytes x.dRated ++ wordBytes x.testCurrent ++ wordBytes x.testLimit ++
    wordBytes x.testReserve

def TargetEntry.bytes (x : TargetEntry) : List Byte :=
  longBytes x.threshold ++ [byteOf x.direction.code, byteOf x.action.code, byteOf x.minClass, byteOf x.urgency.code]

def RangeEntry.bytes (x : RangeEntry) : List Byte := wordBytes x.low ++ wordBytes x.high ++ [flagByte x.gate]

def HoldupSettings.bytes (x : HoldupSettings) : List Byte :=
  [byteOf x.nAcMin] ++ wordBytes x.vBridge ++ wordBytes x.vReturn ++ wordBytes x.vCollapse ++ wordBytes x.collapseTime ++
    wordBytes x.tSettle ++ wordBytes x.tMax

def RechargeSettings.bytes (x : RechargeSettings) : List Byte :=
  wordBytes x.hTgt ++ wordBytes x.hTol ++ wordBytes x.deltaI ++ [byteOf x.stepInterval] ++ wordBytes x.iMax ++
    wordBytes x.iFloor ++ wordBytes x.iStart ++ wordBytes x.floorTime ++ [byteOf x.source.code, signedByte x.tChgLim]

/-- A leak zone, 255 for none (R170). -/
def zoneByte (z : Option ZoneId) : Byte := match z with | none => 255 | some z => byteOf z.val

def SlotSettings.bytes (x : SlotSettings) : List Byte :=
  [flagByte x.enabled, byteOf x.cls.code, byteOf x.rank] ++ wordBytes x.pReq ++ wordBytes x.pInrush ++ wordBytes x.soak ++
    [byteOf x.drainLimit, zoneByte x.zone, byteOf x.role.code, flagByte x.autoRestore]

def SequenceSettings.bytes (x : SequenceSettings) : List Byte :=
  wordBytes x.staggerCount ++ [byteOf x.staggerUnit, byteOf x.maxSoak, flagByte x.autoStart] ++
    wordBytes x.noticeWindow ++ wordBytes x.holdCritical ++ wordBytes x.holdEssential ++ wordBytes x.holdDeferrable

def ZoneSettings.bytes (x : ZoneSettings) : List Byte :=
  wordBytes x.shortThr ++ wordBytes x.wetThr ++ wordBytes x.dryThr ++ wordBytes x.openThr ++
    [byteOf x.kRope, byteOf x.kTray, byteOf x.policy.code, flagByte x.acceptTray]

def LineSettings.bytes (x : LineSettings) : List Byte := byteOf x.mode.code :: wordBytes x.survey

/-! ### Records and summaries of the queries -/

/-- R79, R93, R142, R162, R179. -/
def StatusReport.bytes (r : StatusReport) : List Byte :=
  [byteOf r.holdup.code, byteOf r.acCount, r.acEval.code, flagByte r.eventOpen] ++ wordBytes r.events ++
    wordBytes r.settle ++ wordBytes r.bridging ++ wordBytes r.collapse ++
    [r.regulator.code] ++ wordBytes r.iSet ++ [byteOf (packFlags r.members.toList)] ++
    r.shares.toList.flatMap wordBytes ++ [flagByte r.yielded, signedByte r.sourceTemp, byteOf r.step] ++
    wordBytes r.floorTime ++
    [byteOf r.line.code, byteOf r.lineMode.code, flagByte r.cycleRunning] ++ longBytes r.cycleNo ++
    [byteOf r.faultRun, byteOf r.cleanRun] ++ wordBytes r.faults ++ longBytes r.notices.toNat ++
    longBytes r.latched.toNat ++ longBytes r.attention.toNat ++ longBytes r.holds.toNat ++
    [r.leak, flagByte r.leakHeld] ++ wordBytes r.survey ++ r.lineSettings.bytes ++
    [flagByte r.alert] ++ longBytes r.seconds ++ [byteOf (storeStateCode r.writing), flagByte r.unstored]

/-- One point of GET_SENSE, 19 bytes, so that twelve fit the bound of R171: the three flags in one byte (raw code present, stale,
alarm), and 0 in every field that a rope point lacks (log 45). -/
def SenseReport.bytes (r : SenseReport) : List Byte :=
  byteOf (packFlags [r.raw.isSome, r.stale, r.alarm == some true]) ::
    (wordBytes (match r.raw with | none => 0 | some c => c.toNat) ++ signedWord r.value ++
      (match r.settings with | none => List.replicate 14 0 | some x => x.bytes))

/-- R35. -/
def PsuReport.bytes (r : PsuReport) : List Byte :=
  [flagByte r.present, byteOf r.state.code, flagByte r.acOk, flagByte r.dcOk] ++ signedWord r.current ++
    [flagByte r.stale, flagByte r.alarm]

/-- R35. -/
def BudgetSummary.bytes (r : BudgetSummary) : List Byte :=
  [byteOf r.nGood] ++ longBytes r.cRaw ++ wordBytes r.f ++ longBytes r.cap ++ longBytes r.sigma ++ longBytes r.pChg ++
    signedLong r.h ++ signedLong r.hp ++ [r.deficit.code, byteOf r.timer]

/-- R59. -/
def BbuReport.bytes (r : BbuReport) : List Byte :=
  [flagByte r.present, byteOf r.state.code] ++ longBytes r.q ++ wordBytes r.r ++
    [flagByte r.calibrated, flagByte r.bottomed, flagByte r.full] ++ wordBytes r.taper ++
    optional (fun n => [byteOf n]) r.health ++ r.settings.bytes

/-- R59. -/
def TestReport.bytes (r : TestReport) : List Byte :=
  optional (fun n => [byteOf n]) (r.bbu.map fun i => i.val) ++ longBytes r.start ++ longBytes r.d ++ wordBytes r.elapsed ++
    wordBytes r.limit ++ [flagByte r.running, byteOf r.result.code]

/-- R111, the queue last. -/
def QueueReport.bytes (r : QueueReport) : List Byte :=
  [byteOf r.holdup.code] ++ longBytes r.stagger ++
    [flagByte r.targetInhibit, flagByte r.gatedInhibit, byteOf r.soakCount, byteOf r.maxSoak] ++ signedLong r.h ++
    optional wordBytes r.headNeed ++ optional wordBytes r.lastReport ++
    r.queue.flatMap fun e => byteOf e.1.val :: wordBytes e.2

/-- The slots of a zone as 24 bytes, slot n's state at byte n, 255 for a slot of another zone or none: a record of fixed size
that fits the bound of R171 four times (log 45). -/
def memberStates (slots : List (SlotId × SlotState)) : List Byte :=
  slotIds.map fun n => match slots.find? fun e => e.1 == n with | none => 255 | some e => byteOf e.2.code

/-- R155. -/
def ZoneReport.bytes (r : ZoneReport) : List Byte :=
  r.settings.bytes ++ [byteOf r.state.code, byteOf r.confirmation.code] ++
    optional wordBytes (r.code.map fun c => c.toNat) ++
    [byteOf r.cls.code, flagByte r.ropeFault, byteOf r.ropeCount, byteOf r.trayCount, flagByte r.report,
      flagByte r.reportHeld, flagByte r.valve] ++ memberStates r.slots

/-- R164: the cause number with its unassigned flag, then the record. -/
def CauseReport.bytes (r : CauseReport) : List Byte :=
  [byteOf r.cause.val, flagByte (!r.assigned), flagByte r.condition, flagByte r.pending, byteOf r.count] ++
    bytes32 r.value ++ [r.code, flagByte r.mask, flagByte r.alertEnable, flagByte r.queued]

/-- R164. -/
def CauseSummary.bytes (r : CauseSummary) : List Byte :=
  [byteOf r.outboxLength] ++ optional (fun n => [byteOf n]) (r.head.map fun c => c.val) ++
    [flagByte r.hold, flagByte r.globalAlert, flagByte r.alert]

/-- Section 4.6, the matched entries last. -/
def Transfer.bytes (r : Transfer) : List Byte :=
  [flagByte r.valid, flagByte r.isOpen] ++ wordBytes r.seqNo ++ longBytes r.start ++ [triggerCode r.trigger] ++
    longBytes r.rStart ++ wordBytes r.tEstStart ++ wordBytes r.minBusV ++ [byteOf r.flickers] ++ longBytes r.duration ++
    longBytes r.rEnd ++ [endReasonCode r.endReason, byteOf r.since] ++ r.matched.map byteOf

/-- R179; the time since acceptance, in 10 ms units and at most 300 ms (R175), is 0 when no write is in flight. -/
def ProfileReport.bytes (r : ProfileReport) : List Byte :=
  [r.source.code, flagByte r.checkPassed] ++ bytes32 r.crc ++
    [flagByte r.unstored, flagByte r.lockSafety, flagByte r.lockOrder, flagByte r.lockGeneral,
      byteOf (storeStateCode r.writingTime.isSome)] ++
    [byteOf (r.writingTime.getD 0), r.lastResult.code] ++ longBytes r.count

/-! ### Bodies -/

/-- R171: the first index, the count, the records, then the summary. -/
def bulkBytes (first count : Nat) (records summary : List Byte) : List Byte :=
  [byteOf first, byteOf count] ++ records ++ summary

/-- The reply fields of an ACK after its KIND, but for GET_SLOTS, whose body R173 gives whole. -/
def Ack.fields : Ack → List Byte
  | .plain => []
  | .status r => r.bytes
  | .sense first count points iAvg setNo =>
    bulkBytes first count (points.flatMap SenseReport.bytes) (wordBytes iAvg ++ longBytes setNo)
  | .psus first count xs summary => bulkBytes first count (xs.flatMap PsuReport.bytes) summary.bytes
  | .bbus first count xs => bulkBytes first count (xs.flatMap BbuReport.bytes) []
  | .reserve r tEst iAvg band inhibit usable =>
    longBytes r ++ wordBytes tEst ++ wordBytes iAvg ++ [byteOf (packFlags band.toList), flagByte inhibit] ++
      usable.flatMap longBytes
  | .targets mode n p armed halted first count entries =>
    bulkBytes first count (entries.flatMap TargetEntry.bytes)
      [byteOf mode.code, byteOf n, byteOf p, flagByte armed, flagByte halted]
  | .ranges entries band => entries.toList.flatMap RangeEntry.bytes ++ [byteOf (packFlags band.toList)]
  | .slots body => body.drop 1
  | .queue r => r.bytes
  | .zones first count xs => bulkBytes first count (xs.flatMap ZoneReport.bytes) []
  | .causes first count xs summary => bulkBytes first count (xs.flatMap CauseReport.bytes) summary.bytes
  | .transfer r => r.bytes
  | .test r => r.bytes
  | .profile r => r.bytes
  | .limit settings alarm => settings.bytes ++ [flagByte alarm]
  | .budget settings cap h => settings.bytes ++ longBytes cap ++ signedLong h
  | .chargeParams settings => settings.bytes
  | .targetTable settings => byteOf settings.mode.code :: settings.entries.flatMap TargetEntry.bytes
  | .holdup settings state => settings.bytes ++ [byteOf state.code]
  | .recharge settings state iSet => settings.bytes ++ [state.code] ++ wordBytes iSet
  | .slot settings state => settings.bytes ++ [byteOf state.code]
  | .sequence settings => settings.bytes
  | .zone settings state => settings.bytes ++ [byteOf state.code]
  | .line settings state mode => settings.bytes ++ [byteOf state.code, byteOf mode.code]
  | .masks globalAlert entries =>
    flagByte globalAlert :: entries.flatMap fun e => [byteOf e.1.val, flagByte e.2.mask, flagByte e.2.alertEnable]
  | .slotList entries =>
    entries.flatMap fun e => [byteOf e.slot.val, byteOf e.result.code, byteOf e.state.code]
  | .released state => [byteOf state.code]
  | .cleared state requeued =>
    byteOf state.code :: requeued.flatMap fun e => [byteOf e.1.val, byteOf e.2.code]
  | .latch mode alarm => [byteOf mode.code, flagByte alarm]
  | .conditions entries => entries.map fun e => flagByte e.2
  | .globalHold hold => [flagByte hold]
  | .charge q => longBytes q
  | .locks safety order general => [flagByte safety, flagByte order, flagByte general]

/-- Section 11.5: an ACK body begins with the KIND of the request it answers. -/
def Ack.body (kind : Byte) (a : Ack) : List Byte := kind :: a.fields

/-- R173: the NOTICE body, LEN 8. -/
def Notice.body (n : Notice) : List Byte :=
  [byteOf n.cause.val, byteOf n.count, flagByte n.condition, n.code] ++ bytes32 n.value

/-! ### Frames on TXD -/

/-- KIND of the frames the part sends (section 11.5). -/
def kindAck : Byte := 0x80
def kindRefused : Byte := 0x81
def kindNotice : Byte := 0x90

/-- R168, R169: a reply echoes the tag; a REFUSED body is the refusal code and the KIND refused. -/
def Reply.frame : Reply → Frame
  | .ack tag kind a => ⟨kindAck, tag, a.body kind⟩
  | .refused tag code kind => ⟨kindRefused, tag, [byteOf code.code, kind]⟩

/-- R161: a notice carries TAG 0. -/
def Notice.frame (n : Notice) : Frame := ⟨kindNotice, 0, n.body⟩

def Sending.frame : Sending → Frame
  | .reply r => r.frame
  | .notice n => n.frame

/-- The bytes of the frame now on TXD, SOF to CRC (R173); none on an idle line. -/
def State.txd (s : State) : List Byte := match s.link.tx with | none => [] | some x => x.frame.bytes

/-! ### Rate and bits of the line (R165) -/

/-- R165: the rate in bit/s of both directions, by the straps LR1:LR0 as read at the end of the last reset. -/
def Link.rate (x : Link) : Nat :=
  if x.straps = 0b01#2 then 460800 else if x.straps = 0b10#2 then 921600 else 115200

/-- R165: one byte on TXD or RXD: a start bit, low as on any UART (PRESUMED, log 62), 8 data bits, least significant first, no parity
and 1 stop bit, high (R166). -/
def uartBits (b : Byte) : List Bool := false :: ((List.range 8).map fun k => b.getLsbD k) ++ [true]

/-- The byte of ten bits on RXD, as FRAME_RECEIVED carries it; none for bits that are no byte, a low stop bit among them, which is
the event of FRAME_ABANDONED (R166). -/
def uartByte : List Bool → Option Byte
  | [false, b0, b1, b2, b3, b4, b5, b6, b7, true] => some (byteOf (packFlags [b0, b1, b2, b3, b4, b5, b6, b7]))
  | _ => none

/-- The bits of the frame now on TXD, in their order, each byte right after the one before (DESIGN CHOICE, log 31); none on an idle
line. -/
def State.txdBits (s : State) : List Bool := s.txd.flatMap uartBits

/-- The level of TXD in bit `k` of what is on it; an idle line, in reset too, is high (R165). -/
def State.txdLevel (s : State) (k : Nat) : Bool := (s.txdBits[k]?).getD true

end Sys2Proof.Machine
end

