-- ==== Sys2Proof/Safety.lean ====
section
/-! DEFINITION. The laws the manual states of the whole part, each as a property of one state: what every command keeps. A law
that speaks of a running part is guarded by `running`; between RST_N's fall and load completion the outputs are latched and the
records wait for the load (R178). Also the vocabulary of the statements: a request taken at once, and the part of the state
that most commands leave alone. -/

namespace Sys2Proof.Machine

/-! ### Vocabulary -/

/-- R167, R168: a request that arrives now is executed at once. -/
def State.atOnce (s : State) : Bool := s.canExecute && s.link.queue.isEmpty

/-- The start-up has reached load completion (R178). -/
def State.running (s : State) : Prop := s.phase = .running

/-- The pieces of state that no event below the sample set changes, save the commands that name them. -/
structure Base where
  phase : Phase
  lastReset : ResetKind
  pins : Pins
  settings : Settings
  sense : Sense
  shed : Shed
  leak : Leak
  store : Store
  clock : Nat
  free : Nat
  pending : List Instr

def State.base (s : State) : Base :=
  ⟨s.phase, s.lastReset, s.pins, s.settings, s.sense, s.shed, s.leak, s.store, s.clock, s.free, s.pending⟩

/-- Cause `c` has been raised in going from `s` to `t` (R157): its record carries the snapshot, and the cause is pending or its
notice has begun on a transmitter that was free (R161). -/
def RaisedFrom (s t : State) (c : CauseId) (value : Int) (code : Byte) : Prop :=
  t.causes.recs[c].value = BitVec.ofInt 32 value ∧ t.causes.recs[c].code = code ∧
    (t.causes.recs[c].pending = true ∨
      (s.link.tx = none ∧ ∃ n, t.link.tx = some (.notice n) ∧ n.cause = c))

/-! ### Settings in their ranges -/

/-- R7. -/
def PointSettings.legal (p : AnalogId) (x : PointSettings) : Prop :=
  -65535 ≤ x.span ∧ x.span ≤ 65535 ∧ -65535 ≤ x.offset ∧ x.offset ≤ 65535 ∧
    (pointRange (AnalogId.point p)).1 ≤ x.low ∧ x.low ≤ x.high ∧ x.high ≤ (pointRange (AnalogId.point p)).2

/-- R22: the ranges, and a table of four entries in ascending order of T_k. -/
def BudgetSettings.legal (x : BudgetSettings) : Prop :=
  x.pRate ≤ 20000 ∧ x.nRed ≤ 3 ∧ x.grace ≤ 100 ∧ x.derate.length = 4 ∧
    x.derate.Pairwise (fun a b => a.t ≤ b.t) ∧ ∀ e ∈ x.derate, -128 ≤ e.t ∧ e.t ≤ 127 ∧ e.f ≤ 256

/-- R36. -/
def BbuSettings.legal (x : BbuSettings) : Prop :=
  1 ≤ x.qFull ∧ x.qFull ≤ 16777215 ∧ x.qFloor < x.qFull ∧ 1 ≤ x.eta ∧ x.eta ≤ 256 ∧ 1 ≤ x.taperTime ∧
    x.taperTime ≤ 6000 ∧ 1 ≤ x.margin ∧ x.margin ≤ x.qFull ∧ 1 ≤ x.detect ∧ x.detect ≤ 32767 ∧ 1 ≤ x.dRated ∧
    x.dRated ≤ 16777215 ∧ 1 ≤ x.testCurrent ∧ x.testCurrent ≤ 32767 ∧ 1 ≤ x.testLimit ∧ x.testLimit ≤ 36000 ∧
    x.vFloat ≤ 65535 ∧ x.iTaper ≤ 32767 ∧ x.vCutoff ≤ 65535 ∧ -128 ≤ x.tCrit ∧ x.tCrit ≤ 127 ∧ x.testReserve ≤ 65535

/-- R48. -/
def TargetSettings.legal (x : TargetSettings) : Prop :=
  x.entries.length ≤ 16 ∧
    ∀ e ∈ x.entries, e.threshold ≤ 67108860 ∧ 1 ≤ e.minClass ∧ e.minClass ≤ 2 ∧
      (e.action = .shed → e.urgency ≠ .none)

/-- R61. -/
def HoldupSettings.legal (x : HoldupSettings) : Prop :=
  1 ≤ x.nAcMin ∧ x.nAcMin ≤ 6 ∧ x.vCollapse ≤ x.vBridge ∧ x.vBridge + 50 ≤ x.vReturn ∧ x.vReturn ≤ 65535 ∧
    1 ≤ x.collapseTime ∧ x.collapseTime ≤ 500 ∧ 5 ≤ x.tSettle ∧ x.tSettle ≤ 600 ∧ x.tMax ≤ 3600

/-- R82. -/
def RechargeSettings.legal (x : RechargeSettings) : Prop :=
  x.hTgt ≤ 20000 ∧ x.hTol ≤ x.hTgt ∧ 1 ≤ x.deltaI ∧ x.deltaI ≤ 1000 ∧ 1 ≤ x.stepInterval ∧ x.stepInterval ≤ 100 ∧
    1 ≤ x.iFloor ∧ x.iFloor ≤ x.iStart ∧ x.iStart ≤ x.iMax ∧ x.iMax ≤ 32767 ∧ 1 ≤ x.floorTime ∧ x.floorTime ≤ 3600 ∧
    -128 ≤ x.tChgLim ∧ x.tChgLim ≤ 127

/-- R94. -/
def SlotSettings.legal (x : SlotSettings) : Prop :=
  x.rank ≤ 255 ∧ x.pReq ≤ 12000 ∧ x.pInrush ≤ 12000 ∧ 1 ≤ x.soak ∧ x.soak ≤ 600 ∧ 1 ≤ x.drainLimit ∧ x.drainLimit ≤ 30

/-- R103. -/
def SequenceSettings.legal (x : SequenceSettings) : Prop :=
  1 ≤ x.staggerCount ∧ x.staggerCount ≤ 9999 ∧ (x.staggerUnit = 1 ∨ x.staggerUnit = 10 ∨ x.staggerUnit = 100) ∧
    1 ≤ x.maxSoak ∧ x.maxSoak ≤ 4 ∧ 5 ≤ x.noticeWindow ∧ x.noticeWindow ≤ 6000 ∧ x.holdCritical ≤ 600 ∧
    x.holdEssential ≤ 600 ∧ x.holdDeferrable ≤ 600

/-- R143: the thresholds stand in order. -/
def ZoneSettings.legal (x : ZoneSettings) : Prop :=
  x.shortThr < x.wetThr ∧ x.wetThr < x.dryThr ∧ x.dryThr < x.openThr ∧ x.openThr ≤ 4095 ∧ 1 ≤ x.kRope ∧
    x.kRope ≤ 255 ∧ 1 ≤ x.kTray ∧ x.kTray ≤ 255

/-- Every setting lies in the range its chapter gives it. -/
def Settings.legal (x : Settings) : Prop :=
  (∀ p : AnalogId, PointSettings.legal p x.points[p]) ∧ x.budget.legal ∧ (∀ i : BbuId, x.bbus[i].legal) ∧
    x.targets.legal ∧ (∀ k : RangeId, x.ranges[k].low ≤ x.ranges[k].high ∧ x.ranges[k].high ≤ 65535) ∧
    x.holdup.legal ∧ x.recharge.legal ∧ (∀ n : SlotId, x.slots[n].legal) ∧ x.sequence.legal ∧
    (∀ z : ZoneId, x.zones[z].legal) ∧ 1 ≤ x.line.survey ∧ x.line.survey ≤ 1000

/-- R170: the working settings, the snapshot being written and the stored profile hold values in range and no others. -/
def SettingsLaw (s : State) : Prop :=
  s.settings.legal ∧ s.store.nvm.profile.legal ∧ ∀ w, s.store.writing = some w → w.snapshot.legal

/-! ### Slots, queue, leaks and classes -/

/-- R95 and the tables of sections 6.2 and 7: EN, the notice bit and each timer of a slot stand and run in the states the
manual gives them and in no other; a slot powered past its soak or draining has PG high; cause 72+n follows FAULTED (R107). -/
def SlotLaw (s : State) : Prop :=
  s.running → ∀ n : SlotId,
    let x := s.seq.slots[n]
    x.en = x.state.powered ∧ x.notice = (x.state == .notice || x.state == .held) ∧
      x.soak.isSome = (x.state == .soak) ∧ x.window.isSome = (x.state == .notice) ∧
      x.hold.isSome = (x.state == .held) ∧ x.drain.isSome = (x.state == .draining) ∧
      ((x.state = .on ∨ x.state = .notice ∨ x.state = .held ∨ x.state = .draining) → x.pg = true) ∧
      s.causes.recs[causeSlot n].condition = (x.state == .faulted)

/-- R96, R97: the queue holds each QUEUED slot once and no other, in ascending order of (rank, slot number), and no slot of a
WET zone. -/
def QueueLaw (s : State) : Prop :=
  s.running →
    s.seq.queue.Pairwise (fun a b => s.before a b = true) ∧
      ∀ n : SlotId, (n ∈ s.seq.queue ↔ s.seq.slots[n].state = .queued) ∧
        (s.seq.slots[n].state = .queued → s.slotWet n = false)

/-- R151, R152: a WET zone whose policy closes the valve has its valve closed; while a VALVE_AND_SHED zone is WET, every slot
of it is DRAINING for the leak, FAULTED or LOCKED. -/
def LeakLaw (s : State) : Prop :=
  (∀ z : ZoneId, s.leak.zones[z].state = .wet → s.settings.zones[z].policy.closesValve = true →
      s.leak.zones[z].valve = true) ∧
    (s.running → ∀ n : SlotId, s.slotWetShed n = true →
      (s.seq.slots[n].state = .draining ∧ s.seq.slots[n].reason = .leak) ∨ s.seq.slots[n].state = .faulted ∨
        s.seq.slots[n].state = .locked)

/-- R112 and section 7.1: a slot stands in NOTICE or HELD for a reason that gives warning, and a CRITICAL slot only under a
POWER_DOWN. -/
def WarningLaw (s : State) : Prop :=
  s.running → ∀ n : SlotId,
    let x := s.seq.slots[n]
    (x.state = .notice ∨ x.state = .held) →
      (x.reason = .manager ∨ x.reason = .reserve ∨ x.reason = .limit ∨ x.reason = .deficit) ∧
        (s.settings.slots[n].cls = .critical → x.reason = .manager)

/-! ### Zones -/

/-- R145, R150, R152: the conditions of causes 32+z and 40+z follow the zone; a DRY zone's rope is trusted, a FAULT zone's is
not; a SUSPECT zone has evidence, unless a pin reset has just kept it. -/
def ZoneLaw (s : State) : Prop :=
  s.running → ∀ z : ZoneId,
    let x := s.leak.zones[z]
    s.causes.recs[causeZoneWet z].condition = (x.state == .wet) ∧
      s.causes.recs[causeRopeFault z].condition = x.ropeFault ∧
      (x.state = .dry → x.ropeFault = false) ∧ (x.state = .fault → x.ropeFault = true) ∧
      (x.state = .suspect → 0 < x.ropeCount ∨ 0 < x.trayCount ∨ x.awaitSet = true ∨ x.awaitCycle = true) ∧
      x.ropeCount ≤ 255 ∧ x.trayCount ≤ 255

/-! ### Scanner, budget, charge, regulator, holdup -/

/-- R4, R8, R14: a point is stale exactly when its last code was none or a rail code; mode OFF has no alarm; the conditions of
causes 0 to 28 follow the point records. -/
def SenseLaw (s : State) : Prop :=
  s.running →
    (∀ p : AnalogId,
      let x := s.sense.points[AnalogId.point p]
      x.stale = startsOrRails x.raw ∧ (s.settings.points[p].mode = .off → x.alarm = false) ∧
        s.causes.recs[causePoint (AnalogId.point p)].condition = (x.alarm || x.stale)) ∧
    ∀ z : ZoneId,
      let x := s.sense.points[ropePoint z]
      s.causes.recs[causePoint (ropePoint z)].condition = (match x.raw with | none => false | some c => railCode c)
where
  /-- No code yet, or a rail code. -/
  startsOrRails (raw : Option (BitVec 12)) : Bool := match raw with | none => true | some c => railCode c

/-- Section 2.5, R21, R33: the deficit timer runs exactly in GRACE, deficit handling runs only under ONLINE, and the conditions
of causes 131 and 124+k follow their states. -/
def BudgetLaw (s : State) : Prop :=
  s.running →
    s.budget.timer.isSome = (s.budget.deficit == .grace) ∧ (s.budget.deficit ≠ .idle → s.holdup.state = .online) ∧
      s.causes.recs[causeDeficit].condition = (s.budget.deficit != .idle) ∧
      ∀ k : PsuId, s.causes.recs[causePsu k].condition =
        (s.budget.psus[k].state == .noAc || s.budget.psus[k].state == .fault)

/-- R43, R45: 0 ≤ Q ≤ Qfull, 0 ≤ r ≤ 25,599, the full flag is set while Q is Qfull. -/
def ChargeLaw (s : State) : Prop :=
  ∀ i : BbuId,
    let b := s.charge.bbus[i]
    b.q ≤ s.settings.bbus[i].qFull ∧ b.r ≤ 25599 ∧ b.full = (b.q == s.settings.bbus[i].qFull)

/-- The table of section 5.1, R81, R83 and R92: I_set and the two timers in each regulator state, the yield flag in CRUISE
alone, OFF outside ONLINE, the shares of I_set, and the condition of cause 136. -/
def RegulatorLaw (s : State) : Prop :=
  s.running →
    let x := s.recharge
    let set := s.settings.recharge
    x.lastHoldup = s.holdup.state ∧ (s.holdup.state ≠ .online → x.state = .off) ∧
      x.shares = sharesOf x.members x.iSet ∧ (x.yielded = true → x.state = .cruise) ∧
      x.step.isSome = (x.state == .cruise) ∧ x.floorTimer.isSome = (x.state == .floor) ∧
      s.causes.recs[causeRecharge].condition = (x.state == .paused || x.state == .thermalHold) ∧
      match x.state with
      | .off | .paused => x.iSet = 0
      | .cruise => set.iFloor ≤ x.iSet ∧ x.iSet ≤ set.iMax
      | .floor | .thermalHold => x.iSet = set.iFloor

/-- Chapter 4: the settle timer runs exactly in RETURN, the collapse timer in BRIDGING alone, the bridging timer within an open
event, an event is open in BRIDGING or RETURN alone, a record is open within it and not valid too, the sequencer's copy of the
holdup state is the state, and cause 130 follows it (R62 to R77). -/
def HoldupLaw (s : State) : Prop :=
  s.running →
    let x := s.holdup
    x.settle.isSome = (x.state == .returning) ∧ (x.collapse.isSome = true → x.state = .bridging) ∧
      (x.bridging.isSome = true → x.eventOpen = true) ∧
      (x.eventOpen = true → x.state = .bridging ∨ x.state = .returning) ∧
      (x.record.isOpen = true → x.eventOpen = true ∧ x.record.valid = false) ∧ s.seq.lastHoldup = x.state ∧
      s.causes.recs[causeHoldup].condition = x.state.alarming

/-! ### Status line -/

/-- R130, R131, R134, R135: SSL_DAT since the cycle began, or over the last cycle with its gap on an idle line that has run one, is
what the table of R130 gives for the place in the cycle, in content and so in clock periods; the stop frame has the length of the
mode it announces. -/
def Line.WaveLaw (x : Line) : Prop :=
  match x.cycle with
  | .idle => x.wave = [] ∨ ∃ byTray, x.wave = cycleClocks byTray x.latched x.mode
  | .startFrame _ _ => False
  | .slotFrame n phase =>
    ∃ byTray, x.wave = startClocks byTray ++ (slotClocks x.latched).take (6 * n.val + phase.offset)
  | .stopFrame clocks =>
    clocks = x.mode.stopLength ∧ ∃ byTray, x.wave = startClocks byTray ++ slotClocks x.latched

/-- R130 to R139: SSL_DAT as the table of the cycle gives it; the counts within their bounds; a FAILED line hands no hold; causes 48+n and 132 follow the vectors and the
state; a quiet line waiting for a start has its survey timer running or a start due, and has a start due whenever the
continuous condition holds. -/
def LineLaw (s : State) : Prop :=
  s.running →
    let x := s.line
    x.enabled = true ∧ x.faultRun ≤ 3 ∧ x.cleanRun ≤ 16 ∧ x.faults ≤ 65535 ∧ (x.state = .failed → x.hold = 0) ∧
      (∀ n : SlotId, s.causes.recs[causeAttention n].condition = x.attention.getLsbD n.val) ∧
      s.causes.recs[causeLine].condition = (x.state == .failed) ∧
      (x.mode = .quiet → x.cycle.waiting = true →
        (x.survey.isSome = true ∨ x.startDue = true) ∧ (s.continuousCondition = true → x.startDue = true)) ∧
      x.WaveLaw

/-! ### Causes and link -/

/-- R157: each cause stands in the outbox at most once, and exactly while it is pending and unmasked; a cause is pending
exactly while its count is above 0. R162: ALERT follows the conditions and the alert-enables. -/
def CauseLaw (s : State) : Prop :=
  s.causes.outbox.Nodup ∧
    (∀ c : CauseId, (c ∈ s.causes.outbox ↔ s.causes.recs[c].pending = true ∧ s.settings.masks[c].mask = false) ∧
      (s.causes.recs[c].pending = true ↔ 0 < s.causes.recs[c].count) ∧ s.causes.recs[c].count ≤ 255) ∧
    (s.running → s.causes.alert = s.alertLevel)

/-- Execution replies waiting or being sent (R167). -/
def State.executionReplies (s : State) : Nat :=
  s.link.replies.countP (fun r => !r.isBusy) + (match s.link.tx with | some t => if t.isExecution then 1 else 0 | none => 0)

/-- R161, R167, R168: at most four requests, four BUSY replies and one execution reply; no request waits that may be executed;
the transmitter is not idle while a reply waits, nor while a notice may be begun. -/
def LinkLaw (s : State) : Prop :=
  s.link.queue.length ≤ 4 ∧ s.busyWaiting ≤ 4 ∧ s.executionReplies ≤ 1 ∧
    (s.canExecute = true → s.link.queue = []) ∧
    (s.link.tx = none → s.link.replies = [] ∧ (s.causes.hold = true ∨ s.causes.outbox = []))

/-! ### All the laws -/

/-- Every law together: what a state reached from reset satisfies. -/
structure Lawful (s : State) : Prop where
  settings : SettingsLaw s
  slots : SlotLaw s
  queue : QueueLaw s
  leaks : LeakLaw s
  warnings : WarningLaw s
  zones : ZoneLaw s
  points : SenseLaw s
  budget : BudgetLaw s
  charge : ChargeLaw s
  regulator : RegulatorLaw s
  holdup : HoldupLaw s
  line : LineLaw s
  causes : CauseLaw s
  link : LinkLaw s

/-- A law that each step of a lawful part keeps. -/
def KeptByEveryStep (law : State → Prop) : Prop := ∀ s t : State, Lawful s → step s = .next t → law t

/-! ### Outcomes -/

/-- The command completes: `exec` answers a next state, of which `Q` holds. -/
def Gives (c : Instr) (s : State) (Q : State → Prop) : Prop := ∃ t, exec c s = .next t ∧ Q t

/-- What a change of one slot or of one power figure brings with it elsewhere, and no more: the recompute of R26 with the
deficit state and the regulator's pause it can cause (R28, R32, R88), the setpoint outputs (R41), a start owed by the status
line (R135), and the causes with the frame on TXD. The sequencer is left to the statement that uses it. -/
structure Ripple (s t : State) : Prop where
  base : t.base = s.base
  holdup : t.holdup = s.holdup
  charge : t.charge = { s.charge with bbus := t.charge.bbus }
  bbus : ∀ i : BbuId, t.charge.bbus[i] = { s.charge.bbus[i] with out := t.charge.bbus[i].out }
  budget :
    t.budget =
      { s.budget with
        sigma := t.budget.sigma
        pChg := t.budget.pChg
        h := t.budget.h
        hp := t.budget.hp
        deficit := t.budget.deficit
        timer := t.budget.timer
        pubs := t.budget.pubs }
  recharge :
    t.recharge =
      { s.recharge with
        state := t.recharge.state
        iSet := t.recharge.iSet
        shares := t.recharge.shares
        step := t.recharge.step
        floorTimer := t.recharge.floorTimer
        yielded := t.recharge.yielded }
  line : t.line = { s.line with startDue := t.line.startDue, survey := t.line.survey }
  link : t.link = { s.link with replies := t.link.replies, tx := t.link.tx }

/-- The reserve has just been reckoned and published (R47, R53): R over the counted BBUs, T_est, the band set, and the pair handed
to the consumers. -/
def State.reserveReckoned (t : State) : Prop :=
  t.charge.r =
      (bbuIds.map fun i =>
        if t.charge.bbus[i].state.counted then t.charge.bbus[i].q - t.settings.bbus[i].qFloor else 0).sum ∧
    t.charge.tEst = (if t.sense.iAvg < 10 then 65535 else min 65535 (t.charge.r / t.sense.iAvg)) ∧
    (∀ k : RangeId, t.charge.band[k] = inBand t.settings.ranges[k] t.charge.tEst) ∧
    t.charge.pubs.getLast? =
      some ⟨t.charge.r, t.charge.tEst, t.charge.band, t.gatedBy t.charge.band, t.countedBbus, t.sense.seen⟩

/-! ### Requests taken at once -/

/-- The request is accepted: it is answered ACK with its fields, and the part goes from `s` to `t` and then sends (R168). -/
def Accepts (c : Instr) (s : State) (tag kind : Byte) (fields : Ack) (t : State) : Prop :=
  exec c s = .next (pushReply (.ack tag kind fields) t)

/-- The request is accepted: it is answered ACK, and `Q` holds of the ACK's fields and of the state the reply then leaves from
(R168). -/
def Answers (c : Instr) (s : State) (tag kind : Byte) (Q : Ack → State → Prop) : Prop :=
  ∃ fields t, exec c s = .next (pushReply (.ack tag kind fields) t) ∧ Q fields t

/-- The request is refused and changes nothing but the link, which sends the refusal (R169). -/
def Refuses (c : Instr) (s : State) (tag kind : Byte) (code : RefusalCode) : Prop :=
  exec c s = .next (pushReply (.refused tag code kind) s)

end Sys2Proof.Machine
end

