-- ==== Sys2Proof/WellFormed.lean ====
section
/-! DEFINITION. Which terms of `Instr` are commands the part can receive: a request whose body fits a frame (LEN at most 248,
R166, R173), and an UNKNOWN_KIND whose KIND is no request kind of the catalogue (R169). Operands out of their ranges are well
formed: the rules say how they are clamped or refused. -/

namespace Sys2Proof

/-- The body of the request fits a frame. -/
def Instr.fitsFrame (i : Instr) : Bool :=
  match encodeRequest i with
  | some f => decide (f.body.length ≤ 248)
  | none => true

/-- An UNKNOWN_KIND row names a KIND outside the catalogue (R169). -/
def Instr.kindIsUnknown (i : Instr) : Bool :=
  match i with
  | .unknownKind _ kind => (Kind.ofByte kind).isNone
  | _ => true

/-- A FRAME_RECEIVED row carries at most one whole frame, 254 bytes (R173). -/
def Instr.frameIsWhole (i : Instr) : Bool :=
  match i with
  | .frameReceived bytes => decide (bytes.length ≤ 254)
  | _ => true

def Instr.wf (i : Instr) : Bool := i.fitsFrame && i.kindIsUnknown && i.frameIsWhole

end Sys2Proof
end

