-- ==== Sys2Proof/Certificates/Slice0/Obligations.lean ====
section
/-! DEFINITION. The statements for the provers, chapter by chapter. OBLIGATIONS.json gives each its rule and its words. -/

open Sys2Proof Sys2Proof.Machine

/-! ### The machine as a whole -/

/-- The command at the front of the queue is the one a step runs, on the state with the queue's rest. -/
def Obligations.StepRunsTheFrontCommand : Prop :=
  ∀ (c : Instr) (rest : List Instr) (s : State),
    step { s with pending := c :: rest } = exec c { s with pending := rest }

/-- With no command waiting the part takes the internal event it has outstanding, a headroom publication before a reserve
publication before a head report, and idles when it has none (the model's choice, log 4). -/
def Obligations.IdlePartTakesWhatIsOutstanding : Prop :=
  ∀ s : State, s.pending = [] →
    (s.running → s.budget.pubs ≠ [] → step s = exec .headroomPublication s) ∧
      (s.running → s.budget.pubs = [] → s.charge.pubs ≠ [] → step s = exec .reservePublication s) ∧
      (s.running → s.budget.pubs = [] → s.charge.pubs = [] → s.seq.reports ≠ [] → step s = exec .headReport s) ∧
      (¬ s.running → step s = .next s) ∧
      ((s.outstanding.all fun e => !e.1) = true → step s = .next s)

/-- Every command completes in every state, and leaves the queue of waiting commands alone. Only the three input changes move
the part's view of its input pins. The seconds since power-on run with the sample intervals alone and restart at power-on alone
(the model's choice of time, log 3). -/
def Obligations.EveryCommandCompletes : Prop :=
  ∀ (c : Instr) (s : State), ∃ t, exec c s = .next t ∧ t.pending = s.pending ∧
    ((∀ k pin level, c ≠ .psuInputChange k pin level) → (∀ i level, c ≠ .bbuPresentChange i level) →
      (∀ i level, c ≠ .bbuFaultInputChange i level) → (∀ n level, c ≠ .pgChange n level) → t.pins = s.pins) ∧
    (∀ codes, c = .sampleSet codes → s.running → t.clock = s.clock + 10) ∧
    (∀ straps, c = .powerOn straps → t.clock = 0) ∧
    ((∀ codes, c ≠ .sampleSet codes) → (∀ straps, c ≠ .powerOn straps) → t.clock = s.clock)

/-- The reset values the manual states, on a part whose profile was never written (R16, R34, R58, R79, R93, R110, R127, R141,
R154, R163, R174, R179). That the state called reset is the one in which the first profile load ends is the model's choice (log 1). -/
def Obligations.ResetHoldsTheManualValues : Prop :=
  let s := State.reset
  s.settings = defaultSettings ∧
    (∀ p : PointId, s.sense.points[p] = ⟨none, 0, true, false⟩) ∧ s.sense.window = [] ∧ s.sense.iAvg = 0 ∧
    (∀ k : PsuId, s.budget.psus[k].state = .absent) ∧ s.budget.nGood = 0 ∧ s.budget.cap = 0 ∧ s.budget.sigma = 0 ∧
    s.budget.h = 0 ∧ s.budget.hp = 0 ∧ s.budget.deficit = .idle ∧ s.budget.timer = none ∧
    (∀ i : BbuId, s.charge.bbus[i].state = .absent ∧ s.charge.bbus[i].q = 30000 ∧ s.charge.bbus[i].r = 0 ∧
      s.charge.bbus[i].calibrated = false ∧ s.charge.bbus[i].bottomed = false ∧ s.charge.bbus[i].full = false ∧
      s.charge.bbus[i].health = none ∧ s.charge.bbus[i].out = ⟨false, false, 0⟩) ∧
    s.charge.r = 0 ∧ s.charge.tEst = 65535 ∧ (∀ k : RangeId, s.charge.band[k] = false) ∧ s.charge.p = 0 ∧
    s.charge.armed = false ∧ s.charge.halted = false ∧ s.charge.test.result = .none ∧
    s.holdup.state = .starting ∧ s.holdup.settle = none ∧ s.holdup.bridging = none ∧ s.holdup.collapse = none ∧
    s.holdup.eventOpen = false ∧ s.holdup.events = 0 ∧ s.holdup.acCount = 0 ∧ s.holdup.acEval = .neither ∧
    s.holdup.record.valid = false ∧ s.holdup.record.isOpen = false ∧ s.holdup.record.since = 0 ∧
    s.recharge.state = .off ∧ s.recharge.iSet = 0 ∧ s.recharge.step = none ∧ s.recharge.floorTimer = none ∧
    s.recharge.yielded = false ∧ s.recharge.lastH = 0 ∧ s.recharge.lastHead = none ∧ s.recharge.lastHoldup = .starting ∧
    (∀ n : SlotId, s.seq.slots[n].state = .off ∧ s.seq.slots[n].en = false ∧ s.seq.slots[n].reason = .none ∧
      s.seq.slots[n].urgency = .none ∧ s.seq.slots[n].restore = false ∧ s.seq.slots[n].notice = false) ∧
    s.seq.queue = [] ∧ s.seq.stagger = none ∧ s.seq.targetInhibit = false ∧ s.seq.lastHoldup = .starting ∧
    s.seq.lastInhibit = false ∧ s.seq.lastReport = none ∧
    s.line.state = .ok ∧ s.line.mode = .continuous ∧ s.line.latched = 0 ∧ s.line.attention = 0 ∧ s.line.hold = 0 ∧
    s.line.leak = 0 ∧ s.line.faultRun = 0 ∧ s.line.cleanRun = 0 ∧ s.line.faults = 0 ∧ s.line.cycleNo = 0 ∧
    s.line.survey = none ∧
    (∀ z : ZoneId, s.leak.zones[z].state = .dry ∧ s.leak.zones[z].cls = .none ∧ s.leak.zones[z].code = none ∧
      s.leak.zones[z].ropeFault = false ∧ s.leak.zones[z].ropeCount = 0 ∧ s.leak.zones[z].trayCount = 0 ∧
      s.leak.zones[z].confirmation = .none ∧ s.leak.zones[z].valve = false) ∧
    s.causes.outbox = [] ∧ s.causes.hold = false ∧
    (∀ c : CauseId, s.causes.recs[c].condition = decide (c.val < 21 ∨ c.val = 135)) ∧
    s.link.rx = .hunt ∧ s.link.queue = [] ∧ s.link.replies = [] ∧
    s.store.source = .defaults ∧ s.store.lockSafety = false ∧ s.store.lockOrder = false ∧ s.store.lockGeneral = false ∧
    s.store.unstored = false ∧ s.store.lastResult = .none ∧ s.store.count = 0 ∧ s.store.writing = none

/-- The reset state satisfies every law. It is what the profile load of a part just powered on, with low pins and a profile never
written, ends in (the model's choice of the state called reset, log 1), and the notice of cause 135 is the one frame on TXD
(R174, R178). -/
def Obligations.ResetIsLawfulAndEndsTheFirstLoad : Prop :=
  Lawful State.reset ∧
    exec .profileLoadComplete (State.poweredOn Pins.allLow 0 Nvm.blank 0 []) = .next State.reset ∧
    State.reset.link.tx = some (.notice ⟨135, 1, true, 1, 0⟩)

/-! ### The laws, kept by every step from every lawful state -/

/-- R7, R22, R36, R48, R53, R61, R82, R94, R103, R140, R143, R170. -/
def Obligations.SettingsStayInRange : Prop := KeptByEveryStep SettingsLaw
/-- R95, R107 and the tables of sections 6.2 and 7. -/
def Obligations.EnableAndSlotTimersFollowTheState : Prop := KeptByEveryStep SlotLaw
/-- R96, R97. -/
def Obligations.QueueHoldsTheQueuedSlotsInOrder : Prop := KeptByEveryStep QueueLaw
/-- R151, R152. -/
def Obligations.WetZonesKeepValveAndSlotsShut : Prop := KeptByEveryStep LeakLaw
/-- R145, R150, R152. -/
def Obligations.ZoneStatesMatchTheirEvidence : Prop := KeptByEveryStep ZoneLaw
/-- R4, R8, R14. -/
def Obligations.SenseConditionsFollowThePoints : Prop := KeptByEveryStep SenseLaw
/-- Section 2.5, R21, R33. -/
def Obligations.DeficitHandlingRunsUnderOnlineAlone : Prop := KeptByEveryStep BudgetLaw
/-- R43. -/
def Obligations.ChargeCountersStayInBounds : Prop := KeptByEveryStep ChargeLaw
/-- Section 5.1, R81, R83, R92. -/
def Obligations.RegulatorKeepsItsStateTable : Prop := KeptByEveryStep RegulatorLaw
/-- R62 to R77. -/
def Obligations.HoldupTimersAndRecordFollowTheState : Prop := KeptByEveryStep HoldupLaw
/-- R130 to R139; a start that is due (log 26) and the record of SSL_DAT clock by clock (log 16) are fields of the model's own. -/
def Obligations.StatusLineKeepsItsCountsAndStarts : Prop := KeptByEveryStep LineLaw
/-- R157, R162. -/
def Obligations.OutboxAndAlertFollowTheRecords : Prop := KeptByEveryStep CauseLaw
/-- R161, R167, R168. -/
def Obligations.LinkHoldsOneReplyAndNeverStalls : Prop := KeptByEveryStep LinkLaw

/-! ### Management link (chapter 11) and causes (chapter 10) -/

/-- Every command that can be received comes back from its own frame: each field is read where it was written, and a KIND outside
the catalogue is found to be one (R169, R170, R173). -/
def Obligations.RequestsSurviveTheirFrames : Prop :=
  ∀ (c : Instr) (f : Frame), c.wf = true → encodeRequest c = some f →
    f.bytes.length = 6 + f.body.length ∧ f.bytes.length ≤ 254 ∧
      decodeFrame f = if Kind.ofByte f.kind = none then .error .unknownKind else .ok c

/-- The bytes of a request on RXD do what the request does: it is executed at once or waits its turn (R166 to R168). -/
def Obligations.ReceivedFrameRunsItsRequest : Prop :=
  ∀ (c : Instr) (f : Frame) (s : State), c.wf = true → encodeRequest c = some f → s.link.rx = .hunt →
    (s.canExecute = true → s.link.queue = []) → exec (.frameReceived f.bytes) s = exec c s

/-- The receiver offers a frame whose CRC is right, and drops without a trace a frame whose CRC is wrong, a byte that starts no
frame and a frame with a LEN above 248; a gap or a bad stop bit makes it hunt again (R166). -/
def Obligations.ReceiverOffersGoodFramesAlone : Prop :=
  ∀ s : State, (∀ cold, s.phase ≠ .inReset cold) →
    exec .rxGapTimeout s = .next { s with link := { s.link with rx := .hunt } } ∧
      exec .frameAbandoned s = .next { s with link := { s.link with rx := .hunt } } ∧
      (s.link.rx = .hunt →
        (∀ f : Frame, f.body.length ≤ 248 → exec (.frameReceived f.bytes) s = .next (acceptFrame f s)) ∧
          (∀ (f : Frame) (c0 c1 : Byte), f.body.length ≤ 248 → le16 c0 c1 ≠ crc16 f.covered →
            exec (.frameReceived (0xA5#8 :: (f.covered ++ [c0, c1]))) s = .next s) ∧
          (∀ b : Byte, b ≠ 0xA5#8 → exec (.frameReceived [b]) s = .next s) ∧
          ∀ len : Byte, 248 < len.toNat → exec (.frameReceived [0xA5#8, len]) s = .next s)

/-- A request that may not be executed at once joins the queue of four; past four it is answered BUSY, and past four BUSY
replies too it is dropped (R167). A request executed at once gets one reply, ACK or a refusal, with its tag and kind; a refusal is
not BUSY and changes nothing but the link, and no further request is executed until the reply has been sent (R168, R169). That a
request is executed in the event that brings it whenever R168 lets it be is the model's choice (log 15). -/
def Obligations.RequestsWaitOrGetOneReply : Prop :=
  (∀ (c : Instr) (f : Frame) (s : State), encodeRequest c = some f → s.atOnce = false →
      (∀ cold, s.phase ≠ .inReset cold) →
        (s.link.queue.length < 4 →
          exec c s = .next { s with link := { s.link with queue := s.link.queue ++ [f] } }) ∧
        (4 ≤ s.link.queue.length → s.busyWaiting < 4 →
          exec c s = .next (pushReply (.refused f.tag .busy f.kind) s)) ∧
        (4 ≤ s.link.queue.length → 4 ≤ s.busyWaiting → exec c s = .next s)) ∧
    (∀ (c : Instr) (f : Frame) (s : State), encodeRequest c = some f → s.atOnce = true →
    (∃ fields t, perform c s = .ok (t, fields) ∧
      exec c s = .next (pushReply (.ack f.tag f.kind fields) t) ∧
        (pushReply (.ack f.tag f.kind fields) t).canExecute = false) ∨
      ∃ code, code ≠ .busy ∧ perform c s = .error code ∧
        exec c s = .next (pushReply (.refused f.tag code f.kind) s) ∧
          (pushReply (.refused f.tag code f.kind) s).canExecute = false) ∧
    ∀ (r : Reply) (s : State),
      (s.link.tx ≠ none →
        pushReply r s = { s with link := { s.link with replies := s.link.replies ++ [r] } }) ∧
      (s.link.tx = none → s.link.replies = [] → pushReply r s = { s with link := { s.link with tx := some (.reply r) } })

/-- When a frame on TXD ends, the oldest waiting reply is sent; with none waiting, a notice is begun for the outbox head unless the
global hold is set, which takes the cause out of the outbox and clears its pending flag and count but not its snapshot; and then the
request at the head of the queue is executed once no execution reply is waiting or being sent (R161, R168). That the end of a frame
changes nothing while none is on the line is the model's reading (log 30). The bytes on TXD are SOF, LEN, KIND, TAG, the body and
the CRC: an ACK body is the KIND of the request and its fields, a REFUSED body the code and the KIND, and a notice has TAG 0 and the
eight bytes of its record (R169, R173). Each byte goes out as a start bit, its 8 bits from the least significant on, and a high stop
bit, an idle line is high, ten bits on RXD are a byte in that form alone, and the straps read at the last reset set the rate of
both directions (R165). That the start bit is low is presumed (log 62), and that the bytes of a frame follow one another without idle
bits is the model's choice (log 31). -/
def Obligations.TransmitRule : Prop :=
  (∀ s : State, s.link.tx = none → exec .txFrameEnd s = .next s) ∧
    (∀ s : State, (∀ cold, s.phase ≠ .inReset cold) → s.link.tx ≠ none →
      let free := { s.link with tx := none }
      (∀ r rest, s.link.replies = r :: rest →
        exec .txFrameEnd s = .next (executeHead { s with link := { free with tx := some (.reply r), replies := rest } })) ∧
      (s.link.replies = [] → s.causes.hold = true ∨ s.causes.outbox = [] →
        exec .txFrameEnd s = .next (executeHead { s with link := free })) ∧
      ∀ c rest, s.link.replies = [] → s.causes.hold = false → s.causes.outbox = c :: rest →
        let r := s.causes.recs[c]
        exec .txFrameEnd s =
          .next (executeHead
            { s with
              causes := { s.causes with recs := s.causes.recs.set c { r with pending := false, count := 0 }, outbox := rest }
              link := { free with tx := some (.notice ⟨c, r.count, r.condition, r.code, r.value⟩) } })) ∧
    (∀ u : State,
      (u.canExecute = false ∨ u.link.queue = [] → executeHead u = u) ∧
        ∀ f rest, u.canExecute = true → u.link.queue = f :: rest →
          let v := { u with link := { u.link with queue := rest } }
          (∀ c, decodeFrame f = .ok c → executeHead u = answer f.tag f.kind (perform c v) v) ∧
            (decodeFrame f = .error .unknownKind → executeHead u = pushReply (.refused f.tag .unknownKind f.kind) v) ∧
            (decodeFrame f = .error .badLength → executeHead u = pushReply (.refused f.tag .badLength f.kind) v)) ∧
    ∀ u : State,
      let whole (kind tag : Byte) (body : List Byte) : List Byte :=
        let covered := BitVec.ofNat 8 body.length :: kind :: tag :: body
        0xA5#8 :: (covered ++ bytes16 (crc16 covered))
      (u.link.tx = none → u.txd = []) ∧
        (∀ n : Notice, u.link.tx = some (.notice n) →
          u.txd =
            whole 0x90 0
              ([BitVec.ofNat 8 n.cause.val, BitVec.ofNat 8 n.count, if n.condition then 1 else 0, n.code] ++
                bytes32 n.value)) ∧
        (∀ (tag kind : Byte) (code : RefusalCode), u.link.tx = some (.reply (.refused tag code kind)) →
          u.txd = whole 0x81 tag [BitVec.ofNat 8 code.code, kind]) ∧
        (∀ (tag kind : Byte) (fields : Ack), u.link.tx = some (.reply (.ack tag kind fields)) →
          u.txd = whole 0x80 tag (kind :: fields.fields)) ∧
        (∀ k : Nat, u.txdLevel k =
          match u.txd[k / 10]? with
          | none => true
          | some b => if k % 10 = 0 then false else if k % 10 = 9 then true else b.getLsbD (k % 10 - 1)) ∧
        (∀ (bits : List Bool) (b : Byte),
          uartByte bits = some b ↔
            bits =
              [false, b.getLsbD 0, b.getLsbD 1, b.getLsbD 2, b.getLsbD 3, b.getLsbD 4, b.getLsbD 5, b.getLsbD 6, b.getLsbD 7,
                true]) ∧
        (u.link.straps = 0b00#2 ∨ u.link.straps = 0b11#2 → u.link.rate = 115200) ∧
        (u.link.straps = 0b01#2 → u.link.rate = 460800) ∧ (u.link.straps = 0b10#2 → u.link.rate = 921600)

/-- A KIND outside the catalogue is refused UNKNOWN_KIND; an item out of range is refused OUT_OF_RANGE, and so is a list with
one such entry and a bulk read past its table; a list of a wrong length is refused BAD_LENGTH (R169 to R171). -/
def Obligations.BadRequestsAreRefused : Prop :=
  ∀ (s : State) (tag b : Byte), s.atOnce = true →
    Refuses (.unknownKind tag b) s tag b .unknownKind ∧
      (29 ≤ b.toNat → ∀ n, Refuses (.getSense tag b n) s tag 0x11 .outOfRange) ∧
      (6 ≤ b.toNat → ∀ n, Refuses (.getPsu tag b n) s tag 0x12 .outOfRange) ∧
      (4 ≤ b.toNat → ∀ n, Refuses (.getBbu tag b n) s tag 0x13 .outOfRange) ∧
      (16 ≤ b.toNat → ∀ n, Refuses (.getTargets tag b n) s tag 0x15 .outOfRange) ∧
      (24 ≤ b.toNat → ∀ n, Refuses (.getSlots tag b n) s tag 0x17 .outOfRange) ∧
      (8 ≤ b.toNat → ∀ n, Refuses (.getZones tag b n) s tag 0x19 .outOfRange) ∧
      (137 ≤ b.toNat → ∀ n, Refuses (.getCauses tag b n) s tag 0x1A .outOfRange) ∧
      (21 ≤ b.toNat → ∀ w, Refuses (.setLimit tag b w) s tag 0x30 .outOfRange) ∧
      (4 ≤ b.toNat → ∀ w, Refuses (.setChargeParams tag b w) s tag 0x32 .outOfRange) ∧
      (24 ≤ b.toNat → ∀ w, Refuses (.setSlot tag b w) s tag 0x37 .outOfRange) ∧
      (8 ≤ b.toNat → b ≠ 255 → ∀ (n : Byte) (w : SlotW), Refuses (.setSlot tag n { w with zone := b }) s tag 0x37 .outOfRange) ∧
      (8 ≤ b.toNat → ∀ w, Refuses (.setZone tag b w) s tag 0x39 .outOfRange) ∧
      (24 ≤ b.toNat → ∀ q, Refuses (.releaseSlot tag b q) s tag 0x53 .outOfRange) ∧
      (8 ≤ b.toNat → ∀ q, Refuses (.clearZone tag b q) s tag 0x54 .outOfRange) ∧
      (21 ≤ b.toNat → Refuses (.clearLatch tag b) s tag 0x55 .outOfRange) ∧
      (4 ≤ b.toNat → ∀ v, Refuses (.setCharge tag b v) s tag 0x59 .outOfRange) ∧
      (4 ≤ b.toNat → Refuses (.startTest tag b) s tag 0x5A .outOfRange) ∧
      (3 ≤ b.toNat → Refuses (.lockProfile tag b) s tag 0x5E .outOfRange) ∧
      (∀ list : List Byte,
        (list = [] ∨ 24 < list.length →
          Refuses (.powerUp tag list) s tag 0x51 .badLength ∧ ∀ u, Refuses (.powerDown tag u list) s tag 0x52 .badLength) ∧
        (list = [] ∨ 134 < list.length → Refuses (.clearCause tag list) s tag 0x56 .badLength) ∧
        (list.length ≤ 24 → b ∈ list → 24 ≤ b.toNat →
          Refuses (.powerUp tag list) s tag 0x51 .outOfRange ∧
            ∀ u, Refuses (.powerDown tag u list) s tag 0x52 .outOfRange) ∧
        (list.length ≤ 134 → b ∈ list → ((29 ≤ b.toNat ∧ b.toNat ≤ 31) ∨ 137 ≤ b.toNat) →
          Refuses (.clearCause tag list) s tag 0x56 .outOfRange)) ∧
      (∀ (mode : Byte) (list : List TargetW), 16 < list.length →
        Refuses (.setTargets tag mode list) s tag 0x33 .badLength) ∧
      ∀ (alert : Byte) (list : List MaskW),
        (82 < list.length → Refuses (.setMasks tag alert list) s tag 0x3B .badLength) ∧
        (list.length ≤ 82 → (∃ e ∈ list, (29 ≤ e.cause.toNat ∧ e.cause.toNat ≤ 31) ∨ 137 ≤ e.cause.toNat) →
          Refuses (.setMasks tag alert list) s tag 0x3B .outOfRange)

/-- A locked section keeps its fields and its lock through every command but the two that load the profile; the GENERAL section
alone is also rewritten by the sample set that completes a capacity test, and by no other sample set (R177). -/
def Obligations.LockedSectionsHold : Prop :=
  ∀ (c : Instr) (s t : State), exec c s = .next t → (∀ straps, c ≠ .powerOn straps) → c ≠ .profileLoadComplete →
    (s.store.lockSafety = true → t.store.lockSafety = true ∧ t.settings.safety = s.settings.safety) ∧
      (s.store.lockOrder = true → t.store.lockOrder = true ∧ t.settings.order = s.settings.order) ∧
      (s.store.lockGeneral = true →
        t.store.lockGeneral = true ∧
          ((∀ codes, c ≠ .sampleSet codes) ∨ s.charge.test.running = false ∨ t.charge.test.running = true ∨
              t.charge.test.result ≠ .complete →
            t.settings.general = s.settings.general))

/-- A raise: the record is made pending with its count one higher, to at most 255, and takes the snapshot; the cause joins the
outbox at its tail unless masked or already there; on a transmitter that is free to begin a notice the notice begins at once. No
other record changes (R157, R161). A condition report changes the condition and ALERT and nothing else, and ALERT is then what the
conditions and the alert-enables call for (R156, R162). -/
def Obligations.RaisesAndReportsKeepTheRecords : Prop :=
  (∀ (c : CauseId) (value : Int) (code : Byte) (s : State),
      (s.link.tx = none → s.link.replies = [] ∧ (s.causes.hold = true ∨ s.causes.outbox = [])) →
        let t := raise c value code s
        let old := s.causes.recs[c]
        let new : Cause := ⟨old.condition || eventSource c, true, min 255 (old.count + 1), BitVec.ofInt 32 value, code⟩
        let begins := s.link.tx = none ∧ s.causes.hold = false ∧ s.settings.masks[c].mask = false
        t = { s with causes := t.causes, link := { s.link with tx := t.link.tx } } ∧ t.causes.hold = s.causes.hold ∧
          (∀ d, d ≠ c → t.causes.recs[d] = s.causes.recs[d]) ∧
          (eventSource c = true → t.causes.alert = t.alertLevel) ∧ (eventSource c = false → t.causes.alert = s.causes.alert) ∧
          (begins →
            t.causes.recs[c] = { new with pending := false, count := 0 } ∧ t.causes.outbox = [] ∧
              t.link.tx = some (.notice ⟨c, new.count, new.condition, code, new.value⟩)) ∧
          (¬ begins →
            t.causes.recs[c] = new ∧ t.link.tx = s.link.tx ∧
              t.causes.outbox =
                if s.settings.masks[c].mask = true ∨ c ∈ s.causes.outbox then s.causes.outbox else s.causes.outbox ++ [c])) ∧
    ∀ (c : CauseId) (active : Bool) (s : State),
      let t := reportCondition c active s
      t = { s with causes := { s.causes with recs := t.causes.recs, alert := t.causes.alert } } ∧
        t.causes.recs = s.causes.recs.set c { s.causes.recs[c] with condition := active } ∧
        (s.causes.recs[c].condition = active → t.causes.alert = s.causes.alert) ∧
        (s.causes.recs[c].condition ≠ active →
          (t.causes.alert = true ↔
            s.settings.globalAlert = true ∧
              ∃ d : CauseId, s.settings.masks[d].alertEnable = true ∧ t.causes.recs[d].condition = true))

/-- SET_MASKS on one cause and on a list, of which the last entry for a cause stands and any one changing a locked field refuses the
whole, CLEAR_CAUSE, HOLD_ALL and RELEASE_ALL (R158 to R160, R169, R177). That no notice begins in the request itself, even on
a free transmitter, is the model's choice (log 15): the ACK goes first. -/
def Obligations.MasksClearsAndTheHold : Prop :=
  ∀ (s : State) (tag : Byte), s.atOnce = true →
    (∀ (alert b m a : Byte) (c : CauseId), takeCause b = some c →
      let mask := m != 0
      let on : MaskSettings := ⟨mask, a != 0⟩
      let new := { s.settings with globalAlert := alert != 0, masks := s.settings.masks.set c on }
      let out := s.causes.outbox
      let old := s.settings.masks[c].mask
      (s.lockAllows new = false → Refuses (.setMasks tag alert [⟨b, m, a⟩]) s tag 0x3B .locked) ∧
        (s.lockAllows new = true →
          Answers (.setMasks tag alert [⟨b, m, a⟩]) s tag 0x3B fun fields t =>
            fields = .masks (alert != 0) [(c, on)] ∧
              t = { s with settings := new, store := { s.store with unstored := true }, causes := t.causes } ∧
              t.causes =
                { s.causes with
                  alert := t.alertLevel
                  outbox :=
                    if mask && !old then out.filter (· ≠ c)
                    else if old && !mask && s.causes.recs[c].pending && !out.contains c then out ++ [c]
                    else out })) ∧
      (∀ (alert : Byte) (list : List MaskW) (es : List (CauseId × MaskSettings)), list.length ≤ 82 →
        takeMasks list = some es →
          let changes := (alert != 0) ≠ s.settings.globalAlert ∨ ∃ e ∈ es, s.settings.masks[e.1] ≠ e.2
          (s.store.lockGeneral = true → changes → Refuses (.setMasks tag alert list) s tag 0x3B .locked) ∧
            (s.store.lockGeneral = false ∨ ¬ changes →
              Answers (.setMasks tag alert list) s tag 0x3B fun fields t =>
                fields = .masks (alert != 0) es ∧
                  t =
                    { s with
                      settings := { s.settings with globalAlert := alert != 0, masks := t.settings.masks }
                      store := { s.store with unstored := true }
                      causes := { s.causes with outbox := t.causes.outbox, alert := t.alertLevel } } ∧
                  ∀ c : CauseId,
                    t.settings.masks[c] =
                      match es.reverse.find? fun e => e.1 == c with
                      | none => s.settings.masks[c]
                      | some e => e.2)) ∧
      (∀ list : List Byte, 1 ≤ list.length → list.length ≤ 134 → takeIds takeCause list = none →
        Refuses (.clearCause tag list) s tag 0x56 .outOfRange) ∧
      (∀ (list : List Byte) (cs : List CauseId), 1 ≤ list.length → list.length ≤ 134 → takeIds takeCause list = some cs →
        Answers (.clearCause tag list) s tag 0x56 fun fields t =>
          t = { s with causes := t.causes } ∧ t.causes.hold = s.causes.hold ∧
            t.causes.outbox = s.causes.outbox.filter (· ∉ cs) ∧
            fields = .conditions (cs.map fun c => (c, t.causes.recs[c].condition)) ∧
            (∀ c : CauseId,
              t.causes.recs[c] =
                if c ∈ cs then ⟨s.causes.recs[c].condition && !eventSource c, false, 0, 0, 0⟩ else s.causes.recs[c]) ∧
            (s.causes.alert = s.alertLevel → t.causes.alert = t.alertLevel)) ∧
      Accepts (.holdAll tag) s tag 0x57 (.globalHold true) { s with causes := { s.causes with hold := true } } ∧
      Accepts (.releaseAll tag) s tag 0x58 (.globalHold false) { s with causes := { s.causes with hold := false } }

/-! ### Queries (R171, R173 and the reports of every chapter) -/

/-- The queries that name no item answer with the records as they stand and change nothing: every field of GET_STATUS and of
GET_QUEUE is named. A remaining time is 0 when stopped and exact in whole units (R59, R78, R79, R93, R111, R142, R179). That
GET_RESERVE gives U for all four BBUs (log 24), the exactness in whole units (log 6), the source temperature by the source in force
(log 44), and the CRC of the profile stored before a write while that write is in flight (log 56) are the model's readings. -/
def Obligations.PlainQueriesReportTheRecords : Prop :=
  ∀ (s : State) (tag : Byte), s.atOnce = true →
    let gated := decide (∃ k : RangeId, s.charge.band[k] = true ∧ s.settings.ranges[k].gate = true)
    let test := s.charge.test
    Accepts (.getStatus tag) s tag 0x10 (.status s.statusReport) s ∧
      Accepts (.getReserve tag) s tag 0x14
        (.reserve s.charge.r s.charge.tEst s.sense.iAvg s.charge.band gated
          (bbuIds.map fun i => s.charge.bbus[i].q - s.settings.bbus[i].qFloor)) s ∧
      Accepts (.getRanges tag) s tag 0x16 (.ranges s.settings.ranges s.charge.band) s ∧
      Accepts (.getQueue tag) s tag 0x18 (.queue s.queueReport) s ∧
      Accepts (.getTransferRecord tag) s tag 0x1B (.transfer s.holdup.record) s ∧
      Accepts (.getTest tag) s tag 0x1C
        (.test ⟨test.bbu, test.start, test.d, test.elapsed, test.limit, test.running, test.result⟩) s ∧
      Accepts (.getProfileInfo tag) s tag 0x1D
        (.profile ⟨s.store.source, s.store.source == .stored, s.store.nvm.crc, s.store.unstored, s.store.lockSafety,
          s.store.lockOrder, s.store.lockGeneral, s.store.writing.map fun w => reportTime 10 (some w.elapsed),
          s.store.lastResult, s.store.count⟩) s ∧
      s.queueReport.queue.map (·.1) = s.seq.queue ∧
      (s.queueReport.headNeed =
        match s.seq.queue with
        | [] => none
        | n :: _ => some (s.settings.slots[n].pReq + s.settings.slots[n].pInrush)) ∧
      (∀ unit k : Nat, 0 < unit → reportTime unit none = 0 ∧ reportTime unit (some (k * unit)) = k) ∧
      (let r := s.statusReport
       r =
          { holdup := s.holdup.state, acCount := s.holdup.acCount, acEval := s.holdup.acEval,
            eventOpen := s.holdup.eventOpen, events := s.holdup.events, settle := reportTime 100 s.holdup.settle,
            bridging := reportTime 1000 s.holdup.bridging, collapse := reportTime 10 s.holdup.collapse,
            regulator := s.recharge.state, iSet := s.recharge.iSet, members := s.recharge.members,
            shares := s.recharge.shares, yielded := s.recharge.yielded, sourceTemp := r.sourceTemp,
            step := reportTime 100 s.recharge.step, floorTime := reportTime 1000 s.recharge.floorTimer,
            line := s.line.state, lineMode := s.line.mode, cycleRunning := s.line.cycle != .idle,
            cycleNo := s.line.cycleNo, faultRun := s.line.faultRun, cleanRun := s.line.cleanRun, faults := s.line.faults,
            notices := r.notices, latched := s.line.latched, attention := s.line.attention, holds := s.line.hold,
            leak := s.line.leak, leakHeld := s.line.leakHeld, survey := reportTime 10 s.line.survey,
            lineSettings := s.settings.line, alert := s.causes.alert, seconds := r.seconds,
            writing := s.store.writing.isSome, unstored := s.store.unstored } ∧
         (∀ n : SlotId, r.notices.getLsbD n.val = s.seq.slots[n].notice) ∧
         (s.clock < 4294967296000 → r.seconds = s.clock / 1000) ∧
         (s.recharge.sourceInForce = .inlet → r.sourceTemp = s.pubValue inletPoint) ∧
         (s.recharge.sourceInForce = .hottestBbu →
           (∃ i : BbuId, s.recharge.members[i] = true) →
             (∃ i : BbuId, s.recharge.members[i] = true ∧ r.sourceTemp = s.pubValue (bbuTPoint i)) ∧
               ∀ i : BbuId, s.recharge.members[i] = true → s.pubValue (bbuTPoint i) ≤ r.sourceTemp)) ∧
      s.queueReport =
        { queue := s.seq.queue.map fun n => (n, s.settings.slots[n].pReq + s.settings.slots[n].pInrush),
          holdup := s.seq.lastHoldup, stagger := reportTime 1 s.seq.stagger, targetInhibit := s.seq.targetInhibit,
          gatedInhibit := s.seq.lastInhibit,
          soakCount := slotIds.countP fun n => s.seq.slots[n].state == .soak,
          maxSoak := s.settings.sequence.maxSoak, h := s.seq.lastH, headNeed := s.queueReport.headNeed,
          lastReport := s.seq.lastReport }

/-- A bulk read inside its table answers with the first index and the count lowered to the kind's largest and to the end of the
table, a count of 0 being taken as 1, and with that many records as they stand; it changes nothing, and its ACK fits a frame (R171).
Every field of every record of GET_SENSE, GET_PSU, GET_BBU, GET_ZONES and GET_CAUSES, and of the summaries, is named (R17, R35, R59,
R155, R164), with the deficit time 0 when stopped and exact in whole units (the model's choice, log 6). The sizes of the records
that the manual gives no layout for are the model's choice (log 45), and so are the health and the taper run of an absent BBU (log
38), and the other fields of an unassigned cause (log 55). -/
def Obligations.BulkReadsAreClamped : Prop :=
  ∀ (s : State) (tag first count : Byte), s.atOnce = true →
    let f := first.toNat
    let n (size largest : Nat) : Nat := min (max 1 count.toNat) (min largest (size - f))
    let entry (k : Nat) : TargetEntry := (s.settings.targets.entries[k]?).getD ⟨0, .falling, .noticeOnly, 0, .none⟩
    (f < 29 → Accepts (.getSense tag first count) s tag 0x11
      (.sense f (n 29 12) (((pointIds.map s.senseReport).drop f).take (n 29 12)) s.sense.iAvg s.sense.setNo) s) ∧
    (f < 6 → Accepts (.getPsu tag first count) s tag 0x12
      (.psus f (n 6 6) (((psuIds.map s.psuReport).drop f).take (n 6 6)) s.budgetSummary) s) ∧
    (f < 4 → Accepts (.getBbu tag first count) s tag 0x13
      (.bbus f (n 4 4) (((bbuIds.map s.bbuReport).drop f).take (n 4 4))) s) ∧
    (f < 16 → Accepts (.getTargets tag first count) s tag 0x15
      (.targets s.settings.targets.mode s.settings.targets.entries.length s.charge.p s.charge.armed s.charge.halted f
        (n 16 16) ((((List.range 16).map entry).drop f).take (n 16 16))) s) ∧
    (f < 8 → Accepts (.getZones tag first count) s tag 0x19
      (.zones f (n 8 4) (((zoneIds.map s.zoneReport).drop f).take (n 8 4))) s) ∧
    (f < 137 → Accepts (.getCauses tag first count) s tag 0x1A
      (.causes f (n 137 16) (((causeIds.map s.causeReport).drop f).take (n 137 16)) s.causeSummary) s) ∧
    (∀ p : PointId,
      let x := s.sense.points[p]
      let r := s.senseReport p
      r = { point := p, raw := x.raw, value := x.value, stale := x.stale, alarm := r.alarm, settings := r.settings } ∧
        (21 ≤ p.val → r.alarm = none ∧ r.settings = none) ∧
        ∀ q : AnalogId, AnalogId.point q = p → r.alarm = some x.alarm ∧ r.settings = some s.settings.points[q]) ∧
    (∀ k : PsuId,
      let u := s.budget.psus[k]
      let x := s.sense.pub[psuIPoint k]
      (u.state = .absent → s.psuReport k = ⟨k, false, .absent, false, false, 0, false, false⟩) ∧
        (u.state ≠ .absent →
          s.psuReport k =
            { psu := k, present := true, state := u.state, acOk := u.acOk, dcOk := u.dcOk, current := x.value,
              stale := x.stale, alarm := x.alarm })) ∧
    (let b := s.budget
     s.budgetSummary =
        { nGood := b.nGood, cRaw := b.cRaw, f := b.f, cap := b.cap, sigma := b.sigma, pChg := b.pChg, h := b.h, hp := b.hp,
          deficit := b.deficit, timer := s.budgetSummary.timer } ∧
      (b.timer = none → s.budgetSummary.timer = 0) ∧
      ∀ m : Nat, b.timer = some (m * 100) → s.budgetSummary.timer = m) ∧
    (∀ i : BbuId,
      let b := s.charge.bbus[i]
      let here := b.state ≠ .absent
      s.bbuReport i =
        { bbu := i, present := here, state := b.state, q := if here then b.q else 0, r := if here then b.r else 0,
          calibrated := here && b.calibrated, bottomed := here && b.bottomed, full := here && b.full, taper := b.taper,
          health := b.health, settings := s.settings.bbus[i] }) ∧
    (∀ z : ZoneId,
      let x := s.leak.zones[z]
      let members := slotIds.filter fun m => s.settings.slots[m].zone == some z
      s.zoneReport z =
        { zone := z, settings := s.settings.zones[z], state := x.state, confirmation := x.confirmation, code := x.code,
          cls := x.cls, ropeFault := x.ropeFault, ropeCount := x.ropeCount, trayCount := x.trayCount, report := x.report,
          reportHeld := x.reportHeld, valve := x.valve, slots := members.map fun m => (m, s.seq.slots[m].state) }) ∧
    (∀ c : CauseId,
      let x := s.causes.recs[c]
      s.causeReport c =
        { cause := c, assigned := decide (c.val < 29 ∨ 32 ≤ c.val), condition := x.condition, pending := x.pending,
          count := x.count, value := x.value, code := x.code, mask := s.settings.masks[c].mask,
          alertEnable := s.settings.masks[c].alertEnable, queued := decide (c ∈ s.causes.outbox) }) ∧
    s.causeSummary =
      { outboxLength := s.causes.outbox.length, head := s.causes.outbox.head?, hold := s.causes.hold,
        globalAlert := s.settings.globalAlert, alert := s.causes.alert } ∧
    (let sized (c : Instr) (kind : Byte) (record rest m : Nat) : Prop :=
        ∀ (a : Ack) (t : State), perform c s = .ok (t, a) →
          (a.body kind).length = 3 + record * m + rest ∧ (a.body kind).length ≤ 248
     (f < 29 → sized (.getSense tag first count) 0x11 19 6 (n 29 12)) ∧
       (f < 6 → sized (.getPsu tag first count) 0x12 8 29 (n 6 6)) ∧
       (f < 4 → sized (.getBbu tag first count) 0x13 51 0 (n 4 4)) ∧
       (f < 16 → sized (.getTargets tag first count) 0x15 8 5 (n 16 16)) ∧
       (f < 24 → sized (.getSlots tag first count) 0x17 22 0 (n 24 11)) ∧
       (f < 8 → sized (.getZones tag first count) 0x19 48 0 (n 8 4)) ∧
       (f < 137 → sized (.getCauses tag first count) 0x1A 13 6 (n 137 16)))

/-- GET_SLOTS answers with KIND, first slot, count and one 22-byte record for each slot in the layout of R173; the body fits a frame
(R111, R171, R173). POWER_UP and POWER_DOWN answer with KIND and three bytes an entry, and every value of every field that R172
lists has its code, counted from 0 in the order listed, the unused 0 of the refusal codes included (R172). A remaining time that is
no whole number of units is rounded one way or the other by a constant without a body (the model's choice, log 6). -/
def Obligations.SlotRecordsHaveTheirLayout : Prop :=
  ∀ s : State,
    (∀ (tag first count : Byte), s.atOnce = true → first.toNat < 24 →
      let n := min (max 1 count.toNat) (min 11 (24 - first.toNat))
      ∃ body, Accepts (.getSlots tag first count) s tag 0x17 (.slots body) s ∧ body.length = 3 + 22 * n ∧
        body.length ≤ 248 ∧ body.take 3 = [0x17#8, first, BitVec.ofNat 8 n] ∧
        ∀ (k : SlotId) (j : Nat), j < 22 → first.toNat ≤ k.val → k.val < first.toNat + n →
          body[3 + 22 * (k.val - first.toNat) + j]? = (s.slotRecord k)[j]?) ∧
      (∀ n : SlotId, s.settings.slots[n].legal →
        let set := s.settings.slots[n]
        let x := s.seq.slots[n]
        let r := s.slotRecord n
        let byte (k : Nat) : Byte := (r[k]?).getD 0
        let word (k : Nat) : Nat := (le16 (byte k) (byte (k + 1))).toNat
        r.length = 22 ∧ byte 0 = BitVec.ofNat 8 n.val ∧ (byte 1).getLsbD 0 = set.enabled ∧
          (byte 1).getLsbD 1 = set.autoRestore ∧ (byte 1).getLsbD 2 = (set.role == .leak) ∧
          (byte 1).getLsbD 3 = x.restore ∧ (byte 1).getLsbD 4 = x.pg ∧ (byte 1).getLsbD 5 = x.en ∧
          (byte 1).getLsbD 6 = false ∧ (byte 1).getLsbD 7 = false ∧ (byte 2).toNat = set.cls.code ∧
          (byte 3).toNat = set.rank ∧ word 4 = set.pReq ∧ word 6 = set.pInrush ∧ word 8 = set.soak ∧
          (byte 10).toNat = set.drainLimit ∧ (set.zone = none → byte 11 = 255#8) ∧
          (∀ z : ZoneId, set.zone = some z → (byte 11).toNat = z.val) ∧ (byte 12).toNat = x.state.code ∧
          (byte 13).toNat = x.reason.code ∧ (byte 14).toNat = x.urgency.code ∧
          (n ∉ s.seq.queue → byte 15 = 255#8) ∧
          (n ∈ s.seq.queue → s.seq.queue.length ≤ 24 → (byte 15).toNat = s.seq.queue.idxOf n) ∧
          word 16 = reportTime 100 x.soak % 65536 ∧ word 18 = x.shedTime % 65536 ∧ word 20 = commitment set x) ∧
    (∀ (kind : Byte) (es : List SlotOutcome) (j : Nat),
      let body := (Ack.slotList es).body kind
      body.length = 1 + 3 * es.length ∧ body[0]? = some kind ∧
        body[1 + 3 * j]? = es[j]?.map (fun e => BitVec.ofNat 8 e.slot.val) ∧
        body[2 + 3 * j]? = es[j]?.map (fun e => BitVec.ofNat 8 e.result.code) ∧
        body[3 + 3 * j]? = es[j]?.map (fun e => BitVec.ofNat 8 e.state.code)) ∧
    [SlotClass.critical, .essential, .deferrable].map SlotClass.code = List.range 3 ∧
      [ShedReason.none, .manager, .reserve, .deficit, .leak, .blackout, .limit, .fault, .reset].map ShedReason.code =
        List.range 9 ∧
      [Urgency.none, .orderly, .prompt, .immediate].map Urgency.code = List.range 4 ∧
      [SlotResult.queued, .noChange, .withdrawn, .refusedWrongState, .notice, .draining, .off, .held].map SlotResult.code =
        List.range 8 ∧
      [SlotState.off, .queued, .soak, .on, .notice, .held, .draining, .faulted, .locked].map SlotState.code =
        List.range 9 ∧
      [BbuState.absent, .fault, .standby, .charging, .discharging, .testing, .depleted].map BbuState.code =
        List.range 7 ∧
      [PsuState.absent, .noAc, .fault, .good].map PsuState.code = List.range 4 ∧
      [ZoneState.dry, .suspect, .wet, .fault].map ZoneState.code = List.range 4 ∧
      [AlarmMode.off, .compare, .hysteresis, .latch].map AlarmMode.code = List.range 4 ∧
      [Direction.above, .below].map Direction.code = List.range 2 ∧
      [TargetDirection.falling, .rising].map TargetDirection.code = List.range 2 ∧
      [TargetAction.noticeOnly, .shed, .inhibitPowerup, .releasePowerup].map TargetAction.code = List.range 4 ∧
      0 :: [RefusalCode.busy, .unknownKind, .badLength, .outOfRange, .wrongState, .locked, .storeBusy].map RefusalCode.code =
        List.range 8 ∧
      [Policy.notify, .valve, .valveAndShed].map Policy.code = List.range 3 ∧
      [ArmMode.manual, .onBridge].map ArmMode.code = List.range 2 ∧
      [LineSetting.adaptive, .alwaysContinuous].map LineSetting.code = List.range 2 ∧
      [TempSource.inlet, .hottestBbu].map TempSource.code = List.range 2 ∧
      [AttentionRole.general, .leak].map AttentionRole.code = List.range 2 ∧
      [RopeClass.none, .short, .wet, .dry, .open].map RopeClass.code = List.range 5 ∧
      [Confirmation.none, .rope, .tray, .both].map Confirmation.code = List.range 4 ∧
      [TestResult.none, .complete, .abortedAc, .abortedManager, .abortedTime, .abortedFault].map TestResult.code =
        List.range 6 ∧
      [LineState.ok, .failed].map LineState.code = List.range 2 ∧
      [LineMode.continuous, .quiet].map LineMode.code = List.range 2 ∧
      [HoldupState.starting, .online, .bridging, .returning, .blackout].map HoldupState.code = List.range 5 ∧
      [false, true].map storeStateCode = List.range 2

/-! ### Sensing (chapter 1) -/

/-- A sample set takes every code: an in-range code of an analog point gives offset + floor(code × span / 4096) saturated to the
point's range and is judged by the alarm mode; a rail code leaves value and alarm and makes the point stale; a rope's value is its
code; the load window shifts, and the whole set is published (R1 to R6, R9 to R12). A point entering a stale run raises STALE with its
held value, an alarm that becomes active raises ABOVE_LIMIT or BELOW_LIMIT with the value, a rope reaching a rail raises RAIL_LOW or
RAIL_HIGH with the code; no other point raises its cause, and each condition follows its point (R4, R5, R14). -/
def Obligations.SampleSetScalesJudgesAndPublishes : Prop :=
  ∀ (codes : Vector (BitVec 12) 29) (s : State), s.running →
    Gives (.sampleSet codes) s fun t =>
      (∀ p : AnalogId,
        let q := AnalogId.point p
        let c := codes[q]
        let set := s.settings.points[p]
        let x := s.sense.points[q]
        let y := t.sense.points[q]
        let v := max (pointRange q).1 (min (pointRange q).2 (set.offset + (c.toNat : Int) * set.span / 4096))
        let above := if set.direction = .above then set.high < v else v < set.low
        let under := if set.direction = .above then v < set.low else set.high < v
        ((c = 0 ∨ c = 4095) → y = { x with raw := some c, stale := true }) ∧
          (c ≠ 0 → c ≠ 4095 →
            y.raw = some c ∧ y.value = v ∧ y.stale = false ∧
              (set.mode = .off → y.alarm = false) ∧ (set.mode = .compare → y.alarm = decide above) ∧
              (set.mode = .hysteresis → y.alarm = if x.alarm = true then !decide under else decide above) ∧
              (set.mode = .latch → y.alarm = (x.alarm || decide above)))) ∧
        (∀ z : ZoneId,
          t.sense.points[ropePoint z] =
            { s.sense.points[ropePoint z] with
              raw := some codes[ropePoint z], value := (codes[ropePoint z].toNat : Int), stale := false }) ∧
        (let busI := t.sense.points[busIPoint]
         t.sense.window =
          (match s.sense.window with
            | [] => if busI.stale = true then [] else List.replicate 8 busI.value.toNat
            | _ :: rest => rest ++ [busI.value.toNat]) ∧
          t.sense.iAvg = t.sense.window.sum / 8) ∧
        (∀ p : AnalogId,
          let q := AnalogId.point p
          let c := codes[q]
          let set := s.settings.points[p]
          let x := s.sense.points[q]
          let y := t.sense.points[q]
          let old := s.causes.recs[causePoint q]
          let new := t.causes.recs[causePoint q]
          let rail := c = 0 ∨ c = 4095
          let stales := rail ∧ x.raw ≠ some 0 ∧ x.raw ≠ some 4095
          let alarms := ¬ rail ∧ x.alarm = false ∧ y.alarm = true
          new.condition = (y.alarm || y.stale) ∧ (stales → RaisedFrom s t (causePoint q) x.value 3) ∧
            (alarms → RaisedFrom s t (causePoint q) y.value (if set.direction = .above then 1 else 2)) ∧
            (¬ stales → ¬ alarms → new.value = old.value ∧ new.code = old.code ∧ new.count ≤ old.count)) ∧
        (∀ z : ZoneId,
          let q := ropePoint z
          let c := codes[q]
          let old := s.causes.recs[causePoint q]
          let new := t.causes.recs[causePoint q]
          let rails := (c = 0 ∨ c = 4095) ∧ s.sense.points[q].raw ≠ some c
          new.condition = (c == 0 || c == 4095) ∧
            (rails → RaisedFrom s t (causePoint q) (c.toNat : Int) (if c = 0 then 1 else 2)) ∧
            (¬ rails → new.value = old.value ∧ new.code = old.code ∧ new.count ≤ old.count)) ∧
        t.sense.pub = t.sense.points ∧ t.sense.setNo = (s.sense.setNo + 1) % 4294967296 ∧ t.sense.seen = true ∧
        t.pins = s.pins ∧ t.phase = s.phase ∧ t.lastReset = s.lastReset ∧ t.shed = s.shed ∧
        t.pending = s.pending

/-- A sample set classifies the six PSUs by their inputs and current alarms, and reckons capacity by the GOOD PSUs, the
redundancy and the derate step that the inlet temperature reaches (R19, R20, R23, R24). After the first set it integrates the current
of every present BBU, with the charge factor for current above 0; a counter that would fall below 0 bottoms and one that would pass
Qfull stops there (R43, R44), unless the set then anchors the BBU or completes its test, which give the counter a value of their own. A
set that leaves the holdup state alone moves each BBU by its state, its temperature, voltage and current, the first set from its
classification; it anchors a BBU whose taper run is long enough, takes the delivered charge of a test, and ends the test at the cut-off
voltage with a new Qfull and health (R37 to R40, R45, R52, R55, R56). That the first set classifies a BBU and then integrates and judges
it in the same set is the model's reading (log 19). That T_crit comes before the cut-off voltage on one set (log 50), D_rated as it
stands at the end of the test (log 35) and seconds counted from the recorded second (log 36) are its choices. -/
def Obligations.SampleSetReckonsCapacityAndCharge : Prop :=
  ∀ (codes : Vector (BitVec 12) 29) (s : State), s.running →
    Gives (.sampleSet codes) s fun t =>
      let set := s.settings.budget
      let reached := set.derate.filter fun e => decide (e.t ≤ t.pubValue inletPoint)
      (∀ k : PsuId,
        let u := s.budget.psus[k]
        t.budget.psus[k] =
          { u with
            state :=
              if u.present = false then .absent
              else if u.acOk = false then .noAc
              else if u.dcOk = false ∨ t.sense.pub[psuIPoint k].alarm = true then .fault
              else .good }) ∧
        t.budget.nGood = psuIds.countP (fun k => t.budget.psus[k].state == .good) ∧
        t.budget.cRaw = (t.budget.nGood - set.nRed) * set.pRate ∧
        t.budget.f = (match reached.getLast? with | none => 256 | some e => e.f) ∧
        t.budget.cap = t.budget.cRaw * t.budget.f / 256 ∧ t.settings.budget = set ∧
      (s.sense.seen = true →
        ∀ i : BbuId,
          let set := s.settings.bbus[i]
          let b := s.charge.bbus[i]
          let c := t.pubValue (bbuIPoint i)
          let d := if 0 < c then c * set.eta else c * 256
          let a := (b.q : Int) * 25600 + b.r + d
          let x := t.charge.bbus[i]
          let volt := t.pubValue (bbuVPoint i)
          let cool := t.pubValue (bbuTPoint i) < set.tCrit
          let test := s.charge.test
          let anchors := b.state = .charging ∧ set.anchor = true ∧ cool ∧ -(set.detect : Int) < c ∧
            (set.vFloat : Int) ≤ volt ∧ 0 ≤ c ∧ c ≤ (set.iTaper : Int) ∧ set.taperTime ≤ b.taper + 1
          let completes := b.state = .testing ∧ test.running = true ∧ test.bbu = some i ∧ cool ∧ volt ≤ (set.vCutoff : Int)
          (b.state = .absent → x.q = b.q ∧ x.r = b.r ∧ x.full = b.full ∧ x.bottomed = b.bottomed) ∧
            (b.state ≠ .absent → ¬ anchors → ¬ completes →
              (a < 0 → x.q = 0 ∧ x.r = 0 ∧ x.full = false ∧ x.bottomed = true) ∧
                (0 ≤ a → (set.qFull : Int) ≤ a / 25600 →
                  x.q = set.qFull ∧ x.r = 0 ∧ x.full = true ∧ x.bottomed = b.bottomed) ∧
                (0 ≤ a → a / 25600 < (set.qFull : Int) →
                  (x.q : Int) = a / 25600 ∧ (x.r : Int) = a % 25600 ∧ x.full = false ∧ x.bottomed = b.bottomed))) ∧
      (t.holdup.state = s.holdup.state →
        ∀ i : BbuId,
          let set := s.settings.bbus[i]
          let b := s.charge.bbus[i]
          let x := t.charge.bbus[i]
          let test := s.charge.test
          let c := t.pubValue (bbuIPoint i)
          let volt := t.pubValue (bbuVPoint i)
          let temp := t.pubValue (bbuTPoint i)
          let draws := c ≤ -(set.detect : Int)
          let cut := volt ≤ (set.vCutoff : Int)
          let tests := test.running = true ∧ test.bbu = some i
          let point := set.qFull - set.margin
          let a := (b.q : Int) * 25600 + b.r + (if 0 < c then c * set.eta else c * 256)
          let q : Nat := min set.qFull (a / 25600).toNat
          let rest : BbuState := if point < q then .standby else .charging
          let floats := (set.vFloat : Int) ≤ volt ∧ 0 ≤ c ∧ c ≤ (set.iTaper : Int)
          let start : BbuState :=
            if s.sense.seen = true then b.state
            else if b.present = false then .absent
            else if b.faultIn = true ∨ set.tCrit ≤ temp then .fault
            else if draws then .discharging
            else if point < b.q then .standby else .charging
          let next : BbuState :=
            if start = .absent then .absent
            else if start = .fault then (if b.faultIn = false ∧ temp < set.tCrit then rest else .fault)
            else if set.tCrit ≤ temp then .fault
            else if start = .standby then (if draws then .discharging else if q ≤ point then .charging else .standby)
            else if start = .charging then
              if draws then .discharging
              else if set.anchor = true then (if floats ∧ set.taperTime ≤ b.taper + 1 then .standby else .charging)
              else if (set.qFull : Int) ≤ a / 25600 then .standby else .charging
            else if start = .discharging then (if cut then .depleted else if draws then .discharging else rest)
            else if start = .testing then (if tests ∧ cut then .charging else .testing)
            else (if s.holdup.state = .online then .charging else .depleted)
          let judged := start = .charging ∧ temp < set.tCrit ∧ ¬ draws ∧ set.anchor = true
          let tapers := judged ∧ floats
          let delivered := (test.d : Int) * 25600 + test.residue - c * 256
          let d : Nat := min 16777215 (delivered / 25600).toNat
          let new : Nat := max (set.qFloor + 1) (min 16777215 (set.qFloor + d))
          (s.sense.seen = false → b.state = .absent ∧ b.taper = 0) →
            x.state = next ∧ x.critInForce = set.tCrit ∧ x.detectInForce = set.detect ∧
              (judged → ¬ floats → x.taper = 0) ∧ (start = .charging → set.anchor = false → x.taper = 0) ∧
              (tapers → b.taper + 1 < set.taperTime → x.taper = b.taper + 1) ∧
              (tapers → set.taperTime ≤ b.taper + 1 →
                x.q = set.qFull ∧ x.r = 0 ∧ x.full = true ∧ x.calibrated = true ∧ x.bottomed = false ∧
                  RaisedFrom s t (causeBbu i) set.qFull 2) ∧
              (start ≠ .absent → a < 0 → RaisedFrom s t (causeBbu i) 0 1) ∧
              (a < 0 → start = .standby ∨ start = .charging ∨ start = .discharging ∨ start = .testing →
                t.charge.armed = false ∧ t.charge.halted = true) ∧
              (s.sense.seen = true → b.state ≠ next → 0 ≤ a → ¬ (tapers ∧ set.taperTime ≤ b.taper + 1) →
                RaisedFrom s t (causeBbu i) x.q (BitVec.ofNat 8 (16 + next.code))) ∧
              (start = .testing → tests → temp < set.tCrit → ¬ cut →
                t.charge.test =
                  { test with
                    d := d
                    residue := if delivered < 0 ∨ 16777215 < delivered / 25600 then 0 else (delivered % 25600).toNat
                    elapsed := t.seconds - test.start
                    timer := test.timer.map (· - 10) }) ∧
              (start = .testing → tests → temp < set.tCrit → cut →
                t.charge.test.running = false ∧ t.charge.test.result = .complete ∧ t.charge.test.d = d ∧
                  t.charge.test.timer = none ∧
                  t.settings.bbus[i] = { set with qFull := new, margin := min set.margin new } ∧
                  t.store.unstored = (s.store.unstored || new != set.qFull) ∧ x.q = set.qFloor ∧ x.r = 0 ∧
                  x.calibrated = true ∧ x.bottomed = false ∧ x.full = false ∧
                  x.health = some (min 255 (d * 100 / set.dRated)) ∧ RaisedFrom s t causeTest d 1) ∧
              (start = .testing → tests → set.tCrit ≤ temp →
                t.charge.test.running = false ∧ t.charge.test.result = .abortedFault ∧ RaisedFrom s t causeTest 0 5))

/-- On a sample set that finds AC failed in ONLINE a new event opens: the event counter, the bridging timer and the transfer
record start, deficit handling ends and the regulator goes to OFF, and with no counted BBU the bridge is a blackout at once; AC
good in BRIDGING or BLACKOUT starts the settle timer, and AC failed in RETURN is a flicker, which an open transfer record counts (R60,
R62 to R64, R67, R68, R70, R72). A set that finds BRIDGING and leaves it so starts the collapse timer on a BUS_V below V_collapse and
cancels it on one that is not, and a collapse timer that runs goes on (R69). Every set counts in the duration of an open
record and follows its lowest BUS_V, a stale one left out; no set moves a closed record but the one that opens an event (R76, R77).
No answer to a selection asked by then moves the deficit state again (R33, log 48). That the opening set is not counted in the
duration is the model's reading (log 21), and so is that the first set after a reset is noted in STARTING, where the decision waits for
its reserve publication (log 4, log 20). -/
def Obligations.SampleSetJudgesAc : Prop :=
  ∀ (codes : Vector (BitVec 12) 29) (s : State), s.running →
    Gives (.sampleSet codes) s fun t =>
      let set := s.settings.holdup
      let count := psuIds.countP fun k => s.pins.psu[k].present && s.pins.psu[k].acOk
      let failed := count < set.nAcMin ∨ t.busV < set.vBridge
      let good := set.nAcMin ≤ count ∧ set.vReturn ≤ t.busV
      let carried := s.holdup.lastCounted ≠ 0
      set.vBridge ≤ set.vReturn →
        t.holdup.acCount = count ∧
          (t.holdup.acEval = if failed then .failed else if good then .good else .neither) ∧
          (s.holdup.state = .online → ¬ failed → t.holdup.state = .online) ∧
          (s.holdup.state = .online → failed →
            (t.holdup.state = if carried then .bridging else .blackout) ∧
              t.holdup.events = min 65535 (s.holdup.events + 1) ∧ (t.holdup.eventOpen = true ↔ carried) ∧
              t.holdup.settle = none ∧ t.holdup.collapse = none ∧
              t.holdup.bridging = (if carried ∧ 0 < set.tMax then some (set.tMax * 1000) else none) ∧
              t.budget.deficit = .idle ∧ t.budget.timer = none ∧ t.recharge.state = .off ∧ t.recharge.iSet = 0 ∧
              t.budget.stale = s.budget.selAsked + s.budget.answers.length ∧
              (s.holdup.record.valid = true → t.holdup.record.since = min 255 (s.holdup.record.since + 1)) ∧
              (s.holdup.record.valid = false → s.holdup.record.isOpen = false → carried →
                t.holdup.record.isOpen = true ∧ t.holdup.record.seqNo = t.holdup.events ∧
                  t.holdup.record.trigger = some (if count < set.nAcMin then .acCount else .busSag) ∧
                  t.holdup.record.rStart = s.holdup.lastR ∧ t.holdup.record.duration = 0)) ∧
          ((s.holdup.state = .bridging ∨ s.holdup.state = .blackout) → good →
            t.holdup.state = .returning ∧ t.holdup.settle = some (set.tSettle * 100) ∧ t.holdup.collapse = none) ∧
          (s.holdup.state = .bridging → ¬ good →
            t.holdup.state = .bridging ∧
              (t.busV < set.vCollapse →
                t.holdup.collapse =
                  match s.holdup.collapse with
                  | some x => some (x - 10)
                  | none => some (set.collapseTime * 10)) ∧
              (set.vCollapse ≤ t.busV → t.holdup.collapse = none)) ∧
          (let old := s.holdup.record
           let new := t.holdup.record
           let opens := s.holdup.state = .online ∧ failed
           (old.isOpen = false → ¬ opens → new = old) ∧
             (old.isOpen = true → t.holdup.state ≠ .blackout →
               new.isOpen = true ∧ new.duration = min 4294967295 (old.duration + 1) ∧
                 new.minBusV = (if t.sense.pub[busVPoint].stale = true then old.minBusV else min old.minBusV t.busV) ∧
                 new.flickers =
                   if s.holdup.state = .returning ∧ failed then min 255 (old.flickers + 1) else old.flickers)) ∧
          (s.holdup.state = .blackout → ¬ good → t.holdup.state = .blackout) ∧
          (s.holdup.state = .returning → ¬ failed → t.holdup.state = .returning) ∧
          (s.holdup.state = .returning → failed →
            (t.holdup.state = if carried then .bridging else .blackout) ∧ t.holdup.settle = none ∧
              t.holdup.events = s.holdup.events) ∧
          (s.holdup.state = .starting → t.holdup.state = .starting) ∧
          (s.holdup.state = .starting →
            t.holdup.first =
              match s.holdup.first with
              | some f => some f
              | none =>
                some ⟨t.holdup.acEval, if count < set.nAcMin then .acCount else .busSag, decide (set.vCollapse ≤ t.busV)⟩)

/-- A sample set classifies each rope, with the class kept in the hysteresis band, and confirms a zone with rope evidence: at its
K_rope alone, at once beside a tray report; one dry reading ends a suspicion that rests on the rope alone. A SHORT or OPEN rope sets
the fault flag, raises the cause and loses the zone its rope evidence; a DRY one clears it, but in a WET zone, whose flag stands
(the model's reading, log 53). A second broken class raises the cause again where the class just before was the other one (log 52).
A WET entry raises its cause, closes the valve under VALVE or above, takes the zone's QUEUED slots to LOCKED, and sheds all its
slots under VALVE_AND_SHED (R97, R113 to R115, R118, R119, R124, R144 to R152). The settings are in their ranges and the zones match
their causes, as every step keeps them (O6, O10). That a SUSPECT zone kept by a pin reset is not judged for fallback before the
first cycle end, and moves to FAULT without that wait, and that the QUEUED slots are locked before the leak shed, is the model's
reading (log 27). -/
def Obligations.SampleSetJudgesRopes : Prop :=
  ∀ (codes : Vector (BitVec 12) 29) (s : State), s.running → SettingsLaw s → ZoneLaw s →
    Gives (.sampleSet codes) s fun t =>
      ∀ z : ZoneId,
        let set := s.settings.zones[z]
        let c := codes[ropePoint z].toNat
        let x := s.leak.zones[z]
        let y := t.leak.zones[z]
        let trusted := set.shortThr < c ∧ c < set.openThr
        let wet := trusted ∧ (c ≤ set.wetThr ∨ (c < set.dryThr ∧ x.cls = .wet))
        let dry := trusted ∧ set.wetThr < c ∧ (set.dryThr ≤ c ∨ x.cls ≠ .wet)
        y.code = some codes[ropePoint z] ∧ (wet → y.cls = .wet) ∧ (dry → y.cls = .dry) ∧
          (c ≤ set.shortThr → y.cls = .short) ∧ (set.shortThr < c → set.openThr ≤ c → y.cls = .open) ∧
          (¬ trusted → x.state ≠ .wet →
            y.ropeFault = true ∧ y.state ≠ .wet ∧ t.causes.recs[causeRopeFault z].condition = true ∧
              (x.ropeFault = false ∨ (y.cls = .open ∧ x.cls = .short) ∨ (y.cls = .short ∧ x.cls = .open) →
                RaisedFrom s t (causeRopeFault z) c (if y.cls = .short then 1 else 2)) ∧
              (x.state = .dry → x.ropeFault = false → y.state = .fault) ∧ (x.state = .fault → y.state = .fault) ∧
              (x.state = .suspect →
                y.ropeCount = 0 ∧ (0 < x.trayCount → y.state = .suspect ∧ y.trayCount = x.trayCount) ∧
                  (x.trayCount = 0 → x.ropeFault = false ∨ x.awaitCycle = false → y.state = .fault))) ∧
          (dry → x.state ≠ .wet → y.ropeFault = false) ∧ (dry → x.state = .fault → x.ropeFault = true → y.state = .dry) ∧
          (dry → x.state ≠ .wet → x.ropeFault = true → t.causes.recs[causeRopeFault z].condition = false) ∧
          (wet → x.ropeFault = true → y.ropeFault = true) ∧ (wet → x.ropeFault = true → x.state = .fault → y.state = .fault) ∧
          (x.state ≠ .wet → y.state = .wet →
            RaisedFrom s t (causeZoneWet z) c (BitVec.ofNat 8 y.confirmation.code) ∧
              t.causes.recs[causeZoneWet z].condition = true ∧
              (t.holdup.state = s.holdup.state → s.charge.armed = false →
                s.seq.stagger.isSome = true ∨ s.seq.lastHoldup ≠ .online →
                  ∀ n : SlotId, s.settings.slots[n].zone = some z →
                    let v := s.seq.slots[n]
                    let w := t.seq.slots[n]
                    let powered := v.state = .soak ∨ v.state = .on ∨ ((v.state = .notice ∨ v.state = .held) ∧ v.reason ≠ .leak)
                    (v.state = .queued → w.state = .locked ∧ w.restore = false) ∧
                      (set.policy ≠ .valveAndShed → v.state ≠ .queued → w.state = v.state ∧ w.reason = v.reason) ∧
                      (set.policy = .valveAndShed →
                        (v.state = .off → w.state = .locked ∧ w.reason = .leak ∧ w.restore = false) ∧
                          (powered → v.pg = true →
                            w.state = .draining ∧ w.reason = .leak ∧ w.urgency = .immediate ∧ w.en = false) ∧
                          (powered → v.pg = false → w.state = .locked ∧ w.reason = .leak ∧ w.en = false) ∧
                          (v.state = .draining → w.state = .draining ∧ w.reason = .leak) ∧
                          (v.state = .faulted ∨ v.state = .locked → w.state = v.state ∧ w.reason = .leak)))) ∧
          (x.state = .dry → x.ropeFault = false → wet → 1 < set.kRope →
            y.state = .suspect ∧ y.ropeCount = 1 ∧ y.trayCount = 0) ∧
          (x.state = .dry → x.ropeFault = false → wet → set.kRope = 1 →
            y.state = .wet ∧ y.confirmation = .rope ∧ y.valve = (x.valve || set.policy.closesValve)) ∧
          (x.state = .suspect → x.ropeFault = false → wet →
            let n := min 255 (x.ropeCount + 1)
            (0 < x.trayCount → y.state = .wet ∧ y.confirmation = .both ∧ y.valve = (x.valve || set.policy.closesValve)) ∧
              (x.trayCount = 0 → set.kRope ≤ n →
                y.state = .wet ∧ y.confirmation = .rope ∧ y.valve = (x.valve || set.policy.closesValve)) ∧
              (x.trayCount = 0 → n < set.kRope → y.state = .suspect ∧ y.ropeCount = n)) ∧
          (x.state = .suspect → dry → x.trayCount = 0 → x.awaitCycle = false → y.state = .dry) ∧
          (x.state = .wet → y = { x with code := y.code, cls := y.cls })

/-! ### Budget (chapter 2) -/

/-- One recompute: Σ over the slots' states, P_chg rounded up, H = C − Σ − P_chg and H_P with the sheds in flight, published when
the pair has changed. Under ONLINE a negative H while charge is drawn first pauses the regulator, whose cause carries H as last
published (the model's reading, log 23), and the deficit state follows the new H (R25 to R29, R32, R88). -/
def Obligations.HeadroomIsCapacityLessPromises : Prop :=
  ∀ s : State,
    let t := recompute s
    let power (x : Nat) : Nat := (x * s.busV + 999) / 1000
    let sum : Nat := (slotIds.map fun n => commitment s.settings.slots[n] s.seq.slots[n]).sum
    let flight : Nat :=
      (slotIds.map fun n =>
        if s.seq.slots[n].state = .notice ∨ s.seq.slots[n].state = .held ∨ s.seq.slots[n].state = .draining then
          s.settings.slots[n].pReq
        else 0).sum
    let short := (s.budget.cap : Int) - sum - power s.recharge.iSet < 0
    let pause := s.online = true ∧ short ∧ 0 < power s.recharge.iSet
    let d := s.budget.deficit
    Ripple s t ∧ t.seq = s.seq ∧ t.line = s.line ∧ t.budget.sigma = sum ∧ t.budget.pChg = power t.recharge.iSet ∧
      t.budget.h = (s.budget.cap : Int) - sum - t.budget.pChg ∧ t.budget.hp = t.budget.h + flight ∧
      (t.budget.pubs =
        if t.budget.h = s.budget.h ∧ t.budget.hp = s.budget.hp then s.budget.pubs
        else s.budget.pubs ++ [(t.budget.h, t.budget.hp)]) ∧
      (pause →
        t.recharge.state = .paused ∧ t.recharge.iSet = 0 ∧ t.recharge.step = none ∧ t.recharge.floorTimer = none ∧
          t.recharge.yielded = false ∧ RaisedFrom s t causeRecharge s.budget.h 3) ∧
      (¬ pause → t.recharge = s.recharge) ∧ (s.online = true → 0 ≤ t.budget.h ∨ t.budget.pChg = 0) ∧
      (s.online = false → t.budget.deficit = d ∧ t.budget.timer = s.budget.timer) ∧
      (s.online = true →
        (d = .idle → t.budget.h < 0 →
          t.budget.deficit = .grace ∧ t.budget.timer = some (s.settings.budget.grace * 100) ∧
            RaisedFrom s t causeDeficit t.budget.h 1) ∧
          ((d = .idle ∨ d = .grace ∨ d = .covered) → 0 ≤ t.budget.h → t.budget.deficit = .idle) ∧
          (d = .grace → t.budget.h < 0 → t.budget.deficit = .grace ∧ t.budget.timer = s.budget.timer) ∧
          (d = .selecting → t.budget.deficit = .selecting) ∧
          (d = .covered → t.budget.h < 0 → 0 ≤ t.budget.hp → t.budget.deficit = .covered) ∧
          (d = .covered → t.budget.h < 0 → t.budget.hp < 0 →
            t.budget.deficit = .grace ∧ RaisedFrom s t causeDeficit t.budget.hp 4))

/-! ### SET requests: the settings as taken, the lock, the effect at acceptance (R7, R22, R36, R48, R53, R61, R82, R94, R103, R140,
R143) -/

/-- SET_LIMIT clamps its fields and replaces the point's settings; mode OFF ends its alarm at once (R7, R8, R14). SET_BUDGET
clamps, sorts the derate table keeping equal temperatures in order, and reckons capacity and headroom (R22, R24, R26 to R28). The
two limits of SET_LIMIT are 16-bit words, signed where the point is (log 32). -/
def Obligations.SetsOfPointsAndBudget : Prop :=
  ∀ (s : State) (tag : Byte), s.atOnce = true →
    (∀ (b : Byte) (p : AnalogId) (w : LimitW), takeId 21 b = some p →
      let set := takeLimit p w
      let q := AnalogId.point p
      let lo := (pointRange q).1
      let hi := (pointRange q).2
      let value (v : BitVec 16) : Int := if lo < 0 then v.toInt else v.toNat
      let new := { s.settings with points := s.settings.points.set p set }
      let x := s.sense.points[q]
      let a := x.alarm && set.mode != .off
      set.span = max (-65535) (min 65535 w.span.toInt) ∧ set.offset = max (-65535) (min 65535 w.offset.toInt) ∧
        set.high = max lo (min hi (value w.high)) ∧ set.low = min (max lo (min hi (value w.low))) set.high ∧
        (w.mode = 0 → set.mode = .off) ∧ (w.mode = 1 → set.mode = .compare) ∧ (w.mode = 2 → set.mode = .hysteresis) ∧
        (3 ≤ w.mode.toNat → set.mode = .latch) ∧ (w.direction = 0 → set.direction = .above) ∧
        (w.direction ≠ 0 → set.direction = .below) ∧
        (s.lockAllows new = false → Refuses (.setLimit tag b w) s tag 0x30 .locked) ∧
        (s.lockAllows new = true →
          Answers (.setLimit tag b w) s tag 0x30 fun fields t =>
            fields = .limit set a ∧
              t =
                { s with
                  settings := new
                  store := { s.store with unstored := true }
                  sense := { s.sense with points := s.sense.points.set q { x with alarm := a } }
                  causes := t.causes } ∧
              t.causes =
                { s.causes with
                  recs := s.causes.recs.set (causePoint q) { s.causes.recs[causePoint q] with condition := a || x.stale }
                  alert := t.causes.alert })) ∧
      ∀ w : BudgetW,
        let set := takeBudget w
        let entry (e : DerateW) : DerateEntry := ⟨e.t.toInt, min 256 e.f.toNat⟩
        let new := { s.settings with budget := set }
        let reached := set.derate.filter fun e => decide (e.t ≤ s.pubValue inletPoint)
        set.pRate = min 20000 w.pRate.toNat ∧ set.nRed = min 3 w.nRed.toNat ∧ set.grace = min 100 w.grace.toNat ∧
          set.derate = [entry w.e0, entry w.e1, entry w.e2, entry w.e3].mergeSort (fun a b => decide (a.t ≤ b.t)) ∧
          (s.lockAllows new = false → Refuses (.setBudget tag w) s tag 0x31 .locked) ∧
          (s.lockAllows new = true →
            Answers (.setBudget tag w) s tag 0x31 fun fields t =>
              fields = .budget set t.budget.cap t.budget.h ∧ t.settings = new ∧
                t.budget.nGood = psuIds.countP (fun k => s.budget.psus[k].state == .good) ∧
                t.budget.f = (match reached.getLast? with | none => 256 | some e => e.f) ∧
                t.budget.cap = (t.budget.nGood - set.nRed) * set.pRate * t.budget.f / 256 ∧
                t.budget.sigma = s.commitmentSum ∧ t.budget.pChg = (t.recharge.iSet * s.busV + 999) / 1000 ∧
                t.budget.h = (t.budget.cap : Int) - s.commitmentSum - t.budget.pChg ∧
                t.budget.hp = t.budget.h + s.inFlightSum ∧
                (let power := (s.recharge.iSet * s.busV + 999) / 1000
                 let short := s.online = true ∧ (t.budget.cap : Int) - s.commitmentSum - power < 0 ∧ 0 < power
                 (short → t.recharge.state = .paused ∧ t.recharge.iSet = 0) ∧ (¬ short → t.recharge = s.recharge)) ∧
                Ripple (recomputeCapacity (s.adopt new)) t ∧ t.seq = s.seq)

/-- SET_CHARGE_PARAMS brings Q down to the new Qfull, ends the taper run of a BBU whose anchor it disables, leaves T_crit and the
discharge-detect current in force for the next sample set, and reckons the reserve afresh (R36, R45); SET_TARGETS takes the table and clears
pointer and armed (R48); SET_RANGES takes the entries, forms the band set at T_est as it stands, raises each entry that joins it
and publishes, without a target comparison (R53), before the first sample set too (the model's choice, log 37). -/
def Obligations.SetsOfChargeTargetsAndRanges : Prop :=
  ∀ (s : State) (tag : Byte), s.atOnce = true →
    (∀ (b : Byte) (i : BbuId) (w : ChargeW), takeId 4 b = some i →
      let set := takeCharge w
      let new := { s.settings with bbus := s.settings.bbus.set i set }
      let old := s.charge.bbus[i]
      set.qFull = max 1 (min 16777215 w.qFull.toNat) ∧ set.qFloor = min (set.qFull - 1) w.qFloor.toNat ∧
        set.eta = max 1 (min 256 w.eta.toNat) ∧ set.vFloat = w.vFloat.toNat ∧ set.iTaper = min 32767 w.iTaper.toNat ∧
        set.taperTime = max 1 (min 6000 w.taperTime.toNat) ∧ set.anchor = (w.anchor != 0) ∧
        set.margin = max 1 (min set.qFull w.margin.toNat) ∧ set.vCutoff = w.vCutoff.toNat ∧
        set.detect = max 1 (min 32767 w.detect.toNat) ∧ set.tCrit = w.tCrit.toInt ∧
        set.dRated = max 1 (min 16777215 w.dRated.toNat) ∧ set.testCurrent = max 1 (min 32767 w.testCurrent.toNat) ∧
        set.testLimit = max 1 (min 36000 w.testLimit.toNat) ∧ set.testReserve = w.testReserve.toNat ∧
        (s.lockAllows new = false → Refuses (.setChargeParams tag b w) s tag 0x32 .locked) ∧
        (s.lockAllows new = true →
          Answers (.setChargeParams tag b w) s tag 0x32 fun fields t =>
            let x := t.charge.bbus[i]
            fields = .chargeParams set ∧ t.settings = new ∧ t.store.unstored = true ∧ x.q = min old.q set.qFull ∧
              x.r = (if set.qFull < old.q then 0 else old.r) ∧ x.full = (x.q == set.qFull) ∧ x.state = old.state ∧
              x.taper = (if set.anchor = true then old.taper else 0) ∧ x.critInForce = old.critInForce ∧
              x.detectInForce = old.detectInForce ∧ x.calibrated = old.calibrated ∧ x.bottomed = old.bottomed ∧ x.health = old.health ∧
              t.reserveReckoned)) ∧
      (∀ (mode : Byte) (list : List TargetW), list.length ≤ 16 →
        let table : TargetSettings := ⟨if mode = 0 then .manual else .onBridge, list.map takeTarget⟩
        let new := { s.settings with targets := table }
        (∀ w : TargetW,
          let e := takeTarget w
          e.threshold = min 67108860 w.threshold.toNat ∧ e.minClass = max 1 (min 2 w.minClass.toNat) ∧
            e.direction = (if w.direction = 0 then .falling else .rising) ∧
            e.action =
              (if w.action = 0 then .noticeOnly else if w.action = 1 then .shed
                else if w.action = 2 then .inhibitPowerup else .releasePowerup) ∧
            (e.action = .shed → w.urgency = 0 → e.urgency = .orderly) ∧
            (e.action ≠ .shed → w.urgency = 0 → e.urgency = .none) ∧ (w.urgency = 1 → e.urgency = .orderly) ∧
            (w.urgency = 2 → e.urgency = .prompt) ∧ (3 ≤ w.urgency.toNat → e.urgency = .immediate)) ∧
          (s.lockAllows new = false → Refuses (.setTargets tag mode list) s tag 0x33 .locked) ∧
          (s.lockAllows new = true →
            Accepts (.setTargets tag mode list) s tag 0x33 (.targetTable table)
              { s with
                settings := new
                store := { s.store with unstored := true }
                charge := { s.charge with p := 0, armed := false } })) ∧
      ∀ w : RangesW,
        let new := { s.settings with ranges := takeRanges w }
        let tEst := s.charge.tEst
        let taken (r : RangeW) : RangeEntry := ⟨min r.low.toNat r.high.toNat, r.high.toNat, r.gate != 0⟩
        takeRanges w =
            #v[taken w.r0, taken w.r1, taken w.r2, taken w.r3, taken w.r4, taken w.r5, taken w.r6, taken w.r7] ∧
          (s.lockAllows new = false → Refuses (.setRanges tag w) s tag 0x34 .locked) ∧
          (s.lockAllows new = true →
            Answers (.setRanges tag w) s tag 0x34 fun fields t =>
              fields = .ranges (takeRanges w) t.charge.band ∧
                (∀ k : RangeId,
                  let e := (takeRanges w)[k]
                  t.charge.band[k] =
                    decide (¬ (e.low = 0 ∧ e.high = 0 ∧ e.gate = false) ∧ e.low ≤ tEst ∧ tEst ≤ e.high)) ∧
                (∀ k : RangeId, t.charge.band[k] = true → s.charge.band[k] = false →
                  RaisedFrom s t (causeRange k) tEst 1) ∧
                (∀ k : RangeId, t.causes.recs[causeRange k].condition = t.charge.band[k]) ∧
                t.charge =
                  { s.charge with
                    band := t.charge.band
                    pubs :=
                      s.charge.pubs ++
                        [⟨s.charge.r, tEst, t.charge.band, t.gatedBy t.charge.band, s.countedBbus, s.sense.seen⟩] } ∧
                t =
                  { s with
                    settings := new
                    store := { s.store with unstored := true }
                    charge := t.charge
                    causes := t.causes
                    link := { s.link with replies := t.link.replies, tx := t.link.tx } })

/-- SET_SLOT clamps and replaces a slot's settings. Enabled cleared takes a QUEUED slot to OFF and clears restore-pending; becoming
CRITICAL withdraws a RESERVE, LIMIT or DEFICIT shed in NOTICE or HELD; a move into a WET zone is refused; otherwise a slot outside
the queue keeps its record, and every other slot outside the queue does so always. A QUEUED slot of a new rank moves to its place,
after which the head is granted where R100 lets it be; a new power figure moves the commitments and the headroom (R25, R94, R96, R101,
R112, R121). -/
def Obligations.SetSlotActsAtAcceptance : Prop :=
  ∀ (s : State) (tag b : Byte) (n : SlotId) (w : SlotW) (zone : Option ZoneId), s.atOnce = true →
    takeId 24 b = some n → takeZone w.zone = some zone →
      let set := takeSlot zone w
      let old := s.settings.slots[n]
      let new := { s.settings with slots := s.settings.slots.set n set }
      let x := s.seq.slots[n]
      let wet := zone ≠ old.zone ∧ ∃ z : ZoneId, zone = some z ∧ s.leak.zones[z].state = .wet
      let offs := old.enabled = true ∧ set.enabled = false
      let calls := old.cls ≠ .critical ∧ set.cls = .critical ∧ (x.state = .notice ∨ x.state = .held) ∧
        (x.reason = .reserve ∨ x.reason = .limit ∨ x.reason = .deficit)
      set.enabled = (w.enabled != 0) ∧ (w.cls = 0 → set.cls = .critical) ∧ (w.cls = 1 → set.cls = .essential) ∧
        (2 ≤ w.cls.toNat → set.cls = .deferrable) ∧ (w.role = 0 → set.role = .general) ∧
        (w.role ≠ 0 → set.role = .leak) ∧ set.rank = w.rank.toNat ∧ set.pReq = min 12000 w.pReq.toNat ∧
        set.pInrush = min 12000 w.pInrush.toNat ∧ set.soak = max 1 (min 600 w.soak.toNat) ∧
        set.drainLimit = max 1 (min 30 w.drainLimit.toNat) ∧ set.zone = zone ∧
        set.autoRestore = (w.autoRestore != 0) ∧
        (s.lockAllows new = false → Refuses (.setSlot tag b w) s tag 0x37 .locked) ∧
        (s.lockAllows new = true → wet → Refuses (.setSlot tag b w) s tag 0x37 .wrongState) ∧
        (s.lockAllows new = true → ¬ wet →
          Answers (.setSlot tag b w) s tag 0x37 fun fields t =>
            let y := t.seq.slots[n]
            fields = .slot set y.state ∧ t.settings = new ∧ t.store = { s.store with unstored := true } ∧
              t.holdup = s.holdup ∧ t.leak = s.leak ∧ t.sense = s.sense ∧ t.pins = s.pins ∧
              (offs → y.restore = false) ∧ (offs → x.state = .queued → y.state = .off ∧ n ∉ t.seq.queue) ∧
              (calls → n ∉ s.seq.queue →
                y.state = .on ∧ y.reason = .none ∧ y.urgency = .none ∧ y.notice = false ∧ y.window = none ∧
                  y.hold = none ∧ y.en = true) ∧
              (¬ calls → ¬ offs → x.state ≠ .queued → n ∉ s.seq.queue → y = x) ∧
              (old.pReq ≠ set.pReq ∨ old.pInrush ≠ set.pInrush →
                t.budget.sigma = t.commitmentSum ∧ t.budget.pChg = (t.recharge.iSet * s.busV + 999) / 1000 ∧
                  t.budget.h = (s.budget.cap : Int) - t.commitmentSum - t.budget.pChg) ∧
              (¬ offs → x.state = .queued → old.rank ≠ set.rank → s.slotWet n = false →
                let others := s.seq.queue.filter (· ≠ n)
                let earlier (m : SlotId) : Bool :=
                  decide (s.settings.slots[m].rank < set.rank ∨ (s.settings.slots[m].rank = set.rank ∧ m < n))
                let moved := others.takeWhile earlier ++ n :: others.dropWhile earlier
                ∀ m rest, moved = m :: rest → m ∉ rest →
                  ((s.adopt new).grantsHead m = true → t.seq.queue = rest ∧ t.seq.slots[m].state = .soak) ∧
                    ((s.adopt new).grantsHead m = false → t.seq.queue = moved ∧ y.state = .queued ∧ y.restore = false)) ∧
              ∀ m : SlotId, m ≠ n → m ∉ s.seq.queue → t.seq.slots[m] = s.seq.slots[m])

/-- SET_ZONE clamps its thresholds in order; a new policy on a WET zone is refused; clearing the accept flag empties the tray
counter, and a SUSPECT zone without evidence then falls back (R143, R150). That it empties the counter of a WET zone too is the
model's reading (log 25). -/
def Obligations.SetZoneActsAtAcceptance : Prop :=
  ∀ (s : State) (tag b : Byte) (z : ZoneId) (w : ZoneW), s.atOnce = true → takeId 8 b = some z →
    let set := takeZoneSettings w
    let old := s.settings.zones[z]
    let new := { s.settings with zones := s.settings.zones.set z set }
    let x := s.leak.zones[z]
    let cleared := old.acceptTray = true ∧ set.acceptTray = false
    let bare := x.state = .suspect ∧ x.ropeCount = 0 ∧ x.awaitSet = false ∧ x.awaitCycle = false
    set.shortThr = min 4092 w.shortThr.toNat ∧ set.wetThr = max (set.shortThr + 1) (min 4093 w.wetThr.toNat) ∧
      set.dryThr = max (set.wetThr + 1) (min 4094 w.dryThr.toNat) ∧
      set.openThr = max (set.dryThr + 1) (min 4095 w.openThr.toNat) ∧ set.kRope = max 1 w.kRope.toNat ∧
      set.kTray = max 1 w.kTray.toNat ∧ set.acceptTray = (w.acceptTray != 0) ∧
      (2 ≤ w.policy.toNat → set.policy = .valveAndShed) ∧
      (s.lockAllows new = false → Refuses (.setZone tag b w) s tag 0x39 .locked) ∧
      (s.lockAllows new = true → x.state = .wet → set.policy ≠ old.policy →
        Refuses (.setZone tag b w) s tag 0x39 .wrongState) ∧
      (s.lockAllows new = true → (x.state = .wet → set.policy = old.policy) →
        Answers (.setZone tag b w) s tag 0x39 fun fields t =>
          let y := t.leak.zones[z]
          fields = .zone set y.state ∧
            t =
              { s with
                settings := new
                store := { s.store with unstored := true }
                leak := { zones := s.leak.zones.set z y }
                causes := t.causes
                line := { s.line with startDue := t.line.startDue, survey := t.line.survey } } ∧
            (¬ cleared → y = x ∧ t.causes = s.causes ∧ t.line = s.line) ∧
            (cleared → ¬ bare → y = { x with trayCount := 0 }) ∧
            (cleared → bare → y.trayCount = 0 ∧ y.state = if x.ropeFault then .fault else .dry))

/-- SET_HOLDUP and SET_RECHARGE clamp in their order; SET_HOLDUP moves nothing at acceptance; SET_RECHARGE clamps I_set at once in
CRUISE, FLOOR and THERMAL_HOLD and reckons the headroom when that changes it (R61, R82). SET_SEQUENCE clamps, takes the nearest of
the three stagger units (55 is as near to 10 as to 100: either, log 11), and makes a grant check; SET_LINE clamps, and
ALWAYS_CONTINUOUS on a quiet line that waits makes a start due (R101, R103, R133, R135, R140). A start that is due is a field of the
model's own, and a command of its own starts the cycle (log 26). -/
def Obligations.SetsOfHoldupRechargeSequenceAndLine : Prop :=
  ∀ (s : State) (tag : Byte), s.atOnce = true →
    ((∀ w : HoldupW,
        let set := takeHoldup w
        let new := { s.settings with holdup := set }
        set.nAcMin = max 1 (min 6 w.nAcMin.toNat) ∧ set.vBridge = min 65485 w.vBridge.toNat ∧
          set.vReturn = max (set.vBridge + 50) w.vReturn.toNat ∧ set.vCollapse = min set.vBridge w.vCollapse.toNat ∧
          set.collapseTime = max 1 (min 500 w.collapseTime.toNat) ∧ set.tSettle = max 5 (min 600 w.tSettle.toNat) ∧
          set.tMax = min 3600 w.tMax.toNat ∧
          (s.lockAllows new = false → Refuses (.setHoldup tag w) s tag 0x35 .locked) ∧
          (s.lockAllows new = true →
            Accepts (.setHoldup tag w) s tag 0x35 (.holdup set s.holdup.state)
              { s with settings := new, store := { s.store with unstored := true } })) ∧
        ∀ w : RechargeW,
          let set := takeRecharge w
          let new := { s.settings with recharge := set }
          let x := s.recharge
          let iSet :=
            if x.state = .cruise then max set.iFloor (min set.iMax x.iSet)
            else if x.state = .floor ∨ x.state = .thermalHold then set.iFloor else x.iSet
          let power := (iSet * s.busV + 999) / 1000
          let short := s.online = true ∧ (s.budget.cap : Int) - s.commitmentSum - power < 0 ∧ 0 < power
          set.hTgt = min 20000 w.hTgt.toNat ∧ set.hTol = min set.hTgt w.hTol.toNat ∧
            set.deltaI = max 1 (min 1000 w.deltaI.toNat) ∧ set.stepInterval = max 1 (min 100 w.stepInterval.toNat) ∧
            set.iMax = max 1 (min 32767 w.iMax.toNat) ∧ set.iFloor = max 1 (min set.iMax w.iFloor.toNat) ∧
            set.iStart = max set.iFloor (min set.iMax w.iStart.toNat) ∧
            set.floorTime = max 1 (min 3600 w.floorTime.toNat) ∧ set.tChgLim = w.tChgLim.toInt ∧
            (w.source = 0 → set.source = .inlet) ∧ (w.source ≠ 0 → set.source = .hottestBbu) ∧
            (s.lockAllows new = false → Refuses (.setRecharge tag w) s tag 0x36 .locked) ∧
            (s.lockAllows new = true →
              Answers (.setRecharge tag w) s tag 0x36 fun fields t =>
                fields = .recharge set t.recharge.state t.recharge.iSet ∧ t.settings = new ∧
                  Ripple (s.adopt new) t ∧ t.seq = s.seq ∧ t.line = s.line ∧ (iSet = x.iSet → t = s.adopt new) ∧
                  (iSet ≠ x.iSet → ¬ short →
                    t.recharge = { x with iSet := iSet, shares := sharesOf x.members iSet } ∧ t.budget.pChg = power) ∧
                  (iSet ≠ x.iSet → short → t.recharge.state = .paused ∧ t.recharge.iSet = 0))) ∧
    (∀ w : SequenceW,
      let set := takeSequence w
      let new := { s.settings with sequence := set }
      set.staggerCount = max 1 (min 9999 w.staggerCount.toNat) ∧
        (w.staggerUnit.toNat ≤ 5 → set.staggerUnit = 1) ∧
        (6 ≤ w.staggerUnit.toNat → w.staggerUnit.toNat ≤ 54 → set.staggerUnit = 10) ∧
        (w.staggerUnit.toNat = 55 → set.staggerUnit = 10 ∨ set.staggerUnit = 100) ∧
        (56 ≤ w.staggerUnit.toNat → set.staggerUnit = 100) ∧ set.maxSoak = max 1 (min 4 w.maxSoak.toNat) ∧
        set.autoStart = (w.autoStart != 0) ∧ set.noticeWindow = max 5 (min 6000 w.noticeWindow.toNat) ∧
        set.holdCritical = min 600 w.holdCritical.toNat ∧ set.holdEssential = min 600 w.holdEssential.toNat ∧
        set.holdDeferrable = min 600 w.holdDeferrable.toNat ∧
        (s.lockAllows new = false → Refuses (.setSequence tag w) s tag 0x38 .locked) ∧
        (s.lockAllows new = true →
          Answers (.setSequence tag w) s tag 0x38 fun fields t =>
            fields = .sequence set ∧ t.settings = new ∧ Ripple (s.adopt new) t ∧
              (s.seq.stagger.isSome = true → t.seq.slots = s.seq.slots ∧ t.seq.stagger = s.seq.stagger) ∧
              ∀ n rest, s.seq.queue = n :: rest → n ∉ rest → (s.adopt new).grantsHead n = true →
                t.seq.queue = rest ∧ t.seq.stagger = some (set.staggerCount * set.staggerUnit) ∧
                  t.seq.slots[n].state = .soak)) ∧
      ∀ (mode : Byte) (survey : BitVec 16),
        let set : LineSettings :=
          ⟨if mode = 0 then .adaptive else .alwaysContinuous, max 1 (min 1000 survey.toNat)⟩
        let new := { s.settings with line := set }
        (s.lockAllows new = false → Refuses (.setLine tag mode survey) s tag 0x3A .locked) ∧
          (s.lockAllows new = true →
            Answers (.setLine tag mode survey) s tag 0x3A fun fields t =>
              fields = .line set s.line.state s.line.mode ∧
                t =
                  { s with
                    settings := new
                    store := { s.store with unstored := true }
                    line := { s.line with startDue := t.line.startDue, survey := t.line.survey } } ∧
                (s.line.enabled = true → s.line.mode = .quiet → s.line.cycle = .idle → set.mode = .alwaysContinuous →
                  t.line.startDue = true) ∧
                (s.line.mode = .continuous → t.line = s.line))

/-! ### Actions (chapters 1, 3, 6, 7, 9) and the profile store (chapter 12) -/

/-- ARM_TARGETS is refused on an empty table; else it starts again at entry 0 and compares at once: the leading entries that match
R are taken, each raises its cause with R, and the table disarms when none is left; the last INHIBIT or RELEASE of them stands. The
RESERVE shed of a table of one entry reaches the SOAK, ON, NOTICE and HELD slots of its class or higher and no other: ON is warned or
drained by the urgency, SOAK is drained, a shed in flight is taken over unless it is for a leak or more urgent (R49 to R51, R112, R114,
R115, R118, R119, R123). -/
def Obligations.ArmingComparesFromTheFirstEntry : Prop :=
  ∀ (s : State) (tag : Byte), s.atOnce = true →
    let table := s.settings.targets.entries
    let hits (e : TargetEntry) : Bool :=
      if e.direction = .falling then decide (s.charge.r ≤ e.threshold) else decide (e.threshold ≤ s.charge.r)
    let k := (table.takeWhile hits).length
    (table = [] → Refuses (.armTargets tag) s tag 0x50 .wrongState) ∧
      (table ≠ [] → table.length ≤ 16 →
        Answers (.armTargets tag) s tag 0x50 fun fields t =>
          fields = .plain ∧ t.charge.p = k ∧ t.charge.halted = false ∧ t.charge.armed = decide (k < table.length) ∧
            t.charge.r = s.charge.r ∧ t.settings = s.settings ∧
            (∀ j : Fin 16, j.val < k → RaisedFrom s t (causeTarget j) s.charge.r 1) ∧
            (∀ j : Fin 16, k ≤ j.val →
              t.causes.recs[causeTarget j].condition = s.causes.recs[causeTarget j].condition ∧
                t.causes.recs[causeTarget j].value = s.causes.recs[causeTarget j].value) ∧
            t.seq.targetInhibit =
              (match (table.take k).reverse.find? fun e => e.action == .inhibitPowerup || e.action == .releasePowerup with
                | none => s.seq.targetInhibit
                | some e => e.action == .inhibitPowerup) ∧
            (∀ e, table = [e] → e.action = .shed → k = 1 →
              ∀ n : SlotId, n ∉ s.seq.queue →
                let set := s.settings.slots[n]
                let x := s.seq.slots[n]
                let y := t.seq.slots[n]
                let reached := e.minClass ≤ set.cls.level
                let flying := x.state = .notice ∨ x.state = .held
                let drained : Slot :=
                  { x with
                    state := .draining, en := false, adoptedOff := false, notice := false, window := none, hold := none,
                    soak := none, drain := some (set.drainLimit * 1000), reason := .reserve, urgency := e.urgency }
                (¬ reached → x.state = .soak ∨ flying → y = x) ∧
                  (reached → x.state = .on → x.pg = true → e.urgency = .immediate → y = drained) ∧
                  (reached → x.state = .soak → x.pg = true → y = drained) ∧
                  (reached → x.state = .soak → x.pg = false → s.holdup.state ≠ .online →
                    y.state = .off ∧ y.en = false ∧ y.reason = .none ∧ y.urgency = .none ∧
                      y.restore = (set.autoRestore || x.restore)) ∧
                  (reached → x.state = .soak → x.pg = false → s.holdup.state = .online → set.autoRestore = true →
                    set.enabled = true → s.slotWet n = false →
                      y.restore = false ∧ (y.state = .queued ∨ y.state = .soak)) ∧
                  (reached → flying → x.reason = .leak ∨ e.urgency.level < x.urgency.level → y = x) ∧
                  (reached → flying → x.reason ≠ .leak → x.urgency.level ≤ e.urgency.level → x.pg = true →
                    (e.urgency = .immediate ∨ (x.state = .held ∧ e.urgency = .prompt) → y = drained) ∧
                      (e.urgency ≠ .immediate → x.state = .notice ∨ e.urgency ≠ .prompt →
                        y = { x with reason := .reserve, urgency := e.urgency }))) ∧
            ∀ e, table = [e] → e.action = .shed → k = 1 → (e.urgency = .orderly ∨ e.urgency = .prompt) →
              ∀ n : SlotId, n ∉ s.seq.queue →
                let x := s.seq.slots[n]
                let y := t.seq.slots[n]
                (x.state = .on → e.minClass ≤ s.settings.slots[n].cls.level →
                  y = { x with
                        state := .notice, en := true, adoptedOff := false, reason := .reserve, urgency := e.urgency,
                        notice := true, window := some (s.settings.sequence.noticeWindow * 10) }) ∧
                  (x.state = .on → s.settings.slots[n].cls.level < e.minClass → y = x) ∧
                  ((x.state = .off ∨ x.state = .draining ∨ x.state = .faulted ∨ x.state = .locked) → y = x))

/-- SET_CHARGE on a BBU that is not ABSENT takes the value clamped to Qfull, calibrates, clears the bottomed flag, changes no
state, and reckons the reserve; an ABSENT BBU refuses it (R46, R47). -/
def Obligations.SetChargeTakesTheValue : Prop :=
  ∀ (s : State) (tag b : Byte) (i : BbuId) (v : BitVec 32), s.atOnce = true → takeId 4 b = some i →
    let old := s.charge.bbus[i]
    let qFull := s.settings.bbus[i].qFull
    (old.state = .absent → Refuses (.setCharge tag b v) s tag 0x59 .wrongState) ∧
      (old.state ≠ .absent →
        Answers (.setCharge tag b v) s tag 0x59 fun fields t =>
          let x := t.charge.bbus[i]
          fields = .charge x.q ∧ x.q = min v.toNat qFull ∧
            x = { old with
                  q := x.q, r := 0, calibrated := true, bottomed := false, full := x.q == qFull, out := x.out } ∧
            t.reserveReckoned ∧
            t.causes.recs[causeBbu i].condition = (old.state == .fault || old.state == .depleted) ∧
            t.charge.test = s.charge.test ∧ (s.charge.armed = false → t.charge.p = s.charge.p) ∧
            s.charge.p ≤ t.charge.p ∧ (t.charge.armed = true → s.charge.armed = true))

/-- START_TEST is taken under ONLINE on a calibrated STANDBY BBU, with no test running and time enough on the others; ABORT_TEST
ends the running test by the charge and discards it (R54, R57). -/
def Obligations.TestsStartAndAbort : Prop :=
  ∀ (s : State) (tag : Byte), s.atOnce = true →
    (∀ (b : Byte) (i : BbuId), takeId 4 b = some i →
      let set := s.settings.bbus[i]
      let old := s.charge.bbus[i]
      let rest := s.charge.r - (old.q - set.qFloor)
      let time := if s.sense.iAvg < 10 then 65535 else min 65535 (rest / s.sense.iAvg)
      let allowed := s.holdup.state = .online ∧ old.state = .standby ∧ old.calibrated = true ∧
        s.charge.test.running = false ∧ set.testReserve ≤ time
      (¬ allowed → Refuses (.startTest tag b) s tag 0x5A .wrongState) ∧
        (allowed →
          Answers (.startTest tag b) s tag 0x5A fun fields t =>
            fields = .plain ∧ t.charge.bbus[i] = { old with state := .testing, taper := 0, out := t.charge.bbus[i].out } ∧
              (s.sense.seen = true → t.charge.bbus[i].out = ⟨true, false, -(set.testCurrent : Int)⟩) ∧
              t.charge.test =
                { running := true, bbu := some i, start := s.seconds, d := 0, residue := 0, elapsed := 0,
                  limit := set.testLimit, current := set.testCurrent, result := .none,
                  timer := some (set.testLimit * 1000) } ∧
              RaisedFrom s t (causeBbu i) old.q 21 ∧ t.reserveReckoned)) ∧
      (s.charge.test.running = false → Refuses (.abortTest tag) s tag 0x5B .wrongState) ∧
      ∀ i : BbuId, s.charge.test.running = true → s.charge.test.bbu = some i → s.charge.bbus[i].state = .testing →
        let set := s.settings.bbus[i]
        Answers (.abortTest tag) s tag 0x5B fun fields t =>
          fields = .plain ∧ t.charge.test.running = false ∧ t.charge.test.result = .abortedManager ∧
            t.charge.test.timer = none ∧
            t.charge.bbus[i].state = (if set.qFull - set.margin < s.charge.bbus[i].q then .standby else .charging) ∧
            t.charge.bbus[i].q = s.charge.bbus[i].q ∧ RaisedFrom s t causeTest 0 3 ∧ t.reserveReckoned

/-- POWER_UP takes its slots one by one: OFF, enabled and dry is queued (and granted at once where R100 lets it be), a manager's
notice is withdrawn, a slot already up or queued is left, and any other is reported as refused (R98, R101, R121). The slot is granted
when it stands at the head of the queue, by rank and number, and R100 holds for it; a head that stands before it is granted instead;
and a grant is followed by one head report, which says "no head blocked" while the stagger timer it starts runs (R102).
That a list reports each slot's state after the whole request, with a grant check after each slot it queues, is the model's reading
(log 24). -/
def Obligations.PowerUpTakesSlotsByState : Prop :=
  ∀ (s : State) (tag b : Byte) (n : SlotId), s.atOnce = true → takeId 24 b = some n →
    let x := s.seq.slots[n]
    let set := s.settings.slots[n]
    let wet := s.slotWet n
    let queues := x.state = .off ∧ set.enabled = true ∧ wet = false
    let withdraws := (x.state = .notice ∨ x.state = .held) ∧ x.reason = .manager ∧ wet = false
    let stays := x.state = .queued ∨ x.state = .soak ∨ x.state = .on
    (queues → n ∉ s.seq.queue →
      Answers (.powerUp tag [b]) s tag 0x51 fun fields t =>
        let y := t.seq.slots[n]
        fields = .slotList [⟨n, .queued, y.state⟩] ∧ Ripple s t ∧
          ((y = { x with state := .queued, en := false, restore := false, adoptedOff := false } ∧ n ∈ t.seq.queue) ∨
            (y = { x with
                   state := .soak, en := true, restore := false, adoptedOff := false, soak := some (set.soak * 100) } ∧
              t.seq.queue = s.seq.queue ∧ s.grantable = true ∧ (set.pReq + set.pInrush : Int) ≤ s.seq.lastH)) ∧
          (let heads := ∀ m, s.seq.queue.head? = some m →
             set.rank < s.settings.slots[m].rank ∨ (set.rank = s.settings.slots[m].rank ∧ n < m)
           let room := s.grantable = true ∧ (set.pReq + set.pInrush : Int) ≤ s.seq.lastH
           (y.state = .soak ↔ heads ∧ room) ∧ (y.state = .soak → t.seq.reports = s.seq.reports ++ [none]) ∧
             ∀ m rest, s.seq.queue = m :: rest → ¬ heads → s.grantsHead m = true →
               t.seq.slots[m].state = .soak ∧ m ∉ t.seq.queue ∧ t.seq.reports = s.seq.reports ++ [none]) ∧
          ∀ m : SlotId, m ≠ n → m ∉ s.seq.queue → t.seq.slots[m] = s.seq.slots[m]) ∧
      (withdraws →
        Answers (.powerUp tag [b]) s tag 0x51 fun fields t =>
          fields = .slotList [⟨n, .withdrawn, .on⟩] ∧ Ripple s t ∧
            t.seq =
              { s.seq with
                slots :=
                  s.seq.slots.set n
                    { x with
                      state := .on, en := true, adoptedOff := false, notice := false, window := none, hold := none,
                      drain := none, reason := .none, urgency := .none } }) ∧
      (stays → Accepts (.powerUp tag [b]) s tag 0x51 (.slotList [⟨n, .noChange, x.state⟩]) s) ∧
      (¬ queues → ¬ withdraws → ¬ stays →
        Accepts (.powerUp tag [b]) s tag 0x51 (.slotList [⟨n, .refusedWrongState, x.state⟩]) s) ∧
      ∀ (c d : Byte) (list : List Byte) (u t : State) (r : SlotOutcome) (rs : List SlotOutcome), list.length ≤ 22 →
        perform (.powerUp tag [c]) s = .ok (u, .slotList [r]) →
          perform (.powerUp tag (d :: list)) u = .ok (t, .slotList rs) →
            perform (.powerUp tag (c :: d :: list)) s =
              .ok (t, .slotList (⟨r.slot, r.result, t.seq.slots[r.slot].state⟩ :: rs))

/-- POWER_DOWN takes its slots one by one with reason MANAGER, at ORDERLY unless PROMPT or above is asked: OFF loses its
restore-pending flag, QUEUED goes to OFF, SOAK and ON enter DRAINING and NOTICE, a shed in flight is escalated or taken over,
FAULTED and LOCKED keep their state (R112 to R115, R125). The states after the whole request, and the result of a shed in flight by its
state after its entry, are the model's reading (log 24). -/
def Obligations.PowerDownTakesSlotsByState : Prop :=
  ∀ (s : State) (tag b u : Byte) (n : SlotId), s.atOnce = true → takeId 24 b = some n →
    let x := s.seq.slots[n]
    let urgency : Urgency := if u.toNat ≤ 1 then .orderly else .prompt
    let drained : Slot :=
      { x with
        state := .draining, en := false, adoptedOff := false, notice := false, window := none, hold := none, soak := none,
        drain := some (s.settings.slots[n].drainLimit * 1000), reason := .manager, urgency := urgency }
    let restoring := x.reason = .reserve ∨ x.reason = .limit ∨ x.reason = .deficit ∨ x.reason = .reset
    let flying := x.state = .notice ∨ x.state = .held ∨ x.state = .draining
    (x.state = .off ∨ x.state = .queued ∨ x.state = .faulted ∨ x.state = .locked →
      Answers (.powerDown tag u [b]) s tag 0x52 fun fields t =>
        let y := t.seq.slots[n]
        fields = .slotList [⟨n, if x.state = .queued then .off else .noChange, y.state⟩] ∧
          y.state = (if x.state = .queued then .off else x.state) ∧ y.restore = false ∧ y.reason = x.reason ∧
          y.urgency = x.urgency ∧ (x.state = .off ∨ x.state = .queued → n ∉ t.seq.queue) ∧
          ∀ m : SlotId, m ≠ n → m ∉ s.seq.queue → t.seq.slots[m] = s.seq.slots[m]) ∧
      (x.state = .soak → x.pg = true → n ∉ s.seq.queue →
        Answers (.powerDown tag u [b]) s tag 0x52 fun fields t =>
          fields = .slotList [⟨n, .draining, .draining⟩] ∧ t.seq.slots[n] = drained) ∧
      (x.state = .soak → x.pg = false → n ∉ s.seq.queue →
        Answers (.powerDown tag u [b]) s tag 0x52 fun fields t =>
          let y := t.seq.slots[n]
          fields = .slotList [⟨n, .draining, .off⟩] ∧ y.state = .off ∧ y.en = false ∧ y.reason = .none ∧
            y.urgency = .none ∧ y.restore = false ∧ y.soak = none ∧ y.drain = none) ∧
      (x.state = .on →
        Answers (.powerDown tag u [b]) s tag 0x52 fun fields t =>
          fields = .slotList [⟨n, .notice, .notice⟩] ∧ Ripple s t ∧
            t.seq =
              { s.seq with
                slots :=
                  s.seq.slots.set n
                    { x with
                      state := .notice, en := true, adoptedOff := false, reason := .manager, urgency := urgency,
                      notice := true, window := some (s.settings.sequence.noticeWindow * 10) } }) ∧
      (flying → x.reason = .leak →
        Answers (.powerDown tag u [b]) s tag 0x52 fun fields t =>
          fields = .slotList [⟨n, x.state.result, x.state⟩] ∧ t = s) ∧
      (flying → x.reason ≠ .leak → x.pg = true →
        Answers (.powerDown tag u [b]) s tag 0x52 fun fields t =>
          let y := t.seq.slots[n]
          fields = .slotList [⟨n, y.state.result, y.state⟩] ∧ t.seq = { s.seq with slots := s.seq.slots.set n y } ∧
            (x.urgency.level ≤ urgency.level → x.state = .held → urgency = .prompt → y = drained) ∧
            (x.urgency.level ≤ urgency.level → ¬ (x.state = .held ∧ urgency = .prompt) →
              y = { x with reason := .manager, urgency := urgency }) ∧
            (urgency.level < x.urgency.level → restoring → y = { x with reason := .manager }) ∧
            (urgency.level < x.urgency.level → ¬ restoring → y = x)) ∧
      ∀ (c d : Byte) (list : List Byte) (v t : State) (r : SlotOutcome) (rs : List SlotOutcome), list.length ≤ 22 →
        perform (.powerDown tag u [c]) s = .ok (v, .slotList [r]) →
          perform (.powerDown tag u (d :: list)) v = .ok (t, .slotList rs) →
            perform (.powerDown tag u (c :: d :: list)) s =
              .ok (t, .slotList (⟨r.slot, r.result, t.seq.slots[r.slot].state⟩ :: rs))

/-- RELEASE_SLOT returns a FAULTED slot whose PG is low and a LOCKED slot of a zone that is not WET, by the table of the rule, and
refuses every other (R99). The ACK reports the state after the grant check that a queue change starts, SOAK for a slot granted in the
same event (the model's choice, log 63). -/
def Obligations.ReleaseSlotByItsTable : Prop :=
  ∀ (s : State) (tag b q : Byte) (n : SlotId), s.atOnce = true → takeId 24 b = some n →
    let x := s.seq.slots[n]
    let set := s.settings.slots[n]
    let wet := ∃ z : ZoneId, set.zone = some z ∧ s.leak.zones[z].state = .wet
    let shed := ∃ z : ZoneId, set.zone = some z ∧ s.leak.zones[z].state = .wet ∧ s.settings.zones[z].policy = .valveAndShed
    let may := (x.state = .faulted ∧ x.pg = false) ∨ (x.state = .locked ∧ ¬ wet)
    (¬ may → Refuses (.releaseSlot tag b q) s tag 0x53 .wrongState) ∧
      (may → n ∉ s.seq.queue →
        Answers (.releaseSlot tag b q) s tag 0x53 fun fields t =>
          let y := t.seq.slots[n]
          fields = .released y.state ∧ y.reason = .none ∧ y.urgency = .none ∧ y.restore = false ∧
            t.causes.recs[causeSlot n].condition = false ∧ (shed → y.state = .locked) ∧
            (¬ shed → wet ∨ q = 0 ∨ set.enabled = false → y.state = .off) ∧
            (¬ wet → q ≠ 0 → set.enabled = true →
              (y.state = .queued ∧ n ∈ t.seq.queue) ∨ (y.state = .soak ∧ s.grantable = true)) ∧
            ∀ m : SlotId, m ≠ n → m ∉ s.seq.queue → t.seq.slots[m] = s.seq.slots[m])

/-- CLEAR_ZONE is refused while the rope reads WET or a report is present; else the zone leaves WET or SUSPECT with its valve
released and its counters 0, and the requeue flag takes its LOCKED slots to the queue or to OFF, of which under ONLINE one at most
is granted (R100, R101, R153). The states after the whole request, with one grant check after all its slots are queued, are the
model's reading (log 24), and that the ACK lists every LOCKED slot that left, in ascending order, one that goes to OFF among them,
is its choice (log 61). -/
def Obligations.ClearZoneReleasesTheValve : Prop :=
  ∀ (s : State) (tag b q : Byte) (z : ZoneId), s.atOnce = true → takeId 8 b = some z →
    let x := s.leak.zones[z]
    let calm : ZoneState := if x.ropeFault then .fault else .dry
    let locked := slotIds.filter fun n => s.settings.slots[n].zone == some z && s.seq.slots[n].state == .locked
    ((x.cls = .wet ∨ x.report = true) → Refuses (.clearZone tag b q) s tag 0x54 .wrongState) ∧
      (x.cls ≠ .wet → x.report = false →
        Answers (.clearZone tag b q) s tag 0x54 fun fields t =>
          let y := t.leak.zones[z]
          t.leak = { zones := s.leak.zones.set z y } ∧ y.ropeCount = 0 ∧ y.trayCount = 0 ∧
            (x.state = .wet → y.state = calm ∧ y.valve = false ∧ t.causes.recs[causeZoneWet z].condition = false) ∧
            (x.state = .suspect → y.state = calm ∧ y.valve = x.valve) ∧
            (x.state = .dry ∨ x.state = .fault → y = { x with ropeCount := 0, trayCount := 0 }) ∧
            (q = 0 → fields = .cleared y.state [] ∧ t.seq = s.seq) ∧
            (q ≠ 0 →
              fields = .cleared y.state (locked.map fun n => (n, t.seq.slots[n].state)) ∧
                (∀ n ∈ locked, n ∉ s.seq.queue →
                  t.seq.slots[n].reason = .none ∧ t.seq.slots[n].urgency = .none ∧
                    (s.settings.slots[n].enabled = false → t.seq.slots[n].state = .off) ∧
                    (s.settings.slots[n].enabled = true → s.seq.lastHoldup ≠ .online →
                      t.seq.slots[n].state = .queued ∧ n ∈ t.seq.queue) ∧
                    (s.settings.slots[n].enabled = true →
                      (t.seq.slots[n].state = .queued ∧ n ∈ t.seq.queue) ∨
                        (t.seq.slots[n].state = .soak ∧ n ∉ t.seq.queue ∧ s.grantable = true ∧
                          ((s.settings.slots[n].pReq + s.settings.slots[n].pInrush : Nat) : Int) ≤ s.seq.lastH))) ∧
                (locked.countP fun n => t.seq.slots[n].state == .soak) ≤ 1 ∧
                ∀ n : SlotId, n ∉ locked → n ∉ s.seq.queue → t.seq.slots[n] = s.seq.slots[n]))

/-- CLEAR_LATCH ends a LATCH alarm whose condition no longer holds and has no effect otherwise (R13); CLEAR_TRANSFER_RECORD
empties a record that is not open (R78); STORE_PROFILE takes the snapshot unless a write is in flight (R175); LOCK_PROFILE sets
one lock (R177). The end of a write: a good read-back stores the snapshot, a bad one leaves a profile that fails its check, and cause
134 tells which (R176). That an end of a write changes nothing while none is in flight is the model's reading (log 30), and the
settings that stand in a profile that fails its check are the model's choice (log 9). -/
def Obligations.LatchRecordStoreAndLocks : Prop :=
  (∀ (s : State) (tag : Byte), s.atOnce = true →
      (∀ (b : Byte) (p : AnalogId), takeId 21 b = some p →
        let q := AnalogId.point p
        let set := s.settings.points[p]
        let x := s.sense.points[q]
        let holds := if set.direction = .above then set.high < x.value else x.value < set.low
        let clears := set.mode = .latch ∧ x.alarm = true ∧ ¬ holds
        (¬ clears → Accepts (.clearLatch tag b) s tag 0x55 (.latch set.mode x.alarm) s) ∧
          (clears →
            Answers (.clearLatch tag b) s tag 0x55 fun fields t =>
              fields = .latch .latch false ∧
                t =
                  { s with
                    sense := { s.sense with points := s.sense.points.set q { x with alarm := false } }
                    causes := t.causes } ∧
                t.causes =
                  { s.causes with
                    recs := s.causes.recs.set (causePoint q) { s.causes.recs[causePoint q] with condition := x.stale }
                    alert := t.causes.alert })) ∧
        (s.holdup.record.isOpen = true → Refuses (.clearTransferRecord tag) s tag 0x5C .wrongState) ∧
        (s.holdup.record.isOpen = false →
          Accepts (.clearTransferRecord tag) s tag 0x5C .plain
            { s with
              holdup :=
                { s.holdup with
                  record := ⟨false, false, 0, 0, none, 0, 0, 0, 0, [], 0, 0, none, 0⟩ } }) ∧
        (s.store.writing ≠ none → Refuses (.storeProfile tag) s tag 0x5D .storeBusy) ∧
        (s.store.writing = none →
          Accepts (.storeProfile tag) s tag 0x5D .plain
            { s with
              store :=
                { s.store with writing := some ⟨s.settings, 0⟩, unstored := false, count := s.store.count + 1 } }) ∧
        Accepts (.lockProfile tag 0) s tag 0x5E (.locks true s.store.lockOrder s.store.lockGeneral)
          { s with store := { s.store with lockSafety := true } } ∧
        Accepts (.lockProfile tag 1) s tag 0x5E (.locks s.store.lockSafety true s.store.lockGeneral)
          { s with store := { s.store with lockOrder := true } } ∧
        Accepts (.lockProfile tag 2) s tag 0x5E (.locks s.store.lockSafety s.store.lockOrder true)
          { s with store := { s.store with lockGeneral := true } }) ∧
    ∀ (s : State) (verified : Bool),
    (s.store.writing = none → exec (.storeWriteComplete verified) s = .next s) ∧
      ∀ w, s.store.writing = some w →
        Gives (.storeWriteComplete verified) s fun t =>
          t = { s with
                store := t.store
                free := t.free
                causes := t.causes
                link := { s.link with replies := t.link.replies, tx := t.link.tx } } ∧
            RaisedFrom s t causeStore s.store.count (if verified then 1 else 2) ∧ t.store.nvm.profile = w.snapshot ∧
            t.store.nvm.valid = verified ∧
            t.store =
              { s.store with
                writing := none
                nvm := t.store.nvm
                lastResult := if verified then .ok else .verifyFailed
                unstored := s.store.unstored || !verified }

/-! ### Power, RST_N and the profile load (chapter 12 and the reset tables) -/

/-- Power-on keeps the pins and the nonvolatile memory alone, and a write in flight costs the stored profile its check. A fall of
RST_N loses the link and the causes, holds ALERT, the EN, DIS_EN and valve latches, removes CHG_EN and the setpoints, closes an open
record, empties a running test and abandons a write; its rise reads the straps and starts the load. While RST_N is low nothing acts
but power, RST_N and the levels at the pins (R1, R41, R57, R77, R129, R163, R165, R176, R178).
The reset that ends with a release is a pin reset, before the power-on load has completed too; that no load has completed since
power-on stays marked (a field of the model's own, log 17). SSL_CLK is low while RST_N is. What is taken at the fall and what at the release (log 28), the settings that stand in a stored profile that fails its
check (log 9), and that a release or a fall that finds no change does nothing (log 30) are the model's readings and choices. -/
def Obligations.PowerAndResetKeepWhatTheManualKeeps : Prop :=
  (∀ (s : State) (straps : BitVec 2),
    Gives (.powerOn straps) s fun t =>
      t = State.poweredOn s.pins straps t.store.nvm t.free s.pending ∧ t.phase = .loading true ∧
        t.store.nvm.profile = s.store.nvm.profile ∧ (s.store.writing = none → t.store.nvm = s.store.nvm) ∧
        (s.store.writing ≠ none → t.store.nvm.valid = false) ∧ (∀ n : SlotId, t.seq.slots[n].en = false) ∧
        (∀ i : BbuId, t.charge.bbus[i].out = ⟨false, false, 0⟩) ∧ (∀ z : ZoneId, t.leak.zones[z].valve = false)) ∧
    (∀ s : State, (∀ cold, s.phase ≠ .inReset cold) →
      Gives .pinResetAssert s fun t =>
        (s.phase = .running → t.phase = .inReset false) ∧ (∀ cold, s.phase = .loading cold → t.phase = .inReset cold) ∧
          t.txd = [] ∧ t.line.drivesLow = false ∧ t.line.clockRuns = false ∧
          (∀ half : ClockHalf, t.line.clockHigh half = false) ∧
          t = { s with
                phase := t.phase, free := t.free, charge := t.charge, holdup := t.holdup, line := t.line,
                causes := t.causes, link := t.link, store := t.store } ∧
          t.link = ⟨s.link.straps, .hunt, [], [], none⟩ ∧ t.causes.outbox = [] ∧ t.causes.alert = s.causes.alert ∧
          t.line.enabled = false ∧ t.line.cycle = .idle ∧ t.charge = { s.charge with bbus := t.charge.bbus, test := t.charge.test } ∧
          (∀ i : BbuId,
            t.charge.bbus[i] = { s.charge.bbus[i] with out := ⟨s.charge.bbus[i].out.disEn, false, 0⟩ }) ∧
          (s.charge.test.running = false → t.charge.test = s.charge.test) ∧
          (s.charge.test.running = true → t.charge.test.running = false ∧ t.charge.test.result = .none ∧ t.charge.test.d = 0) ∧
          (s.holdup.record.isOpen = false → t.holdup = s.holdup) ∧
          (s.holdup.record.isOpen = true →
            t.holdup =
              { s.holdup with
                record :=
                  { s.holdup.record with
                    isOpen := false, valid := true, rEnd := s.holdup.lastR, endReason := some .reset } }) ∧
          (s.store.writing = none → t.store = s.store) ∧
          (s.store.writing ≠ none →
            t.store = { s.store with writing := none, nvm := t.store.nvm } ∧ t.store.nvm.valid = false ∧
              t.store.nvm.profile = s.store.nvm.profile)) ∧
    (∀ (s : State) (straps : BitVec 2) (cold : Bool), s.phase = .inReset cold →
      exec (.pinResetRelease straps) s =
        .next
          { s with
            phase := .loading cold
            lastReset := .pin
            link := ⟨straps, .hunt, [], [], none⟩ }) ∧
    (∀ (s : State) (straps : BitVec 2), (∀ cold, s.phase ≠ .inReset cold) → exec (.pinResetRelease straps) s = .next s) ∧
    (∀ (s : State) (cold : Bool), s.phase = .inReset cold → exec .pinResetAssert s = .next s) ∧
    ∀ (c : Instr) (s : State) (cold : Bool), s.phase = .inReset cold → s.store.writing = none →
      (∀ straps, c ≠ .powerOn straps) → (∀ straps, c ≠ .pinResetRelease straps) →
        Gives c s fun t => t = { s with pins := t.pins }

/-- The load takes the stored profile if its check passes and the defaults if not, but a pin reset keeps each BBU's Qfull and
Qfloor and the policy of a WET zone; locks, unstored-changes flag and counts are cleared; after a pin reset each slot is adopted from
its EN latch, its PG and the kept zones; and then the waiting request is executed (R58, R79, R109, R110, R154, R163, R174, R178). That a
pin reset before any load has completed since power-on finds no Qfull, Qfloor or counter to keep, and takes those of a power-on, is the
model's choice (log 17). That the completion changes nothing in another phase is the model's reading (log 30), and the sample set number before the first set
(log 33) and the held flags of the line's vectors (log 43) and of the tray reports (log 54) after a load are its choices. -/
def Obligations.LoadTakesTheProfileAndAdopts : Prop :=
  (∀ s : State, (∀ cold, s.phase ≠ .loading cold) → exec .profileLoadComplete s = .next s) ∧
    ∀ (s : State) (cold : Bool), s.phase = .loading cold →
      let p := if s.store.nvm.valid then s.store.nvm.profile else defaultSettings
      ∃ u : State, exec .profileLoadComplete s = .next (executeHead u) ∧ u.phase = .running ∧
        u.link.queue = s.link.queue ∧ u.pins = s.pins ∧ u.clock = s.clock ∧
        u.settings = { p with bbus := u.settings.bbus, zones := u.settings.zones } ∧
        (cold = true → u.settings.bbus = p.bbus) ∧
        (cold = false →
          ∀ i : BbuId,
            let kept := s.settings.bbus[i].qFull
            u.settings.bbus[i] =
              { p.bbus[i] with
                qFull := kept, qFloor := s.settings.bbus[i].qFloor, margin := min p.bbus[i].margin kept }) ∧
        (s.lastReset = .powerOn → u.settings.zones = p.zones) ∧
        (s.lastReset = .pin →
          ∀ z : ZoneId,
            u.settings.zones[z] =
              if s.leak.zones[z].state = .wet then { p.zones[z] with policy := s.settings.zones[z].policy }
              else p.zones[z]) ∧
        u.store =
          ⟨s.store.nvm, none, false, false, false, if s.store.nvm.valid then .stored else .defaults, false, .none, 0⟩ ∧
        (s.store.nvm.valid = false → RaisedFrom s u causeFallback 0 1) ∧
        (∀ q : AnalogId, u.causes.recs[causePoint (AnalogId.point q)].condition = true) ∧
        u.causes.alert = u.alertLevel ∧ u.holdup.state = .starting ∧ u.holdup.record = s.holdup.record ∧
        u.holdup.events = s.holdup.events ∧ u.recharge = Recharge.init u.settings.recharge ∧ u.sense = Sense.init ∧
        u.line = Line.init true ∧ u.seq.queue = [] ∧ u.seq.stagger = none ∧ u.seq.targetInhibit = false ∧
        (s.lastReset = .powerOn → (∀ n : SlotId, u.seq.slots[n] = Slot.powerOn s.pins.pg[n]) ∧
          ∀ z : ZoneId, u.leak.zones[z] = Zone.powerOn) ∧
        (cold = true → ∀ i : BbuId, u.charge.bbus[i] = Bbu.powerOn p.bbus[i] s.pins.bbu[i] ∧
          u.charge.bbus[i].q = p.bbus[i].qFloor ∧ u.charge.bbus[i].calibrated = false) ∧
        (cold = false →
          ∀ i : BbuId,
            u.charge.bbus[i] =
              { s.charge.bbus[i] with
                state := .absent, taper := 0, present := s.pins.bbu[i].present, faultIn := s.pins.bbu[i].fault,
                critInForce := u.settings.bbus[i].tCrit, detectInForce := u.settings.bbus[i].detect,
                out := ⟨s.charge.bbus[i].out.disEn, false, 0⟩ }) ∧
        (s.lastReset = .pin →
          (∀ n : SlotId,
            let x := s.seq.slots[n]
            let y := u.seq.slots[n]
            let pg := s.pins.pg[n]
            let wet := ∃ z : ZoneId, u.settings.slots[n].zone = some z ∧ s.leak.zones[z].state = .wet ∧
              s.settings.zones[z].policy = .valveAndShed
            (wet → pg = true → y.state = .draining ∧ y.reason = .leak ∧ y.urgency = .immediate) ∧
              (wet → pg = false → y.state = .locked ∧ y.reason = .leak ∧ y.urgency = .immediate) ∧
              (¬ wet → pg = false → y.state = .off ∧ y.reason = .none) ∧
              (¬ wet → pg = true → x.en = true → y.state = .on ∧ y.reason = .none) ∧
              (¬ wet → pg = true → x.en = false → y.state = .draining ∧ y.reason = .reset ∧ y.urgency = .immediate) ∧
              y.en = decide (y.state = .on) ∧ y.pg = pg ∧ y.restore = false ∧ y.notice = false ∧
              y.adoptedOff = decide (y.state = .off) ∧
              y.drain = if y.state = .draining then some (u.settings.slots[n].drainLimit * 1000) else none) ∧
          ∀ z : ZoneId,
            let x := s.leak.zones[z]
            let y := u.leak.zones[z]
            y.state = x.state ∧ y.ropeFault = x.ropeFault ∧ y.confirmation = x.confirmation ∧ y.valve = x.valve ∧
              y.ropeCount = 0 ∧ y.trayCount = 0)

/-! ### Input pins (R20, R21, R37, R38, R60, R104 to R106, R119) -/

/-- A level change at a PSU's input reclassifies it and raises its cause when the class changes, with capacity; PRESENT and AC_OK
are also judged by the holdup controller, with BUS_V as last published: AC failed ends ONLINE and opens an event, AC good ends BRIDGING
and BLACKOUT in RETURN with the settle timer, and AC failed in RETURN is a flicker, which an open record counts and which ends in
BLACKOUT when no BBU is counted (R60, R62, R64, R67, R70, R72). A BBU that is fitted starts at its floor, one that is removed or faults loses its outputs
and its test; T_crit and the discharge-detect current are those in force since the last set (R36). Before the first sample set a
change is recorded. That a level already there is no change and that one seen outside running moves the pins alone (log 30), that the
holdup controller stands still in STARTING (log 20), and that the budget unit takes a change first (log 39) are the model's readings
and choices. -/
def Obligations.InputsReclassifyTheirModules : Prop :=
  (∀ (s : State) (k : PsuId) (pin : PsuPin) (level : Bool),
    let old := s.pins.psu[k]
    let now : PsuPins :=
      ⟨if pin = .present then level else old.present, if pin = .acOk then level else old.acOk,
        if pin = .dcOk then level else old.dcOk⟩
    let pins := { s.pins with psu := s.pins.psu.set k now }
    let x := s.budget.psus[k]
    let st : PsuState :=
      if now.present = false then .absent else if now.acOk = false then .noAc
      else if now.dcOk = false ∨ s.sense.pub[psuIPoint k].alarm = true then .fault else .good
    let seen : Psu := { x with present := now.present, acOk := now.acOk, dcOk := now.dcOk }
    (now = old → exec (.psuInputChange k pin level) s = .next s) ∧
      (now ≠ old → ¬ s.running → exec (.psuInputChange k pin level) s = .next { s with pins := pins }) ∧
      (now ≠ old → s.running → s.sense.seen = false → s.holdup.state = .starting →
        exec (.psuInputChange k pin level) s =
          .next { s with pins := pins, budget := { s.budget with psus := s.budget.psus.set k seen } }) ∧
      (now ≠ old → s.running → s.sense.seen = true →
        Gives (.psuInputChange k pin level) s fun t =>
          t.pins = pins ∧ t.sense = s.sense ∧ t.budget.psus = s.budget.psus.set k { seen with state := st } ∧
            (st = x.state → t.budget.cap = s.budget.cap) ∧
            (st ≠ x.state →
              RaisedFrom s t (causePsu k) (if st = .absent then 0 else s.pubValue (psuIPoint k))
                  (BitVec.ofNat 8 (16 + st.code)) ∧
                t.causes.recs[causePsu k].condition = (st == .noAc || st == .fault) ∧
                t.budget.nGood = psuIds.countP (fun j => t.budget.psus[j].state == .good) ∧
                t.budget.cap =
                  (t.budget.nGood - s.settings.budget.nRed) * s.settings.budget.pRate * t.budget.f / 256) ∧
            (pin = .dcOk ∨ s.holdup.state = .starting → t.holdup = s.holdup) ∧
            (pin ≠ .dcOk → s.holdup.state ≠ .starting →
              let set := s.settings.holdup
              let h := s.holdup
              let count := psuIds.countP fun j => pins.psu[j].present && pins.psu[j].acOk
              let failed := count < set.nAcMin ∨ s.busV < set.vBridge
              let good := ¬ failed ∧ set.vReturn ≤ s.busV
              let judged : Holdup :=
                { h with
                  acCount := count
                  acEval := if failed then .failed else if good then .good else .neither }
              let carried := h.lastCounted ≠ 0
              t.holdup.acCount = count ∧ t.holdup.acEval = judged.acEval ∧
                (h.state = .online → ¬ failed → t.holdup = judged) ∧
                (h.state = .online → failed →
                  t.holdup.state = (if carried then .bridging else .blackout) ∧
                    t.holdup.events = min 65535 (h.events + 1) ∧ (t.holdup.eventOpen = true ↔ carried) ∧
                    t.holdup.settle = none ∧ t.holdup.collapse = none ∧
                    t.holdup.bridging = (if carried ∧ 0 < set.tMax then some (set.tMax * 1000) else none) ∧
                    t.budget.deficit = .idle ∧ t.recharge.state = .off ∧ t.recharge.iSet = 0 ∧
                    (h.record.valid = false → h.record.isOpen = false → carried →
                      t.holdup.record.isOpen = true ∧
                        t.holdup.record.trigger = some (if count < set.nAcMin then .acCount else .busSag))) ∧
                (h.state = .bridging ∨ h.state = .blackout → ¬ good → t.holdup = judged) ∧
                (h.state = .bridging ∨ h.state = .blackout → good →
                  t.holdup =
                      { judged with state := .returning, settle := some (set.tSettle * 100), collapse := none } ∧
                    RaisedFrom s t causeHoldup s.busV 19) ∧
                (h.state = .returning → ¬ failed → t.holdup = judged) ∧
                (h.state = .returning → failed → carried →
                  t.holdup =
                      { judged with
                        state := .bridging
                        settle := none
                        record :=
                          if h.record.isOpen then { h.record with flickers := min 255 (h.record.flickers + 1) }
                          else h.record } ∧
                    RaisedFrom s t causeHoldup s.busV 18) ∧
                (h.state = .returning → failed → ¬ carried →
                  t.holdup.state = .blackout ∧ t.holdup.settle = none ∧ t.holdup.events = h.events)))) ∧
    ∀ (s : State) (i : BbuId) (level : Bool),
      let old := s.pins.bbu[i]
      let set := s.settings.bbus[i]
      let b := s.charge.bbus[i]
      let temp := s.pubValue (bbuTPoint i)
      let rest : BbuState := if set.qFull - set.margin < b.q then .standby else .charging
      let atPresent := { s.pins with bbu := s.pins.bbu.set i { old with present := level } }
      let atFault := { s.pins with bbu := s.pins.bbu.set i { old with fault := level } }
      let testing := s.charge.test.running = true ∧ s.charge.test.bbu = some i
      let ended (t : State) : Prop :=
        testing → t.charge.test.running = false ∧ t.charge.test.result = .abortedFault ∧ RaisedFrom s t causeTest 0 5
      (old.present = level → exec (.bbuPresentChange i level) s = .next s) ∧
        (old.fault = level → exec (.bbuFaultInputChange i level) s = .next s) ∧
        (old.present ≠ level → ¬ s.running → exec (.bbuPresentChange i level) s = .next { s with pins := atPresent }) ∧
        (old.fault ≠ level → ¬ s.running → exec (.bbuFaultInputChange i level) s = .next { s with pins := atFault }) ∧
        (old.present ≠ level → s.running → s.sense.seen = false →
          exec (.bbuPresentChange i level) s =
            .next
              { s with
                pins := atPresent
                charge :=
                  { s.charge with
                    bbus := s.charge.bbus.set i { b with present := level, faultIn := old.fault } } }) ∧
        (old.fault ≠ level → s.running → s.sense.seen = false →
          exec (.bbuFaultInputChange i level) s =
            .next
              { s with
                pins := atFault
                charge :=
                  { s.charge with
                    bbus := s.charge.bbus.set i { b with present := old.present, faultIn := level } } }) ∧
        (old.present = false → level = true → s.running → s.sense.seen = true → b.state = .absent →
          Gives (.bbuPresentChange i level) s fun t =>
            let x := t.charge.bbus[i]
            let st : BbuState :=
              if old.fault = true ∨ b.critInForce ≤ temp then .fault
              else if s.pubValue (bbuIPoint i) ≤ -(b.detectInForce : Int) then .discharging
              else if set.qFull - set.margin < set.qFloor then .standby else .charging
            t.pins = atPresent ∧
              x = { b with
                    state := st, q := set.qFloor, r := 0, calibrated := false, bottomed := false, full := false,
                    taper := 0, health := none, present := true, faultIn := old.fault, out := x.out } ∧
              RaisedFrom s t (causeBbu i) set.qFloor (BitVec.ofNat 8 (16 + st.code)) ∧ t.reserveReckoned) ∧
        (old.present = true → level = false → s.running → s.sense.seen = true → b.state ≠ .absent →
          Gives (.bbuPresentChange i level) s fun t =>
            let x := t.charge.bbus[i]
            t.pins = atPresent ∧ x.state = .absent ∧ x.q = b.q ∧ x.out = ⟨false, false, 0⟩ ∧
              RaisedFrom s t (causeBbu i) b.q 16 ∧ ended t ∧ t.reserveReckoned) ∧
        (old.fault = false → level = true → s.running → s.sense.seen = true → b.state ≠ .absent → b.state ≠ .fault →
          Gives (.bbuFaultInputChange i level) s fun t =>
            let x := t.charge.bbus[i]
            t.pins = atFault ∧ x.state = .fault ∧ x.q = b.q ∧ x.out = ⟨false, false, 0⟩ ∧
              t.causes.recs[causeBbu i].condition = true ∧ RaisedFrom s t (causeBbu i) b.q 17 ∧ ended t ∧
              t.reserveReckoned) ∧
        (old.fault = true → level = false → s.running → s.sense.seen = true → b.state = .fault →
          Gives (.bbuFaultInputChange i level) s fun t =>
            t.pins = atFault ∧ t.charge.bbus[i].state = (if temp < b.critInForce then rest else .fault) ∧
              t.charge.bbus[i].q = b.q ∧
              (temp < b.critInForce →
                RaisedFrom s t (causeBbu i) b.q (BitVec.ofNat 8 (16 + rest.code)) ∧ t.reserveReckoned))

/-- A change of PG is recorded. A rise without EN raises the slot's cause; a fall in ON, NOTICE or HELD is a PG loss into FAULTED;
a fall in DRAINING completes the drain by the reason that stands; in FAULTED it moves the commitment; elsewhere it does nothing more
(R105, R106, R119). That a level already there is no change, and that one seen outside running moves the pins alone, is the model's
reading (log 30). -/
def Obligations.PgChangesBySlotState : Prop :=
  ∀ (s : State) (n : SlotId) (level : Bool),
    let x := s.seq.slots[n]
    let pins := { s.pins with pg := s.pins.pg.set n level }
    let set := s.settings.slots[n]
    let seen := { s with pins := pins, seq := { s.seq with slots := s.seq.slots.set n { x with pg := level } } }
    let low := x.state = .off ∨ x.state = .queued ∨ x.state = .locked
    let up := x.state = .on ∨ x.state = .notice ∨ x.state = .held
    (s.pins.pg[n] = level → exec (.pgChange n level) s = .next s) ∧
      (s.pins.pg[n] ≠ level → ¬ s.running → exec (.pgChange n level) s = .next { s with pins := pins }) ∧
      (s.pins.pg[n] ≠ level → s.running →
        (level = true → x.state = .soak ∨ up ∨ x.state = .draining → exec (.pgChange n level) s = .next seen) ∧
          (level = false → low ∨ x.state = .soak → exec (.pgChange n level) s = .next seen) ∧
          (x.state = .faulted → exec (.pgChange n level) s = .next (recompute seen)) ∧
          (level = true → low →
            Gives (.pgChange n level) s fun t =>
              t = { seen with causes := t.causes, link := { s.link with replies := t.link.replies, tx := t.link.tx } } ∧
                RaisedFrom s t (causeSlot n) set.pReq 3) ∧
          (level = false → up →
            Gives (.pgChange n level) s fun t =>
              Ripple { s with pins := pins } t ∧ RaisedFrom s t (causeSlot n) set.pReq 2 ∧
                t.causes.recs[causeSlot n].condition = true ∧
                t.seq =
                  { s.seq with
                    slots :=
                      s.seq.slots.set n
                        { x with
                          state := .faulted, en := false, adoptedOff := false, pg := false, notice := false,
                          window := none, hold := none, drain := none, soak := none, reason := .fault,
                          urgency := .none, restore := false } }) ∧
          (level = false → x.state = .draining →
            Gives (.pgChange n level) s fun t =>
              let y := t.seq.slots[n]
              let restores := x.reason = .reserve ∨ x.reason = .limit ∨ x.reason = .deficit ∨ x.reason = .blackout ∨
                x.reason = .reset
              Ripple { s with pins := pins } t ∧ y.pg = false ∧ y.drain = none ∧
                (x.reason = .leak → y.state = .locked ∧ y.reason = .leak ∧ y.urgency = .immediate ∧ y.restore = false) ∧
                (x.reason = .manager → y.state = .off ∧ y.reason = .none ∧ y.urgency = .none ∧ y.restore = false) ∧
                (restores → s.holdup.state ≠ .online →
                  y.state = .off ∧ y.reason = .none ∧ y.urgency = .none ∧ y.restore = (set.autoRestore || x.restore)) ∧
                (restores → s.holdup.state = .online → set.autoRestore = true → set.enabled = true → s.slotWet n = false →
                  y.restore = false ∧ (y.state = .queued ∨ y.state = .soak))))

/-! ### Publications between blocks (R26, R47, R70, R73, R86, R87, R90, R91, R102) -/

/-- Each consumer holds what was published last. A headroom publication judges the regulator in FLOOR and PAUSED; a reserve
publication takes the start decision on the first sample set and ends a bridge that no BBU carries; a head report that names a need
makes a cruising regulator yield. A headroom publication also makes a grant check of the queue head (R101). That one publication
command takes all that are outstanding, that the start is decided on the first sample set as it was noted, and that a yield never
raises I_set and is not tested in the publication that enters CRUISE are the model's choices and readings (log 4, log 20, log 14). A
sample set reaches the regulator at once: it forms the charging set and its shares (R80, R81); an empty set gives OFF; one that
becomes non-empty in OFF under ONLINE, or room enough in PAUSED, takes START with its three outcomes (R84, R87); a source
temperature above T_chg_lim ends CRUISE and FLOOR in THERMAL_HOLD, and one at least 2 below it ends that in CRUISE at I_floor (R89).
A setpoint that the headroom does not bear pauses it (R88). That the set is formed before the other two tests is the model's choice
(log 40); that the budget unit and the charge accounting unit act on a set before the regulator (log 5), and that a publication or a
report of which there is none changes nothing (log 30), are its readings. -/
def Obligations.PublicationsReachTheirConsumers : Prop :=
  ∀ s : State, s.running →
    let set := s.settings.recharge
    let x := s.recharge
    let power (i : Nat) : Int := ((i * s.busV + 999) / 1000 : Nat)
    let short (i : Nat) : Prop := s.online = true ∧ (s.budget.cap : Int) - s.commitmentSum - power i < 0 ∧ 0 < power i
    (Gives .headroomPublication s fun t =>
      (s.budget.pubs = [] → t = s) ∧
        (∀ p, s.budget.pubs.getLast? = some p → t.seq.lastH = p.1 ∧ t.recharge.lastH = p.1 ∧ t.shed = ⟨p.1, p.2⟩) ∧
        (∀ p m rest, s.budget.pubs = [p] → s.seq.queue = m :: rest → m ∉ rest →
          let need := s.settings.slots[m].pReq + s.settings.slots[m].pInrush
          let granted := s.grantable = true ∧ (need : Int) ≤ p.1
          (granted →
            t.seq.queue = rest ∧
              t.seq.stagger = some (s.settings.sequence.staggerCount * s.settings.sequence.staggerUnit) ∧
              t.seq.slots =
                s.seq.slots.set m
                  { s.seq.slots[m] with
                    state := .soak, en := true, adoptedOff := false, soak := some (s.settings.slots[m].soak * 100) }) ∧
            (¬ granted → t.seq.queue = s.seq.queue ∧ t.seq.stagger = s.seq.stagger ∧ t.seq.slots = s.seq.slots)) ∧
        ∀ p, s.budget.pubs = [p] → s.seq.queue = [] →
          let threshold := (set.hTgt : Int) + set.hTol + power set.iStart
          (x.state = .off ∨ x.state = .thermalHold → t.recharge = { x with lastH := p.1 }) ∧
            (x.state = .floor → p.1 < (set.hTgt : Int) - set.hTol → t.recharge = { x with lastH := p.1 }) ∧
            (x.state = .floor → (set.hTgt : Int) - set.hTol ≤ p.1 →
              t.recharge.state = .cruise ∧ t.recharge.iSet = x.iSet ∧ t.recharge.floorTimer = none ∧
                t.recharge.step = some (set.stepInterval * 100)) ∧
            (x.state = .paused → p.1 < threshold → t.recharge = { x with lastH := p.1 }) ∧
            (x.state = .paused → threshold ≤ p.1 → (∃ i : BbuId, x.members[i] = true) → s.sourceTemp ≤ x.tChgLimInForce →
              ¬ short set.iStart →
                t.recharge.state = .cruise ∧ t.recharge.iSet = set.iStart ∧
                  t.recharge.step = some (set.stepInterval * 100))) ∧
      (Gives .reservePublication s fun t =>
        (s.charge.pubs = [] → t = s) ∧
          (∀ p, s.charge.pubs.getLast? = some p →
            t.seq.lastInhibit = p.inhibit ∧ t.recharge.lastBand = p.band ∧ t.recharge.lastInhibit = p.inhibit ∧
              t.holdup.lastR = p.r ∧ t.holdup.lastTEst = p.tEst ∧ t.holdup.lastCounted = p.counted) ∧
          ∀ p, s.charge.pubs = [p] →
            (s.holdup.state = .starting → s.holdup.first = none ∨ p.afterSet = false → t.holdup.state = .starting) ∧
              (∀ f, s.holdup.state = .starting → s.holdup.first = some f → p.afterSet = true →
                (f.acEval = .good → t.holdup.state = .online) ∧
                  (f.acEval ≠ .good → p.counted ≠ 0 → f.busHeld = true →
                    t.holdup.state = .bridging ∧ t.holdup.eventOpen = true ∧
                      t.holdup.events = min 65535 (s.holdup.events + 1)) ∧
                  (f.acEval ≠ .good → p.counted = 0 ∨ f.busHeld = false →
                    t.holdup.state = .blackout ∧ t.holdup.events = s.holdup.events)) ∧
              (s.holdup.state = .bridging → t.holdup.state = if p.counted = 0 then .blackout else .bridging) ∧
              (s.holdup.state = .returning ∨ s.holdup.state = .online → t.holdup.state = s.holdup.state)) ∧
      (Gives .headReport s fun t =>
        (s.seq.reports = [] → t = s) ∧ (∀ r, s.seq.reports.getLast? = some r → t.recharge.lastHead = r) ∧
          ∀ r, s.seq.reports = [r] →
            let yields := x.state = .cruise ∧ x.lastInhibit = false ∧ set.iFloor < x.iSet
            (r = none ∨ ¬ yields →
              t =
                { s with
                  seq := { s.seq with reports := [] }
                  recharge :=
                    { x with lastHead := r, yielded := x.yielded && r.isSome && r == x.lastHead } }) ∧
              (∀ need, r = some need → yields →
                let target := power x.iSet - ((need : Int) - x.lastH)
                let new := if s.busV = 0 then set.iFloor else min x.iSet (max set.iFloor (target * 1000 / s.busV).toNat)
                Ripple { s with recharge := { x with lastHead := r } } t ∧
                  (¬ short new →
                    t.recharge =
                      { x with
                        lastHead := r, iSet := new, shares := sharesOf x.members new, yielded := true,
                        step := some (set.stepInterval * 100) }))) ∧
      ∀ codes : Vector (BitVec 12) 29,
        Gives (.sampleSet codes) s fun t =>
          let y := t.recharge
          let draws (i : Nat) : Int := ((i * t.busV + 999) / 1000 : Nat)
          let lacks (sum i : Nat) : Prop := s.online = true ∧ (t.budget.cap : Int) - sum - draws i < 0 ∧ 0 < draws i
          let rests (i : Nat) : Prop := y.iSet = i ∧ y.step = none ∧ y.floorTimer = none ∧ y.yielded = false
          let had := ∃ i : BbuId, x.members[i] = true
          let has := ∃ i : BbuId, y.members[i] = true
          let found : RegState := if lacks s.commitmentSum x.iSet then .paused else x.state
          let hot := set.tChgLim < t.sourceTemp
          let starts := (¬ had ∧ found = .off ∧ x.lastHoldup = .online) ∨
            (found = .paused ∧ (set.hTgt : Int) + set.hTol + draws set.iStart ≤ x.lastH)
          let room := (set.hTgt : Int) ≤ x.lastH - draws set.iStart
          let cruises (i : Nat) : Prop :=
            (lacks t.commitmentSum i → y.state = .paused ∧ rests 0) ∧
              (¬ lacks t.commitmentSum i →
                y.state = .cruise ∧ y.iSet = i ∧ y.step = some (set.stepInterval * 100) ∧ y.floorTimer = none)
          let heats : Prop :=
            (lacks t.commitmentSum set.iFloor → y.state = .paused ∧ rests 0) ∧
              (¬ lacks t.commitmentSum set.iFloor →
                y.state = .thermalHold ∧ rests set.iFloor ∧ RaisedFrom s t causeRecharge t.sourceTemp 4)
          (∀ i : BbuId, y.members[i] = (t.charge.bbus[i].state == .charging && !t.sense.pub[bbuTPoint i].alarm)) ∧
            (x.shares = sharesOf x.members x.iSet → y.shares = sharesOf y.members y.iSet) ∧
            y.sourceInForce = set.source ∧ y.tChgLimInForce = set.tChgLim ∧ y.lastH = x.lastH ∧ y.lastBand = x.lastBand ∧
            y.lastInhibit = x.lastInhibit ∧ y.lastHead = x.lastHead ∧
            (t.holdup.state = s.holdup.state →
              s.seq.stagger.isSome = true ∨ (s.seq.queue = [] ∧ s.charge.armed = false) →
                (x.state = .off ∨ x.state = .paused → x.iSet = 0) →
                  (¬ has → y.state = .off ∧ y.iSet = 0 ∧ (found ≠ .off → rests 0)) ∧
                    (has → starts → ¬ room → y.state = .paused ∧ rests 0 ∧ RaisedFrom s t causeRecharge x.lastH 1) ∧
                    (has → starts → room → hot → heats) ∧ (has → starts → room → ¬ hot → cruises set.iStart) ∧
                    (has → ¬ starts → found = .off ∨ found = .paused → y.state = found ∧ y.iSet = 0) ∧
                    (has → found = .cruise ∨ found = .floor → hot → heats) ∧
                    (has → found = .cruise ∨ found = .floor → ¬ hot →
                      y.state = found ∧ y.iSet = x.iSet ∧ y.yielded = x.yielded) ∧
                    (has → found = .thermalHold → t.sourceTemp ≤ set.tChgLim - 2 → cruises set.iFloor) ∧
                    (has → found = .thermalHold → set.tChgLim - 2 < t.sourceTemp →
                      y.state = .thermalHold ∧ y.iSet = x.iSet))

/-! ### Deficit handling (R30 to R33, R126) -/

/-- The grace runs out: a selection is asked. The selection takes ON slots with a P_req, DEFERRABLE before ESSENTIAL and highest
rank and number first, while the projected headroom is below 0, into NOTICE, and answers what it reached. The answer is judged in
SELECTING alone, and not at all when its selection was asked before ONLINE was last left, the answers coming in the order of their
selections (R33; the model's reading, log 48). That each
command takes one selection or one answer is the model's choice (log 4); that an expiry, a selection or an answer of which there is
none changes nothing is its reading (log 30, log 3). -/
def Obligations.DeficitIsSelectedAndAnswered : Prop :=
  ∀ s : State, s.running →
    (s.budget.deficit = .grace → s.budget.timer.isSome = true →
      Gives .deficitTimerExpiry s fun t =>
        t =
            { s with
              budget :=
                { s.budget with deficit := .selecting, timer := none, selAsked := s.budget.selAsked + 1 }
              causes := t.causes
              link := { s.link with replies := t.link.replies, tx := t.link.tx } } ∧
          RaisedFrom s t causeDeficit s.budget.h 2) ∧
      (s.budget.timer = none → exec .deficitTimerExpiry s = .next s) ∧
      (s.budget.selAsked = 0 → exec .deficitSelection s = .next s) ∧
      (s.budget.selAsked ≠ 0 →
        Gives .deficitSelection s fun t =>
          let rank (n : SlotId) : Nat := s.settings.slots[n].rank
          let order (c : SlotClass) : List SlotId :=
            (slotIds.filter fun n =>
              s.seq.slots[n].state == .on && s.settings.slots[n].cls == c && decide (0 < s.settings.slots[n].pReq)).mergeSort
                fun a b => decide (rank b < rank a ∨ (rank a = rank b ∧ b.val ≤ a.val))
          let candidates := order .deferrable ++ order .essential
          let reached (k : Nat) : Int :=
            s.shed.lastH + s.inFlightSum + (((candidates.take k).map fun n => s.settings.slots[n].pReq).sum : Nat)
          ∃ k, k ≤ candidates.length ∧ (∀ j, j < k → reached j < 0) ∧ (0 ≤ reached k ∨ k = candidates.length) ∧
            t.budget.answers = s.budget.answers ++ [(reached k, k)] ∧ t.budget.selAsked = s.budget.selAsked - 1 ∧
            t.seq = { s.seq with slots := t.seq.slots } ∧ t.holdup = s.holdup ∧ t.settings = s.settings ∧
            ∀ n : SlotId,
              let x := s.seq.slots[n]
              (n ∉ candidates.take k → t.seq.slots[n] = x) ∧
                (n ∈ candidates.take k →
                  t.seq.slots[n] =
                    { x with
                      state := .notice, en := true, adoptedOff := false, reason := .deficit, urgency := .prompt,
                      notice := true, window := some (s.settings.sequence.noticeWindow * 10) })) ∧
      (s.budget.answers = [] → exec .deficitAnswer s = .next s) ∧
      ∀ a rest, s.budget.answers = a :: rest →
        let taken := { s with budget := { s.budget with answers := rest, stale := s.budget.stale - 1 } }
        (s.budget.deficit ≠ .selecting ∨ s.budget.stale ≠ 0 → exec .deficitAnswer s = .next taken) ∧
          (s.budget.deficit = .selecting → s.budget.stale = 0 →
            Gives .deficitAnswer s fun t =>
              Ripple taken t ∧ t.seq = s.seq ∧
                t.budget.h = (s.budget.cap : Int) - s.commitmentSum - t.budget.pChg ∧
                (0 ≤ t.budget.h → t.budget.deficit = .idle ∧ t.budget.timer = none) ∧
                (t.budget.h < 0 → 0 ≤ a.1 → t.budget.deficit = .covered) ∧
                (t.budget.h < 0 → a.1 < 0 →
                  t.budget.deficit = .grace ∧ t.budget.timer = some (s.settings.budget.grace * 100) ∧
                    RaisedFrom s t causeDeficit a.1 3))

/-! ### Timers (R57, R65, R66, R68, R69, R71, R85, R86, R101, R104, R116 to R120) -/

/-- The time limit of a test ends it by the charge. The settle timer enters ONLINE: the event and its record close, DEPLETED BBUs
charge again, RESERVE and LIMIT warnings are withdrawn. The bridging timer asks for the LIMIT shed and leaves the state: it warns
ON, drains SOAK and a HELD slot no more urgent, and takes over a NOTICE no more urgent unless it is for a leak. The collapse timer
enters BLACKOUT: every EN is removed, every BBU that was feeding or resting is cut off with its outputs, and the table is disarmed.
That the ONLINE entry disarms an ON_BRIDGE table before it returns DEPLETED BBUs to CHARGING, so that the greater reserve matches no
entry, is the model's reading (log 22). -/
def Obligations.TimersOfTestAndHoldup : Prop :=
  ∀ s : State, s.running →
    (∀ i : BbuId, s.charge.test.running = true → s.charge.test.timer.isSome = true → s.charge.test.bbu = some i →
      s.charge.bbus[i].state = .testing →
        let set := s.settings.bbus[i]
        Gives .testTimerExpiry s fun t =>
          t.charge.test.running = false ∧ t.charge.test.result = .abortedTime ∧ t.charge.test.timer = none ∧
            t.charge.bbus[i].state = (if set.qFull - set.margin < s.charge.bbus[i].q then .standby else .charging) ∧
            t.charge.bbus[i].q = s.charge.bbus[i].q ∧ RaisedFrom s t causeTest 0 4 ∧ t.reserveReckoned) ∧
      (s.holdup.state = .returning → s.holdup.settle.isSome = true →
        Gives .settleTimerExpiry s fun t =>
          let quiet := s.charge.armed = false ∨ s.settings.targets.mode = .onBridge
          t.holdup =
              { s.holdup with
                state := .online, settle := none, bridging := none, collapse := none, eventOpen := false,
                record := t.holdup.record } ∧
            (s.holdup.record.isOpen = false → t.holdup.record = s.holdup.record) ∧
            (s.holdup.record.isOpen = true →
              t.holdup.record.isOpen = false ∧ t.holdup.record.valid = true ∧
                t.holdup.record.endReason = some .acReturn ∧ t.holdup.record.rEnd = s.holdup.lastR ∧
                t.holdup.record.duration = s.holdup.record.duration) ∧
            t.seq.lastHoldup = .online ∧ t.recharge.lastHoldup = .online ∧
            (s.settings.targets.mode = .onBridge → t.charge.armed = false ∧ t.charge.p = s.charge.p) ∧
            RaisedFrom s t causeHoldup s.busV 17 ∧ t.causes.recs[causeHoldup].condition = false ∧
            (∀ i : BbuId,
              t.charge.bbus[i].state =
                if s.charge.bbus[i].state = .depleted then .charging else s.charge.bbus[i].state) ∧
            (quiet → ∀ n : SlotId, n ∉ s.seq.queue →
              let x := s.seq.slots[n]
              let y := t.seq.slots[n]
              let warned := x.state = .notice ∨ x.state = .held
              let passes := x.reason = .reserve ∨ x.reason = .limit
              (warned → passes →
                y.state = .on ∧ y.reason = .none ∧ y.urgency = .none ∧ y.notice = false ∧ y.window = none ∧ y.hold = none) ∧
                (warned → ¬ passes → y = x) ∧
                (x.state = .soak ∨ x.state = .on ∨ x.state = .draining ∨ x.state = .faulted ∨ x.state = .locked → y = x) ∧
                (x.state = .off → y.restore = false))) ∧
      (s.holdup.bridging.isSome = true →
        Gives .bridgingTimerExpiry s fun t =>
          t.holdup = { s.holdup with bridging := none } ∧ RaisedFrom s t causeHoldup s.busV 1 ∧
            ∀ n : SlotId, n ∉ s.seq.queue →
              let x := s.seq.slots[n]
              let y := t.seq.slots[n]
              let bound := s.settings.slots[n].cls = .critical
              (bound → y = x) ∧ (x.state = .draining ∨ x.state = .faulted ∨ x.state = .locked → y = x) ∧
                (¬ bound → x.state = .on →
                  y = { x with
                        state := .notice, en := true, adoptedOff := false, reason := .limit, urgency := .prompt,
                        notice := true, window := some (s.settings.sequence.noticeWindow * 10) }) ∧
                (let set := s.settings.slots[n]
                 let drained : Slot :=
                  { x with
                    state := .draining, en := false, adoptedOff := false, notice := false, window := none, hold := none,
                    soak := none, drain := some (set.drainLimit * 1000), reason := .limit, urgency := .prompt }
                 let yields := x.reason ≠ .leak ∧ x.urgency.level ≤ 2
                 (¬ bound → x.state = .soak → x.pg = true → y = drained) ∧
                   (¬ bound → x.state = .soak → x.pg = false → s.holdup.state ≠ .online →
                     y.state = .off ∧ y.en = false ∧ y.reason = .none ∧ y.urgency = .none ∧
                       y.restore = (set.autoRestore || x.restore)) ∧
                   (¬ bound → x.state = .notice → yields → y = { x with reason := .limit, urgency := .prompt }) ∧
                   (¬ bound → x.state = .held → yields → x.pg = true → y = drained) ∧
                   (x.state = .notice ∨ x.state = .held → ¬ yields → y = x))) ∧
      (s.holdup.state = .bridging → s.holdup.collapse.isSome = true →
        Gives .collapseTimerExpiry s fun t =>
          t.holdup =
              { s.holdup with
                state := .blackout, settle := none, bridging := none, collapse := none, eventOpen := false,
                record := t.holdup.record } ∧
            (s.holdup.record.isOpen = true →
              t.holdup.record.isOpen = false ∧ t.holdup.record.valid = true ∧
                t.holdup.record.endReason = some .blackout) ∧
            RaisedFrom s t causeHoldup s.busV 20 ∧ t.causes.recs[causeHoldup].condition = true ∧
            t.charge.armed = false ∧
            (∀ n : SlotId, s.seq.slots[n].state = .queued → t.seq.slots[n].state = .off ∧ n ∉ t.seq.queue) ∧
            (∀ n : SlotId, s.seq.slots[n].en = s.seq.slots[n].state.powered →
              (s.seq.slots[n].reason = .leak → s.seq.slots[n].state ≠ .notice ∧ s.seq.slots[n].state ≠ .held) →
                t.seq.slots[n].en = false) ∧
            (∀ n : SlotId, s.seq.slots[n].state = .off → s.settings.slots[n].autoRestore = true →
              t.seq.slots[n].state = .off ∧ t.seq.slots[n].restore = true) ∧
            ∀ i : BbuId,
              let st := s.charge.bbus[i].state
              t.charge.bbus[i].state =
                (if st = .standby ∨ st = .charging ∨ st = .discharging then .depleted else st) ∧
                (s.sense.seen = true → st = .standby ∨ st = .charging ∨ st = .discharging →
                  t.charge.bbus[i].out = ⟨false, false, 0⟩))

/-- A step expiry in CRUISE judges the last H against the band: up by ΔI to at most I_max unless the yield flag is set, unchanged
within it, down by ΔI to at least I_floor below it, and FLOOR from I_floor; a step that leaves the headroom negative is paused in the
same event. The floor timer pauses the regulator (R27, R85, R86, R91). That an expiry of a stopped timer changes nothing is the model's
reading (log 30, log 3). -/
def Obligations.RegulatorTimersFollowTheBand : Prop :=
  ∀ s : State, s.running →
    let set := s.settings.recharge
    let x := s.recharge
    let above := (set.hTgt : Int) + set.hTol < x.lastH
    let below := x.lastH < (set.hTgt : Int) - set.hTol
    let next : Nat :=
      if above ∧ x.yielded = false then min (x.iSet + set.deltaI) set.iMax
      else if below ∧ set.iFloor < x.iSet then max (x.iSet - set.deltaI) set.iFloor else x.iSet
    let power : Nat := (next * s.busV + 999) / 1000
    let short := s.online = true ∧ (s.budget.cap : Int) - s.commitmentSum - power < 0 ∧ 0 < power
    let floors := below ∧ x.iSet ≤ set.iFloor
    (x.state = .cruise → x.step.isSome = true →
      Gives .stepTimerExpiry s fun t =>
        Ripple s t ∧ t.seq = s.seq ∧ t.line = s.line ∧
          (floors →
            t = { s with
                  recharge :=
                    { x with state := .floor, step := none, floorTimer := some (set.floorTime * 1000), yielded := false } }) ∧
          (¬ floors → next = x.iSet ∨ ¬ short →
            t.recharge =
              { x with
                iSet := next, step := some (set.stepInterval * 100), floorTimer := none,
                shares := sharesOf x.members next }) ∧
          (¬ floors → next ≠ x.iSet → short → t.recharge.state = .paused ∧ t.recharge.iSet = 0)) ∧
      (x.state = .floor → x.floorTimer.isSome = true →
        Gives .floorTimerExpiry s fun t =>
          Ripple s t ∧ t.seq = s.seq ∧ t.recharge.state = .paused ∧ t.recharge.iSet = 0 ∧ t.recharge.step = none ∧
            t.recharge.floorTimer = none ∧ t.recharge.yielded = false ∧ RaisedFrom s t causeRecharge x.lastH 2 ∧
            t.causes.recs[causeRecharge].condition = true) ∧
      (x.step = none → exec .stepTimerExpiry s = .next s) ∧ (x.floorTimer = none → exec .floorTimerExpiry s = .next s)

/-- The timers of a slot. A stagger expiry grants the head when, and only when, the shelf is ONLINE, both inhibits are clear, a soak
place is free and H covers its need; the head then soaks with EN and the stagger starts again. A soak ends ON or FAULTED by PG; the
notice window and the hold limit end in DRAINING without EN; a drain limit ends in FAULTED (R100, R101, R104, R107, R116 to R118,
R120). The stagger expiry, as every event of the sequencer, sends a head report when the head, its need or the report has changed,
and after a grant (R96, R102); that a new head with nothing but "no head blocked" to report is reported too is the model's reading (log 49). -/
def Obligations.SlotTimersMoveTheirSlots : Prop :=
  ∀ s : State, s.running →
    (s.seq.stagger.isSome = true →
      Gives .staggerTimerExpiry s fun t =>
        Ripple s t ∧ (s.seq.queue = [] → t.seq.slots = s.seq.slots ∧ t.seq.stagger = none) ∧
          (let need (n : SlotId) : Nat := s.settings.slots[n].pReq + s.settings.slots[n].pInrush
           let head := t.seq.queue.head?.map fun n => (n, need n)
           let blocked := t.seq.queue.head?.bind fun n =>
             if t.grantable = true ∧ t.seq.lastH < (need n : Int) then some (need n) else none
           let same := head = s.seq.headSeen ∧ blocked = s.seq.lastReport
           let grants := ∃ n, s.seq.queue.head? = some n ∧ s.seq.lastHoldup = .online ∧ s.seq.targetInhibit = false ∧
             s.seq.lastInhibit = false ∧
             slotIds.countP (fun m => s.seq.slots[m].state == .soak) < s.settings.sequence.maxSoak ∧
             (need n : Int) ≤ s.seq.lastH
           t.seq.headSeen = head ∧ t.seq.lastReport = blocked ∧
             (same → ¬ grants → t.seq.reports = s.seq.reports) ∧
             (¬ same ∨ grants → t.seq.reports = s.seq.reports ++ [blocked])) ∧
          ∀ n rest, s.seq.queue = n :: rest → n ∉ rest →
            let set := s.settings.slots[n]
            let granted := s.seq.lastHoldup = .online ∧ s.seq.targetInhibit = false ∧ s.seq.lastInhibit = false ∧
              slotIds.countP (fun m => s.seq.slots[m].state == .soak) < s.settings.sequence.maxSoak ∧
              ((set.pReq + set.pInrush : Nat) : Int) ≤ s.seq.lastH
            (¬ granted → t.seq.slots = s.seq.slots ∧ t.seq.queue = s.seq.queue ∧ t.seq.stagger = none) ∧
              (granted →
                t.seq.queue = rest ∧
                  t.seq.stagger = some (s.settings.sequence.staggerCount * s.settings.sequence.staggerUnit) ∧
                  t.seq.slots =
                    s.seq.slots.set n
                      { s.seq.slots[n] with
                        state := .soak, en := true, adoptedOff := false, soak := some (set.soak * 100) })) ∧
      ∀ n : SlotId, n ∉ s.seq.queue →
        let x := s.seq.slots[n]
        let set := s.settings.slots[n]
        let drained : Slot :=
          { x with
            state := .draining, en := false, adoptedOff := false, notice := false, window := none, hold := none,
            soak := none, drain := some (set.drainLimit * 1000) }
        let faulted : Slot :=
          { x with
            state := .faulted, en := false, adoptedOff := false, notice := false, window := none, hold := none,
            soak := none, drain := none, reason := .fault, urgency := .none, restore := false }
        (x.state = .soak → x.soak.isSome = true →
          Gives (.soakTimerExpiry n) s fun t =>
            Ripple s t ∧ (∀ m : SlotId, m ≠ n → m ∉ s.seq.queue → t.seq.slots[m] = s.seq.slots[m]) ∧
              (x.pg = true →
                t.seq.slots[n] = { x with state := .on, en := true, adoptedOff := false, soak := none }) ∧
              (x.pg = false →
                t.seq.slots[n] = faulted ∧ RaisedFrom s t (causeSlot n) set.pReq 1 ∧
                  t.causes.recs[causeSlot n].condition = true)) ∧
          (x.state = .notice → x.window.isSome = true → x.pg = true →
            Gives (.noticeWindowExpiry n) s fun t =>
              Ripple s t ∧ t.seq = { s.seq with slots := s.seq.slots.set n drained }) ∧
          (x.state = .held → x.hold.isSome = true → x.pg = true →
            Gives (.holdLimitExpiry n) s fun t =>
              Ripple s t ∧ t.seq = { s.seq with slots := s.seq.slots.set n drained }) ∧
          (x.state = .draining → x.drain.isSome = true → x.pg = true →
            Gives (.drainTimerExpiry n) s fun t =>
              Ripple s t ∧ t.seq = { s.seq with slots := s.seq.slots.set n faulted } ∧
                RaisedFrom s t (causeSlot n) set.pReq 4 ∧ t.causes.recs[causeSlot n].condition = true)

/-! ### Status line (R117, R129, R131, R133 to R139) -/

/-- A cycle starts on an idle line, of itself in CONTINUOUS mode and by a tray or a start due in QUIET mode: the part drives the four
clock periods of the start frame, or three after the low clock of a tray, and latches the notice bits. The end of slot frame 23
chooses the next mode and with it the length of the stop frame, the slot frames having been driven; the survey timer makes a start
due. The part drives SSL_DAT low in phase N of each frame whose latched bit is set and releases it in every other phase, and on an
idle line. SSL_CLK runs, low after a falling edge and high after a rising one, while the line is enabled, and stands low while it is
not (R128 to R131, R134, R135), before the first load too (the model's choice, log 64). That CYCLE_START
leaves the line at slot frame 0, and that SLOT_FRAME_23_END acts from every slot frame and phase, is the model's choice (log 16,
DEDUCED), for no command stops between them; the record of SSL_DAT clock by clock is a field of its own (log 16). That a cycle start
the line does not admit changes nothing is the model's reading (log 30). That a cycle is started by a command of its own once a start
is due is the model's choice (log 26), and that the stop frame is driven low is its reading (log 47). -/
def Obligations.CyclesStartAndChooseTheirMode : Prop :=
  ∀ s : State, s.running →
    let x := s.line
    (∀ byTray : Bool,
      let starts := x.enabled = true ∧ x.cycle = .idle ∧
        ((x.mode = .continuous ∧ byTray = false) ∨ (x.mode = .quiet ∧ (byTray = true ∨ x.startDue = true)))
      (¬ starts → exec (.cycleStart byTray) s = .next s) ∧
        (starts →
          Gives (.cycleStart byTray) s fun t =>
            t = { s with
                  line :=
                    { x with
                      cycle := .slotFrame 0 .n, startDue := false, survey := none, latched := t.line.latched
                      wave := [if byTray then .trayLow else .partLow, .partLow, .partLow, .partLow] } } ∧
              ∀ n : SlotId, t.line.latched.getLsbD n.val = s.seq.slots[n].notice)) ∧
      (let holds := (∃ n : SlotId, s.seq.slots[n].state = .soak ∨ s.seq.slots[n].state = .notice ∨
          s.seq.slots[n].state = .held) ∨ (∃ z : ZoneId, s.leak.zones[z].state = .suspect) ∨ x.state = .failed ∨
          s.settings.line.mode = .alwaysContinuous
       ∀ n phase, x.cycle = .slotFrame n phase →
        let wave := x.wave ++ (slotClocks x.latched).drop (6 * n.val + phase.offset)
        (holds →
          exec .slotFrame23End s =
            .next { s with line := { x with mode := .continuous, cycle := .stopFrame 3, wave := wave } }) ∧
        (¬ holds →
          exec .slotFrame23End s =
            .next
              { s with
                line :=
                  { x with
                    mode := .quiet, cycle := .stopFrame 2, survey := some (s.settings.line.survey * 10), wave := wave } })) ∧
      (x.survey.isSome = true →
        exec .surveyTimerExpiry s = .next { s with line := { x with startDue := true, survey := none } }) ∧
      (x.cycle = .idle → x.drivesLow = false) ∧
      (∀ n phase, x.cycle = .slotFrame n phase → x.drivesLow = (decide (phase = .n) && x.latched.getLsbD n.val)) ∧
      (∀ clocks, x.cycle = .stopFrame clocks → x.drivesLow = true) ∧
      (∀ byTray k, x.cycle = .startFrame byTray k → x.drivesLow = !(byTray && decide (k = 0))) ∧
      (x.enabled = true → x.clockHigh .afterFall = false ∧ x.clockHigh .afterRise = true) ∧
      (x.enabled = false → ∀ half, x.clockHigh half = false) ∧ (slotClocks x.latched).length = 144 ∧
      (∀ (n : SlotId) (k : Nat), k < 6 →
        (slotClocks x.latched)[6 * n.val + k]? =
          some (if k = 0 ∧ x.latched.getLsbD n.val = true then .partLow else .released)) ∧
      ∀ byTray, (cycleClocks byTray x.latched .quiet).length = 150 ∧ (cycleClocks byTray x.latched .continuous).length = 159

/-- A cycle end counts the cycle and its faults, fails the line at the third faulted cycle in a row and mends it at the sixteenth
clean one, and on a clean cycle of a line that is OK takes the attention, hold and leak bits of the slots that can drive the line;
newly asserted attention raises its cause. The stop frame has been driven, and in CONTINUOUS mode eight released clock periods follow
(R130, R134; the record of SSL_DAT is a field of the model's own, log 16). A hold makes a warned ORDERLY slot HELD, and its release drains it (R117, R136 to R139).
Each zone takes its tray report, held or not: an accepted one counts, makes a DRY or FAULT zone SUSPECT, and confirms at K_tray or
beside rope evidence; none empties the counter and ends a suspicion that rests on the trays. A WET entry does to its slots what it
does on a sample set (R97, R113 to R115, R118, R119, R124, R146 to R152). That CYCLE_END acts from the stop frame (log 16), that a
SUSPECT zone kept by a pin reset is not judged for fallback before the first sample set, and that the QUEUED slots are locked before
the leak shed (log 27) are the model's readings. -/
def Obligations.CycleEndDecodesAndCounts : Prop :=
  ∀ (s : State) (c : CycleSamples) (clocks : Nat), s.running → s.line.cycle = .stopFrame clocks →
    let x := s.line
    let faulted := c.x ≠ 0 ∨ c.t ≠ 0
    let run := if faulted then min 3 (x.faultRun + 1) else 0
    let clean := if faulted then 0 else min 16 (x.cleanRun + 1)
    let state : LineState :=
      if x.state = .ok then (if faulted ∧ run = 3 then .failed else .ok)
      else if ¬ faulted ∧ clean = 16 then .ok else .failed
    let decodes := ¬ faulted ∧ state = .ok
    let silent (n : SlotId) : Prop :=
      (s.seq.slots[n].state = .off ∨ s.seq.slots[n].state = .queued ∨ s.seq.slots[n].state = .locked ∨
        s.seq.slots[n].state = .faulted) ∧ s.seq.slots[n].pg = false
    Gives (.cycleEnd c) s fun t =>
      let y := t.line
      y.cycle = .idle ∧ y.cycleNo = (x.cycleNo + 1) % 4294967296 ∧ y.faultRun = run ∧ y.cleanRun = clean ∧
        y.faults = (if faulted then min 65535 (x.faults + 1) else x.faults) ∧ y.state = state ∧ y.mode = x.mode ∧
        y.wave = x.wave ++ List.replicate clocks .partLow ++
          (if x.mode = .continuous then List.replicate 8 .released else []) ∧
        y.leakHeld = !decide decodes ∧
        t.causes.recs[causeLine].condition =
          (if state = x.state then s.causes.recs[causeLine].condition else state == .failed) ∧
        (state ≠ x.state → RaisedFrom s t causeLine y.faults (if state = .failed then 1 else 2)) ∧
        (¬ decodes → y.attention = x.attention ∧ y.hold = 0 ∧ y.leak = x.leak) ∧
        (decodes → ∀ n : SlotId,
          (silent n → y.attention.getLsbD n.val = false ∧ y.hold.getLsbD n.val = false) ∧
            (¬ silent n →
              y.attention.getLsbD n.val = c.a.getLsbD n.val ∧ y.hold.getLsbD n.val = c.b.getLsbD n.val)) ∧
        (decodes → ∀ z : ZoneId,
          (y.leak.getLsbD z.val = true ↔
            ∃ n : SlotId, s.settings.slots[n].role = .leak ∧ s.settings.slots[n].zone = some z ∧
              y.attention.getLsbD n.val = true)) ∧
        (∀ n : SlotId,
          t.causes.recs[causeAttention n].condition = y.attention.getLsbD n.val ∧
            (x.attention.getLsbD n.val = false → y.attention.getLsbD n.val = true →
              RaisedFrom s t (causeAttention n) y.cycleNo (BitVec.ofNat 8 (16 + s.seq.slots[n].state.code)))) ∧
        (∀ n : SlotId, s.settings.slots[n].zone = none → n ∉ s.seq.queue →
          let v := s.seq.slots[n]
          let w := t.seq.slots[n]
          let limit :=
            match s.settings.slots[n].cls with
            | .critical => s.settings.sequence.holdCritical
            | .essential => s.settings.sequence.holdEssential
            | .deferrable => s.settings.sequence.holdDeferrable
          let held := y.hold.getLsbD n.val
          (v.state = .notice → held = true → v.urgency = .orderly → 0 < limit →
            w = { v with state := .held, en := true, adoptedOff := false, window := none, hold := some (limit * 1000) }) ∧
            (v.state = .notice → held = false ∨ v.urgency ≠ .orderly ∨ limit = 0 → w = v) ∧
            (v.state = .held → held = true → w = v) ∧
            (v.state = .held → held = false → v.pg = true →
              w = { v with
                    state := .draining, en := false, adoptedOff := false, notice := false, window := none, hold := none,
                    soak := none, drain := some (s.settings.slots[n].drainLimit * 1000) }) ∧
            (v.state ≠ .notice → v.state ≠ .held → w = v)) ∧
        ∀ z : ZoneId, 1 ≤ s.settings.zones[z].kTray →
          let set := s.settings.zones[z]
          let v := s.leak.zones[z]
          let report := y.leak.getLsbD z.val
          let seen := { v with report := report, reportHeld := y.leakHeld }
          let w := t.leak.zones[z]
          let accepted := report = true ∧ set.acceptTray = true
          let count := min 255 (v.trayCount + 1)
          let closed := v.valve || set.policy.closesValve
          w.report = report ∧ w.reportHeld = y.leakHeld ∧ w.code = v.code ∧ w.cls = v.cls ∧ w.ropeFault = v.ropeFault ∧
            (v.state = .wet → w = seen) ∧ (v.state = .dry ∨ v.state = .fault → ¬ accepted → w = seen) ∧
            (v.state = .dry ∨ v.state = .fault → accepted →
              w.ropeCount = 0 ∧ w.trayCount = 1 ∧ (1 < set.kTray → w.state = .suspect ∧ w.valve = v.valve) ∧
                (set.kTray = 1 → w.state = .wet ∧ w.confirmation = .tray ∧ w.valve = closed)) ∧
            (v.state = .suspect → accepted →
              w.ropeCount = v.ropeCount ∧ w.trayCount = count ∧
                (0 < v.ropeCount → w.state = .wet ∧ w.confirmation = .both ∧ w.valve = closed) ∧
                (v.ropeCount = 0 → set.kTray ≤ count → w.state = .wet ∧ w.confirmation = .tray ∧ w.valve = closed) ∧
                (v.ropeCount = 0 → count < set.kTray → w.state = .suspect ∧ w.valve = v.valve)) ∧
            (v.state = .suspect → ¬ accepted →
              w.ropeCount = v.ropeCount ∧ w.trayCount = 0 ∧ w.valve = v.valve ∧
                (0 < v.ropeCount ∨ v.awaitSet = true → w.state = .suspect) ∧
                (v.ropeCount = 0 → v.awaitSet = false → w.state = if v.ropeFault then .fault else .dry)) ∧
            (v.state ≠ .wet → w.state = .wet →
              (∀ code, v.code = some code →
                RaisedFrom s t (causeZoneWet z) code.toNat (BitVec.ofNat 8 w.confirmation.code)) ∧
                t.causes.recs[causeZoneWet z].condition = true ∧
                (s.seq.stagger.isSome = true ∨ s.seq.lastHoldup ≠ .online →
                  ∀ n : SlotId, s.settings.slots[n].zone = some z →
                    let p := s.seq.slots[n]
                    let q := t.seq.slots[n]
                    let warned := (p.state = .notice ∨ p.state = .held) ∧ p.reason ≠ .leak
                    let powered := p.state = .soak ∨ p.state = .on ∨ warned
                    (p.state = .queued → q.state = .locked ∧ q.restore = false) ∧
                      (set.policy ≠ .valveAndShed → p.state ≠ .queued → p.state ≠ .notice → p.state ≠ .held → q = p) ∧
                      (set.policy = .valveAndShed →
                        (p.state = .off → q.state = .locked ∧ q.reason = .leak ∧ q.restore = false) ∧
                          (powered → p.pg = true →
                            q.state = .draining ∧ q.reason = .leak ∧ q.urgency = .immediate ∧ q.en = false) ∧
                          (p.state = .soak ∨ p.state = .on → p.pg = false →
                            q.state = .locked ∧ q.reason = .leak ∧ q.en = false) ∧
                          (p.state = .draining → q.state = .draining ∧ q.reason = .leak) ∧
                          (p.state = .faulted ∨ p.state = .locked → q.state = p.state ∧ q.reason = .leak))))

/-! ### A law of the whole part (R112) -/

/-- A slot stands in NOTICE or HELD for a reason that gives warning, and a CRITICAL slot under a POWER_DOWN alone, in every state a
step reaches from a lawful one. No command but a POWER_DOWN, a leak, a blackout or a failure of its own PG takes a CRITICAL slot out
of ON, NOTICE and HELD. -/
def Obligations.CriticalSlotsAreKeptUp : Prop :=
  KeptByEveryStep WarningLaw ∧
    ∀ (s t : State) (n : SlotId), Lawful s → step s = .next t → s.running → t.running →
      s.settings.slots[n].cls = .critical →
        (s.seq.slots[n].state = .on ∨ s.seq.slots[n].state = .notice ∨ s.seq.slots[n].state = .held) →
          let y := t.seq.slots[n]
          (y.state = .on ∨ y.state = .notice ∨ y.state = .held) ∨
            (y.state = .draining ∧ (y.reason = .manager ∨ y.reason = .leak ∨ y.reason = .blackout)) ∨
            (y.state = .faulted ∧ y.pg = false)
end

