-- ==== Sys2Proof/Laws/State.lean ====
section
/-! SUPPORT. The state's updates field by field: what each leaves and what it writes. -/

namespace Sys2Proof.Machine

@[simp] theorem State.setSettings_phase (s : State) (x : Settings) : (s.setSettings x).phase = s.phase := rfl
@[simp] theorem State.setSettings_lastReset (s : State) (x : Settings) : (s.setSettings x).lastReset = s.lastReset := rfl
@[simp] theorem State.setSettings_pins (s : State) (x : Settings) : (s.setSettings x).pins = s.pins := rfl
@[simp] theorem State.setSettings_settings (s : State) (x : Settings) : (s.setSettings x).settings = x := rfl
@[simp] theorem State.setSettings_sense (s : State) (x : Settings) : (s.setSettings x).sense = s.sense := rfl
@[simp] theorem State.setSettings_budget (s : State) (x : Settings) : (s.setSettings x).budget = s.budget := rfl
@[simp] theorem State.setSettings_charge (s : State) (x : Settings) : (s.setSettings x).charge = s.charge := rfl
@[simp] theorem State.setSettings_holdup (s : State) (x : Settings) : (s.setSettings x).holdup = s.holdup := rfl
@[simp] theorem State.setSettings_recharge (s : State) (x : Settings) : (s.setSettings x).recharge = s.recharge := rfl
@[simp] theorem State.setSettings_seq (s : State) (x : Settings) : (s.setSettings x).seq = s.seq := rfl
@[simp] theorem State.setSettings_shed (s : State) (x : Settings) : (s.setSettings x).shed = s.shed := rfl
@[simp] theorem State.setSettings_line (s : State) (x : Settings) : (s.setSettings x).line = s.line := rfl
@[simp] theorem State.setSettings_leak (s : State) (x : Settings) : (s.setSettings x).leak = s.leak := rfl
@[simp] theorem State.setSettings_causes (s : State) (x : Settings) : (s.setSettings x).causes = s.causes := rfl
@[simp] theorem State.setSettings_link (s : State) (x : Settings) : (s.setSettings x).link = s.link := rfl
@[simp] theorem State.setSettings_store (s : State) (x : Settings) : (s.setSettings x).store = s.store := rfl
@[simp] theorem State.setSettings_clock (s : State) (x : Settings) : (s.setSettings x).clock = s.clock := rfl
@[simp] theorem State.setSettings_free (s : State) (x : Settings) : (s.setSettings x).free = s.free := rfl
@[simp] theorem State.setSettings_pending (s : State) (x : Settings) : (s.setSettings x).pending = s.pending := rfl

@[simp] theorem State.setSense_phase (s : State) (x : Sense) : (s.setSense x).phase = s.phase := rfl
@[simp] theorem State.setSense_lastReset (s : State) (x : Sense) : (s.setSense x).lastReset = s.lastReset := rfl
@[simp] theorem State.setSense_pins (s : State) (x : Sense) : (s.setSense x).pins = s.pins := rfl
@[simp] theorem State.setSense_settings (s : State) (x : Sense) : (s.setSense x).settings = s.settings := rfl
@[simp] theorem State.setSense_sense (s : State) (x : Sense) : (s.setSense x).sense = x := rfl
@[simp] theorem State.setSense_budget (s : State) (x : Sense) : (s.setSense x).budget = s.budget := rfl
@[simp] theorem State.setSense_charge (s : State) (x : Sense) : (s.setSense x).charge = s.charge := rfl
@[simp] theorem State.setSense_holdup (s : State) (x : Sense) : (s.setSense x).holdup = s.holdup := rfl
@[simp] theorem State.setSense_recharge (s : State) (x : Sense) : (s.setSense x).recharge = s.recharge := rfl
@[simp] theorem State.setSense_seq (s : State) (x : Sense) : (s.setSense x).seq = s.seq := rfl
@[simp] theorem State.setSense_shed (s : State) (x : Sense) : (s.setSense x).shed = s.shed := rfl
@[simp] theorem State.setSense_line (s : State) (x : Sense) : (s.setSense x).line = s.line := rfl
@[simp] theorem State.setSense_leak (s : State) (x : Sense) : (s.setSense x).leak = s.leak := rfl
@[simp] theorem State.setSense_causes (s : State) (x : Sense) : (s.setSense x).causes = s.causes := rfl
@[simp] theorem State.setSense_link (s : State) (x : Sense) : (s.setSense x).link = s.link := rfl
@[simp] theorem State.setSense_store (s : State) (x : Sense) : (s.setSense x).store = s.store := rfl
@[simp] theorem State.setSense_clock (s : State) (x : Sense) : (s.setSense x).clock = s.clock := rfl
@[simp] theorem State.setSense_free (s : State) (x : Sense) : (s.setSense x).free = s.free := rfl
@[simp] theorem State.setSense_pending (s : State) (x : Sense) : (s.setSense x).pending = s.pending := rfl

@[simp] theorem State.setBudget_phase (s : State) (x : Budget) : (s.setBudget x).phase = s.phase := rfl
@[simp] theorem State.setBudget_lastReset (s : State) (x : Budget) : (s.setBudget x).lastReset = s.lastReset := rfl
@[simp] theorem State.setBudget_pins (s : State) (x : Budget) : (s.setBudget x).pins = s.pins := rfl
@[simp] theorem State.setBudget_settings (s : State) (x : Budget) : (s.setBudget x).settings = s.settings := rfl
@[simp] theorem State.setBudget_sense (s : State) (x : Budget) : (s.setBudget x).sense = s.sense := rfl
@[simp] theorem State.setBudget_budget (s : State) (x : Budget) : (s.setBudget x).budget = x := rfl
@[simp] theorem State.setBudget_charge (s : State) (x : Budget) : (s.setBudget x).charge = s.charge := rfl
@[simp] theorem State.setBudget_holdup (s : State) (x : Budget) : (s.setBudget x).holdup = s.holdup := rfl
@[simp] theorem State.setBudget_recharge (s : State) (x : Budget) : (s.setBudget x).recharge = s.recharge := rfl
@[simp] theorem State.setBudget_seq (s : State) (x : Budget) : (s.setBudget x).seq = s.seq := rfl
@[simp] theorem State.setBudget_shed (s : State) (x : Budget) : (s.setBudget x).shed = s.shed := rfl
@[simp] theorem State.setBudget_line (s : State) (x : Budget) : (s.setBudget x).line = s.line := rfl
@[simp] theorem State.setBudget_leak (s : State) (x : Budget) : (s.setBudget x).leak = s.leak := rfl
@[simp] theorem State.setBudget_causes (s : State) (x : Budget) : (s.setBudget x).causes = s.causes := rfl
@[simp] theorem State.setBudget_link (s : State) (x : Budget) : (s.setBudget x).link = s.link := rfl
@[simp] theorem State.setBudget_store (s : State) (x : Budget) : (s.setBudget x).store = s.store := rfl
@[simp] theorem State.setBudget_clock (s : State) (x : Budget) : (s.setBudget x).clock = s.clock := rfl
@[simp] theorem State.setBudget_free (s : State) (x : Budget) : (s.setBudget x).free = s.free := rfl
@[simp] theorem State.setBudget_pending (s : State) (x : Budget) : (s.setBudget x).pending = s.pending := rfl

@[simp] theorem State.setCharge_phase (s : State) (x : Charge) : (s.setCharge x).phase = s.phase := rfl
@[simp] theorem State.setCharge_lastReset (s : State) (x : Charge) : (s.setCharge x).lastReset = s.lastReset := rfl
@[simp] theorem State.setCharge_pins (s : State) (x : Charge) : (s.setCharge x).pins = s.pins := rfl
@[simp] theorem State.setCharge_settings (s : State) (x : Charge) : (s.setCharge x).settings = s.settings := rfl
@[simp] theorem State.setCharge_sense (s : State) (x : Charge) : (s.setCharge x).sense = s.sense := rfl
@[simp] theorem State.setCharge_budget (s : State) (x : Charge) : (s.setCharge x).budget = s.budget := rfl
@[simp] theorem State.setCharge_charge (s : State) (x : Charge) : (s.setCharge x).charge = x := rfl
@[simp] theorem State.setCharge_holdup (s : State) (x : Charge) : (s.setCharge x).holdup = s.holdup := rfl
@[simp] theorem State.setCharge_recharge (s : State) (x : Charge) : (s.setCharge x).recharge = s.recharge := rfl
@[simp] theorem State.setCharge_seq (s : State) (x : Charge) : (s.setCharge x).seq = s.seq := rfl
@[simp] theorem State.setCharge_shed (s : State) (x : Charge) : (s.setCharge x).shed = s.shed := rfl
@[simp] theorem State.setCharge_line (s : State) (x : Charge) : (s.setCharge x).line = s.line := rfl
@[simp] theorem State.setCharge_leak (s : State) (x : Charge) : (s.setCharge x).leak = s.leak := rfl
@[simp] theorem State.setCharge_causes (s : State) (x : Charge) : (s.setCharge x).causes = s.causes := rfl
@[simp] theorem State.setCharge_link (s : State) (x : Charge) : (s.setCharge x).link = s.link := rfl
@[simp] theorem State.setCharge_store (s : State) (x : Charge) : (s.setCharge x).store = s.store := rfl
@[simp] theorem State.setCharge_clock (s : State) (x : Charge) : (s.setCharge x).clock = s.clock := rfl
@[simp] theorem State.setCharge_free (s : State) (x : Charge) : (s.setCharge x).free = s.free := rfl
@[simp] theorem State.setCharge_pending (s : State) (x : Charge) : (s.setCharge x).pending = s.pending := rfl

@[simp] theorem State.setHoldup_phase (s : State) (x : Holdup) : (s.setHoldup x).phase = s.phase := rfl
@[simp] theorem State.setHoldup_lastReset (s : State) (x : Holdup) : (s.setHoldup x).lastReset = s.lastReset := rfl
@[simp] theorem State.setHoldup_pins (s : State) (x : Holdup) : (s.setHoldup x).pins = s.pins := rfl
@[simp] theorem State.setHoldup_settings (s : State) (x : Holdup) : (s.setHoldup x).settings = s.settings := rfl
@[simp] theorem State.setHoldup_sense (s : State) (x : Holdup) : (s.setHoldup x).sense = s.sense := rfl
@[simp] theorem State.setHoldup_budget (s : State) (x : Holdup) : (s.setHoldup x).budget = s.budget := rfl
@[simp] theorem State.setHoldup_charge (s : State) (x : Holdup) : (s.setHoldup x).charge = s.charge := rfl
@[simp] theorem State.setHoldup_holdup (s : State) (x : Holdup) : (s.setHoldup x).holdup = x := rfl
@[simp] theorem State.setHoldup_recharge (s : State) (x : Holdup) : (s.setHoldup x).recharge = s.recharge := rfl
@[simp] theorem State.setHoldup_seq (s : State) (x : Holdup) : (s.setHoldup x).seq = s.seq := rfl
@[simp] theorem State.setHoldup_shed (s : State) (x : Holdup) : (s.setHoldup x).shed = s.shed := rfl
@[simp] theorem State.setHoldup_line (s : State) (x : Holdup) : (s.setHoldup x).line = s.line := rfl
@[simp] theorem State.setHoldup_leak (s : State) (x : Holdup) : (s.setHoldup x).leak = s.leak := rfl
@[simp] theorem State.setHoldup_causes (s : State) (x : Holdup) : (s.setHoldup x).causes = s.causes := rfl
@[simp] theorem State.setHoldup_link (s : State) (x : Holdup) : (s.setHoldup x).link = s.link := rfl
@[simp] theorem State.setHoldup_store (s : State) (x : Holdup) : (s.setHoldup x).store = s.store := rfl
@[simp] theorem State.setHoldup_clock (s : State) (x : Holdup) : (s.setHoldup x).clock = s.clock := rfl
@[simp] theorem State.setHoldup_free (s : State) (x : Holdup) : (s.setHoldup x).free = s.free := rfl
@[simp] theorem State.setHoldup_pending (s : State) (x : Holdup) : (s.setHoldup x).pending = s.pending := rfl

@[simp] theorem State.setRecharge_phase (s : State) (x : Recharge) : (s.setRecharge x).phase = s.phase := rfl
@[simp] theorem State.setRecharge_lastReset (s : State) (x : Recharge) : (s.setRecharge x).lastReset = s.lastReset := rfl
@[simp] theorem State.setRecharge_pins (s : State) (x : Recharge) : (s.setRecharge x).pins = s.pins := rfl
@[simp] theorem State.setRecharge_settings (s : State) (x : Recharge) : (s.setRecharge x).settings = s.settings := rfl
@[simp] theorem State.setRecharge_sense (s : State) (x : Recharge) : (s.setRecharge x).sense = s.sense := rfl
@[simp] theorem State.setRecharge_budget (s : State) (x : Recharge) : (s.setRecharge x).budget = s.budget := rfl
@[simp] theorem State.setRecharge_charge (s : State) (x : Recharge) : (s.setRecharge x).charge = s.charge := rfl
@[simp] theorem State.setRecharge_holdup (s : State) (x : Recharge) : (s.setRecharge x).holdup = s.holdup := rfl
@[simp] theorem State.setRecharge_recharge (s : State) (x : Recharge) : (s.setRecharge x).recharge = x := rfl
@[simp] theorem State.setRecharge_seq (s : State) (x : Recharge) : (s.setRecharge x).seq = s.seq := rfl
@[simp] theorem State.setRecharge_shed (s : State) (x : Recharge) : (s.setRecharge x).shed = s.shed := rfl
@[simp] theorem State.setRecharge_line (s : State) (x : Recharge) : (s.setRecharge x).line = s.line := rfl
@[simp] theorem State.setRecharge_leak (s : State) (x : Recharge) : (s.setRecharge x).leak = s.leak := rfl
@[simp] theorem State.setRecharge_causes (s : State) (x : Recharge) : (s.setRecharge x).causes = s.causes := rfl
@[simp] theorem State.setRecharge_link (s : State) (x : Recharge) : (s.setRecharge x).link = s.link := rfl
@[simp] theorem State.setRecharge_store (s : State) (x : Recharge) : (s.setRecharge x).store = s.store := rfl
@[simp] theorem State.setRecharge_clock (s : State) (x : Recharge) : (s.setRecharge x).clock = s.clock := rfl
@[simp] theorem State.setRecharge_free (s : State) (x : Recharge) : (s.setRecharge x).free = s.free := rfl
@[simp] theorem State.setRecharge_pending (s : State) (x : Recharge) : (s.setRecharge x).pending = s.pending := rfl

@[simp] theorem State.setSeq_phase (s : State) (x : Sequencer) : (s.setSeq x).phase = s.phase := rfl
@[simp] theorem State.setSeq_lastReset (s : State) (x : Sequencer) : (s.setSeq x).lastReset = s.lastReset := rfl
@[simp] theorem State.setSeq_pins (s : State) (x : Sequencer) : (s.setSeq x).pins = s.pins := rfl
@[simp] theorem State.setSeq_settings (s : State) (x : Sequencer) : (s.setSeq x).settings = s.settings := rfl
@[simp] theorem State.setSeq_sense (s : State) (x : Sequencer) : (s.setSeq x).sense = s.sense := rfl
@[simp] theorem State.setSeq_budget (s : State) (x : Sequencer) : (s.setSeq x).budget = s.budget := rfl
@[simp] theorem State.setSeq_charge (s : State) (x : Sequencer) : (s.setSeq x).charge = s.charge := rfl
@[simp] theorem State.setSeq_holdup (s : State) (x : Sequencer) : (s.setSeq x).holdup = s.holdup := rfl
@[simp] theorem State.setSeq_recharge (s : State) (x : Sequencer) : (s.setSeq x).recharge = s.recharge := rfl
@[simp] theorem State.setSeq_seq (s : State) (x : Sequencer) : (s.setSeq x).seq = x := rfl
@[simp] theorem State.setSeq_shed (s : State) (x : Sequencer) : (s.setSeq x).shed = s.shed := rfl
@[simp] theorem State.setSeq_line (s : State) (x : Sequencer) : (s.setSeq x).line = s.line := rfl
@[simp] theorem State.setSeq_leak (s : State) (x : Sequencer) : (s.setSeq x).leak = s.leak := rfl
@[simp] theorem State.setSeq_causes (s : State) (x : Sequencer) : (s.setSeq x).causes = s.causes := rfl
@[simp] theorem State.setSeq_link (s : State) (x : Sequencer) : (s.setSeq x).link = s.link := rfl
@[simp] theorem State.setSeq_store (s : State) (x : Sequencer) : (s.setSeq x).store = s.store := rfl
@[simp] theorem State.setSeq_clock (s : State) (x : Sequencer) : (s.setSeq x).clock = s.clock := rfl
@[simp] theorem State.setSeq_free (s : State) (x : Sequencer) : (s.setSeq x).free = s.free := rfl
@[simp] theorem State.setSeq_pending (s : State) (x : Sequencer) : (s.setSeq x).pending = s.pending := rfl

@[simp] theorem State.setShed_phase (s : State) (x : Shed) : (s.setShed x).phase = s.phase := rfl
@[simp] theorem State.setShed_lastReset (s : State) (x : Shed) : (s.setShed x).lastReset = s.lastReset := rfl
@[simp] theorem State.setShed_pins (s : State) (x : Shed) : (s.setShed x).pins = s.pins := rfl
@[simp] theorem State.setShed_settings (s : State) (x : Shed) : (s.setShed x).settings = s.settings := rfl
@[simp] theorem State.setShed_sense (s : State) (x : Shed) : (s.setShed x).sense = s.sense := rfl
@[simp] theorem State.setShed_budget (s : State) (x : Shed) : (s.setShed x).budget = s.budget := rfl
@[simp] theorem State.setShed_charge (s : State) (x : Shed) : (s.setShed x).charge = s.charge := rfl
@[simp] theorem State.setShed_holdup (s : State) (x : Shed) : (s.setShed x).holdup = s.holdup := rfl
@[simp] theorem State.setShed_recharge (s : State) (x : Shed) : (s.setShed x).recharge = s.recharge := rfl
@[simp] theorem State.setShed_seq (s : State) (x : Shed) : (s.setShed x).seq = s.seq := rfl
@[simp] theorem State.setShed_shed (s : State) (x : Shed) : (s.setShed x).shed = x := rfl
@[simp] theorem State.setShed_line (s : State) (x : Shed) : (s.setShed x).line = s.line := rfl
@[simp] theorem State.setShed_leak (s : State) (x : Shed) : (s.setShed x).leak = s.leak := rfl
@[simp] theorem State.setShed_causes (s : State) (x : Shed) : (s.setShed x).causes = s.causes := rfl
@[simp] theorem State.setShed_link (s : State) (x : Shed) : (s.setShed x).link = s.link := rfl
@[simp] theorem State.setShed_store (s : State) (x : Shed) : (s.setShed x).store = s.store := rfl
@[simp] theorem State.setShed_clock (s : State) (x : Shed) : (s.setShed x).clock = s.clock := rfl
@[simp] theorem State.setShed_free (s : State) (x : Shed) : (s.setShed x).free = s.free := rfl
@[simp] theorem State.setShed_pending (s : State) (x : Shed) : (s.setShed x).pending = s.pending := rfl

@[simp] theorem State.setLine_phase (s : State) (x : Line) : (s.setLine x).phase = s.phase := rfl
@[simp] theorem State.setLine_lastReset (s : State) (x : Line) : (s.setLine x).lastReset = s.lastReset := rfl
@[simp] theorem State.setLine_pins (s : State) (x : Line) : (s.setLine x).pins = s.pins := rfl
@[simp] theorem State.setLine_settings (s : State) (x : Line) : (s.setLine x).settings = s.settings := rfl
@[simp] theorem State.setLine_sense (s : State) (x : Line) : (s.setLine x).sense = s.sense := rfl
@[simp] theorem State.setLine_budget (s : State) (x : Line) : (s.setLine x).budget = s.budget := rfl
@[simp] theorem State.setLine_charge (s : State) (x : Line) : (s.setLine x).charge = s.charge := rfl
@[simp] theorem State.setLine_holdup (s : State) (x : Line) : (s.setLine x).holdup = s.holdup := rfl
@[simp] theorem State.setLine_recharge (s : State) (x : Line) : (s.setLine x).recharge = s.recharge := rfl
@[simp] theorem State.setLine_seq (s : State) (x : Line) : (s.setLine x).seq = s.seq := rfl
@[simp] theorem State.setLine_shed (s : State) (x : Line) : (s.setLine x).shed = s.shed := rfl
@[simp] theorem State.setLine_line (s : State) (x : Line) : (s.setLine x).line = x := rfl
@[simp] theorem State.setLine_leak (s : State) (x : Line) : (s.setLine x).leak = s.leak := rfl
@[simp] theorem State.setLine_causes (s : State) (x : Line) : (s.setLine x).causes = s.causes := rfl
@[simp] theorem State.setLine_link (s : State) (x : Line) : (s.setLine x).link = s.link := rfl
@[simp] theorem State.setLine_store (s : State) (x : Line) : (s.setLine x).store = s.store := rfl
@[simp] theorem State.setLine_clock (s : State) (x : Line) : (s.setLine x).clock = s.clock := rfl
@[simp] theorem State.setLine_free (s : State) (x : Line) : (s.setLine x).free = s.free := rfl
@[simp] theorem State.setLine_pending (s : State) (x : Line) : (s.setLine x).pending = s.pending := rfl

@[simp] theorem State.setLeak_phase (s : State) (x : Leak) : (s.setLeak x).phase = s.phase := rfl
@[simp] theorem State.setLeak_lastReset (s : State) (x : Leak) : (s.setLeak x).lastReset = s.lastReset := rfl
@[simp] theorem State.setLeak_pins (s : State) (x : Leak) : (s.setLeak x).pins = s.pins := rfl
@[simp] theorem State.setLeak_settings (s : State) (x : Leak) : (s.setLeak x).settings = s.settings := rfl
@[simp] theorem State.setLeak_sense (s : State) (x : Leak) : (s.setLeak x).sense = s.sense := rfl
@[simp] theorem State.setLeak_budget (s : State) (x : Leak) : (s.setLeak x).budget = s.budget := rfl
@[simp] theorem State.setLeak_charge (s : State) (x : Leak) : (s.setLeak x).charge = s.charge := rfl
@[simp] theorem State.setLeak_holdup (s : State) (x : Leak) : (s.setLeak x).holdup = s.holdup := rfl
@[simp] theorem State.setLeak_recharge (s : State) (x : Leak) : (s.setLeak x).recharge = s.recharge := rfl
@[simp] theorem State.setLeak_seq (s : State) (x : Leak) : (s.setLeak x).seq = s.seq := rfl
@[simp] theorem State.setLeak_shed (s : State) (x : Leak) : (s.setLeak x).shed = s.shed := rfl
@[simp] theorem State.setLeak_line (s : State) (x : Leak) : (s.setLeak x).line = s.line := rfl
@[simp] theorem State.setLeak_leak (s : State) (x : Leak) : (s.setLeak x).leak = x := rfl
@[simp] theorem State.setLeak_causes (s : State) (x : Leak) : (s.setLeak x).causes = s.causes := rfl
@[simp] theorem State.setLeak_link (s : State) (x : Leak) : (s.setLeak x).link = s.link := rfl
@[simp] theorem State.setLeak_store (s : State) (x : Leak) : (s.setLeak x).store = s.store := rfl
@[simp] theorem State.setLeak_clock (s : State) (x : Leak) : (s.setLeak x).clock = s.clock := rfl
@[simp] theorem State.setLeak_free (s : State) (x : Leak) : (s.setLeak x).free = s.free := rfl
@[simp] theorem State.setLeak_pending (s : State) (x : Leak) : (s.setLeak x).pending = s.pending := rfl

@[simp] theorem State.setCauses_phase (s : State) (x : Causes) : (s.setCauses x).phase = s.phase := rfl
@[simp] theorem State.setCauses_lastReset (s : State) (x : Causes) : (s.setCauses x).lastReset = s.lastReset := rfl
@[simp] theorem State.setCauses_pins (s : State) (x : Causes) : (s.setCauses x).pins = s.pins := rfl
@[simp] theorem State.setCauses_settings (s : State) (x : Causes) : (s.setCauses x).settings = s.settings := rfl
@[simp] theorem State.setCauses_sense (s : State) (x : Causes) : (s.setCauses x).sense = s.sense := rfl
@[simp] theorem State.setCauses_budget (s : State) (x : Causes) : (s.setCauses x).budget = s.budget := rfl
@[simp] theorem State.setCauses_charge (s : State) (x : Causes) : (s.setCauses x).charge = s.charge := rfl
@[simp] theorem State.setCauses_holdup (s : State) (x : Causes) : (s.setCauses x).holdup = s.holdup := rfl
@[simp] theorem State.setCauses_recharge (s : State) (x : Causes) : (s.setCauses x).recharge = s.recharge := rfl
@[simp] theorem State.setCauses_seq (s : State) (x : Causes) : (s.setCauses x).seq = s.seq := rfl
@[simp] theorem State.setCauses_shed (s : State) (x : Causes) : (s.setCauses x).shed = s.shed := rfl
@[simp] theorem State.setCauses_line (s : State) (x : Causes) : (s.setCauses x).line = s.line := rfl
@[simp] theorem State.setCauses_leak (s : State) (x : Causes) : (s.setCauses x).leak = s.leak := rfl
@[simp] theorem State.setCauses_causes (s : State) (x : Causes) : (s.setCauses x).causes = x := rfl
@[simp] theorem State.setCauses_link (s : State) (x : Causes) : (s.setCauses x).link = s.link := rfl
@[simp] theorem State.setCauses_store (s : State) (x : Causes) : (s.setCauses x).store = s.store := rfl
@[simp] theorem State.setCauses_clock (s : State) (x : Causes) : (s.setCauses x).clock = s.clock := rfl
@[simp] theorem State.setCauses_free (s : State) (x : Causes) : (s.setCauses x).free = s.free := rfl
@[simp] theorem State.setCauses_pending (s : State) (x : Causes) : (s.setCauses x).pending = s.pending := rfl

@[simp] theorem State.setLink_phase (s : State) (x : Link) : (s.setLink x).phase = s.phase := rfl
@[simp] theorem State.setLink_lastReset (s : State) (x : Link) : (s.setLink x).lastReset = s.lastReset := rfl
@[simp] theorem State.setLink_pins (s : State) (x : Link) : (s.setLink x).pins = s.pins := rfl
@[simp] theorem State.setLink_settings (s : State) (x : Link) : (s.setLink x).settings = s.settings := rfl
@[simp] theorem State.setLink_sense (s : State) (x : Link) : (s.setLink x).sense = s.sense := rfl
@[simp] theorem State.setLink_budget (s : State) (x : Link) : (s.setLink x).budget = s.budget := rfl
@[simp] theorem State.setLink_charge (s : State) (x : Link) : (s.setLink x).charge = s.charge := rfl
@[simp] theorem State.setLink_holdup (s : State) (x : Link) : (s.setLink x).holdup = s.holdup := rfl
@[simp] theorem State.setLink_recharge (s : State) (x : Link) : (s.setLink x).recharge = s.recharge := rfl
@[simp] theorem State.setLink_seq (s : State) (x : Link) : (s.setLink x).seq = s.seq := rfl
@[simp] theorem State.setLink_shed (s : State) (x : Link) : (s.setLink x).shed = s.shed := rfl
@[simp] theorem State.setLink_line (s : State) (x : Link) : (s.setLink x).line = s.line := rfl
@[simp] theorem State.setLink_leak (s : State) (x : Link) : (s.setLink x).leak = s.leak := rfl
@[simp] theorem State.setLink_causes (s : State) (x : Link) : (s.setLink x).causes = s.causes := rfl
@[simp] theorem State.setLink_link (s : State) (x : Link) : (s.setLink x).link = x := rfl
@[simp] theorem State.setLink_store (s : State) (x : Link) : (s.setLink x).store = s.store := rfl
@[simp] theorem State.setLink_clock (s : State) (x : Link) : (s.setLink x).clock = s.clock := rfl
@[simp] theorem State.setLink_free (s : State) (x : Link) : (s.setLink x).free = s.free := rfl
@[simp] theorem State.setLink_pending (s : State) (x : Link) : (s.setLink x).pending = s.pending := rfl

@[simp] theorem State.setStore_phase (s : State) (x : Store) : (s.setStore x).phase = s.phase := rfl
@[simp] theorem State.setStore_lastReset (s : State) (x : Store) : (s.setStore x).lastReset = s.lastReset := rfl
@[simp] theorem State.setStore_pins (s : State) (x : Store) : (s.setStore x).pins = s.pins := rfl
@[simp] theorem State.setStore_settings (s : State) (x : Store) : (s.setStore x).settings = s.settings := rfl
@[simp] theorem State.setStore_sense (s : State) (x : Store) : (s.setStore x).sense = s.sense := rfl
@[simp] theorem State.setStore_budget (s : State) (x : Store) : (s.setStore x).budget = s.budget := rfl
@[simp] theorem State.setStore_charge (s : State) (x : Store) : (s.setStore x).charge = s.charge := rfl
@[simp] theorem State.setStore_holdup (s : State) (x : Store) : (s.setStore x).holdup = s.holdup := rfl
@[simp] theorem State.setStore_recharge (s : State) (x : Store) : (s.setStore x).recharge = s.recharge := rfl
@[simp] theorem State.setStore_seq (s : State) (x : Store) : (s.setStore x).seq = s.seq := rfl
@[simp] theorem State.setStore_shed (s : State) (x : Store) : (s.setStore x).shed = s.shed := rfl
@[simp] theorem State.setStore_line (s : State) (x : Store) : (s.setStore x).line = s.line := rfl
@[simp] theorem State.setStore_leak (s : State) (x : Store) : (s.setStore x).leak = s.leak := rfl
@[simp] theorem State.setStore_causes (s : State) (x : Store) : (s.setStore x).causes = s.causes := rfl
@[simp] theorem State.setStore_link (s : State) (x : Store) : (s.setStore x).link = s.link := rfl
@[simp] theorem State.setStore_store (s : State) (x : Store) : (s.setStore x).store = x := rfl
@[simp] theorem State.setStore_clock (s : State) (x : Store) : (s.setStore x).clock = s.clock := rfl
@[simp] theorem State.setStore_free (s : State) (x : Store) : (s.setStore x).free = s.free := rfl
@[simp] theorem State.setStore_pending (s : State) (x : Store) : (s.setStore x).pending = s.pending := rfl

@[simp] theorem State.setPins_phase (s : State) (x : Pins) : (s.setPins x).phase = s.phase := rfl
@[simp] theorem State.setPins_lastReset (s : State) (x : Pins) : (s.setPins x).lastReset = s.lastReset := rfl
@[simp] theorem State.setPins_pins (s : State) (x : Pins) : (s.setPins x).pins = x := rfl
@[simp] theorem State.setPins_settings (s : State) (x : Pins) : (s.setPins x).settings = s.settings := rfl
@[simp] theorem State.setPins_sense (s : State) (x : Pins) : (s.setPins x).sense = s.sense := rfl
@[simp] theorem State.setPins_budget (s : State) (x : Pins) : (s.setPins x).budget = s.budget := rfl
@[simp] theorem State.setPins_charge (s : State) (x : Pins) : (s.setPins x).charge = s.charge := rfl
@[simp] theorem State.setPins_holdup (s : State) (x : Pins) : (s.setPins x).holdup = s.holdup := rfl
@[simp] theorem State.setPins_recharge (s : State) (x : Pins) : (s.setPins x).recharge = s.recharge := rfl
@[simp] theorem State.setPins_seq (s : State) (x : Pins) : (s.setPins x).seq = s.seq := rfl
@[simp] theorem State.setPins_shed (s : State) (x : Pins) : (s.setPins x).shed = s.shed := rfl
@[simp] theorem State.setPins_line (s : State) (x : Pins) : (s.setPins x).line = s.line := rfl
@[simp] theorem State.setPins_leak (s : State) (x : Pins) : (s.setPins x).leak = s.leak := rfl
@[simp] theorem State.setPins_causes (s : State) (x : Pins) : (s.setPins x).causes = s.causes := rfl
@[simp] theorem State.setPins_link (s : State) (x : Pins) : (s.setPins x).link = s.link := rfl
@[simp] theorem State.setPins_store (s : State) (x : Pins) : (s.setPins x).store = s.store := rfl
@[simp] theorem State.setPins_clock (s : State) (x : Pins) : (s.setPins x).clock = s.clock := rfl
@[simp] theorem State.setPins_free (s : State) (x : Pins) : (s.setPins x).free = s.free := rfl
@[simp] theorem State.setPins_pending (s : State) (x : Pins) : (s.setPins x).pending = s.pending := rfl

@[simp] theorem State.setPoint_phase (s : State) (i : PointId) (x : Point) : (s.setPoint i x).phase = s.phase := rfl
@[simp] theorem State.setPoint_lastReset (s : State) (i : PointId) (x : Point) : (s.setPoint i x).lastReset = s.lastReset := rfl
@[simp] theorem State.setPoint_pins (s : State) (i : PointId) (x : Point) : (s.setPoint i x).pins = s.pins := rfl
@[simp] theorem State.setPoint_settings (s : State) (i : PointId) (x : Point) : (s.setPoint i x).settings = s.settings := rfl
@[simp] theorem State.setPoint_sense (s : State) (i : PointId) (x : Point) :
    (s.setPoint i x).sense = { s.sense with points := s.sense.points.set i x } := rfl
@[simp] theorem State.setPoint_budget (s : State) (i : PointId) (x : Point) : (s.setPoint i x).budget = s.budget := rfl
@[simp] theorem State.setPoint_charge (s : State) (i : PointId) (x : Point) : (s.setPoint i x).charge = s.charge := rfl
@[simp] theorem State.setPoint_holdup (s : State) (i : PointId) (x : Point) : (s.setPoint i x).holdup = s.holdup := rfl
@[simp] theorem State.setPoint_recharge (s : State) (i : PointId) (x : Point) : (s.setPoint i x).recharge = s.recharge := rfl
@[simp] theorem State.setPoint_seq (s : State) (i : PointId) (x : Point) : (s.setPoint i x).seq = s.seq := rfl
@[simp] theorem State.setPoint_shed (s : State) (i : PointId) (x : Point) : (s.setPoint i x).shed = s.shed := rfl
@[simp] theorem State.setPoint_line (s : State) (i : PointId) (x : Point) : (s.setPoint i x).line = s.line := rfl
@[simp] theorem State.setPoint_leak (s : State) (i : PointId) (x : Point) : (s.setPoint i x).leak = s.leak := rfl
@[simp] theorem State.setPoint_causes (s : State) (i : PointId) (x : Point) : (s.setPoint i x).causes = s.causes := rfl
@[simp] theorem State.setPoint_link (s : State) (i : PointId) (x : Point) : (s.setPoint i x).link = s.link := rfl
@[simp] theorem State.setPoint_store (s : State) (i : PointId) (x : Point) : (s.setPoint i x).store = s.store := rfl
@[simp] theorem State.setPoint_clock (s : State) (i : PointId) (x : Point) : (s.setPoint i x).clock = s.clock := rfl
@[simp] theorem State.setPoint_free (s : State) (i : PointId) (x : Point) : (s.setPoint i x).free = s.free := rfl
@[simp] theorem State.setPoint_pending (s : State) (i : PointId) (x : Point) : (s.setPoint i x).pending = s.pending := rfl

@[simp] theorem State.setPsu_phase (s : State) (i : PsuId) (x : Psu) : (s.setPsu i x).phase = s.phase := rfl
@[simp] theorem State.setPsu_lastReset (s : State) (i : PsuId) (x : Psu) : (s.setPsu i x).lastReset = s.lastReset := rfl
@[simp] theorem State.setPsu_pins (s : State) (i : PsuId) (x : Psu) : (s.setPsu i x).pins = s.pins := rfl
@[simp] theorem State.setPsu_settings (s : State) (i : PsuId) (x : Psu) : (s.setPsu i x).settings = s.settings := rfl
@[simp] theorem State.setPsu_sense (s : State) (i : PsuId) (x : Psu) : (s.setPsu i x).sense = s.sense := rfl
@[simp] theorem State.setPsu_budget (s : State) (i : PsuId) (x : Psu) :
    (s.setPsu i x).budget = { s.budget with psus := s.budget.psus.set i x } := rfl
@[simp] theorem State.setPsu_charge (s : State) (i : PsuId) (x : Psu) : (s.setPsu i x).charge = s.charge := rfl
@[simp] theorem State.setPsu_holdup (s : State) (i : PsuId) (x : Psu) : (s.setPsu i x).holdup = s.holdup := rfl
@[simp] theorem State.setPsu_recharge (s : State) (i : PsuId) (x : Psu) : (s.setPsu i x).recharge = s.recharge := rfl
@[simp] theorem State.setPsu_seq (s : State) (i : PsuId) (x : Psu) : (s.setPsu i x).seq = s.seq := rfl
@[simp] theorem State.setPsu_shed (s : State) (i : PsuId) (x : Psu) : (s.setPsu i x).shed = s.shed := rfl
@[simp] theorem State.setPsu_line (s : State) (i : PsuId) (x : Psu) : (s.setPsu i x).line = s.line := rfl
@[simp] theorem State.setPsu_leak (s : State) (i : PsuId) (x : Psu) : (s.setPsu i x).leak = s.leak := rfl
@[simp] theorem State.setPsu_causes (s : State) (i : PsuId) (x : Psu) : (s.setPsu i x).causes = s.causes := rfl
@[simp] theorem State.setPsu_link (s : State) (i : PsuId) (x : Psu) : (s.setPsu i x).link = s.link := rfl
@[simp] theorem State.setPsu_store (s : State) (i : PsuId) (x : Psu) : (s.setPsu i x).store = s.store := rfl
@[simp] theorem State.setPsu_clock (s : State) (i : PsuId) (x : Psu) : (s.setPsu i x).clock = s.clock := rfl
@[simp] theorem State.setPsu_free (s : State) (i : PsuId) (x : Psu) : (s.setPsu i x).free = s.free := rfl
@[simp] theorem State.setPsu_pending (s : State) (i : PsuId) (x : Psu) : (s.setPsu i x).pending = s.pending := rfl

@[simp] theorem State.setBbu_phase (s : State) (i : BbuId) (x : Bbu) : (s.setBbu i x).phase = s.phase := rfl
@[simp] theorem State.setBbu_lastReset (s : State) (i : BbuId) (x : Bbu) : (s.setBbu i x).lastReset = s.lastReset := rfl
@[simp] theorem State.setBbu_pins (s : State) (i : BbuId) (x : Bbu) : (s.setBbu i x).pins = s.pins := rfl
@[simp] theorem State.setBbu_settings (s : State) (i : BbuId) (x : Bbu) : (s.setBbu i x).settings = s.settings := rfl
@[simp] theorem State.setBbu_sense (s : State) (i : BbuId) (x : Bbu) : (s.setBbu i x).sense = s.sense := rfl
@[simp] theorem State.setBbu_budget (s : State) (i : BbuId) (x : Bbu) : (s.setBbu i x).budget = s.budget := rfl
@[simp] theorem State.setBbu_charge (s : State) (i : BbuId) (x : Bbu) :
    (s.setBbu i x).charge = { s.charge with bbus := s.charge.bbus.set i x } := rfl
@[simp] theorem State.setBbu_holdup (s : State) (i : BbuId) (x : Bbu) : (s.setBbu i x).holdup = s.holdup := rfl
@[simp] theorem State.setBbu_recharge (s : State) (i : BbuId) (x : Bbu) : (s.setBbu i x).recharge = s.recharge := rfl
@[simp] theorem State.setBbu_seq (s : State) (i : BbuId) (x : Bbu) : (s.setBbu i x).seq = s.seq := rfl
@[simp] theorem State.setBbu_shed (s : State) (i : BbuId) (x : Bbu) : (s.setBbu i x).shed = s.shed := rfl
@[simp] theorem State.setBbu_line (s : State) (i : BbuId) (x : Bbu) : (s.setBbu i x).line = s.line := rfl
@[simp] theorem State.setBbu_leak (s : State) (i : BbuId) (x : Bbu) : (s.setBbu i x).leak = s.leak := rfl
@[simp] theorem State.setBbu_causes (s : State) (i : BbuId) (x : Bbu) : (s.setBbu i x).causes = s.causes := rfl
@[simp] theorem State.setBbu_link (s : State) (i : BbuId) (x : Bbu) : (s.setBbu i x).link = s.link := rfl
@[simp] theorem State.setBbu_store (s : State) (i : BbuId) (x : Bbu) : (s.setBbu i x).store = s.store := rfl
@[simp] theorem State.setBbu_clock (s : State) (i : BbuId) (x : Bbu) : (s.setBbu i x).clock = s.clock := rfl
@[simp] theorem State.setBbu_free (s : State) (i : BbuId) (x : Bbu) : (s.setBbu i x).free = s.free := rfl
@[simp] theorem State.setBbu_pending (s : State) (i : BbuId) (x : Bbu) : (s.setBbu i x).pending = s.pending := rfl

@[simp] theorem State.setSlot_phase (s : State) (i : SlotId) (x : Slot) : (s.setSlot i x).phase = s.phase := rfl
@[simp] theorem State.setSlot_lastReset (s : State) (i : SlotId) (x : Slot) : (s.setSlot i x).lastReset = s.lastReset := rfl
@[simp] theorem State.setSlot_pins (s : State) (i : SlotId) (x : Slot) : (s.setSlot i x).pins = s.pins := rfl
@[simp] theorem State.setSlot_settings (s : State) (i : SlotId) (x : Slot) : (s.setSlot i x).settings = s.settings := rfl
@[simp] theorem State.setSlot_sense (s : State) (i : SlotId) (x : Slot) : (s.setSlot i x).sense = s.sense := rfl
@[simp] theorem State.setSlot_budget (s : State) (i : SlotId) (x : Slot) : (s.setSlot i x).budget = s.budget := rfl
@[simp] theorem State.setSlot_charge (s : State) (i : SlotId) (x : Slot) : (s.setSlot i x).charge = s.charge := rfl
@[simp] theorem State.setSlot_holdup (s : State) (i : SlotId) (x : Slot) : (s.setSlot i x).holdup = s.holdup := rfl
@[simp] theorem State.setSlot_recharge (s : State) (i : SlotId) (x : Slot) : (s.setSlot i x).recharge = s.recharge := rfl
@[simp] theorem State.setSlot_seq (s : State) (i : SlotId) (x : Slot) :
    (s.setSlot i x).seq = { s.seq with slots := s.seq.slots.set i x } := rfl
@[simp] theorem State.setSlot_shed (s : State) (i : SlotId) (x : Slot) : (s.setSlot i x).shed = s.shed := rfl
@[simp] theorem State.setSlot_line (s : State) (i : SlotId) (x : Slot) : (s.setSlot i x).line = s.line := rfl
@[simp] theorem State.setSlot_leak (s : State) (i : SlotId) (x : Slot) : (s.setSlot i x).leak = s.leak := rfl
@[simp] theorem State.setSlot_causes (s : State) (i : SlotId) (x : Slot) : (s.setSlot i x).causes = s.causes := rfl
@[simp] theorem State.setSlot_link (s : State) (i : SlotId) (x : Slot) : (s.setSlot i x).link = s.link := rfl
@[simp] theorem State.setSlot_store (s : State) (i : SlotId) (x : Slot) : (s.setSlot i x).store = s.store := rfl
@[simp] theorem State.setSlot_clock (s : State) (i : SlotId) (x : Slot) : (s.setSlot i x).clock = s.clock := rfl
@[simp] theorem State.setSlot_free (s : State) (i : SlotId) (x : Slot) : (s.setSlot i x).free = s.free := rfl
@[simp] theorem State.setSlot_pending (s : State) (i : SlotId) (x : Slot) : (s.setSlot i x).pending = s.pending := rfl

@[simp] theorem State.setZone_phase (s : State) (i : ZoneId) (x : Zone) : (s.setZone i x).phase = s.phase := rfl
@[simp] theorem State.setZone_lastReset (s : State) (i : ZoneId) (x : Zone) : (s.setZone i x).lastReset = s.lastReset := rfl
@[simp] theorem State.setZone_pins (s : State) (i : ZoneId) (x : Zone) : (s.setZone i x).pins = s.pins := rfl
@[simp] theorem State.setZone_settings (s : State) (i : ZoneId) (x : Zone) : (s.setZone i x).settings = s.settings := rfl
@[simp] theorem State.setZone_sense (s : State) (i : ZoneId) (x : Zone) : (s.setZone i x).sense = s.sense := rfl
@[simp] theorem State.setZone_budget (s : State) (i : ZoneId) (x : Zone) : (s.setZone i x).budget = s.budget := rfl
@[simp] theorem State.setZone_charge (s : State) (i : ZoneId) (x : Zone) : (s.setZone i x).charge = s.charge := rfl
@[simp] theorem State.setZone_holdup (s : State) (i : ZoneId) (x : Zone) : (s.setZone i x).holdup = s.holdup := rfl
@[simp] theorem State.setZone_recharge (s : State) (i : ZoneId) (x : Zone) : (s.setZone i x).recharge = s.recharge := rfl
@[simp] theorem State.setZone_seq (s : State) (i : ZoneId) (x : Zone) : (s.setZone i x).seq = s.seq := rfl
@[simp] theorem State.setZone_shed (s : State) (i : ZoneId) (x : Zone) : (s.setZone i x).shed = s.shed := rfl
@[simp] theorem State.setZone_line (s : State) (i : ZoneId) (x : Zone) : (s.setZone i x).line = s.line := rfl
@[simp] theorem State.setZone_leak (s : State) (i : ZoneId) (x : Zone) :
    (s.setZone i x).leak = { s.leak with zones := s.leak.zones.set i x } := rfl
@[simp] theorem State.setZone_causes (s : State) (i : ZoneId) (x : Zone) : (s.setZone i x).causes = s.causes := rfl
@[simp] theorem State.setZone_link (s : State) (i : ZoneId) (x : Zone) : (s.setZone i x).link = s.link := rfl
@[simp] theorem State.setZone_store (s : State) (i : ZoneId) (x : Zone) : (s.setZone i x).store = s.store := rfl
@[simp] theorem State.setZone_clock (s : State) (i : ZoneId) (x : Zone) : (s.setZone i x).clock = s.clock := rfl
@[simp] theorem State.setZone_free (s : State) (i : ZoneId) (x : Zone) : (s.setZone i x).free = s.free := rfl
@[simp] theorem State.setZone_pending (s : State) (i : ZoneId) (x : Zone) : (s.setZone i x).pending = s.pending := rfl

@[simp] theorem State.setCause_phase (s : State) (i : CauseId) (x : Cause) : (s.setCause i x).phase = s.phase := rfl
@[simp] theorem State.setCause_lastReset (s : State) (i : CauseId) (x : Cause) : (s.setCause i x).lastReset = s.lastReset := rfl
@[simp] theorem State.setCause_pins (s : State) (i : CauseId) (x : Cause) : (s.setCause i x).pins = s.pins := rfl
@[simp] theorem State.setCause_settings (s : State) (i : CauseId) (x : Cause) : (s.setCause i x).settings = s.settings := rfl
@[simp] theorem State.setCause_sense (s : State) (i : CauseId) (x : Cause) : (s.setCause i x).sense = s.sense := rfl
@[simp] theorem State.setCause_budget (s : State) (i : CauseId) (x : Cause) : (s.setCause i x).budget = s.budget := rfl
@[simp] theorem State.setCause_charge (s : State) (i : CauseId) (x : Cause) : (s.setCause i x).charge = s.charge := rfl
@[simp] theorem State.setCause_holdup (s : State) (i : CauseId) (x : Cause) : (s.setCause i x).holdup = s.holdup := rfl
@[simp] theorem State.setCause_recharge (s : State) (i : CauseId) (x : Cause) : (s.setCause i x).recharge = s.recharge := rfl
@[simp] theorem State.setCause_seq (s : State) (i : CauseId) (x : Cause) : (s.setCause i x).seq = s.seq := rfl
@[simp] theorem State.setCause_shed (s : State) (i : CauseId) (x : Cause) : (s.setCause i x).shed = s.shed := rfl
@[simp] theorem State.setCause_line (s : State) (i : CauseId) (x : Cause) : (s.setCause i x).line = s.line := rfl
@[simp] theorem State.setCause_leak (s : State) (i : CauseId) (x : Cause) : (s.setCause i x).leak = s.leak := rfl
@[simp] theorem State.setCause_causes (s : State) (i : CauseId) (x : Cause) :
    (s.setCause i x).causes = { s.causes with recs := s.causes.recs.set i x } := rfl
@[simp] theorem State.setCause_link (s : State) (i : CauseId) (x : Cause) : (s.setCause i x).link = s.link := rfl
@[simp] theorem State.setCause_store (s : State) (i : CauseId) (x : Cause) : (s.setCause i x).store = s.store := rfl
@[simp] theorem State.setCause_clock (s : State) (i : CauseId) (x : Cause) : (s.setCause i x).clock = s.clock := rfl
@[simp] theorem State.setCause_free (s : State) (i : CauseId) (x : Cause) : (s.setCause i x).free = s.free := rfl
@[simp] theorem State.setCause_pending (s : State) (i : CauseId) (x : Cause) : (s.setCause i x).pending = s.pending := rfl

@[simp] theorem State.setBbuSettings_phase (s : State) (i : BbuId) (x : BbuSettings) : (s.setBbuSettings i x).phase = s.phase := rfl
@[simp] theorem State.setBbuSettings_lastReset (s : State) (i : BbuId) (x : BbuSettings) : (s.setBbuSettings i x).lastReset = s.lastReset := rfl
@[simp] theorem State.setBbuSettings_pins (s : State) (i : BbuId) (x : BbuSettings) : (s.setBbuSettings i x).pins = s.pins := rfl
@[simp] theorem State.setBbuSettings_settings (s : State) (i : BbuId) (x : BbuSettings) :
    (s.setBbuSettings i x).settings = { s.settings with bbus := s.settings.bbus.set i x } := rfl
@[simp] theorem State.setBbuSettings_sense (s : State) (i : BbuId) (x : BbuSettings) : (s.setBbuSettings i x).sense = s.sense := rfl
@[simp] theorem State.setBbuSettings_budget (s : State) (i : BbuId) (x : BbuSettings) : (s.setBbuSettings i x).budget = s.budget := rfl
@[simp] theorem State.setBbuSettings_charge (s : State) (i : BbuId) (x : BbuSettings) : (s.setBbuSettings i x).charge = s.charge := rfl
@[simp] theorem State.setBbuSettings_holdup (s : State) (i : BbuId) (x : BbuSettings) : (s.setBbuSettings i x).holdup = s.holdup := rfl
@[simp] theorem State.setBbuSettings_recharge (s : State) (i : BbuId) (x : BbuSettings) : (s.setBbuSettings i x).recharge = s.recharge := rfl
@[simp] theorem State.setBbuSettings_seq (s : State) (i : BbuId) (x : BbuSettings) : (s.setBbuSettings i x).seq = s.seq := rfl
@[simp] theorem State.setBbuSettings_shed (s : State) (i : BbuId) (x : BbuSettings) : (s.setBbuSettings i x).shed = s.shed := rfl
@[simp] theorem State.setBbuSettings_line (s : State) (i : BbuId) (x : BbuSettings) : (s.setBbuSettings i x).line = s.line := rfl
@[simp] theorem State.setBbuSettings_leak (s : State) (i : BbuId) (x : BbuSettings) : (s.setBbuSettings i x).leak = s.leak := rfl
@[simp] theorem State.setBbuSettings_causes (s : State) (i : BbuId) (x : BbuSettings) : (s.setBbuSettings i x).causes = s.causes := rfl
@[simp] theorem State.setBbuSettings_link (s : State) (i : BbuId) (x : BbuSettings) : (s.setBbuSettings i x).link = s.link := rfl
@[simp] theorem State.setBbuSettings_store (s : State) (i : BbuId) (x : BbuSettings) : (s.setBbuSettings i x).store = s.store := rfl
@[simp] theorem State.setBbuSettings_clock (s : State) (i : BbuId) (x : BbuSettings) : (s.setBbuSettings i x).clock = s.clock := rfl
@[simp] theorem State.setBbuSettings_free (s : State) (i : BbuId) (x : BbuSettings) : (s.setBbuSettings i x).free = s.free := rfl
@[simp] theorem State.setBbuSettings_pending (s : State) (i : BbuId) (x : BbuSettings) : (s.setBbuSettings i x).pending = s.pending := rfl

@[simp] theorem State.spendFree_phase (s : State) : s.spendFree.phase = s.phase := rfl
@[simp] theorem State.spendFree_lastReset (s : State) : s.spendFree.lastReset = s.lastReset := rfl
@[simp] theorem State.spendFree_pins (s : State) : s.spendFree.pins = s.pins := rfl
@[simp] theorem State.spendFree_settings (s : State) : s.spendFree.settings = s.settings := rfl
@[simp] theorem State.spendFree_sense (s : State) : s.spendFree.sense = s.sense := rfl
@[simp] theorem State.spendFree_budget (s : State) : s.spendFree.budget = s.budget := rfl
@[simp] theorem State.spendFree_charge (s : State) : s.spendFree.charge = s.charge := rfl
@[simp] theorem State.spendFree_holdup (s : State) : s.spendFree.holdup = s.holdup := rfl
@[simp] theorem State.spendFree_recharge (s : State) : s.spendFree.recharge = s.recharge := rfl
@[simp] theorem State.spendFree_seq (s : State) : s.spendFree.seq = s.seq := rfl
@[simp] theorem State.spendFree_shed (s : State) : s.spendFree.shed = s.shed := rfl
@[simp] theorem State.spendFree_line (s : State) : s.spendFree.line = s.line := rfl
@[simp] theorem State.spendFree_leak (s : State) : s.spendFree.leak = s.leak := rfl
@[simp] theorem State.spendFree_causes (s : State) : s.spendFree.causes = s.causes := rfl
@[simp] theorem State.spendFree_link (s : State) : s.spendFree.link = s.link := rfl
@[simp] theorem State.spendFree_store (s : State) : s.spendFree.store = s.store := rfl
@[simp] theorem State.spendFree_clock (s : State) : s.spendFree.clock = s.clock := rfl
@[simp] theorem State.spendFree_free (s : State) : s.spendFree.free = s.free + 1 := rfl
@[simp] theorem State.spendFree_pending (s : State) : s.spendFree.pending = s.pending := rfl

/-! ### Elements of a vector after one is set -/

theorem get_set_same {α : Type} {n : Nat} (v : Vector α n) (i : Fin n) (x : α) : (v.set i x)[i] = x := by simp

theorem get_set_other {α : Type} {n : Nat} (v : Vector α n) {i j : Fin n} (x : α) (h : i ≠ j) :
    (v.set i x)[j] = v[j] := by
  have : i.val ≠ j.val := fun e => h (Fin.ext e)
  simp [this]

theorem get_set {α : Type} {n : Nat} (v : Vector α n) (i j : Fin n) (x : α) :
    (v.set i x)[j] = if i = j then x else v[j] := by
  by_cases h : i = j
  · subst h; simp
  · rw [if_neg h, get_set_other v x h]

end Sys2Proof.Machine
end

