-- ==== Sys2Proof/Laws/Frames.lean ====
section
/-! SUPPORT. What the shared operations leave alone. `State.base` gathers the blocks that no shared operation below the sample
set touches; one lemma for each operation says so, and a field's own statement follows by `congrArg`. -/

namespace Sys2Proof.Machine

theorem base_phase {s t : State} (h : t.base = s.base) : t.phase = s.phase := congrArg Base.phase h
theorem base_lastReset {s t : State} (h : t.base = s.base) : t.lastReset = s.lastReset := congrArg Base.lastReset h
theorem base_pins {s t : State} (h : t.base = s.base) : t.pins = s.pins := congrArg Base.pins h
theorem base_settings {s t : State} (h : t.base = s.base) : t.settings = s.settings := congrArg Base.settings h
theorem base_sense {s t : State} (h : t.base = s.base) : t.sense = s.sense := congrArg Base.sense h
theorem base_shed {s t : State} (h : t.base = s.base) : t.shed = s.shed := congrArg Base.shed h
theorem base_leak {s t : State} (h : t.base = s.base) : t.leak = s.leak := congrArg Base.leak h
theorem base_store {s t : State} (h : t.base = s.base) : t.store = s.store := congrArg Base.store h
theorem base_clock {s t : State} (h : t.base = s.base) : t.clock = s.clock := congrArg Base.clock h
theorem base_free {s t : State} (h : t.base = s.base) : t.free = s.free := congrArg Base.free h
theorem base_pending {s t : State} (h : t.base = s.base) : t.pending = s.pending := congrArg Base.pending h

/-- A fold of operations that keep a view keeps it. -/
theorem foldl_keeps {α β : Type} (v : State → β) (f : State → α → State) (h : ∀ s a, v (f s a) = v s) (l : List α)
    (s : State) : v (l.foldl f s) = v s := by
  induction l generalizing s with
  | nil => rfl
  | cons a l ih => simpa [ih] using h s a

@[simp] theorem setBudget_base (s : State) (x : Budget) : (s.setBudget x).base = s.base := rfl
@[simp] theorem setCharge_base (s : State) (x : Charge) : (s.setCharge x).base = s.base := rfl
@[simp] theorem setHoldup_base (s : State) (x : Holdup) : (s.setHoldup x).base = s.base := rfl
@[simp] theorem setRecharge_base (s : State) (x : Recharge) : (s.setRecharge x).base = s.base := rfl
@[simp] theorem setSeq_base (s : State) (x : Sequencer) : (s.setSeq x).base = s.base := rfl
@[simp] theorem setLine_base (s : State) (x : Line) : (s.setLine x).base = s.base := rfl
@[simp] theorem setCauses_base (s : State) (x : Causes) : (s.setCauses x).base = s.base := rfl
@[simp] theorem setLink_base (s : State) (x : Link) : (s.setLink x).base = s.base := rfl
@[simp] theorem setPsu_base (s : State) (k : PsuId) (x : Psu) : (s.setPsu k x).base = s.base := rfl
@[simp] theorem setBbu_base (s : State) (i : BbuId) (x : Bbu) : (s.setBbu i x).base = s.base := rfl
@[simp] theorem setSlot_base (s : State) (n : SlotId) (x : Slot) : (s.setSlot n x).base = s.base := rfl
@[simp] theorem setCause_base (s : State) (c : CauseId) (x : Cause) : (s.setCause c x).base = s.base := rfl

/-! ### Causes and the transmitter -/

@[simp] theorem beginNotice_base (c : CauseId) (rest : List CauseId) (s : State) :
    (s.beginNotice c rest).base = s.base := rfl

@[simp] theorem serveTransmitter_base (s : State) : (serveTransmitter s).base = s.base := by
  unfold serveTransmitter; repeat' split
  all_goals simp

@[simp] theorem judgeAlert_base (s : State) : (judgeAlert s).base = s.base := rfl

@[simp] theorem reportCondition_base (c : CauseId) (a : Bool) (s : State) : (reportCondition c a s).base = s.base := by
  unfold reportCondition; split <;> simp

@[simp] theorem joinOutbox_base (c : CauseId) (s : State) : (joinOutbox c s).base = s.base := by
  unfold joinOutbox; split <;> simp

@[simp] theorem raise_base (c : CauseId) (v : Int) (k : Byte) (s : State) : (raise c v k s).base = s.base := by
  unfold raise; simp only [serveTransmitter_base, joinOutbox_base]; split <;> simp

@[simp] theorem pushReply_base (r : Reply) (s : State) : (pushReply r s).base = s.base := by simp [pushReply]

@[simp] theorem offerFrame_base (f : Frame) (s : State) : (offerFrame f s).base = s.base := by
  unfold offerFrame; repeat' split
  all_goals simp

/-! ### Budget, outputs and the pause -/

@[simp] theorem driveBbu_base (i : BbuId) (s : State) : (driveBbu i s).base = s.base := by
  unfold driveBbu; split <;> simp

@[simp] theorem driveBbus_base (s : State) : (driveBbus s).base = s.base :=
  foldl_keeps State.base _ (fun s i => driveBbu_base i s) _ _

@[simp] theorem reshare_base (s : State) : (reshare s).base = s.base := by simp [reshare]
@[simp] theorem enterPaused_base (v : Int) (k : Byte) (s : State) : (enterPaused v k s).base = s.base := by
  simp [enterPaused]
@[simp] theorem enterGrace_base (v : Int) (k : Byte) (s : State) : (enterGrace v k s).base = s.base := by
  simp [enterGrace]
@[simp] theorem endDeficit_base (s : State) : (endDeficit s).base = s.base := by simp [endDeficit]
@[simp] theorem leaveDeficit_base (s : State) : (leaveDeficit s).base = s.base := by simp [leaveDeficit]
@[simp] theorem judgeDeficit_base (s : State) : (judgeDeficit s).base = s.base := by
  unfold judgeDeficit; repeat' split
  all_goals simp
@[simp] theorem recomputeCapacity_base (s : State) : (recomputeCapacity s).base = s.base := rfl
@[simp] theorem settleHeadroom_base (s : State) : (settleHeadroom s).base = s.base := by
  simp only [settleHeadroom, setBudget_base]
@[simp] theorem instructRegulator_base (s : State) : (instructRegulator s).base = s.base := by
  unfold instructRegulator; split <;> simp
@[simp] theorem recompute_base (s : State) : (recompute s).base = s.base := by
  unfold recompute; split <;> simp
@[simp] theorem reclassifyPsu_base (k : PsuId) (s : State) : (reclassifyPsu k s).base = s.base := by
  simp only [reclassifyPsu]; split <;> simp

/-! ### Slots -/

@[simp] theorem lineWatch_base (s : State) : (lineWatch s).base = s.base := by
  simp only [lineWatch]; split <;> rfl
@[simp] theorem moveSlot_base (n : SlotId) (st : SlotState) (u : Slot → Slot) (s : State) :
    (moveSlot n st u s).base = s.base := by simp [moveSlot]
@[simp] theorem shiftSlot_base (n : SlotId) (st : SlotState) (u : Slot → Slot) (s : State) :
    (shiftSlot n st u s).base = s.base := by simp [shiftSlot]
@[simp] theorem joinQueue_base (n : SlotId) (s : State) : (joinQueue n s).base = s.base := rfl
@[simp] theorem leaveQueue_base (n : SlotId) (s : State) : (leaveQueue n s).base = s.base := rfl
@[simp] theorem enterQueue_base (n : SlotId) (s : State) : (enterQueue n s).base = s.base := by
  unfold enterQueue; split <;> simp
@[simp] theorem grant_base (n : SlotId) (s : State) : (grant n s).base = s.base := by simp [grant]
@[simp] theorem sendReport_base (s : State) : (sendReport s).base = s.base := rfl
@[simp] theorem grantCheck_base (s : State) : (grantCheck s).base = s.base := by
  unfold grantCheck; repeat' split
  all_goals simp
@[simp] theorem reportHead_base (s : State) : (reportHead s).base = s.base := by
  unfold reportHead; split <;> simp
@[simp] theorem seqEvent_base (s : State) : (seqEvent s).base = s.base := by simp [seqEvent]
@[simp] theorem restoreSlot_base (n : SlotId) (s : State) : (restoreSlot n s).base = s.base := by
  simp only [restoreSlot]; repeat' split
  all_goals simp
@[simp] theorem handOver_base (n : SlotId) (s : State) : (handOver n s).base = s.base := by
  unfold handOver; split <;> simp
@[simp] theorem completeDrain_base (n : SlotId) (s : State) : (completeDrain n s).base = s.base := by
  simp only [completeDrain]; split <;> simp
@[simp] theorem settleDrain_base (n : SlotId) (s : State) : (settleDrain n s).base = s.base := by
  unfold settleDrain; split <;> simp
@[simp] theorem enterDraining_base (n : SlotId) (s : State) : (enterDraining n s).base = s.base := by
  simp [enterDraining]
@[simp] theorem unpowerSlot_base (n : SlotId) (r : ShedReason) (s : State) : (unpowerSlot n r s).base = s.base := by
  unfold unpowerSlot; split <;> simp
@[simp] theorem seqEventIf_base (c : Bool) (s : State) : (seqEventIf c s).base = s.base := by
  unfold seqEventIf; split <;> simp
@[simp] theorem handOverFor_base (n : SlotId) (r : ShedReason) (s : State) : (handOverFor n r s).base = s.base := by
  unfold handOverFor; split <;> simp
@[simp] theorem shedUnpowered_base (n : SlotId) (r : ShedReason) (s : State) : (shedUnpowered n r s).base = s.base := by
  simp [shedUnpowered]
@[simp] theorem shedSoak_base (n : SlotId) (r : ShedReason) (u : Urgency) (s : State) :
    (shedSoak n r u s).base = s.base := by simp [shedSoak]
@[simp] theorem shedOn_base (n : SlotId) (r : ShedReason) (u : Urgency) (s : State) :
    (shedOn n r u s).base = s.base := by unfold shedOn; split <;> simp
@[simp] theorem escalate_base (n : SlotId) (u : Urgency) (s : State) : (escalate n u s).base = s.base := by
  unfold escalate; split <;> simp
@[simp] theorem shedInFlight_base (n : SlotId) (r : ShedReason) (u : Urgency) (s : State) :
    (shedInFlight n r u s).base = s.base := by
  simp only [shedInFlight]; repeat' split
  all_goals simp
@[simp] theorem shedSlot_base (n : SlotId) (r : ShedReason) (u : Urgency) (s : State) :
    (shedSlot n r u s).base = s.base := by
  unfold shedSlot; repeat' split
  all_goals simp
@[simp] theorem withdrawSlot_base (n : SlotId) (s : State) : (withdrawSlot n s).base = s.base := by
  simp [withdrawSlot]
@[simp] theorem shedClass_base (r : ShedReason) (k : Nat) (u : Urgency) (s : State) :
    (shedClass r k u s).base = s.base := foldl_keeps State.base _ (fun s n => shedSlot_base n r u s) _ _
@[simp] theorem shedAll_base (s : State) : (shedAll s).base = s.base :=
  foldl_keeps State.base _ (fun s n => shedSlot_base n _ _ s) _ _
@[simp] theorem shedZone_base (z : ZoneId) (s : State) : (shedZone z s).base = s.base :=
  foldl_keeps State.base _ (fun s n => shedSlot_base n _ _ s) _ _
@[simp] theorem lockZone_base (z : ZoneId) (s : State) : (lockZone z s).base = s.base := by
  simp only [lockZone]; split
  · rfl
  · simp only [seqEvent_base]; exact foldl_keeps State.base _ (fun s n => by simp) _ _
@[simp] theorem faultSlot_base (n : SlotId) (k : Byte) (s : State) : (faultSlot n k s).base = s.base := by
  simp [faultSlot]
@[simp] theorem holdSlot_base (n : SlotId) (l : Nat) (s : State) : (holdSlot n l s).base = s.base := by
  simp [holdSlot]
@[simp] theorem judgeHold_base (a : Bool) (n : SlotId) (s : State) : (judgeHold a n s).base = s.base := by
  simp only [judgeHold]; repeat' split
  all_goals simp

/-! ### Charge accounting -/

@[simp] theorem reportBbu_base (i : BbuId) (s : State) : (reportBbu i s).base = s.base := by simp [reportBbu]
@[simp] theorem moveBbu_base (i : BbuId) (st : BbuState) (s : State) : (moveBbu i st s).base = s.base := by
  simp [moveBbu]
@[simp] theorem changeBbu_base (i : BbuId) (st : BbuState) (s : State) : (changeBbu i st s).base = s.base := by
  unfold changeBbu; split <;> simp
@[simp] theorem setTargetInhibit_base (on : Bool) (s : State) : (setTargetInhibit on s).base = s.base := by
  unfold setTargetInhibit; split <;> simp
@[simp] theorem listMatch_base (p : Nat) (s : State) : (listMatch p s).base = s.base := by
  simp only [listMatch]; split <;> simp
@[simp] theorem targetAction_base (e : TargetEntry) (s : State) : (targetAction e s).base = s.base := by
  unfold targetAction; split <;> simp
@[simp] theorem matchEntry_base (e : TargetEntry) (s : State) : (matchEntry e s).base = s.base := by
  simp [matchEntry]
@[simp] theorem compareFrom_base (fuel : Nat) (s : State) : (compareFrom fuel s).base = s.base := by
  induction fuel generalizing s with
  | zero => rfl
  | succ fuel ih => simp only [compareFrom]; repeat' split
                    all_goals simp [ih]
@[simp] theorem compareTargets_base (s : State) : (compareTargets s).base = s.base := by
  unfold compareTargets; split <;> simp
@[simp] theorem armTable_base (s : State) : (armTable s).base = s.base := by simp [armTable]
@[simp] theorem disarmTable_base (s : State) : (disarmTable s).base = s.base := rfl
@[simp] theorem armOnBridge_base (s : State) : (armOnBridge s).base = s.base := by
  unfold armOnBridge; split <;> simp
@[simp] theorem haltTable_base (s : State) : (haltTable s).base = s.base := rfl
@[simp] theorem judgeRange_base (old new : Vector Bool 8) (t : Nat) (k : RangeId) (s : State) :
    (judgeRange old new t k s).base = s.base := by simp only [judgeRange]; split <;> simp
@[simp] theorem recomputeBand_base (s : State) : (recomputeBand s).base = s.base := by
  simp only [recomputeBand]
  exact foldl_keeps State.base _ (fun s k => judgeRange_base _ _ _ k s) _ _
@[simp] theorem publishReserve_base (s : State) : (publishReserve s).base = s.base := rfl
@[simp] theorem recomputeReserve_base (s : State) : (recomputeReserve s).base = s.base := by
  simp [recomputeReserve]
@[simp] theorem abortTest_base (r : TestResult) (st : BbuId → State → BbuState) (s : State) :
    (abortTest r st s).base = s.base := by simp only [abortTest]; split <;> simp
@[simp] theorem failBbu_base (i : BbuId) (st : BbuState) (s : State) : (failBbu i st s).base = s.base := by
  unfold failBbu; split <;> simp
@[simp] theorem shiftBbu_base (f : BbuState → Bool) (st : BbuState) (i : BbuId) (s : State) :
    (shiftBbu f st i s).base = s.base := by
  unfold shiftBbu; split <;> simp
@[simp] theorem shiftBbus_base (f : BbuState → Bool) (st : BbuState) (s : State) :
    (shiftBbus f st s).base = s.base := foldl_keeps State.base _ (fun s i => shiftBbu_base f st i s) _ _
@[simp] theorem depleteAll_base (s : State) : (depleteAll s).base = s.base := by simp [depleteAll]
@[simp] theorem refillDepleted_base (s : State) : (refillDepleted s).base = s.base := by simp [refillDepleted]
@[simp] theorem abortTestForAc_base (s : State) : (abortTestForAc s).base = s.base := by
  unfold abortTestForAc; split <;> simp
@[simp] theorem refreshBbu_base (i : BbuId) (s : State) : (refreshBbu i s).base = s.base := rfl
@[simp] theorem integrateBbu_base (i : BbuId) (s : State) : (integrateBbu i s).1.base = s.base := by
  simp only [integrateBbu]; repeat' split
  all_goals simp
@[simp] theorem anchorBbu_base (i : BbuId) (s : State) : (anchorBbu i s).base = s.base := by simp [anchorBbu]
@[simp] theorem judgeCharging_base (i : BbuId) (s : State) : (judgeCharging i s).base = s.base := by
  simp only [judgeCharging]; repeat' split
  all_goals simp
@[simp] theorem raiseBottomed_base (i : BbuId) (s : State) : (raiseBottomed i s).base = s.base := by
  simp [raiseBottomed]

/-! ### Regulator and holdup controller -/

@[simp] theorem recomputeIfSet_base (b : Nat) (s : State) : (recomputeIfSet b s).base = s.base := by
  unfold recomputeIfSet; split <;> simp
@[simp] theorem regulatorOff_base (s : State) : (regulatorOff s).base = s.base := by simp [regulatorOff]
@[simp] theorem enterCruise_base (x : Nat) (s : State) : (enterCruise x s).base = s.base := by simp [enterCruise]
@[simp] theorem enterThermal_base (s : State) : (enterThermal s).base = s.base := by simp [enterThermal]
@[simp] theorem pauseRegulator_base (k : Byte) (s : State) : (pauseRegulator k s).base = s.base := by
  simp [pauseRegulator]
@[simp] theorem startRegulator_base (s : State) : (startRegulator s).base = s.base := by
  simp only [startRegulator]; repeat' split
  all_goals simp
@[simp] theorem formSet_base (s : State) : (formSet s).base = s.base := by
  simp only [formSet]; repeat' split
  all_goals simp
@[simp] theorem restartIfRoom_base (s : State) : (restartIfRoom s).base = s.base := by
  unfold restartIfRoom; split <;> simp
@[simp] theorem tryYield_base (s : State) : (tryYield s).base = s.base := by
  unfold tryYield; repeat' split
  all_goals simp
@[simp] theorem refreshRecharge_base (s : State) : (refreshRecharge s).base = s.base := rfl
@[simp] theorem sampleRegulator_base (s : State) : (sampleRegulator s).base = s.base := by
  simp only [sampleRegulator]; repeat' split
  all_goals simp
@[simp] theorem regulatorHeadroom_base (h : Int) (s : State) : (regulatorHeadroom h s).base = s.base := by
  simp only [regulatorHeadroom]; repeat' split
  all_goals simp
@[simp] theorem regulatorReserve_base (p : ReservePub) (s : State) : (regulatorReserve p s).base = s.base := by
  simp only [regulatorReserve]; split <;> simp
@[simp] theorem regulatorHead_base (r : Option Nat) (s : State) : (regulatorHead r s).base = s.base := by
  simp [regulatorHead]
@[simp] theorem stepRegulator_base (s : State) : (stepRegulator s).base = s.base := by
  simp only [stepRegulator]; repeat' split
  all_goals simp
@[simp] theorem offerRecord_base (t : Trigger) (s : State) : (offerRecord t s).base = s.base := rfl
@[simp] theorem closeRecord_base (w : EndReason) (s : State) : (closeRecord w s).base = s.base := rfl
@[simp] theorem followRecord_base (s : State) : (followRecord s).base = s.base := by
  simp only [followRecord]; split <;> simp
@[simp] theorem moveHoldup_base (st : HoldupState) (s : State) : (moveHoldup st s).base = s.base := by
  simp [moveHoldup]
@[simp] theorem enterBlackout_base (s : State) : (enterBlackout s).base = s.base := by simp [enterBlackout]
@[simp] theorem judgeCounted_base (s : State) : (judgeCounted s).base = s.base := by
  unfold judgeCounted; split <;> simp
@[simp] theorem openEvent_base (t : Trigger) (s : State) : (openEvent t s).base = s.base := by simp [openEvent]
@[simp] theorem enterReturn_base (s : State) : (enterReturn s).base = s.base := by simp [enterReturn]
@[simp] theorem flicker_base (s : State) : (flicker s).base = s.base := by simp [flicker]
@[simp] theorem withdrawSheds_base (s : State) : (withdrawSheds s).base = s.base :=
  foldl_keeps State.base _ (fun s n => by split <;> simp) _ _
@[simp] theorem queueAtOnline_base (s : State) : (queueAtOnline s).base = s.base := by
  simp only [queueAtOnline, setSeq_base]
  rw [foldl_keeps State.base _ (fun s n => restoreSlot_base n s), foldl_keeps State.base _ (fun s n => enterQueue_base n s)]
@[simp] theorem disarmOnBridge_base (s : State) : (disarmOnBridge s).base = s.base := by
  unfold disarmOnBridge; split <;> simp
@[simp] theorem enterOnline_base (s : State) : (enterOnline s).base = s.base := by simp [enterOnline]
@[simp] theorem evaluateAc_base (s : State) : (evaluateAc s).base = s.base := rfl
@[simp] theorem judgeAc_base (s : State) : (judgeAc s).base = s.base := by
  unfold judgeAc; split <;> simp
@[simp] theorem judgeCollapse_base (s : State) : (judgeCollapse s).base = s.base := by
  simp only [judgeCollapse]; repeat' split
  all_goals simp
@[simp] theorem noteFirstSet_base (s : State) : (noteFirstSet s).base = s.base := by
  unfold noteFirstSet; split <;> simp
@[simp] theorem sampleHoldup_base (s : State) : (sampleHoldup s).base = s.base := by
  simp only [sampleHoldup]; repeat' split
  all_goals simp
@[simp] theorem inputHoldup_base (s : State) : (inputHoldup s).base = s.base := by
  unfold inputHoldup; split <;> simp
@[simp] theorem startDecision_base (f : FirstSet) (s : State) : (startDecision f s).base = s.base := by
  unfold startDecision; repeat' split
  all_goals simp
@[simp] theorem reserveHoldup_base (p : ReservePub) (s : State) : (reserveHoldup p s).base = s.base := by
  simp only [reserveHoldup]; repeat' split
  all_goals simp
@[simp] theorem sampleBudget_base (s : State) : (sampleBudget s).base = s.base := by
  simp only [sampleBudget, recompute_base, recomputeCapacity_base]
  exact foldl_keeps State.base _ (fun s k => reclassifyPsu_base k s) _ _

/-! ### Events -/

@[simp] theorem deliverReserve_base (p : ReservePub) (s : State) : (deliverReserve p s).base = s.base := by
  simp only [deliverReserve, sequencerReserve, reserveHoldup_base, regulatorReserve_base]; split <;> simp
@[simp] theorem reservePublication_base (s : State) : (reservePublication s).base = s.base := by
  simp only [reservePublication]
  rw [foldl_keeps State.base _ (fun s p => deliverReserve_base p s)]; simp
@[simp] theorem headReport_base (s : State) : (headReport s).base = s.base := by
  simp only [headReport]
  rw [foldl_keeps State.base _ (fun s r => regulatorHead_base r s)]; simp

end Sys2Proof.Machine
end

