-- ==== Sys2Proof/Laws/Outer.lean ====
section
/-! SUPPORT. What no command but the power, reset and input ones moves: the phase, the kind of the last reset, the pins and the
queue of waiting commands; the clock moves with the sample intervals alone. -/

namespace Sys2Proof.Machine

/-- The pieces of state that only power, resets, sample intervals and inputs move. -/
structure Outer where
  phase : Phase
  lastReset : ResetKind
  pins : Pins
  clock : Nat
  pending : List Instr

def State.outer (s : State) : Outer := ⟨s.phase, s.lastReset, s.pins, s.clock, s.pending⟩

theorem outer_of_base {s t : State} (h : t.base = s.base) : t.outer = s.outer := by
  simp only [State.outer, base_phase h, base_lastReset h, base_pins h, base_clock h, base_pending h]

theorem outer_phase {s t : State} (h : t.outer = s.outer) : t.phase = s.phase := congrArg Outer.phase h
theorem outer_lastReset {s t : State} (h : t.outer = s.outer) : t.lastReset = s.lastReset := congrArg Outer.lastReset h
theorem outer_pins {s t : State} (h : t.outer = s.outer) : t.pins = s.pins := congrArg Outer.pins h
theorem outer_clock {s t : State} (h : t.outer = s.outer) : t.clock = s.clock := congrArg Outer.clock h
theorem outer_pending {s t : State} (h : t.outer = s.outer) : t.pending = s.pending := congrArg Outer.pending h

/-! ### Operations that leave the base alone -/

@[simp] theorem setBudget_outer (s : State) (x : Budget) :
    (s.setBudget x).outer = s.outer := outer_of_base (setBudget_base s x)
@[simp] theorem setCharge_outer (s : State) (x : Charge) :
    (s.setCharge x).outer = s.outer := outer_of_base (setCharge_base s x)
@[simp] theorem setHoldup_outer (s : State) (x : Holdup) :
    (s.setHoldup x).outer = s.outer := outer_of_base (setHoldup_base s x)
@[simp] theorem setRecharge_outer (s : State) (x : Recharge) :
    (s.setRecharge x).outer = s.outer := outer_of_base (setRecharge_base s x)
@[simp] theorem setSeq_outer (s : State) (x : Sequencer) :
    (s.setSeq x).outer = s.outer := outer_of_base (setSeq_base s x)
@[simp] theorem setLine_outer (s : State) (x : Line) :
    (s.setLine x).outer = s.outer := outer_of_base (setLine_base s x)
@[simp] theorem setCauses_outer (s : State) (x : Causes) :
    (s.setCauses x).outer = s.outer := outer_of_base (setCauses_base s x)
@[simp] theorem setLink_outer (s : State) (x : Link) :
    (s.setLink x).outer = s.outer := outer_of_base (setLink_base s x)
@[simp] theorem setPsu_outer (s : State) (k : PsuId) (x : Psu) :
    (s.setPsu k x).outer = s.outer := outer_of_base (setPsu_base s k x)
@[simp] theorem setBbu_outer (s : State) (i : BbuId) (x : Bbu) :
    (s.setBbu i x).outer = s.outer := outer_of_base (setBbu_base s i x)
@[simp] theorem setSlot_outer (s : State) (n : SlotId) (x : Slot) :
    (s.setSlot n x).outer = s.outer := outer_of_base (setSlot_base s n x)
@[simp] theorem setCause_outer (s : State) (c : CauseId) (x : Cause) :
    (s.setCause c x).outer = s.outer := outer_of_base (setCause_base s c x)
@[simp] theorem beginNotice_outer (c : CauseId) (rest : List CauseId) (s : State) :
    (s.beginNotice c rest).outer = s.outer := outer_of_base (beginNotice_base c rest s)
@[simp] theorem serveTransmitter_outer (s : State) :
    (serveTransmitter s).outer = s.outer := outer_of_base (serveTransmitter_base s)
@[simp] theorem judgeAlert_outer (s : State) :
    (judgeAlert s).outer = s.outer := outer_of_base (judgeAlert_base s)
@[simp] theorem reportCondition_outer (c : CauseId) (a : Bool) (s : State) :
    (reportCondition c a s).outer = s.outer := outer_of_base (reportCondition_base c a s)
@[simp] theorem joinOutbox_outer (c : CauseId) (s : State) :
    (joinOutbox c s).outer = s.outer := outer_of_base (joinOutbox_base c s)
@[simp] theorem raise_outer (c : CauseId) (v : Int) (k : Byte) (s : State) :
    (raise c v k s).outer = s.outer := outer_of_base (raise_base c v k s)
@[simp] theorem pushReply_outer (r : Reply) (s : State) :
    (pushReply r s).outer = s.outer := outer_of_base (pushReply_base r s)
@[simp] theorem offerFrame_outer (f : Frame) (s : State) :
    (offerFrame f s).outer = s.outer := outer_of_base (offerFrame_base f s)
@[simp] theorem driveBbu_outer (i : BbuId) (s : State) :
    (driveBbu i s).outer = s.outer := outer_of_base (driveBbu_base i s)
@[simp] theorem driveBbus_outer (s : State) :
    (driveBbus s).outer = s.outer := outer_of_base (driveBbus_base s)
@[simp] theorem reshare_outer (s : State) :
    (reshare s).outer = s.outer := outer_of_base (reshare_base s)
@[simp] theorem enterPaused_outer (v : Int) (k : Byte) (s : State) :
    (enterPaused v k s).outer = s.outer := outer_of_base (enterPaused_base v k s)
@[simp] theorem enterGrace_outer (v : Int) (k : Byte) (s : State) :
    (enterGrace v k s).outer = s.outer := outer_of_base (enterGrace_base v k s)
@[simp] theorem endDeficit_outer (s : State) :
    (endDeficit s).outer = s.outer := outer_of_base (endDeficit_base s)
@[simp] theorem leaveDeficit_outer (s : State) :
    (leaveDeficit s).outer = s.outer := outer_of_base (leaveDeficit_base s)
@[simp] theorem judgeDeficit_outer (s : State) :
    (judgeDeficit s).outer = s.outer := outer_of_base (judgeDeficit_base s)
@[simp] theorem recomputeCapacity_outer (s : State) :
    (recomputeCapacity s).outer = s.outer := outer_of_base (recomputeCapacity_base s)
@[simp] theorem settleHeadroom_outer (s : State) :
    (settleHeadroom s).outer = s.outer := outer_of_base (settleHeadroom_base s)
@[simp] theorem instructRegulator_outer (s : State) :
    (instructRegulator s).outer = s.outer := outer_of_base (instructRegulator_base s)
@[simp] theorem recompute_outer (s : State) :
    (recompute s).outer = s.outer := outer_of_base (recompute_base s)
@[simp] theorem reclassifyPsu_outer (k : PsuId) (s : State) :
    (reclassifyPsu k s).outer = s.outer := outer_of_base (reclassifyPsu_base k s)
@[simp] theorem lineWatch_outer (s : State) :
    (lineWatch s).outer = s.outer := outer_of_base (lineWatch_base s)
@[simp] theorem moveSlot_outer (n : SlotId) (st : SlotState) (u : Slot → Slot) (s : State) :
    (moveSlot n st u s).outer = s.outer := outer_of_base (moveSlot_base n st u s)
@[simp] theorem shiftSlot_outer (n : SlotId) (st : SlotState) (u : Slot → Slot) (s : State) :
    (shiftSlot n st u s).outer = s.outer := outer_of_base (shiftSlot_base n st u s)
@[simp] theorem joinQueue_outer (n : SlotId) (s : State) :
    (joinQueue n s).outer = s.outer := outer_of_base (joinQueue_base n s)
@[simp] theorem leaveQueue_outer (n : SlotId) (s : State) :
    (leaveQueue n s).outer = s.outer := outer_of_base (leaveQueue_base n s)
@[simp] theorem enterQueue_outer (n : SlotId) (s : State) :
    (enterQueue n s).outer = s.outer := outer_of_base (enterQueue_base n s)
@[simp] theorem grant_outer (n : SlotId) (s : State) :
    (grant n s).outer = s.outer := outer_of_base (grant_base n s)
@[simp] theorem sendReport_outer (s : State) : (sendReport s).outer = s.outer := outer_of_base (sendReport_base s)
@[simp] theorem grantCheck_outer (s : State) :
    (grantCheck s).outer = s.outer := outer_of_base (grantCheck_base s)
@[simp] theorem reportHead_outer (s : State) :
    (reportHead s).outer = s.outer := outer_of_base (reportHead_base s)
@[simp] theorem seqEvent_outer (s : State) :
    (seqEvent s).outer = s.outer := outer_of_base (seqEvent_base s)
@[simp] theorem restoreSlot_outer (n : SlotId) (s : State) :
    (restoreSlot n s).outer = s.outer := outer_of_base (restoreSlot_base n s)
@[simp] theorem handOver_outer (n : SlotId) (s : State) :
    (handOver n s).outer = s.outer := outer_of_base (handOver_base n s)
@[simp] theorem completeDrain_outer (n : SlotId) (s : State) :
    (completeDrain n s).outer = s.outer := outer_of_base (completeDrain_base n s)
@[simp] theorem settleDrain_outer (n : SlotId) (s : State) :
    (settleDrain n s).outer = s.outer := outer_of_base (settleDrain_base n s)
@[simp] theorem enterDraining_outer (n : SlotId) (s : State) :
    (enterDraining n s).outer = s.outer := outer_of_base (enterDraining_base n s)
@[simp] theorem unpowerSlot_outer (n : SlotId) (r : ShedReason) (s : State) :
    (unpowerSlot n r s).outer = s.outer := outer_of_base (unpowerSlot_base n r s)
@[simp] theorem seqEventIf_outer (c : Bool) (s : State) :
    (seqEventIf c s).outer = s.outer := outer_of_base (seqEventIf_base c s)
@[simp] theorem handOverFor_outer (n : SlotId) (r : ShedReason) (s : State) :
    (handOverFor n r s).outer = s.outer := outer_of_base (handOverFor_base n r s)
@[simp] theorem shedUnpowered_outer (n : SlotId) (r : ShedReason) (s : State) :
    (shedUnpowered n r s).outer = s.outer := outer_of_base (shedUnpowered_base n r s)
@[simp] theorem shedSoak_outer (n : SlotId) (r : ShedReason) (u : Urgency) (s : State) :
    (shedSoak n r u s).outer = s.outer := outer_of_base (shedSoak_base n r u s)
@[simp] theorem shedOn_outer (n : SlotId) (r : ShedReason) (u : Urgency) (s : State) :
    (shedOn n r u s).outer = s.outer := outer_of_base (shedOn_base n r u s)
@[simp] theorem escalate_outer (n : SlotId) (u : Urgency) (s : State) :
    (escalate n u s).outer = s.outer := outer_of_base (escalate_base n u s)
@[simp] theorem shedInFlight_outer (n : SlotId) (r : ShedReason) (u : Urgency) (s : State) :
    (shedInFlight n r u s).outer = s.outer := outer_of_base (shedInFlight_base n r u s)
@[simp] theorem shedSlot_outer (n : SlotId) (r : ShedReason) (u : Urgency) (s : State) :
    (shedSlot n r u s).outer = s.outer := outer_of_base (shedSlot_base n r u s)
@[simp] theorem withdrawSlot_outer (n : SlotId) (s : State) :
    (withdrawSlot n s).outer = s.outer := outer_of_base (withdrawSlot_base n s)
@[simp] theorem shedClass_outer (r : ShedReason) (k : Nat) (u : Urgency) (s : State) :
    (shedClass r k u s).outer = s.outer := outer_of_base (shedClass_base r k u s)
@[simp] theorem shedAll_outer (s : State) :
    (shedAll s).outer = s.outer := outer_of_base (shedAll_base s)
@[simp] theorem shedZone_outer (z : ZoneId) (s : State) :
    (shedZone z s).outer = s.outer := outer_of_base (shedZone_base z s)
@[simp] theorem lockZone_outer (z : ZoneId) (s : State) :
    (lockZone z s).outer = s.outer := outer_of_base (lockZone_base z s)
@[simp] theorem faultSlot_outer (n : SlotId) (k : Byte) (s : State) :
    (faultSlot n k s).outer = s.outer := outer_of_base (faultSlot_base n k s)
@[simp] theorem holdSlot_outer (n : SlotId) (l : Nat) (s : State) :
    (holdSlot n l s).outer = s.outer := outer_of_base (holdSlot_base n l s)
@[simp] theorem judgeHold_outer (a : Bool) (n : SlotId) (s : State) :
    (judgeHold a n s).outer = s.outer := outer_of_base (judgeHold_base a n s)
@[simp] theorem reportBbu_outer (i : BbuId) (s : State) :
    (reportBbu i s).outer = s.outer := outer_of_base (reportBbu_base i s)
@[simp] theorem moveBbu_outer (i : BbuId) (st : BbuState) (s : State) :
    (moveBbu i st s).outer = s.outer := outer_of_base (moveBbu_base i st s)
@[simp] theorem changeBbu_outer (i : BbuId) (st : BbuState) (s : State) :
    (changeBbu i st s).outer = s.outer := outer_of_base (changeBbu_base i st s)
@[simp] theorem setTargetInhibit_outer (on : Bool) (s : State) :
    (setTargetInhibit on s).outer = s.outer := outer_of_base (setTargetInhibit_base on s)
@[simp] theorem listMatch_outer (p : Nat) (s : State) :
    (listMatch p s).outer = s.outer := outer_of_base (listMatch_base p s)
@[simp] theorem targetAction_outer (e : TargetEntry) (s : State) :
    (targetAction e s).outer = s.outer := outer_of_base (targetAction_base e s)
@[simp] theorem matchEntry_outer (e : TargetEntry) (s : State) :
    (matchEntry e s).outer = s.outer := outer_of_base (matchEntry_base e s)
@[simp] theorem compareFrom_outer (fuel : Nat) (s : State) :
    (compareFrom fuel s).outer = s.outer := outer_of_base (compareFrom_base fuel s)
@[simp] theorem compareTargets_outer (s : State) :
    (compareTargets s).outer = s.outer := outer_of_base (compareTargets_base s)
@[simp] theorem armTable_outer (s : State) :
    (armTable s).outer = s.outer := outer_of_base (armTable_base s)
@[simp] theorem disarmTable_outer (s : State) :
    (disarmTable s).outer = s.outer := outer_of_base (disarmTable_base s)
@[simp] theorem armOnBridge_outer (s : State) :
    (armOnBridge s).outer = s.outer := outer_of_base (armOnBridge_base s)
@[simp] theorem haltTable_outer (s : State) :
    (haltTable s).outer = s.outer := outer_of_base (haltTable_base s)
@[simp] theorem judgeRange_outer (old new : Vector Bool 8) (t : Nat) (k : RangeId) (s : State) :
    (judgeRange old new t k s).outer = s.outer := outer_of_base (judgeRange_base old new t k s)
@[simp] theorem recomputeBand_outer (s : State) :
    (recomputeBand s).outer = s.outer := outer_of_base (recomputeBand_base s)
@[simp] theorem publishReserve_outer (s : State) :
    (publishReserve s).outer = s.outer := outer_of_base (publishReserve_base s)
@[simp] theorem recomputeReserve_outer (s : State) :
    (recomputeReserve s).outer = s.outer := outer_of_base (recomputeReserve_base s)
@[simp] theorem abortTest_outer (r : TestResult) (st : BbuId → State → BbuState) (s : State) :
    (abortTest r st s).outer = s.outer := outer_of_base (abortTest_base r st s)
@[simp] theorem failBbu_outer (i : BbuId) (st : BbuState) (s : State) :
    (failBbu i st s).outer = s.outer := outer_of_base (failBbu_base i st s)
@[simp] theorem shiftBbu_outer (f : BbuState → Bool) (st : BbuState) (i : BbuId) (s : State) :
    (shiftBbu f st i s).outer = s.outer := outer_of_base (shiftBbu_base f st i s)
@[simp] theorem shiftBbus_outer (f : BbuState → Bool) (st : BbuState) (s : State) :
    (shiftBbus f st s).outer = s.outer := outer_of_base (shiftBbus_base f st s)
@[simp] theorem depleteAll_outer (s : State) :
    (depleteAll s).outer = s.outer := outer_of_base (depleteAll_base s)
@[simp] theorem refillDepleted_outer (s : State) :
    (refillDepleted s).outer = s.outer := outer_of_base (refillDepleted_base s)
@[simp] theorem abortTestForAc_outer (s : State) :
    (abortTestForAc s).outer = s.outer := outer_of_base (abortTestForAc_base s)
@[simp] theorem refreshBbu_outer (i : BbuId) (s : State) :
    (refreshBbu i s).outer = s.outer := outer_of_base (refreshBbu_base i s)
@[simp] theorem integrateBbu_outer (i : BbuId) (s : State) :
    (integrateBbu i s).1.outer = s.outer := outer_of_base (integrateBbu_base i s)
@[simp] theorem anchorBbu_outer (i : BbuId) (s : State) :
    (anchorBbu i s).outer = s.outer := outer_of_base (anchorBbu_base i s)
@[simp] theorem judgeCharging_outer (i : BbuId) (s : State) :
    (judgeCharging i s).outer = s.outer := outer_of_base (judgeCharging_base i s)
@[simp] theorem raiseBottomed_outer (i : BbuId) (s : State) :
    (raiseBottomed i s).outer = s.outer := outer_of_base (raiseBottomed_base i s)
@[simp] theorem recomputeIfSet_outer (b : Nat) (s : State) :
    (recomputeIfSet b s).outer = s.outer := outer_of_base (recomputeIfSet_base b s)
@[simp] theorem regulatorOff_outer (s : State) :
    (regulatorOff s).outer = s.outer := outer_of_base (regulatorOff_base s)
@[simp] theorem enterCruise_outer (x : Nat) (s : State) :
    (enterCruise x s).outer = s.outer := outer_of_base (enterCruise_base x s)
@[simp] theorem enterThermal_outer (s : State) :
    (enterThermal s).outer = s.outer := outer_of_base (enterThermal_base s)
@[simp] theorem pauseRegulator_outer (k : Byte) (s : State) :
    (pauseRegulator k s).outer = s.outer := outer_of_base (pauseRegulator_base k s)
@[simp] theorem startRegulator_outer (s : State) :
    (startRegulator s).outer = s.outer := outer_of_base (startRegulator_base s)
@[simp] theorem formSet_outer (s : State) :
    (formSet s).outer = s.outer := outer_of_base (formSet_base s)
@[simp] theorem restartIfRoom_outer (s : State) :
    (restartIfRoom s).outer = s.outer := outer_of_base (restartIfRoom_base s)
@[simp] theorem tryYield_outer (s : State) :
    (tryYield s).outer = s.outer := outer_of_base (tryYield_base s)
@[simp] theorem refreshRecharge_outer (s : State) :
    (refreshRecharge s).outer = s.outer := outer_of_base (refreshRecharge_base s)
@[simp] theorem sampleRegulator_outer (s : State) :
    (sampleRegulator s).outer = s.outer := outer_of_base (sampleRegulator_base s)
@[simp] theorem regulatorHeadroom_outer (h : Int) (s : State) :
    (regulatorHeadroom h s).outer = s.outer := outer_of_base (regulatorHeadroom_base h s)
@[simp] theorem regulatorReserve_outer (p : ReservePub) (s : State) :
    (regulatorReserve p s).outer = s.outer := outer_of_base (regulatorReserve_base p s)
@[simp] theorem regulatorHead_outer (r : Option Nat) (s : State) :
    (regulatorHead r s).outer = s.outer := outer_of_base (regulatorHead_base r s)
@[simp] theorem stepRegulator_outer (s : State) :
    (stepRegulator s).outer = s.outer := outer_of_base (stepRegulator_base s)
@[simp] theorem offerRecord_outer (t : Trigger) (s : State) :
    (offerRecord t s).outer = s.outer := outer_of_base (offerRecord_base t s)
@[simp] theorem closeRecord_outer (w : EndReason) (s : State) :
    (closeRecord w s).outer = s.outer := outer_of_base (closeRecord_base w s)
@[simp] theorem followRecord_outer (s : State) :
    (followRecord s).outer = s.outer := outer_of_base (followRecord_base s)
@[simp] theorem moveHoldup_outer (st : HoldupState) (s : State) :
    (moveHoldup st s).outer = s.outer := outer_of_base (moveHoldup_base st s)
@[simp] theorem enterBlackout_outer (s : State) :
    (enterBlackout s).outer = s.outer := outer_of_base (enterBlackout_base s)
@[simp] theorem judgeCounted_outer (s : State) :
    (judgeCounted s).outer = s.outer := outer_of_base (judgeCounted_base s)
@[simp] theorem openEvent_outer (t : Trigger) (s : State) :
    (openEvent t s).outer = s.outer := outer_of_base (openEvent_base t s)
@[simp] theorem enterReturn_outer (s : State) :
    (enterReturn s).outer = s.outer := outer_of_base (enterReturn_base s)
@[simp] theorem flicker_outer (s : State) :
    (flicker s).outer = s.outer := outer_of_base (flicker_base s)
@[simp] theorem withdrawSheds_outer (s : State) :
    (withdrawSheds s).outer = s.outer := outer_of_base (withdrawSheds_base s)
@[simp] theorem queueAtOnline_outer (s : State) :
    (queueAtOnline s).outer = s.outer := outer_of_base (queueAtOnline_base s)
@[simp] theorem disarmOnBridge_outer (s : State) :
    (disarmOnBridge s).outer = s.outer := outer_of_base (disarmOnBridge_base s)
@[simp] theorem enterOnline_outer (s : State) :
    (enterOnline s).outer = s.outer := outer_of_base (enterOnline_base s)
@[simp] theorem evaluateAc_outer (s : State) :
    (evaluateAc s).outer = s.outer := outer_of_base (evaluateAc_base s)
@[simp] theorem judgeAc_outer (s : State) :
    (judgeAc s).outer = s.outer := outer_of_base (judgeAc_base s)
@[simp] theorem judgeCollapse_outer (s : State) :
    (judgeCollapse s).outer = s.outer := outer_of_base (judgeCollapse_base s)
@[simp] theorem noteFirstSet_outer (s : State) :
    (noteFirstSet s).outer = s.outer := outer_of_base (noteFirstSet_base s)
@[simp] theorem sampleHoldup_outer (s : State) :
    (sampleHoldup s).outer = s.outer := outer_of_base (sampleHoldup_base s)
@[simp] theorem inputHoldup_outer (s : State) :
    (inputHoldup s).outer = s.outer := outer_of_base (inputHoldup_base s)
@[simp] theorem startDecision_outer (f : FirstSet) (s : State) :
    (startDecision f s).outer = s.outer := outer_of_base (startDecision_base f s)
@[simp] theorem reserveHoldup_outer (p : ReservePub) (s : State) :
    (reserveHoldup p s).outer = s.outer := outer_of_base (reserveHoldup_base p s)
@[simp] theorem sampleBudget_outer (s : State) :
    (sampleBudget s).outer = s.outer := outer_of_base (sampleBudget_base s)
@[simp] theorem deliverReserve_outer (p : ReservePub) (s : State) :
    (deliverReserve p s).outer = s.outer := outer_of_base (deliverReserve_base p s)
@[simp] theorem reservePublication_outer (s : State) :
    (reservePublication s).outer = s.outer := outer_of_base (reservePublication_base s)
@[simp] theorem headReport_outer (s : State) :
    (headReport s).outer = s.outer := outer_of_base (headReport_base s)

/-! ### Operations that touch settings, points, zones or the store -/

@[simp] theorem setSettings_outer (s : State) (x : Settings) : (s.setSettings x).outer = s.outer := rfl
@[simp] theorem setSense_outer (s : State) (x : Sense) : (s.setSense x).outer = s.outer := rfl
@[simp] theorem setShed_outer (s : State) (x : Shed) : (s.setShed x).outer = s.outer := rfl
@[simp] theorem setLeak_outer (s : State) (x : Leak) : (s.setLeak x).outer = s.outer := rfl
@[simp] theorem setStore_outer (s : State) (x : Store) : (s.setStore x).outer = s.outer := rfl
@[simp] theorem setPoint_outer (s : State) (p : PointId) (x : Point) : (s.setPoint p x).outer = s.outer := rfl
@[simp] theorem setZone_outer (s : State) (z : ZoneId) (x : Zone) : (s.setZone z x).outer = s.outer := rfl
@[simp] theorem setBbuSettings_outer (s : State) (i : BbuId) (x : BbuSettings) :
    (s.setBbuSettings i x).outer = s.outer := rfl
@[simp] theorem spendFree_outer (s : State) : s.spendFree.outer = s.outer := rfl
@[simp] theorem adopt_outer (s : State) (x : Settings) : (s.adopt x).outer = s.outer := rfl

@[simp] theorem scanAnalog_outer (p : AnalogId) (c : BitVec 12) (s : State) : (scanAnalog p c s).outer = s.outer := by
  simp only [scanAnalog]; repeat' split
  all_goals simp
@[simp] theorem scanRope_outer (z : ZoneId) (c : BitVec 12) (s : State) : (scanRope z c s).outer = s.outer := by
  simp only [scanRope]; split <;> simp
@[simp] theorem publishSet_outer (s : State) : (publishSet s).outer = s.outer := rfl
@[simp] theorem scanSet_outer (codes : Vector (BitVec 12) 29) (s : State) : (scanSet codes s).outer = s.outer := by
  simp only [scanSet, publishSet_outer]
  rw [foldl_keeps State.outer _ (fun s z => scanRope_outer z _ s),
    foldl_keeps State.outer _ (fun s p => scanAnalog_outer p _ s)]

@[simp] theorem completeTest_outer (i : BbuId) (s : State) : (completeTest i s).outer = s.outer := by
  simp [completeTest]
@[simp] theorem judgeBbu_outer (i : BbuId) (s : State) : (judgeBbu i s).outer = s.outer := by
  simp only [judgeBbu]; repeat' split
  all_goals simp
@[simp] theorem sampleBbu_outer (fresh : Bool) (i : BbuId) (s : State) : (sampleBbu fresh i s).outer = s.outer := by
  simp only [sampleBbu]; repeat' split
  all_goals simp
@[simp] theorem sampleCharge_outer (fresh : Bool) (s : State) : (sampleCharge fresh s).outer = s.outer := by
  simp only [sampleCharge, recomputeReserve_outer]
  exact foldl_keeps State.outer _ (fun s i => sampleBbu_outer fresh i s) _ _

@[simp] theorem moveZone_outer (z : ZoneId) (x : Zone) (s : State) : (moveZone z x s).outer = s.outer := by
  simp [moveZone]
@[simp] theorem spendRope_outer (z : ZoneId) (s : State) : (spendRope z s).outer = s.outer := by
  unfold spendRope; split <;> simp
@[simp] theorem enterWet_outer (z : ZoneId) (how : Confirmation) (s : State) : (enterWet z how s).outer = s.outer := by
  simp only [enterWet]; split <;> simp
@[simp] theorem fallBack_outer (z : ZoneId) (s : State) : (fallBack z s).outer = s.outer := by
  simp only [fallBack]; split <;> simp
@[simp] theorem judgeZone_outer (z : ZoneId) (how : Confirmation) (s : State) : (judgeZone z how s).outer = s.outer := by
  unfold judgeZone; split <;> simp
@[simp] theorem countRope_outer (z : ZoneId) (wet : Bool) (s : State) : (countRope z wet s).outer = s.outer := by
  simp only [countRope]; repeat' split
  all_goals simp
@[simp] theorem countTray_outer (z : ZoneId) (a : Bool) (s : State) : (countTray z a s).outer = s.outer := by
  simp only [countTray]; repeat' split
  all_goals simp
@[simp] theorem judgeRope_outer (z : ZoneId) (old : RopeClass) (s : State) : (judgeRope z old s).outer = s.outer := by
  simp only [judgeRope]; repeat' split
  all_goals simp
@[simp] theorem sampleZone_outer (z : ZoneId) (s : State) : (sampleZone z s).outer = s.outer := by
  simp only [sampleZone]; repeat' split
  all_goals simp
@[simp] theorem sampleLeak_outer (s : State) : (sampleLeak s).outer = s.outer :=
  foldl_keeps State.outer _ (fun s z => sampleZone_outer z s) _ _
@[simp] theorem cycleZone_outer (z : ZoneId) (r h : Bool) (s : State) : (cycleZone z r h s).outer = s.outer := by
  simp only [cycleZone]; repeat' split
  all_goals simp
@[simp] theorem cycleLeak_outer (s : State) : (cycleLeak s).outer = s.outer := by
  unfold cycleLeak
  exact foldl_keeps State.outer _ (fun s z => cycleZone_outer z _ _ s) _ _

/-! ### Status line -/

@[simp] theorem closeCycle_outer (c : CycleSamples) (s : State) : (closeCycle c s).outer = s.outer := rfl
@[simp] theorem reportLine_outer (old : LineState) (s : State) : (reportLine old s).outer = s.outer := by
  unfold reportLine; split <;> simp
@[simp] theorem reportAttention_outer (old : BitVec 24) (n : SlotId) (s : State) :
    (reportAttention old n s).outer = s.outer := by
  simp only [reportAttention]; split <;> simp
@[simp] theorem cycleHolds_outer (s : State) : (cycleHolds s).outer = s.outer :=
  foldl_keeps State.outer _ (fun s n => judgeHold_outer _ n s) _ _
@[simp] theorem endCycle_outer (c : CycleSamples) (s : State) : (endCycle c s).outer = s.outer := by
  simp only [endCycle, lineWatch_outer, cycleLeak_outer, cycleHolds_outer]
  rw [foldl_keeps State.outer _ (fun s n => reportAttention_outer _ n s)]; simp
@[simp] theorem beginCycle_outer (byTray : Bool) (s : State) : (beginCycle byTray s).outer = s.outer := rfl
@[simp] theorem driveSlotFrames_outer (n : SlotId) (phase : LinePhase) (s : State) :
    (driveSlotFrames n phase s).outer = s.outer := rfl
@[simp] theorem judgeMode_outer (s : State) : (judgeMode s).outer = s.outer := by
  unfold judgeMode; split <;> rfl

/-! ### Requests -/

/-- An accepted request leaves the outer state as it was. -/
def Judged.keepsOuter (j : Judged) (s : State) : Prop := ∀ t ack, j = .ok (t, ack) → t.outer = s.outer

theorem keepsOuter_error (s : State) (c : RefusalCode) : Judged.keepsOuter (.error c) s := by intro t a h; cases h
theorem keepsOuter_ok {s t : State} {a : Ack} (h : t.outer = s.outer) : Judged.keepsOuter (.ok (t, a)) s := by
  intro u b e; cases e; exact h
theorem keepsOuter_demand {s : State} {ok : Bool} {c : RefusalCode} {j : Judged} (h : Judged.keepsOuter j s) :
    Judged.keepsOuter (demand ok c j) s := by
  unfold demand; split
  · exact h
  · exact keepsOuter_error s c
theorem keepsOuter_withId {α : Type} {s : State} {id : Option α} {run : α → Judged}
    (h : ∀ x, Judged.keepsOuter (run x) s) : Judged.keepsOuter (withId id run) s := by
  unfold withId; split
  · exact keepsOuter_error s _
  · exact h _
theorem keepsOuter_bulk (size largest : Nat) (first count : Byte) (report : Nat → Nat → Ack) (s : State) :
    Judged.keepsOuter (bulk size largest first count report s) s := by
  unfold bulk; split
  · exact keepsOuter_error s _
  · exact keepsOuter_ok rfl
theorem keepsOuter_takeSettings {new : Settings} {effect : State → State} {ack : State → Ack} {s : State}
    (h : ∀ u, (effect u).outer = u.outer) : Judged.keepsOuter (takeSettings new effect ack s) s :=
  keepsOuter_demand (keepsOuter_ok (by rw [h]; rfl))

@[simp] theorem limitTaken_outer (p : AnalogId) (s : State) : (limitTaken p s).outer = s.outer := by simp [limitTaken]
@[simp] theorem chargeTaken_outer (i : BbuId) (s : State) : (chargeTaken i s).outer = s.outer := by simp [chargeTaken]
@[simp] theorem rechargeTaken_outer (s : State) : (rechargeTaken s).outer = s.outer := by
  simp only [rechargeTaken]; split <;> simp
@[simp] theorem disableSlot_outer (n : SlotId) (s : State) : (disableSlot n s).outer = s.outer := by
  simp only [disableSlot]; split <;> simp
@[simp] theorem criticalTaken_outer (n : SlotId) (s : State) : (criticalTaken n s).outer = s.outer := by
  simp only [criticalTaken]; split <;> simp
@[simp] theorem zoneTaken_outer (z : ZoneId) (old : ZoneSettings) (s : State) : (zoneTaken z old s).outer = s.outer := by
  simp only [zoneTaken]; split <;> simp
@[simp] theorem takeMaskEntry_outer (e : CauseId × MaskSettings) (s : State) : (takeMaskEntry e s).outer = s.outer := by
  simp only [takeMaskEntry]; repeat' split
  all_goals simp

end Sys2Proof.Machine
end

