-- ==== Sys2Proof/Laws/Ops.lean ====
section
/-! SUPPORT. What each shared operation with a choice in it can do, said once: the branches with the conditions they stand
under. A proof takes the branches apart by these and does not unfold the operation. -/

namespace Sys2Proof.Machine

/-! ### Transmitter and replies -/

/-- R161. -/
theorem serveTransmitter_cases (s : State) :
    (serveTransmitter s = s ∧ s.link.tx.isSome = true) ∨
    (∃ r rs, s.link.tx = none ∧ s.link.replies = r :: rs ∧
      serveTransmitter s = s.setLink { s.link with tx := some (.reply r), replies := rs }) ∨
    (∃ c cs, s.link.tx = none ∧ s.link.replies = [] ∧ s.causes.hold = false ∧ s.causes.outbox = c :: cs ∧
      serveTransmitter s = s.beginNotice c cs) ∨
    (serveTransmitter s = s ∧ s.link.tx = none ∧ s.link.replies = [] ∧
      (s.causes.hold = true ∨ s.causes.outbox = [])) := by
  unfold serveTransmitter
  split
  · rename_i h; exact .inl ⟨rfl, by simp [h]⟩
  · rename_i htx
    split
    · rename_i r rs h; exact .inr (.inl ⟨r, rs, htx, h, rfl⟩)
    · rename_i hr
      split
      · rename_i hh; exact .inr (.inr (.inr ⟨rfl, htx, hr, .inl hh⟩))
      · rename_i hh
        split
        · rename_i c cs h; exact .inr (.inr (.inl ⟨c, cs, htx, hr, by simpa using hh, h, rfl⟩))
        · rename_i h; exact .inr (.inr (.inr ⟨rfl, htx, hr, .inr h⟩))

/-- R168, R169: the reply of an execution is an ACK that leaves from the state the request reached, or a refusal that leaves
from the state it found. -/
theorem answer_cases (tag kind : Byte) (judged : Judged) (s : State) :
    (∃ t ack, judged = .ok (t, ack) ∧ answer tag kind judged s = pushReply (.ack tag kind ack) t) ∨
    (∃ code, judged = .error code ∧ answer tag kind judged s = pushReply (.refused tag code kind) s) := by
  cases judged with
  | ok r => exact .inl ⟨r.1, r.2, rfl, rfl⟩
  | error code => exact .inr ⟨code, rfl, rfl⟩

/-- R167: a good frame is queued, answered BUSY or dropped. -/
theorem offerFrame_cases (f : Frame) (s : State) :
    (s.link.queue.length < 4 ∧ offerFrame f s = s.setLink { s.link with queue := s.link.queue ++ [f] }) ∨
    (4 ≤ s.link.queue.length ∧ s.busyWaiting < 4 ∧
      offerFrame f s = pushReply (.refused f.tag .busy f.kind) s) ∨
    (4 ≤ s.link.queue.length ∧ 4 ≤ s.busyWaiting ∧ offerFrame f s = s) := by
  unfold offerFrame
  split
  · exact .inl ⟨‹_›, rfl⟩
  · split
    · exact .inr (.inl ⟨by omega, ‹_›, rfl⟩)
    · exact .inr (.inr ⟨by omega, by omega, rfl⟩)

/-- R168: the head leaves the queue and is executed, or nothing happens. -/
theorem executeHead_cases (s : State) :
    (executeHead s = s ∧ (s.canExecute = false ∨ s.link.queue = [])) ∨
    (∃ f fs, s.canExecute = true ∧ s.link.queue = f :: fs ∧
      executeHead s =
        answer f.tag f.kind (judgeFrame f (s.setLink { s.link with queue := fs }))
          (s.setLink { s.link with queue := fs })) := by
  unfold executeHead
  split
  · rename_i hc
    split
    · rename_i h; exact .inl ⟨rfl, .inr h⟩
    · rename_i f fs h; exact .inr ⟨f, fs, hc, h, rfl⟩
  · rename_i hc; exact .inl ⟨rfl, .inl (by simpa using hc)⟩

/-! ### Causes -/

/-- R156. -/
theorem reportCondition_cases (c : CauseId) (active : Bool) (s : State) :
    (s.causes.recs[c].condition = active ∧ reportCondition c active s = s) ∨
    (s.causes.recs[c].condition ≠ active ∧
      reportCondition c active s = judgeAlert (s.setCause c { s.causes.recs[c] with condition := active })) := by
  unfold reportCondition
  split
  · exact .inl ⟨‹_›, rfl⟩
  · exact .inr ⟨‹_›, rfl⟩

/-- R157: the outbox gains the cause at its tail, or keeps what it has. -/
theorem joinOutbox_cases (c : CauseId) (s : State) :
    (joinOutbox c s = s ∧ (s.settings.masks[c].mask = true ∨ c ∈ s.causes.outbox)) ∨
    (s.settings.masks[c].mask = false ∧ c ∉ s.causes.outbox ∧
      joinOutbox c s = s.setCauses { s.causes with outbox := s.causes.outbox ++ [c] }) := by
  unfold joinOutbox
  split
  · rename_i h; exact .inl ⟨rfl, by simpa using h⟩
  · rename_i h
    simp only [Bool.or_eq_true, not_or, Bool.not_eq_true, List.contains_eq_mem, decide_eq_false_iff_not] at h
    exact .inr ⟨h.1, h.2, rfl⟩

/-! ### Headroom -/

/-- R27, R88. -/
theorem instructRegulator_cases (s : State) :
    (instructRegulator s = s ∧ (0 ≤ s.headroomNow ∨ chargePower s.recharge.iSet s.busV = 0)) ∨
    (s.headroomNow < 0 ∧ 0 < chargePower s.recharge.iSet s.busV ∧
      instructRegulator s = enterPaused s.budget.h codeNegativeH s) := by
  unfold instructRegulator
  split
  · rename_i h; exact .inr ⟨h.1, h.2, rfl⟩
  · exact .inl ⟨rfl, by omega⟩

/-- R26 to R29: a recompute is the pair alone outside ONLINE; under ONLINE the instruction comes first and the deficit state
last. -/
theorem recompute_cases (s : State) :
    (s.online = false ∧ recompute s = settleHeadroom s) ∨
    (s.online = true ∧ recompute s = judgeDeficit (settleHeadroom (instructRegulator s))) := by
  unfold recompute
  split
  · exact .inr ⟨‹_›, rfl⟩
  · rename_i h; exact .inl ⟨by simpa using h, rfl⟩

/-- R28, R29, R32: what a recompute under ONLINE makes of the deficit state. -/
theorem judgeDeficit_cases (s : State) :
    judgeDeficit s = s ∨
    (s.budget.deficit = .idle ∧ s.budget.h < 0 ∧ judgeDeficit s = enterGrace s.budget.h codeGraceStart s) ∨
    (s.budget.deficit = .covered ∧ s.budget.h < 0 ∧ s.budget.hp < 0 ∧
      judgeDeficit s = enterGrace s.budget.hp codeShortAgain s) ∨
    ((s.budget.deficit = .grace ∨ s.budget.deficit = .covered) ∧ 0 ≤ s.budget.h ∧ judgeDeficit s = endDeficit s) := by
  unfold judgeDeficit
  split
  · rename_i hd
    split
    · exact .inr (.inl ⟨hd, ‹_›, rfl⟩)
    · exact .inl rfl
  · rename_i hd
    split
    · exact .inr (.inr (.inr ⟨.inl hd, ‹_›, rfl⟩))
    · exact .inl rfl
  · exact .inl rfl
  · rename_i hd
    split
    · exact .inr (.inr (.inr ⟨.inr hd, ‹_›, rfl⟩))
    · split
      · exact .inr (.inr (.inl ⟨hd, by omega, ‹_›, rfl⟩))
      · exact .inl rfl

/-- R33: an answer is taken out; it is judged in SELECTING alone, and not when its selection is older than the last leaving of
ONLINE. -/
theorem takeAnswer_cases (s : State) :
    (takeAnswer s = s ∧ s.budget.answers = []) ∨
    (∃ a rest, s.budget.answers = a :: rest ∧
      ((takeAnswer s = s.setBudget { s.budget with answers := rest, stale := s.budget.stale - 1 } ∧
          (s.budget.stale ≠ 0 ∨ s.budget.deficit ≠ .selecting)) ∨
        (s.budget.stale = 0 ∧ s.budget.deficit = .selecting ∧
          takeAnswer s =
            judgeAnswer a.1 (recompute (s.setBudget { s.budget with answers := rest, stale := s.budget.stale - 1 }))))) := by
  unfold takeAnswer
  split
  · rename_i h; exact .inl ⟨rfl, h⟩
  · rename_i a rest h
    refine .inr ⟨a, rest, h, ?_⟩
    simp only []
    split
    · rename_i hc; exact .inr ⟨hc.1, by simpa using hc.2, rfl⟩
    · rename_i hc; exact .inl ⟨rfl, by simp only [State.setBudget_budget] at hc; tauto⟩

/-! ### Slots -/

/-- R97: entering QUEUED ends in QUEUED, or in LOCKED under a WET zone. -/
theorem enterQueue_cases (n : SlotId) (s : State) :
    (s.slotWet n = true ∧ enterQueue n s = moveSlot n .locked (fun x => { x with restore := false }) s) ∨
    (s.slotWet n = false ∧
      enterQueue n s = joinQueue n (moveSlot n .queued (fun x => { x with restore := false }) s)) := by
  unfold enterQueue
  split
  · exact .inl ⟨‹_›, rfl⟩
  · rename_i h; exact .inr ⟨by simpa using h, rfl⟩

/-- R100, R101: a grant check grants the head or does nothing. -/
theorem grantCheck_cases (s : State) :
    (grantCheck s = s ∧ ∀ n ∈ s.seq.queue.head?, s.grantsHead n = false) ∨
    (∃ n ns, s.seq.queue = n :: ns ∧ s.grantsHead n = true ∧ grantCheck s = sendReport (grant n s)) := by
  unfold grantCheck
  split
  · rename_i h; exact .inl ⟨rfl, by simp [h]⟩
  · rename_i n ns h
    split
    · exact .inr ⟨n, ns, h, ‹_›, rfl⟩
    · rename_i hg; exact .inl ⟨rfl, by simpa [h] using hg⟩

/-- R96, R102: a head report is sent when the head or its need differs from the last. -/
theorem reportHead_cases (s : State) :
    (s.headNow = s.seq.headSeen ∧ s.blockedHead = s.seq.lastReport ∧ reportHead s = s) ∨
    ((s.headNow ≠ s.seq.headSeen ∨ s.blockedHead ≠ s.seq.lastReport) ∧
      reportHead s = sendReport s) := by
  unfold reportHead
  split
  · rename_i h; exact .inl ⟨h.1, h.2, rfl⟩
  · rename_i h; exact .inr ⟨by tauto, rfl⟩

/-- R118: a drain completes at once with PG low, and runs with PG high. -/
theorem settleDrain_cases (n : SlotId) (s : State) :
    (s.seq.slots[n].pg = true ∧ settleDrain n s = recompute s) ∨
    (s.seq.slots[n].pg = false ∧ settleDrain n s = completeDrain n s) := by
  unfold settleDrain
  split
  · exact .inl ⟨‹_›, rfl⟩
  · rename_i h; exact .inr ⟨by simpa using h, rfl⟩

/-- R115: what a shed of a slot whose shed is in flight does. -/
theorem shedInFlight_cases (n : SlotId) (reason : ShedReason) (urgency : Urgency) (s : State) :
    shedInFlight n reason urgency s = s ∨
    (s.seq.slots[n].reason ≠ .leak ∧ s.seq.slots[n].urgency.level ≤ urgency.level ∧
      shedInFlight n reason urgency s =
        escalate n urgency (s.setSlot n { s.seq.slots[n] with reason := reason, urgency := urgency })) ∨
    (s.seq.slots[n].reason ≠ .leak ∧ urgency.level < s.seq.slots[n].urgency.level ∧ reason = .manager ∧
      shedInFlight n reason urgency s = s.setSlot n { s.seq.slots[n] with reason := .manager }) := by
  simp only [shedInFlight]
  split
  · exact .inl rfl
  · rename_i hl
    split
    · exact .inr (.inl ⟨hl, ‹_›, rfl⟩)
    · split
      · rename_i hm; exact .inr (.inr ⟨hl, by omega, hm.1, rfl⟩)
      · exact .inl rfl

/-! ### Charge accounting -/

/-- R42: a BBU's change of state. -/
theorem changeBbu_cases (i : BbuId) (st : BbuState) (s : State) :
    (s.charge.bbus[i].state = st ∧ changeBbu i st s = s) ∨
    (s.charge.bbus[i].state ≠ st ∧
      changeBbu i st s = raise (causeBbu i) s.charge.bbus[i].q (stateCode st.code) (moveBbu i st s)) := by
  unfold changeBbu
  split
  · exact .inl ⟨‹_›, rfl⟩
  · exact .inr ⟨‹_›, rfl⟩

/-- R47, R71: a BBU that is shifted takes its state and the reserve is reckoned anew. -/
theorem shiftBbu_cases (f : BbuState → Bool) (st : BbuState) (i : BbuId) (s : State) :
    (f s.charge.bbus[i].state = false ∧ shiftBbu f st i s = s) ∨
    (f s.charge.bbus[i].state = true ∧ shiftBbu f st i s = recomputeReserve (changeBbu i st s)) := by
  unfold shiftBbu
  split
  · exact .inr ⟨‹_›, rfl⟩
  · rename_i h; exact .inl ⟨by simpa using h, rfl⟩

/-- R50: only an armed table that has not halted is compared. -/
theorem compareTargets_cases (s : State) :
    (compareTargets s = s ∧ (s.charge.armed = false ∨ s.charge.halted = true)) ∨
    (s.charge.armed = true ∧ s.charge.halted = false ∧
      compareTargets s = compareFrom s.settings.targets.entries.length s) := by
  unfold compareTargets
  split
  · rename_i h
    simp only [Bool.and_eq_true, Bool.not_eq_true'] at h
    exact .inr ⟨h.1, h.2, rfl⟩
  · rename_i h; exact .inl ⟨rfl, by cases ha : s.charge.armed <;> cases hh : s.charge.halted <;> simp_all⟩

/-- R43, R44: an integration leaves Q and r in their bounds, with the full flag at Qfull. -/
theorem integrate_bounds (set : BbuSettings) (b : Bbu) (c : Int) (h : 1 ≤ set.qFull) :
    (integrate set b c).1.q ≤ set.qFull ∧ (integrate set b c).1.r ≤ 25599 ∧
      (integrate set b c).1.full = ((integrate set b c).1.q == set.qFull) := by
  simp only [integrate]
  generalize (b.q : Int) * 25600 + b.r + (if 0 < c then c * set.eta else c * 256) = a
  split
  · refine ⟨by simp, by simp, ?_⟩
    have hne : (0 : Nat) ≠ set.qFull := by omega
    simp [hne]
  · split
    · exact ⟨by simp, by simp, by simp⟩
    · have hne : (a / 25600).toNat ≠ set.qFull := by omega
      exact ⟨by simp only []; omega, by simp only []; omega, by simp [hne]⟩

/-! ### Regulator -/

/-- R90: a yield, or nothing. -/
theorem tryYield_cases (s : State) :
    tryYield s = s ∨
    (∃ need, s.recharge.lastHead = some need ∧ s.recharge.state = .cruise ∧ s.recharge.lastInhibit = false ∧
      s.settings.recharge.iFloor < s.recharge.iSet ∧
      tryYield s =
        recomputeIfSet s.recharge.iSet (reshare (s.setRecharge
          { s.recharge with iSet := s.yieldTo need, step := s.stepTime, yielded := true }))) := by
  unfold tryYield
  split
  · exact .inl rfl
  · rename_i need hn
    split
    · rename_i h; exact .inr ⟨need, hn, h.1, h.2.1, h.2.2, rfl⟩
    · exact .inl rfl

/-- R90: the yielded setpoint lies between I_floor and the setpoint in force. -/
theorem yieldTo_bounds (s : State) (need : Nat) (h : s.settings.recharge.iFloor ≤ s.recharge.iSet) :
    s.settings.recharge.iFloor ≤ s.yieldTo need ∧ s.yieldTo need ≤ s.recharge.iSet := by
  simp only [State.yieldTo]
  split
  · exact ⟨le_refl _, h⟩
  · exact ⟨by omega, by omega⟩

/-! ### Zones -/

/-- R150: a fallback leaves SUSPECT with both counters at 0, or does nothing. -/
theorem fallBack_cases (z : ZoneId) (s : State) :
    fallBack z s = s ∨
    (s.leak.zones[z].state = .suspect ∧ s.leak.zones[z].ropeCount = 0 ∧ s.leak.zones[z].trayCount = 0 ∧
      fallBack z s =
        moveZone z
          { s.leak.zones[z] with state := if s.leak.zones[z].ropeFault then .fault else .dry } s) := by
  simp only [fallBack]
  split
  · rename_i h; exact .inr ⟨h.1, h.2.1, h.2.2.1, rfl⟩
  · exact .inl rfl

/-! ### Line -/

@[simp] theorem startClocks_length (byTray : Bool) : (startClocks byTray).length = 4 := rfl
@[simp] theorem slotClocks_length (latched : BitVec 24) : (slotClocks latched).length = 144 := by
  simp [slotClocks, linePhases, slotIds]
@[simp] theorem stopClocks_length (clocks : Nat) : (stopClocks clocks).length = clocks := List.length_replicate
theorem startClocks_eq (byTray : Bool) :
    startClocks byTray = [if byTray then .trayLow else .partLow, .partLow, .partLow, .partLow] := by
  cases byTray <;> rfl

/-- R131, R135: what the start of a cycle does to the line. -/
theorem beginCycle_eq (byTray : Bool) (s : State) :
    beginCycle byTray s =
      s.setLine
        { s.line with
          cycle := .slotFrame 0 .n
          startDue := false
          survey := none
          latched := s.noticeVector
          wave := startClocks byTray } := rfl

/-- R134: the stop frame tells the mode judged, and what has been driven stays. -/
theorem judgeMode_announces (s : State) :
    (judgeMode s).line.cycle = .stopFrame (judgeMode s).line.mode.stopLength ∧ (judgeMode s).line.wave = s.line.wave := by
  unfold judgeMode; split <;> exact ⟨rfl, rfl⟩

/-- R130, R134: what the end of the stop frame adds to the line's record. -/
theorem closeCycle_wave (c : CycleSamples) (s : State) :
    (closeCycle c s).line.wave = s.line.wave ++ s.line.cycle.stopFrameClocks ++ gapClocks s.line.mode := by
  simp only [closeCycle, State.setLine_line, Line.count]; split <;> rfl

/-- R135: a start that comes due drives nothing yet. -/
@[simp] theorem lineWatch_wave (s : State) : (lineWatch s).line.wave = s.line.wave := by
  unfold lineWatch; split <;> rfl

/-- R134, R135: a start is made due, or nothing happens. -/
theorem lineWatch_cases (s : State) :
    lineWatch s = s ∨
    (s.line.mode = .quiet ∧ s.line.cycle.waiting = true ∧ s.continuousCondition = true ∧
      lineWatch s = s.setLine { s.line with startDue := true, survey := none }) := by
  unfold lineWatch
  split
  · rename_i h
    simp only [Bool.and_eq_true, beq_iff_eq] at h
    exact .inr ⟨h.1.1.1.2, h.1.1.2, h.2, rfl⟩
  · exact .inl rfl

end Sys2Proof.Machine
end

