-- ==== Sys2Proof/Laws/Wire.lean ====
section
/-! SUPPORT. The lengths of what the part sends: each field width, each settings block, each record of a bulk read, and the body
of each ACK whose length is fixed. -/

namespace Sys2Proof.Machine

/-! ### Fields -/

@[simp] theorem wordBytes_length (n : Nat) : (wordBytes n).length = 2 := rfl
@[simp] theorem longBytes_length (n : Nat) : (longBytes n).length = 4 := rfl
@[simp] theorem signedWord_length (x : Int) : (signedWord x).length = 2 := rfl
@[simp] theorem signedLong_length (x : Int) : (signedLong x).length = 4 := rfl

/-- An optional field is a flag and the field (log 45). -/
@[simp] theorem optional_length (field : Nat → List Byte) (k : Nat) (h : ∀ n, (field n).length = k) (x : Option Nat) :
    (optional field x).length = k + 1 := by
  cases x <;> simp [optional, h]

/-- Records of one size. -/
theorem flatMap_length {α β : Type} (f : α → List β) (k : Nat) (h : ∀ a, (f a).length = k) (l : List α) :
    (l.flatMap f).length = k * l.length := by
  induction l with
  | nil => simp
  | cons a l ih => simp [List.flatMap_cons, ih, h, Nat.mul_add]; omega

/-- R165: ten bits a byte. -/
@[simp] theorem uartBits_length (b : Byte) : (uartBits b).length = 10 := by simp [uartBits]

/-- What is on TXD is ten bits for each byte of the frame. -/
@[simp] theorem txdBits_length (s : State) : s.txdBits.length = 10 * s.txd.length :=
  flatMap_length uartBits 10 uartBits_length s.txd

/-! ### Settings -/

@[simp] theorem pointSettings_bytes_length (x : PointSettings) : x.bytes.length = 14 := rfl
@[simp] theorem derateEntry_bytes_length (x : DerateEntry) : x.bytes.length = 3 := rfl
@[simp] theorem bbuSettings_bytes_length (x : BbuSettings) : x.bytes.length = 36 := rfl
@[simp] theorem targetEntry_bytes_length (x : TargetEntry) : x.bytes.length = 8 := rfl
@[simp] theorem rangeEntry_bytes_length (x : RangeEntry) : x.bytes.length = 5 := rfl
@[simp] theorem holdupSettings_bytes_length (x : HoldupSettings) : x.bytes.length = 13 := rfl
@[simp] theorem rechargeSettings_bytes_length (x : RechargeSettings) : x.bytes.length = 17 := rfl
@[simp] theorem slotSettings_bytes_length (x : SlotSettings) : x.bytes.length = 13 := rfl
@[simp] theorem sequenceSettings_bytes_length (x : SequenceSettings) : x.bytes.length = 13 := rfl
@[simp] theorem zoneSettings_bytes_length (x : ZoneSettings) : x.bytes.length = 12 := rfl
@[simp] theorem lineSettings_bytes_length (x : LineSettings) : x.bytes.length = 3 := rfl

/-! ### Records of the bulk reads (R171) -/

@[simp] theorem senseReport_bytes_length (r : SenseReport) : r.bytes.length = 19 := by
  cases h : r.settings <;> simp [SenseReport.bytes, h]
@[simp] theorem psuReport_bytes_length (r : PsuReport) : r.bytes.length = 8 := rfl
@[simp] theorem budgetSummary_bytes_length (r : BudgetSummary) : r.bytes.length = 29 := rfl
@[simp] theorem bbuReport_bytes_length (r : BbuReport) : r.bytes.length = 51 := by
  simp [BbuReport.bytes, optional_length _ 1]
@[simp] theorem memberStates_length (l : List (SlotId × SlotState)) : (memberStates l).length = 24 := by
  simp [memberStates, slotIds]
@[simp] theorem zoneReport_bytes_length (r : ZoneReport) : r.bytes.length = 48 := by
  simp [ZoneReport.bytes]
@[simp] theorem causeReport_bytes_length (r : CauseReport) : r.bytes.length = 13 := rfl
@[simp] theorem causeSummary_bytes_length (r : CauseSummary) : r.bytes.length = 6 := by
  simp [CauseSummary.bytes, optional_length _ 1]

/-! ### Bodies -/

/-- R171: first index, count, records, summary. -/
@[simp] theorem bulkBytes_length (first count : Nat) (records summary : List Byte) :
    (bulkBytes first count records summary).length = 2 + records.length + summary.length := by
  simp [bulkBytes]; omega
@[simp] theorem body_length (kind : Byte) (a : Ack) : (a.body kind).length = a.fields.length + 1 := rfl
@[simp] theorem notice_body_length (n : Notice) : n.body.length = 8 := rfl

end Sys2Proof.Machine
end

