-- ==== Sys2Proof/Tests/Slice0.lean ====
section
/-! SUPPORT. Tests: the refusals of WellFormed, the frame of R173 byte by byte, the worked cases of the manual as single steps,
and for each statement of the certificate a state and operands that meet its hypotheses, clause by clause. Expected values come
from the manual's tables and worked cases. -/

namespace Sys2Proof.Tests
open Sys2Proof Sys2Proof.Machine

set_option Elab.async false

/-! ### Small helpers -/

/-- The command answers a next state with the property. -/
def leads (c : Instr) (s : State) (q : State → Bool) : Bool :=
  match exec c s with
  | .next t => q t
  | .fault _ => false
  | .refused _ => false

/-- A slot in a state, with the timer, the output and the notice bit the state has. -/
def slotAs (st : SlotState) (reason : ShedReason) (pg : Bool) : Slot :=
  { Slot.powerOn pg with
    state := st
    reason := reason
    urgency := if reason = .none ∨ reason = .fault then .none else .orderly
    soak := if st = .soak then some 2000 else none
    notice := st == .notice || st == .held
    window := if st = .notice then some 30000 else none
    hold := if st = .held then some 60000 else none
    drain := if st = .draining then some 5000 else none
    en := st.powered }

def withSlot (n : SlotId) (set : SlotSettings) (x : Slot) (s : State) : State :=
  { s with
    settings := { s.settings with slots := s.settings.slots.set n set }
    seq := { s.seq with slots := s.seq.slots.set n x }
    causes := { s.causes with recs := s.causes.recs.set (causeSlot n) (Cause.init (x.state == .faulted)) } }

def withZone (z : ZoneId) (policy : Policy) (x : Zone) (s : State) : State :=
  { s with
    settings := { s.settings with zones := s.settings.zones.set z { s.settings.zones[z] with policy := policy } }
    leak := { zones := s.leak.zones.set z x }
    causes :=
      { s.causes with
        recs :=
          (s.causes.recs.set (causeZoneWet z) (Cause.init (x.state == .wet))).set (causeRopeFault z)
            (Cause.init x.ropeFault) } }

def withTx (tx : Option Sending) (s : State) : State := { s with link := { s.link with tx := tx } }

def locked (s : State) : State :=
  { s with store := { s.store with lockSafety := true, lockOrder := true, lockGeneral := true } }

/-- A point that has taken a good code. -/
def goodPoint (v : Int) : Point := ⟨some 2048, v, false, false⟩

def zoneAs (st : ZoneState) : Zone := { Zone.powerOn with state := st }

def heldBy (z : ZoneId) (role : AttentionRole) (n : SlotId) : SlotSettings :=
  { defaultSlot n with zone := some z, role := role }

/-- A running shelf under ONLINE with a slot, a zone, a BBU and a PSU in each of their states. -/
def board : State :=
  let bare : State :=
    { State.reset with
      pins :=
        ⟨Vector.replicate 6 ⟨true, true, true⟩, Vector.replicate 4 ⟨true, false⟩,
          Vector.ofFn fun n => decide (n.val ∈ [3, 4, 5, 6, 7, 11, 15, 16, 17, 18, 19, 20, 21, 23])⟩
      sense :=
        ⟨Vector.ofFn fun p => goodPoint (if p.val = 0 then 5100 else 0), [], 0,
          Vector.ofFn fun p => goodPoint (if p.val = 0 then 5100 else 0), 1, true⟩
      budget :=
        { State.reset.budget with
          psus := Vector.ofFn fun k => if k.val = 5 then ⟨.noAc, true, false, true⟩ else ⟨.good, true, true, true⟩ }
      charge :=
        { State.reset.charge with
          bbus :=
            #v[⟨.standby, 300000, 0, true, false, true, 0, none, true, false, 65, 20, ⟨true, false, 0⟩⟩,
              ⟨.charging, 1000, 0, true, false, false, 0, none, true, false, 65, 20, ⟨true, true, 400⟩⟩,
              ⟨.fault, 250000, 0, true, false, false, 0, none, true, true, 65, 20, ⟨false, false, 0⟩⟩,
              Bbu.powerOn defaultBbu ⟨false, false⟩] }
      holdup := { State.reset.holdup with state := .online, acEval := .good, acCount := 5, lastCounted := 2 }
      recharge :=
        { State.reset.recharge with
          state := .cruise
          iSet := 400
          members := #v[false, true, false, false]
          shares := sharesOf #v[false, true, false, false] 400
          step := some 1000
          lastH := 1000
          lastHoldup := .online }
      seq := { State.reset.seq with queue := [1], lastHoldup := .online, lastH := 1000 }
      causes :=
        { State.reset.causes with
          recs := Vector.ofFn fun c => Cause.init (decide (c.val = 129 ∨ c.val = 122 ∨ c.val = 135)), alert := true } }
  let zoned :=
    (withZone 1 .valveAndShed { zoneAs .wet with cls := .wet, valve := true, confirmation := .rope }
      (withZone 2 .notify (zoneAs .wet)
        (withZone 3 .notify { zoneAs .suspect with ropeCount := 1, cls := .wet }
          (withZone 4 .notify { zoneAs .fault with ropeFault := true, cls := .short }
            (withZone 5 .notify { zoneAs .suspect with trayCount := 1, report := true } bare)))))
  withSlot 1 (defaultSlot 1) (slotAs .queued .none false)
    (withSlot 2 (defaultSlot 2) (slotAs .soak .none false)
      (withSlot 3 (defaultSlot 3) (slotAs .soak .none true)
        (withSlot 4 (defaultSlot 4) (slotAs .on .none true)
          (withSlot 5 (defaultSlot 5) (slotAs .notice .manager true)
            (withSlot 6 (defaultSlot 6) (slotAs .held .limit true)
              (withSlot 7 (defaultSlot 7) (slotAs .draining .manager true)
                (withSlot 8 (defaultSlot 8) (slotAs .faulted .fault false)
                  (withSlot 9 (heldBy 1 .general 9) (slotAs .locked .leak false)
                    (withSlot 10 (heldBy 0 .leak 10) (slotAs .locked .leak false)
                      (withSlot 11 (heldBy 1 .general 11) (slotAs .draining .leak true)
                        (withSlot 13 (heldBy 1 .general 13) (slotAs .faulted .fault false)
                          (withSlot 14 (heldBy 2 .general 14) (slotAs .faulted .fault false)
                            (withSlot 15 (defaultSlot 15) (slotAs .faulted .fault true)
                              (withSlot 16 (defaultSlot 16) (slotAs .draining .reserve true)
                                (withSlot 20 (defaultSlot 20) (slotAs .notice .reserve true)
                                  (withSlot 21 { defaultSlot 21 with cls := .deferrable } (slotAs .on .none true)
                                    (withSlot 22 { defaultSlot 22 with enabled := false } (slotAs .off .none false)
                                      (withSlot 23 { defaultSlot 23 with cls := .critical } (slotAs .on .none true)
                                        zoned))))))))))))))))))

/-- The board with its transmitter free and nothing to send. -/
def freeBoard : State := withTx none board

/-- The board with a request's reply on TXD. -/
def busyBoard : State := withTx (some (.reply (.ack 1 0x10 .plain))) board

def bridging : State :=
  { board with
    holdup :=
      { board.holdup with
        state := .bridging
        bridging := some 300000
        collapse := some 500
        eventOpen := true
        record := { Transfer.empty with isOpen := true } }
    recharge := { Recharge.init defaultSettings.recharge with lastHoldup := .bridging }
    seq := { board.seq with lastHoldup := .bridging } }

def returning : State :=
  { bridging with holdup := { bridging.holdup with state := .returning, settle := some 5000, collapse := none } }

def blackedOut : State := { bridging with holdup := { bridging.holdup with state := .blackout, eventOpen := false } }

def codesOf (v : Nat) : Vector (BitVec 12) 29 := Vector.replicate 29 (BitVec.ofNat 12 v)

/-- RETURNING with an armed ON_BRIDGE table at R 270,000 and a DEPLETED BBU whose return to CHARGING lifts R past the
first entry. -/
def returningArmed : State :=
  { returning with
    settings :=
      { board.settings with
        targets := ⟨.onBridge, [⟨270001, .rising, .shed, 0, .prompt⟩, ⟨0, .falling, .shed, 0, .prompt⟩]⟩ }
    charge :=
      { returning.charge with
        bbus := returning.charge.bbus.set 2 { returning.charge.bbus[2] with state := .depleted }
        r := 270000
        p := 0
        armed := true } }

/-! ### WellFormed: what each check refuses -/

theorem test_fitsFrame_refuses_long_body : (Instr.clearCause 1 (List.replicate 249 0)).fitsFrame = false := by decide +kernel
theorem test_fitsFrame_takes_248_bytes : (Instr.setMasks 1 1 (List.replicate 82 ⟨0, 0, 0⟩)).fitsFrame = true := by decide +kernel
theorem test_kindIsUnknown_refuses_a_request_kind : (Instr.unknownKind 1 0x10).kindIsUnknown = false := by decide
theorem test_frameIsWhole_refuses_255_bytes : (Instr.frameReceived (List.replicate 255 0)).frameIsWhole = false := by
  decide +kernel
theorem test_wf_refuses_what_a_check_refuses :
    (Instr.clearCause 1 (List.replicate 249 0)).wf = false ∧ (Instr.unknownKind 1 0x5E).wf = false ∧
      (Instr.frameReceived (List.replicate 255 0)).wf = false := by decide +kernel

/-! ### Frames (R173) -/

/-- R173: over the nine ASCII bytes "123456789" the CRC gives 0x29B1. -/
theorem test_crc_of_the_check_string :
    crc16 [0x31, 0x32, 0x33, 0x34, 0x35, 0x36, 0x37, 0x38, 0x39] = 0x29B1#16 := by decide +kernel
/-- SET_LINE, KIND 0x3A: mode, then the survey interval low byte first. -/
theorem test_set_line_body : decodeFrame ⟨0x3A, 9, [1, 0x10, 0x02]⟩ = .ok (.setLine 9 1 0x0210#16) := by rfl
theorem test_set_charge_body :
    decodeFrame ⟨0x59, 9, [2, 0x04, 0x03, 0x02, 0x01]⟩ = .ok (.setCharge 9 2 0x01020304#32) := by rfl
theorem test_power_down_body : decodeFrame ⟨0x52, 9, [2, 4, 23]⟩ = .ok (.powerDown 9 2 [4, 23]) := by rfl
theorem test_get_slots_body : decodeFrame ⟨0x17, 7, [22, 5]⟩ = .ok (.getSlots 7 22 5) := by rfl
theorem test_unknown_kind : decodeFrame ⟨0x80, 1, []⟩ = .error .unknownKind := by rfl
theorem test_bad_length : decodeFrame ⟨0x3A, 9, [1, 0x10]⟩ = .error .badLength := by rfl

/-! ### A lawful board -/

theorem board_is_legal : board.settings.legal := by
  refine ⟨?_, ?_, ?_, ?_, ?_, ?_, ?_, ?_, ?_, ?_, ?_⟩
  · unfold PointSettings.legal; decide +kernel
  · unfold BudgetSettings.legal; decide +kernel
  · unfold BbuSettings.legal; decide +kernel
  · unfold TargetSettings.legal; decide +kernel
  · decide +kernel
  · unfold HoldupSettings.legal; decide +kernel
  · unfold RechargeSettings.legal; decide +kernel
  · unfold SlotSettings.legal; decide +kernel
  · unfold SequenceSettings.legal; decide +kernel
  · unfold ZoneSettings.legal; decide +kernel
  · decide +kernel

theorem defaults_are_legal : defaultSettings.legal := by
  refine ⟨?_, ?_, ?_, ?_, ?_, ?_, ?_, ?_, ?_, ?_, ?_⟩
  · unfold PointSettings.legal; decide +kernel
  · unfold BudgetSettings.legal; decide +kernel
  · unfold BbuSettings.legal; decide +kernel
  · unfold TargetSettings.legal; decide +kernel
  · decide +kernel
  · unfold HoldupSettings.legal; decide +kernel
  · unfold RechargeSettings.legal; decide +kernel
  · unfold SlotSettings.legal; decide +kernel
  · unfold SequenceSettings.legal; decide +kernel
  · unfold ZoneSettings.legal; decide +kernel
  · decide +kernel

theorem board_regulator : RegulatorLaw board := by
  intro _
  refine ⟨?_, ?_, ?_, ?_, ?_, ?_, ?_, ?_⟩
  all_goals first
    | decide +kernel
    | exact (by decide +kernel :
        board.settings.recharge.iFloor ≤ board.recharge.iSet ∧ board.recharge.iSet ≤ board.settings.recharge.iMax)

theorem board_is_lawful : Lawful board where
  settings := ⟨board_is_legal, defaults_are_legal, nofun⟩
  slots := by intro _; decide +kernel
  queue := by intro _; decide +kernel
  leaks := by refine ⟨?_, fun _ => ?_⟩ <;> decide +kernel
  warnings := by intro _; decide +kernel
  zones := by intro _; decide +kernel
  points := by intro _; decide +kernel
  budget := by intro _; decide +kernel
  charge := by unfold ChargeLaw; decide +kernel
  regulator := board_regulator
  holdup := by intro _; decide +kernel
  line := by
    intro _
    refine ⟨?_, ?_, ?_, ?_, ?_, ?_, ?_, ?_, .inl rfl⟩ <;> decide +kernel
  causes := by refine ⟨?_, ?_, fun _ => ?_⟩ <;> decide +kernel
  link := by unfold LinkLaw; decide +kernel

/-- A lawful part steps: what every KeptByEveryStep statement, and CriticalSlotsAreKeptUp with slot 23, rests on. -/
theorem witness_KeptByEveryStep :
    ∃ t, step board = .next t ∧ t.phase = .running ∧ board.phase = .running ∧
      board.settings.slots[(23 : SlotId)].cls = .critical ∧ board.seq.slots[(23 : SlotId)].state = .on := by
  have h : (match step board with | .next t => decide (t.phase = .running) | .fault _ => false | .refused _ => false) = true := by
    decide +kernel
  generalize step board = o at h
  cases o with
  | next t => exact ⟨t, rfl, by simpa using h, rfl, by decide +kernel, by decide +kernel⟩
  | fault r => cases h
  | refused r => cases h

/-! ### Witnesses: the hypotheses of each statement, clause by clause -/

theorem witness_IdlePartTakesWhatIsOutstanding :
    (let s := { board with budget := { board.budget with pubs := [(5, 5)] } }
     s.pending = [] ∧ s.phase = .running ∧ s.budget.pubs ≠ []) ∧
      (let s := { board with charge := { board.charge with pubs := [⟨0, 0, Vector.replicate 8 false, false, 0, true⟩] } }
       s.pending = [] ∧ s.phase = .running ∧ s.budget.pubs = [] ∧ s.charge.pubs ≠ []) ∧
      (let s := { board with seq := { board.seq with reports := [none] } }
       s.pending = [] ∧ s.phase = .running ∧ s.budget.pubs = [] ∧ s.charge.pubs = [] ∧ s.seq.reports ≠ []) ∧
      (let s := { board with phase := .inReset false }
       s.pending = [] ∧ s.phase ≠ .running) ∧
      State.reset.pending = [] ∧ (State.reset.outstanding.all fun e => !e.1) = true := by
  decide +kernel

theorem witness_EveryCommandCompletes :
    board.phase = .running ∧ (∀ k pin level, Instr.txFrameEnd ≠ .psuInputChange k pin level) ∧
      (∀ i level, Instr.txFrameEnd ≠ .bbuPresentChange i level) ∧
      (∀ i level, Instr.txFrameEnd ≠ .bbuFaultInputChange i level) ∧ (∀ n level, Instr.txFrameEnd ≠ .pgChange n level) ∧
      (∀ codes, Instr.txFrameEnd ≠ .sampleSet codes) ∧ (∀ straps, Instr.txFrameEnd ≠ .powerOn straps) := by
  refine ⟨rfl, ?_, ?_, ?_, ?_, ?_, ?_⟩ <;> nofun

theorem witness_RequestsSurviveTheirFrames :
    ((Instr.setLine 7 1 1000#16).wf = true ∧
        encodeRequest (.setLine 7 1 1000#16) = some ⟨0x3A, 7, [1, 0xE8, 0x03]⟩ ∧ Kind.ofByte 0x3A ≠ none) ∧
      ((Instr.unknownKind 3 0x80).wf = true ∧ encodeRequest (.unknownKind 3 0x80) = some ⟨0x80, 3, []⟩ ∧
        Kind.ofByte 0x80 = none) ∧
      (Instr.setMasks 1 1 (List.replicate 82 ⟨0, 0, 0⟩)).wf = true := by
  decide +kernel

theorem witness_ReceivedFrameRunsItsRequest :
    (Instr.holdAll 3).wf = true ∧ encodeRequest (.holdAll 3) = some ⟨0x57, 3, []⟩ ∧
      (board.link.rx = .hunt ∧ board.canExecute = true ∧ board.link.queue = []) ∧
      (busyBoard.link.rx = .hunt ∧ busyBoard.canExecute = false) := by
  decide +kernel

theorem witness_ReceiverOffersGoodFramesAlone :
    (∀ cold, board.phase ≠ .inReset cold) ∧ board.link.rx = .hunt ∧
      (⟨0x10, 1, List.replicate 248 0⟩ : Frame).body.length ≤ 248 ∧
      (le16 0 0 ≠ crc16 (⟨0x10, 1, []⟩ : Frame).covered) ∧ (0xA4#8 ≠ 0xA5#8) ∧ 248 < (249#8).toNat := by
  decide +kernel

/-- A request queue of `k` frames and `b` BUSY replies behind the reply on TXD. -/
def waiting (k b : Nat) : State :=
  { busyBoard with
    link :=
      { busyBoard.link with
        queue := List.replicate k ⟨0x57, 2, []⟩
        replies := List.replicate b (.refused 9 .busy 0x57) } }

theorem witness_RequestsWaitOrGetOneReply :
    encodeRequest (.holdAll 3) = some ⟨0x57, 3, []⟩ ∧ (∀ cold, busyBoard.phase ≠ .inReset cold) ∧
      ((waiting 3 0).atOnce = false ∧ (waiting 3 0).link.queue.length < 4) ∧
      ((waiting 4 3).atOnce = false ∧ 4 ≤ (waiting 4 3).link.queue.length ∧ (waiting 4 3).busyWaiting < 4) ∧
      ((waiting 4 4).atOnce = false ∧ 4 ≤ (waiting 4 4).busyWaiting) ∧ board.atOnce = true ∧
      busyBoard.link.tx ≠ none ∧ freeBoard.link.tx = none ∧ freeBoard.link.replies = [] := by
  decide +kernel

/-- The board with one cause in the outbox, behind a notice. -/
def telling (hold : Bool) : State :=
  { board with
    causes :=
      { board.causes with
        recs := board.causes.recs.set 136 ⟨false, true, 1, 0, 1⟩
        outbox := [136]
        hold := hold } }

/-- The board with LR1 and LR0 as they were read at its last reset. -/
def strapped (straps : BitVec 2) : State := { board with link := { board.link with straps := straps } }

theorem witness_TransmitRule :
    freeBoard.link.tx = none ∧ (∀ cold, board.phase ≠ .inReset cold) ∧
      ((waiting 1 1).link.tx ≠ none ∧ (waiting 1 1).link.replies = [.refused 9 .busy 0x57]) ∧
      ((telling true).link.tx ≠ none ∧ (telling true).link.replies = [] ∧ (telling true).causes.hold = true) ∧
      ((telling false).link.replies = [] ∧ (telling false).causes.hold = false ∧ (telling false).causes.outbox = [136]) ∧
      ((waiting 1 0).canExecute = false ∧ freeBoard.link.queue = []) ∧
      (let u := withTx none (waiting 1 0)
       u.canExecute = true ∧ u.link.queue = [⟨0x57, 2, []⟩] ∧ decodeFrame ⟨0x57, 2, []⟩ = .ok (.holdAll 2)) ∧
      decodeFrame ⟨0x80, 2, []⟩ = .error .unknownKind ∧ decodeFrame ⟨0x57, 2, [1]⟩ = .error .badLength ∧
      (board.link.tx = some (.notice ⟨135, 1, true, 1, 0⟩) ∧
        (withTx (some (.reply (.refused 9 .busy 0x57))) board).link.tx = some (.reply (.refused 9 .busy 0x57)) ∧
        busyBoard.link.tx = some (.reply (.ack 1 0x10 .plain))) ∧
      ((strapped 0).link.straps = 0b00#2 ∧ (strapped 1).link.straps = 0b01#2 ∧ (strapped 2).link.straps = 0b10#2 ∧
        (strapped 3).link.straps = 0b11#2) ∧
      (uartByte [false, true, false, true, false, false, true, false, true, true] = some 0xA5#8 ∧
        board.txd[0]? = some 0xA5#8 ∧ board.txd[13]? = some 0x6B#8 ∧ board.txd[14]? = none) := by
  refine ⟨?_, ?_, ?_, ?_, ?_, ?_, ⟨?_, ?_, rfl⟩, rfl, rfl, ?_, ?_, ?_⟩ <;> decide +kernel

/-- R165: the rate of each setting of LR1 and LR0. -/
theorem test_rates :
    (strapped 0).link.rate = 115200 ∧ (strapped 1).link.rate = 460800 ∧ (strapped 2).link.rate = 921600 ∧
      (strapped 3).link.rate = 115200 := by
  decide +kernel

/-- R165: 0x87, the fifth byte of the notice of cause 135, from its start bit to the start bit of the next byte; the idle levels
after the last byte, and of a line in reset. -/
theorem test_txd_levels :
    ((List.range 11).map fun k => board.txdLevel (40 + k)) =
        [false, true, true, true, false, false, false, false, true, true, false] ∧
      board.txdLevel 138 = false ∧ board.txdLevel 139 = true ∧ board.txdLevel 140 = true ∧ freeBoard.txdLevel 0 = true ∧
      leads .pinResetAssert board (fun t => t.txdLevel 0) = true := by
  decide +kernel

/-- R165, R166: a byte with a low stop bit is no byte. -/
theorem test_low_stop_bit : uartByte [false, true, false, true, false, false, true, false, true, false] = none := by decide

theorem witness_BadRequestsAreRefused :
    board.atOnce = true ∧ 29 ≤ (29#8).toNat ∧ 137 ≤ (137#8).toNat ∧ 8 ≤ (254#8).toNat ∧ (254#8 ≠ 255#8) ∧
      ((List.replicate 24 0#8).length ≤ 24 ∧ 24 ≤ (24#8).toNat ∧ 24 < (List.replicate 25 0#8).length) ∧
      ((List.replicate 134 0#8).length ≤ 134 ∧ 134 < (List.replicate 135 0#8).length) ∧
      (24#8 ∈ [0#8, 24#8] ∧ 29#8 ∈ [29#8] ∧ 31#8 ∈ [31#8] ∧ (31#8).toNat ≤ 31) ∧
      16 < (List.replicate 17 (⟨0, 0, 0, 0, 0⟩ : TargetW)).length ∧ 82 < (List.replicate 83 (⟨0, 0, 0⟩ : MaskW)).length ∧
      ∃ e ∈ [(⟨137, 0, 0⟩ : MaskW)], (29 ≤ e.cause.toNat ∧ e.cause.toNat ≤ 31) ∨ 137 ≤ e.cause.toNat := by
  decide +kernel

/-- A lawful set of codes at which nothing of the board trips: BUS_V 5,126, BBU_V 5,126, temperatures 23, ropes DRY; the codes of
`given` stand in place of these. -/
def calmCodes (given : List (Nat × Nat)) : Vector (BitVec 12) 29 :=
  Vector.ofFn fun q =>
    BitVec.ofNat 12
      (match given.find? fun e => e.1 == q.val with
        | some e => e.2
        | none => if q.val = 0 ∨ (8 ≤ q.val ∧ q.val ≤ 11) then 3500 else if 16 ≤ q.val ∧ q.val ≤ 20 then 1500
          else if 21 ≤ q.val then 3000 else 2048)

theorem witness_LockedSectionsHold :
    leads (.getStatus 1) (locked board) (fun _ => true) = true ∧
      (leads (.sampleSet (calmCodes [])) (locked board) (fun _ => true) = true ∧
        (locked board).charge.test.running = false) ∧ (locked board).store.lockSafety = true ∧
      (locked board).store.lockOrder = true ∧ (locked board).store.lockGeneral = true ∧
      (∀ straps, Instr.getStatus 1 ≠ .powerOn straps) ∧ Instr.getStatus 1 ≠ .profileLoadComplete ∧
      ∀ codes, Instr.getStatus 1 ≠ .sampleSet codes := by
  refine ⟨?_, ?_, ?_, ?_, ?_, nofun, nofun, nofun⟩ <;> decide +kernel

theorem witness_RaisesAndReportsKeepTheRecords :
    (freeBoard.link.tx = none ∧ freeBoard.link.replies = [] ∧ freeBoard.causes.outbox = [] ∧
        freeBoard.causes.hold = false ∧ freeBoard.settings.masks[(136 : CauseId)].mask = false) ∧
      board.link.tx ≠ none ∧ eventSource 96 = true ∧ eventSource 95 = false ∧
      board.causes.recs[(129 : CauseId)].condition = true ∧ board.causes.recs[(130 : CauseId)].condition ≠ true := by
  decide +kernel

theorem witness_MasksClearsAndTheHold :
    board.atOnce = true ∧ takeCause 136 = some 136 ∧ takeIds takeCause [96, 136] = some [96, 136] ∧
      takeIds takeCause [29] = none ∧ (List.replicate 134 (136 : Byte)).length ≤ 134 ∧
      (let new := { board.settings with masks := board.settings.masks.set 136 ⟨true, false⟩ }
       (locked board).lockAllows new = false ∧ board.lockAllows new = true) ∧
      (let es : List (CauseId × MaskSettings) := [(136, ⟨true, true⟩), (136, ⟨false, true⟩)]
       takeMasks [⟨136, 1, 1⟩, ⟨136, 0, 1⟩] = some es ∧ (locked board).store.lockGeneral = true ∧
         board.store.lockGeneral = false ∧ (∃ e ∈ es, (locked board).settings.masks[e.1] ≠ e.2) ∧
         takeMasks [] = some [] ∧ ((1#8 != 0) = (locked board).settings.globalAlert) ∧
         (List.replicate 82 (⟨136, 0, 1⟩ : MaskW)).length ≤ 82) := by
  decide +kernel

theorem witness_queries :
    board.atOnce = true ∧ (28#8).toNat < 29 ∧ (5#8).toNat < 6 ∧ (3#8).toNat < 4 ∧ (15#8).toNat < 16 ∧ (7#8).toNat < 8 ∧
      (136#8).toNat < 137 ∧ (23#8).toNat < 24 ∧ State.reset.budget.psus[(5 : PsuId)].state = .absent ∧
      board.charge.bbus[(3 : BbuId)].state = .absent ∧ (1 : SlotId) ∈ board.seq.queue ∧ (0 : SlotId) ∉ board.seq.queue ∧
      board.settings.slots[(9 : SlotId)].zone = some 1 ∧ board.settings.slots[(0 : SlotId)].zone = none ∧
      (board.clock < 4294967296000 ∧ board.recharge.sourceInForce = .hottestBbu ∧
        board.recharge.members[(1 : BbuId)] = true ∧
        { board with recharge := { board.recharge with sourceInForce := .inlet } }.recharge.sourceInForce = .inlet) ∧
      (board.budget.psus[(0 : PsuId)].state ≠ .absent ∧ board.charge.bbus[(0 : BbuId)].state ≠ .absent ∧
        board.budget.timer = none ∧ 21 ≤ (21 : PointId).val ∧ AnalogId.point (20 : AnalogId) = (20 : PointId) ∧
        (let graced := { board with budget := { board.budget with timer := some (3 * 100) } }
         graced.budget.timer = some (3 * 100) ∧ graced.budgetSummary.timer = 3)) := by
  decide +kernel

theorem witness_legal_slot : board.settings.slots[(9 : SlotId)].legal := by unfold SlotSettings.legal; decide +kernel

/-- The rail codes and their neighbours, and a point in each alarm mode. -/
theorem witness_SampleSetScalesJudgesAndPublishes :
    board.phase = .running ∧ ((codesOf 0)[(0 : PointId)] = 0 ∧ (codesOf 4095)[(28 : PointId)] = 4095) ∧
      (codesOf 1)[(0 : PointId)] ≠ 0 ∧ (codesOf 4094)[(0 : PointId)] ≠ 4095 ∧
      board.settings.points[(0 : AnalogId)].mode = .off ∧ board.settings.points[(16 : AnalogId)].mode = .hysteresis ∧
      ((board.sense.points[(0 : PointId)].raw ≠ some 0 ∧ board.sense.points[(0 : PointId)].raw ≠ some 4095) ∧
        board.sense.points[ropePoint 0].raw ≠ some 0#12 ∧ board.sense.points[ropePoint 7].raw ≠ some 4095#12) ∧
      board.sense.points[(16 : PointId)].alarm = false ∧ (1 : Int) * 50 < -50 + 2200 * 200 / 4096 := by
  decide +kernel

/-- R4, R5, R14: an alarm above 50, a stale run that starts, and a rope that reaches a rail. -/
theorem test_sample_raises :
    leads (.sampleSet (calmCodes [(16, 2200), (17, 0), (21, 4095)])) board
      (fun t =>
        t.sense.points[(16 : PointId)].alarm && t.causes.recs[(16 : CauseId)].value == 57 &&
          t.causes.recs[(16 : CauseId)].code == 1 && t.causes.recs[(17 : CauseId)].code == 3 &&
          t.causes.recs[(21 : CauseId)].value == 4095 && t.causes.recs[(21 : CauseId)].code == 2) = true := by
  decide +kernel

theorem witness_SampleSetReckonsCapacityAndCharge :
    board.phase = .running ∧ board.sense.seen = true ∧ board.charge.bbus[(3 : BbuId)].state = .absent ∧
      (let b := board.charge.bbus[(0 : BbuId)]
       b.state ≠ .absent ∧ b.state ≠ .testing ∧ b.state ≠ .charging ∧
         (let c := board.charge.bbus[(1 : BbuId)]
          c.state = .charging ∧ board.settings.bbus[(1 : BbuId)].anchor = true ∧
            ¬ board.settings.bbus[(1 : BbuId)].taperTime ≤ c.taper + 1) ∧
         0 ≤ (b.q : Int) * 25600 + b.r + 200 * 230 ∧ (300000 : Int) ≤ ((b.q : Int) * 25600 + b.r + 200 * 230) / 25600 ∧
         0 ≤ (b.q : Int) * 25600 + b.r - 1500 * 256 ∧ ((b.q : Int) * 25600 + b.r - 1500 * 256) / 25600 < 300000) ∧
      (0 : Int) * 25600 + 0 - 1500 * 256 < 0 ∧
      (State.reset.sense.seen = false ∧ State.reset.charge.bbus[(0 : BbuId)].state = .absent ∧
        State.reset.charge.bbus[(0 : BbuId)].taper = 0 ∧
        leads (.sampleSet (calmCodes [])) State.reset (fun t => t.holdup.state == State.reset.holdup.state) = true) := by
  decide +kernel

def testing (s : State) : State :=
  { s with
    charge :=
      { s.charge with
        bbus := s.charge.bbus.set 0 { s.charge.bbus[(0 : BbuId)] with state := .testing }
        test := { TestRecord.empty with running := true, bbu := some 0, timer := some 900000, current := 1500 } } }

/-- A running shelf with four BBUs in the states and with the charges given. -/
def withBbus (xs : Vector (BbuState × Nat × Nat) 4) (s : State) : State :=
  { s with
    charge :=
      { s.charge with
        bbus := Vector.ofFn fun i =>
          ⟨xs[i].1, xs[i].2.1, 0, true, false, false, xs[i].2.2, none, true, false, 65, 20, ⟨false, false, 0⟩⟩ } }

/-- BBU 0 draws 2.1 A, 1 floats, 2 charges below the float voltage, and 3 bottoms: R38, R39, R42, R44, R45, R52. -/
theorem witness_sample_set_moves_bbus :
    leads (.sampleSet (calmCodes [(12, 2041), (9, 3700), (13, 2050), (15, 1000)]))
      (withBbus #v[(.standby, 300000, 0), (.charging, 1000, 7), (.charging, 1000, 7), (.standby, 0, 0)] board)
      (fun t =>
        t.holdup.state == .online && t.pubValue 12 == -21 && t.pubValue 9 == 5419 && t.pubValue 13 == 5 &&
          t.pubValue 15 == -3071 && t.charge.bbus.toList.map (fun b => b.state) == [.discharging, .charging, .charging, .discharging] &&
          t.charge.bbus.toList.map (fun b => b.taper) == [0, 8, 0, 0] && t.charge.halted &&
          t.causes.recs[(120 : CauseId)].code == 20 && t.causes.recs[(123 : CauseId)].code == 1) = true := by
  decide +kernel

/-- BBU 0 is under test above the cut-off voltage, 1 ends its taper run, 2 has no anchor and is full, 3 is depleted. -/
theorem witness_sample_set_anchors :
    let s := testing (withBbus #v[(.testing, 300000, 0), (.charging, 1000, 2999), (.charging, 300000, 7), (.depleted, 0, 0)] board)
    leads (.sampleSet (calmCodes [(12, 1600), (9, 3700), (13, 2050)]))
      { s with settings := { s.settings with bbus := s.settings.bbus.set 2 { defaultBbu with anchor := false } } }
      (fun t =>
        t.holdup.state == .online && t.pubValue 12 == -1313 && t.charge.test.running && t.charge.test.d == 13 &&
          t.charge.test.residue == 3328 && t.charge.bbus[(1 : BbuId)].q == 300000 &&
          t.charge.bbus.toList.map (fun b => b.state) == [.testing, .standby, .standby, .charging] &&
          t.causes.recs[(121 : CauseId)].code == 2) = true := by
  decide +kernel

/-- R56: D 250,000 at the cut-off voltage: Qfull 280,000, Q at the floor, health 92 of 270,000 rated. R57: T_crit ends a test. -/
theorem witness_sample_set_ends_tests :
    let s := testing (withBbus #v[(.testing, 60000, 0), (.absent, 0, 0), (.absent, 0, 0), (.absent, 0, 0)] board)
    let u := { s with charge := { s.charge with test := { s.charge.test with d := 250000 } } }
    leads (.sampleSet (calmCodes [(8, 3003)])) u
        (fun t =>
          t.holdup.state == .online && t.pubValue 8 == 4398 && t.settings.bbus[(0 : BbuId)].qFull == 280000 &&
            t.charge.bbus[(0 : BbuId)].q == 30000 && t.charge.bbus[(0 : BbuId)].health == some 92 &&
            t.charge.bbus[(0 : BbuId)].state == .charging && t.store.unstored) = true ∧
      leads (.sampleSet (calmCodes [(16, 2356)])) u
        (fun t =>
          t.holdup.state == .online && t.pubValue 16 == 65 && t.charge.bbus[(0 : BbuId)].state == .fault &&
            t.charge.test.result == .abortedFault) = true := by
  decide +kernel

theorem witness_SampleSetJudgesAc :
    board.settings.holdup.vBridge ≤ board.settings.holdup.vReturn ∧
      ((board.phase = .running ∧ board.holdup.state = .online ∧
          2 ≤ psuIds.countP (fun k => board.pins.psu[k].present && board.pins.psu[k].acOk) ∧
          (board.holdup.record.valid = false ∧ board.holdup.record.isOpen = false) ∧ board.holdup.lastCounted ≠ 0)) ∧
      (bridging.phase = .running ∧ bridging.holdup.state = .bridging) ∧
      (returning.phase = .running ∧ returning.holdup.state = .returning) ∧
      (blackedOut.phase = .running ∧ blackedOut.holdup.state = .blackout) ∧ State.reset.holdup.state = .starting := by
  decide +kernel

/-- R69, R76: BUS_V 4,101 lets the collapse timer run on or starts it, 4,247 cancels it, and 4,394 is a flicker; each set of an
open record counts. -/
theorem witness_sample_set_follows_the_bridge :
    let bare := { bridging with holdup := { bridging.holdup with collapse := none } }
    let count := { returning with holdup := { returning.holdup with record := { returning.holdup.record with minBusV := 4900 } } }
    leads (.sampleSet (calmCodes [(0, 2800)])) bridging
        (fun t => t.busV == 4101 && t.holdup.state == .bridging && t.holdup.collapse == some 490) = true ∧
      leads (.sampleSet (calmCodes [(0, 2800)])) bare
        (fun t => t.holdup.state == .bridging && t.holdup.collapse == some 500) = true ∧
      leads (.sampleSet (calmCodes [(0, 2900)])) bridging
        (fun t => t.busV == 4248 && t.holdup.state == .bridging && t.holdup.collapse == none) = true ∧
      leads (.sampleSet (calmCodes [(0, 3000)])) count
        (fun t =>
          t.holdup.state == .bridging && t.holdup.record.flickers == 1 && t.holdup.record.duration == 1 &&
            t.holdup.record.minBusV == 4394) = true ∧
      leads (.sampleSet (calmCodes [(0, 4095)])) count (fun t => t.holdup.record.minBusV == 4900) = true := by
  decide +kernel

/-- Zone 0 is DRY, zone 3 SUSPECT by its rope, zone 5 by a tray, zone 1 WET; code 600 reads WET and 3000 DRY. -/
theorem witness_SampleSetJudgesRopes :
    board.phase = .running ∧ SettingsLaw board ∧ ZoneLaw board ∧
      (let set := board.settings.zones[(0 : ZoneId)]
       set.shortThr < 600 ∧ 600 ≤ set.wetThr ∧ 600 < set.openThr ∧ set.wetThr < 3000 ∧ set.dryThr ≤ 3000 ∧
         3000 < set.openThr ∧ 1 < set.kRope) ∧
      (board.leak.zones[(0 : ZoneId)].state = .dry ∧ board.leak.zones[(0 : ZoneId)].ropeFault = false) ∧
      (board.leak.zones[(3 : ZoneId)].state = .suspect ∧ board.leak.zones[(3 : ZoneId)].ropeFault = false ∧
        board.leak.zones[(3 : ZoneId)].trayCount = 0 ∧ board.leak.zones[(3 : ZoneId)].awaitCycle = false) ∧
      (board.leak.zones[(5 : ZoneId)].state = .suspect ∧ 0 < board.leak.zones[(5 : ZoneId)].trayCount) ∧
      board.leak.zones[(1 : ZoneId)].state = .wet ∧
      (let s := { board with settings := { board.settings with zones := board.settings.zones.set 0 { defaultZone with kRope := 1 } } }
       s.settings.zones[(0 : ZoneId)].kRope = 1) ∧
      board.settings.zones[(3 : ZoneId)].kRope > min 255 (board.leak.zones[(3 : ZoneId)].ropeCount + 1) ∧
      (100 ≤ defaultZone.shortThr ∧ defaultZone.shortThr < 101 ∧ defaultZone.openThr ≤ 3995 ∧ 3994 < defaultZone.openThr ∧
        1 ≤ defaultZone.kRope ∧ board.settings.zones[(4 : ZoneId)] = defaultZone) ∧
      (board.leak.zones[(4 : ZoneId)].state = .fault ∧ board.leak.zones[(4 : ZoneId)].ropeFault = true ∧
        board.leak.zones[(4 : ZoneId)].cls = .short) ∧
      (1200 < 2000 ∧ 2000 < defaultZone.dryThr ∧ board.leak.zones[(3 : ZoneId)].cls = .wet ∧
        board.leak.zones[(0 : ZoneId)].cls ≠ .wet) := by
  refine ⟨rfl, board_is_lawful.settings, board_is_lawful.zones, ?_⟩
  decide +kernel

/-- Zone 0 goes WET at one reading or one report, slots 1 to 8, 12 and 16 in it, with the stagger timer running. -/
def flooding (policy : Policy) (s : State) : State :=
  { s with
    settings :=
      { s.settings with
        zones := s.settings.zones.set 0 { defaultZone with kRope := 1, kTray := 1, policy := policy }
        slots := Vector.ofFn fun n =>
          if (1 ≤ n.val ∧ n.val ≤ 8) ∨ n.val = 12 ∨ n.val = 16 then heldBy 0 (if n.val = 4 then .leak else .general) n
          else s.settings.slots[n] }
    seq := { s.seq with stagger := some 500 } }

theorem witness_flooding_is_lawful :
    SettingsLaw (flooding .valveAndShed board) ∧ ZoneLaw (flooding .valveAndShed board) := by
  obtain ⟨points, budget, bbus, targets, ranges, holdup, recharge, -, sequence, -, line⟩ := board_is_legal
  refine ⟨⟨⟨points, budget, bbus, targets, ranges, holdup, recharge, ?_, sequence, ?_, line⟩, defaults_are_legal, nofun⟩,
    board_is_lawful.zones⟩
  · unfold SlotSettings.legal; decide +kernel
  · unfold ZoneSettings.legal; decide +kernel

/-- A WET entry meets a slot in each state (R124, R97). -/
theorem witness_sample_set_floods :
    leads (.sampleSet (calmCodes [(21, 600)])) (flooding .valveAndShed board)
        (fun t =>
          t.leak.zones[(0 : ZoneId)].state == .wet && t.holdup.state == .online && t.seq.stagger.isSome &&
            [1, 2, 3, 4, 5, 6, 7, 8, 12, 16].map (fun n : SlotId => t.seq.slots[n].state) ==
              [.locked, .locked, .draining, .draining, .draining, .draining, .draining, .faulted, .locked, .draining]) = true ∧
      leads (.sampleSet (calmCodes [(21, 600)])) (flooding .notify board)
        (fun t =>
          t.leak.zones[(0 : ZoneId)].state == .wet && t.seq.slots[(1 : SlotId)].state == .locked &&
            t.seq.slots[(4 : SlotId)].state == .on) = true ∧ board.charge.armed = false := by
  decide +kernel

/-- H of the board is below 0 with charge drawn: the pause clause. -/
theorem witness_HeadroomIsCapacityLessPromises :
    (board.online = true ∧ (board.budget.cap : Int) - board.commitmentSum - 2040 < 0 ∧
        (400 * board.busV + 999) / 1000 = 2040 ∧ board.budget.deficit = .idle) ∧
      bridging.online = false ∧
      (let s := { board with budget := { board.budget with deficit := .covered, cap := 20000 } }
       s.online = true ∧ 0 ≤ (s.budget.cap : Int) - s.commitmentSum - 2040) := by
  decide +kernel

/-! The lock clause of each SET: refused where every section is locked, taken where none is. -/

def newLimit : LimitW := ⟨200, 150, 3, 1, 60, 70⟩
def newBudget : BudgetW := ⟨5500, 1, ⟨45, 192⟩, ⟨35, 240⟩, ⟨40, 220⟩, ⟨40, 200⟩, 20⟩
def newCharge : ChargeW := ⟨1000, 100, 256, 0, 0, 1, 1, 10, 0, 1, 60, 1, 1, 1, 0⟩
def newTarget : TargetW := ⟨600000, 0, 1, 1, 1⟩
def newRanges : RangesW :=
  let e : RangeW := ⟨0, 0, 0⟩
  ⟨⟨0, 120, 1⟩, ⟨0, 300, 0⟩, ⟨200, 65535, 0⟩, e, e, e, e, ⟨9, 5, 0⟩⟩
def newHoldup : HoldupW := ⟨3, 65535, 0, 65535, 501, 4, 3601⟩
def newRecharge : RechargeW := ⟨1000, 200, 20, 10, 600, 100, 200, 60, 0, 45⟩
def newSlot : SlotW := ⟨0, 0, 3, 1500, 600, 20, 5, 255, 0, 1⟩
def newSequence : SequenceW := ⟨0, 55, 9, 1, 4, 700, 0, 0⟩
def newZone : ZoneW := ⟨200, 1500, 2500, 3900, 50, 3, 0, 0⟩

/-- Both sides of a lock: the change is turned away by the locked board and let through by the open one. -/
def lockSplits (new : Settings) : Bool := !(locked board).lockAllows new && board.lockAllows new

theorem witness_SetsOfPointsAndBudget :
    board.atOnce = true ∧ takeId 21 20#8 = some (20 : AnalogId) ∧
      lockSplits { board.settings with points := board.settings.points.set 20 (takeLimit 20 newLimit) } = true ∧
      lockSplits { board.settings with budget := takeBudget newBudget } = true ∧
      (board.online = true ∧ 0 < (board.recharge.iSet * board.busV + 999) / 1000 ∧
        leads (.setBudget 1 { newBudget with pRate := 0 }) board
          (fun t => t.budget.cap == 0 && t.recharge.state == .paused) = true) ∧
      takeId 21 0#8 = some (0 : AnalogId) ∧ (pointRange 20).1 < 0 ∧ (pointRange 0).1 = 0 := by
  decide +kernel

/-- Point 16 in LATCH mode with its alarm set. -/
def latched (v : Int) : State :=
  { board with
    settings := { board.settings with points := board.settings.points.set 16 ⟨200, -50, .latch, .above, 55, 55⟩ }
    sense := { board.sense with points := board.sense.points.set 16 { goodPoint v with alarm := true } } }

/-- SET_LIMIT's body is 15 bytes: INLET_T's limits as 16-bit signed words, −2 clamped at nothing (log 32). -/
theorem test_set_limit_body :
    decodeFrame ⟨0x30, 9, [20, 200, 0, 0, 0, 206, 255, 255, 255, 1, 0, 60, 0, 254, 255]⟩ =
        .ok (.setLimit 9 20 ⟨200#32, (-50 : Int), 1, 0, 60#16, (-2 : Int)⟩) ∧
      (takeLimit 20 ⟨200#32, (-50 : Int), 1, 0, 60#16, (-2 : Int)⟩).low = -2 := by
  decide +kernel

theorem test_set_limit_and_budget :
    leads (.setLimit 1 16 ⟨200, -50, 0, 0, 55, 50⟩) (latched 57)
        (fun t => !t.sense.points[(16 : PointId)].alarm && t.settings.points[(16 : AnalogId)].mode == .off) = true ∧
      leads (.setBudget 1 newBudget) board
        (fun t => t.budget.h == (t.budget.cap : Int) - t.budget.sigma - t.budget.pChg) = true := by
  decide +kernel

theorem witness_SetsOfChargeTargetsAndRanges :
    board.atOnce = true ∧ takeId 4 3#8 = some (3 : BbuId) ∧
      lockSplits { board.settings with bbus := board.settings.bbus.set 3 (takeCharge newCharge) } = true ∧
      (List.replicate 16 newTarget).length ≤ 16 ∧
      lockSplits { board.settings with targets := ⟨.manual, (List.replicate 16 newTarget).map takeTarget⟩ } = true ∧
      lockSplits { board.settings with ranges := takeRanges newRanges } = true ∧
      ((takeCharge newCharge).anchor = true ∧ (takeCharge { newCharge with anchor := 0 }).anchor = false) ∧
      (let e : TargetEntry := takeTarget { newTarget with action := 1, urgency := 0 }
       e.action = .shed ∧ (takeTarget { newTarget with action := 3, urgency := 0 }).action ≠ .shed) ∧
      (board.charge.band[(2 : RangeId)] = false ∧
        leads (.setRanges 1 newRanges) board
          (fun t => t.charge.band[(2 : RangeId)] && t.causes.recs[(114 : CauseId)].value == 65535) = true) := by
  decide +kernel

/-- R45: an anchor that is turned off ends the taper run. -/
theorem test_anchor_off :
    leads (.setChargeParams 1 1 { newCharge with anchor := 0 })
        (withBbus #v[(.standby, 9, 0), (.charging, 9, 7), (.standby, 9, 0), (.standby, 9, 0)] board)
        (fun t => t.charge.bbus[(1 : BbuId)].taper == 0 && t.charge.bbus[(1 : BbuId)].critInForce == 65) = true := by
  decide +kernel

theorem witness_SetSlotActsAtAcceptance :
    board.atOnce = true ∧ takeId 24 20#8 = some (20 : SlotId) ∧ takeZone newSlot.zone = some none ∧
      takeZone 7 = some (some 7) ∧
      lockSplits { board.settings with slots := board.settings.slots.set 20 (takeSlot none newSlot) } = true ∧
      board.leak.zones[(1 : ZoneId)].state = .wet ∧ board.settings.slots[(20 : SlotId)].zone ≠ some 1 ∧
      (board.settings.slots[(1 : SlotId)].enabled = true ∧ (takeSlot none newSlot).enabled = false ∧
        board.seq.slots[(1 : SlotId)].state = .queued) ∧
      (board.settings.slots[(20 : SlotId)].cls ≠ .critical ∧ (takeSlot none newSlot).cls = .critical ∧
        board.seq.slots[(20 : SlotId)].state = .notice ∧ board.seq.slots[(20 : SlotId)].reason = .reserve ∧
        (20 : SlotId) ∉ board.seq.queue) ∧
      (board.seq.slots[(4 : SlotId)].state ≠ .queued ∧ (4 : SlotId) ∉ board.seq.queue) ∧
      (let set := takeSlot none { newSlot with enabled := 1 }
       let s := { board with settings := { board.settings with sequence := { board.settings.sequence with maxSoak := 4 } }, seq := { board.seq with lastH := 12000 } }
       set.enabled = true ∧ board.settings.slots[(1 : SlotId)].rank ≠ set.rank ∧ board.slotWet 1 = false ∧
         board.settings.slots[(1 : SlotId)].pReq ≠ set.pReq ∧
         (s.adopt { s.settings with slots := s.settings.slots.set 1 set }).grantsHead 1 = true ∧
         (board.adopt { board.settings with slots := board.settings.slots.set 1 set }).grantsHead 1 = false) := by
  decide +kernel

/-- R96: slot 12, queued behind 1, passes it with rank 0. -/
theorem test_rank_moves_a_queued_slot :
    let s := withSlot 12 (defaultSlot 12) (slotAs .queued .none false) board
    leads (.setSlot 1 12 { newSlot with rank := 0, enabled := 1 }) { s with seq := { s.seq with queue := [1, 12] } }
      (fun t => t.seq.queue == [12, 1]) = true := by
  decide +kernel

theorem witness_SetZoneActsAtAcceptance :
    board.atOnce = true ∧ takeId 8 5#8 = some (5 : ZoneId) ∧
      lockSplits { board.settings with zones := board.settings.zones.set 5 (takeZoneSettings newZone) } = true ∧
      (board.leak.zones[(1 : ZoneId)].state = .wet ∧
        (takeZoneSettings newZone).policy ≠ board.settings.zones[(1 : ZoneId)].policy) ∧
      (board.settings.zones[(5 : ZoneId)].acceptTray = true ∧ (takeZoneSettings newZone).acceptTray = false ∧
        (takeZoneSettings newZone).policy = board.settings.zones[(5 : ZoneId)].policy) ∧
      (board.leak.zones[(5 : ZoneId)].ropeCount = 0 ∧ board.leak.zones[(5 : ZoneId)].awaitSet = false ∧
        board.leak.zones[(5 : ZoneId)].awaitCycle = false) ∧
      board.leak.zones[(3 : ZoneId)].ropeCount ≠ 0 := by
  decide +kernel

theorem witness_SetsOfHoldupRechargeSequenceAndLine :
    board.atOnce = true ∧ lockSplits { board.settings with holdup := takeHoldup newHoldup } = true ∧
      lockSplits { board.settings with recharge := takeRecharge newRecharge } = true ∧
      lockSplits { board.settings with sequence := takeSequence newSequence } = true ∧
      lockSplits { board.settings with line := ⟨.alwaysContinuous, 1000⟩ } = true ∧
      (max (takeRecharge newRecharge).iFloor (min (takeRecharge newRecharge).iMax board.recharge.iSet) = 400 ∧
        board.recharge.state = .cruise) ∧
      ((5#8).toNat ≤ 5 ∧ 6 ≤ (6#8).toNat ∧ (54#8).toNat ≤ 54 ∧ (55#8).toNat = 55 ∧ 56 ≤ (56#8).toNat) ∧
      (let s := { board with line := { board.line with mode := .quiet } }
       s.line.enabled = true ∧ s.line.mode = .quiet ∧ s.line.cycle = .idle) ∧
      board.line.mode = .continuous ∧
      (let s := { board with seq := { board.seq with stagger := some 500 } }
       s.seq.stagger.isSome = true) ∧
      (let s := { board with settings := { board.settings with sequence := { board.settings.sequence with maxSoak := 4 } }, seq := { board.seq with lastH := 1500 } }
       s.seq.queue = [1] ∧ (1 : SlotId) ∉ ([] : List SlotId) ∧ s.grantsHead 1 = true) := by
  decide +kernel

/-! Actions -/

/-- The board with a target table, R at the first threshold. -/
def tabled (entries : List TargetEntry) : State :=
  { board with
    settings := { board.settings with targets := ⟨.manual, entries⟩ }
    charge := { board.charge with r := 500 } }

theorem witness_ArmingComparesFromTheFirstEntry :
    board.atOnce = true ∧ board.settings.targets.entries = [] ∧
      (let e : TargetEntry := ⟨500, .falling, .shed, 2, .orderly⟩
       (tabled [e]).atOnce = true ∧ (tabled [e]).settings.targets.entries = [e] ∧ [e].length ≤ 16 ∧
         (tabled [e]).charge.r ≤ e.threshold ∧ (21 : SlotId) ∉ (tabled [e]).seq.queue ∧
         (tabled [e]).seq.slots[(21 : SlotId)].state = .on ∧ e.minClass ≤ (tabled [e]).settings.slots[(21 : SlotId)].cls.level ∧
         (tabled [e]).seq.slots[(4 : SlotId)].state = .on ∧ (tabled [e]).settings.slots[(4 : SlotId)].cls.level < e.minClass ∧
         (tabled [e]).seq.slots[(0 : SlotId)].state = .off) ∧
      (let s := board
       let set := s.settings.slots[(3 : SlotId)]
       1 ≤ set.cls.level ∧ set.cls.level < 2 ∧ (s.seq.slots[(3 : SlotId)].state = .soak ∧ s.seq.slots[(3 : SlotId)].pg = true) ∧
         (s.seq.slots[(4 : SlotId)].state = .on ∧ s.seq.slots[(4 : SlotId)].pg = true) ∧
         (s.seq.slots[(2 : SlotId)].state = .soak ∧ s.seq.slots[(2 : SlotId)].pg = false ∧ s.holdup.state = .online ∧
           s.settings.slots[(2 : SlotId)].autoRestore = true ∧ s.settings.slots[(2 : SlotId)].enabled = true ∧
           s.slotWet 2 = false) ∧ bridging.holdup.state ≠ .online ∧
         (s.seq.slots[(5 : SlotId)].state = .notice ∧ s.seq.slots[(5 : SlotId)].reason = .manager ∧
           s.seq.slots[(5 : SlotId)].urgency = .orderly ∧ s.seq.slots[(5 : SlotId)].pg = true) ∧
         (s.seq.slots[(6 : SlotId)].state = .held ∧ s.seq.slots[(6 : SlotId)].reason = .limit ∧
           s.seq.slots[(6 : SlotId)].urgency = .orderly ∧ s.seq.slots[(6 : SlotId)].pg = true) ∧
         ({ slotAs .notice .leak true with urgency := .immediate } : Slot).reason = .leak) := by
  decide +kernel

/-- R123 on the board at PROMPT, class ESSENTIAL: SOAK drains, ON is warned, HELD drains, NOTICE is taken over, DEFERRABLE too,
CRITICAL is spared; INHIBIT of a second entry is set by its match. -/
theorem test_reserve_shed :
    leads (.armTargets 1)
      (tabled [⟨500, .falling, .shed, 1, .prompt⟩, ⟨600, .falling, .inhibitPowerup, 1, .none⟩])
      (fun t =>
        [2, 3, 4, 5, 6, 21, 23].map (fun n : SlotId => t.seq.slots[n].state) ==
            [.queued, .draining, .notice, .notice, .draining, .notice, .on] &&
          t.seq.slots[(5 : SlotId)].reason == .reserve && t.seq.targetInhibit) = true := by
  decide +kernel

theorem witness_SetChargeTakesTheValue :
    board.atOnce = true ∧ takeId 4 3#8 = some (3 : BbuId) ∧ board.charge.bbus[(3 : BbuId)].state = .absent ∧
      takeId 4 0#8 = some (0 : BbuId) ∧ board.charge.bbus[(0 : BbuId)].state ≠ .absent ∧ board.charge.armed = false := by
  decide +kernel

theorem witness_TestsStartAndAbort :
    board.atOnce = true ∧ takeId 4 0#8 = some (0 : BbuId) ∧
      (board.holdup.state = .online ∧ board.charge.bbus[(0 : BbuId)].state = .standby ∧
        board.charge.bbus[(0 : BbuId)].calibrated = true ∧ board.charge.test.running = false ∧ board.sense.seen = true ∧
        board.sense.iAvg < 10 ∧ board.settings.bbus[(0 : BbuId)].testReserve ≤ 65535) ∧
      board.charge.bbus[(1 : BbuId)].state ≠ .standby ∧
      ((testing board).atOnce = true ∧ (testing board).charge.test.running = true ∧
        (testing board).charge.test.bbu = some 0 ∧ (testing board).charge.bbus[(0 : BbuId)].state = .testing) := by
  decide +kernel

/-- Slot 0 queues, 5 is withdrawn, 2 stays, 22 is refused; and a list of two runs entry by entry. -/
theorem witness_PowerUpTakesSlotsByState :
    board.atOnce = true ∧ takeId 24 23#8 = some (23 : SlotId) ∧
      (board.seq.slots[(0 : SlotId)].state = .off ∧ board.settings.slots[(0 : SlotId)].enabled = true ∧
        board.slotWet 0 = false ∧ (0 : SlotId) ∉ board.seq.queue) ∧
      (board.seq.slots[(5 : SlotId)].state = .notice ∧ board.seq.slots[(5 : SlotId)].reason = .manager ∧
        board.slotWet 5 = false) ∧
      board.seq.slots[(2 : SlotId)].state = .soak ∧
      (board.seq.slots[(22 : SlotId)].state = .off ∧ board.settings.slots[(22 : SlotId)].enabled = false) ∧
      (board.seq.queue = [1] ∧ board.settings.slots[(0 : SlotId)].rank < board.settings.slots[(1 : SlotId)].rank ∧
        ¬ board.settings.slots[(12 : SlotId)].rank < board.settings.slots[(1 : SlotId)].rank ∧
        board.seq.slots[(12 : SlotId)].state = .off) ∧
      (let s := { board with settings := { board.settings with sequence := { board.settings.sequence with maxSoak := 4 } }, seq := { board.seq with lastH := 1500 } }
       s.grantable = true ∧ s.grantsHead 1 = true) ∧
      ([0, 2] : List Byte).length ≤ 22 ∧
      (match perform (.powerUp 1 [2]) board with
        | .ok (u, .slotList [_]) =>
          (match perform (.powerUp 1 [22]) u with | .ok (_, .slotList rs) => rs.length == 1 | _ => false)
        | _ => false) = true := by
  decide +kernel

theorem witness_PowerDownTakesSlotsByState :
    board.atOnce = true ∧ takeId 24 23#8 = some (23 : SlotId) ∧ board.seq.slots[(0 : SlotId)].state = .off ∧
      board.seq.slots[(1 : SlotId)].state = .queued ∧
      (board.seq.slots[(3 : SlotId)].state = .soak ∧ board.seq.slots[(3 : SlotId)].pg = true ∧ (3 : SlotId) ∉ board.seq.queue) ∧
      (board.seq.slots[(2 : SlotId)].state = .soak ∧ board.seq.slots[(2 : SlotId)].pg = false ∧ (2 : SlotId) ∉ board.seq.queue) ∧
      board.seq.slots[(4 : SlotId)].state = .on ∧
      (board.seq.slots[(11 : SlotId)].state = .draining ∧ board.seq.slots[(11 : SlotId)].reason = .leak) ∧
      (board.seq.slots[(6 : SlotId)].state = .held ∧ board.seq.slots[(6 : SlotId)].reason = .limit ∧
        board.seq.slots[(6 : SlotId)].pg = true ∧ board.seq.slots[(6 : SlotId)].urgency = .orderly) ∧
      (match perform (.powerDown 1 0 [4]) board with
        | .ok (u, .slotList [_]) =>
          (match perform (.powerDown 1 0 [0]) u with | .ok (_, .slotList rs) => rs.length == 1 | _ => false)
        | _ => false) = true := by
  decide +kernel

/-- Slots 8, 13, 14 and 15 are FAULTED, in no zone, in zones of both policies, and with PG high; 10 and 9 are LOCKED, dry and wet. -/
theorem witness_ReleaseSlotByItsTable :
    board.atOnce = true ∧ takeId 24 8#8 = some (8 : SlotId) ∧
      (board.seq.slots[(8 : SlotId)].state = .faulted ∧ board.seq.slots[(8 : SlotId)].pg = false ∧ (8 : SlotId) ∉ board.seq.queue) ∧
      (board.seq.slots[(13 : SlotId)].state = .faulted ∧ board.slotWetShed 13 = true) ∧
      (board.seq.slots[(14 : SlotId)].state = .faulted ∧ board.slotWet 14 = true ∧ board.slotWetShed 14 = false) ∧
      (board.seq.slots[(15 : SlotId)].state = .faulted ∧ board.seq.slots[(15 : SlotId)].pg = true) ∧
      (board.seq.slots[(10 : SlotId)].state = .locked ∧ board.slotWet 10 = false) ∧
      (board.seq.slots[(9 : SlotId)].state = .locked ∧ board.slotWet 9 = true) := by
  decide +kernel

theorem witness_ClearZoneReleasesTheValve :
    board.atOnce = true ∧ takeId 8 7#8 = some (7 : ZoneId) ∧ board.leak.zones[(1 : ZoneId)].cls = .wet ∧
      board.leak.zones[(5 : ZoneId)].report = true ∧
      (board.leak.zones[(2 : ZoneId)].state = .wet ∧ board.leak.zones[(2 : ZoneId)].cls ≠ .wet ∧
        board.leak.zones[(2 : ZoneId)].report = false) ∧
      (board.leak.zones[(0 : ZoneId)].state = .dry ∧ board.leak.zones[(0 : ZoneId)].cls ≠ .wet) ∧
      (let s := { board with leak := { zones := board.leak.zones.set 3 (zoneAs .suspect) } }
       s.leak.zones[(3 : ZoneId)].state = .suspect ∧ s.leak.zones[(3 : ZoneId)].cls ≠ .wet ∧
         s.leak.zones[(3 : ZoneId)].report = false) ∧
      (board.settings.slots[(10 : SlotId)].zone = some 0 ∧ board.seq.slots[(10 : SlotId)].state = .locked ∧
        board.settings.slots[(10 : SlotId)].enabled = true ∧ (10 : SlotId) ∉ board.seq.queue ∧
        board.seq.lastHoldup = .online ∧ bridging.seq.lastHoldup ≠ .online ∧
        (withSlot 10 { heldBy 0 .leak 10 with enabled := false } (slotAs .locked .leak false) board).settings.slots[(10 : SlotId)].enabled
          = false) := by
  decide +kernel

def writing : State := { board with store := { board.store with writing := some ⟨board.settings, 0⟩ } }

theorem witness_LatchRecordStoreAndLocks :
    (latched 53).atOnce = true ∧ takeId 21 16#8 = some (16 : AnalogId) ∧
      ((latched 53).settings.points[(16 : AnalogId)].mode = .latch ∧ (latched 53).sense.points[(16 : PointId)].alarm = true ∧
        ¬ (latched 53).settings.points[(16 : AnalogId)].high < (latched 53).sense.points[(16 : PointId)].value) ∧
      (latched 56).settings.points[(16 : AnalogId)].high < (latched 56).sense.points[(16 : PointId)].value ∧
      bridging.holdup.record.isOpen = true ∧ board.holdup.record.isOpen = false ∧ writing.store.writing ≠ none ∧
      board.store.writing = none := by
  decide +kernel

/-! Power, inputs, events -/

theorem witness_PowerAndResetKeepWhatTheManualKeeps :
    (∀ cold, board.phase ≠ .inReset cold) ∧ board.store.writing = none ∧ writing.store.writing ≠ none ∧
      (∀ cold, writing.phase ≠ .inReset cold) ∧ (testing board).charge.test.running = true ∧
      board.charge.test.running = false ∧ bridging.holdup.record.isOpen = true ∧ board.holdup.record.isOpen = false ∧
      ({ board with phase := .inReset false }).phase = .inReset false ∧
      ({ board with phase := .inReset true }).phase = .inReset true ∧
      (board.phase = .running ∧ ({ board with phase := .loading true }).phase = .loading true) ∧
      (∀ straps, Instr.txFrameEnd ≠ .powerOn straps) ∧ ∀ straps, Instr.txFrameEnd ≠ .pinResetRelease straps := by
  refine ⟨?_, ?_, ?_, ?_, ?_, ?_, ?_, ?_, rfl, rfl, ⟨rfl, rfl⟩, nofun, nofun⟩ <;> decide +kernel

/-- A pin reset of the board has reached its load. Slots 9 and 13 with their PG pins as the board's, 11 with PG high, lie in a
WET zone of VALVE_AND_SHED; 4 has PG and EN, 7 PG alone. -/
theorem witness_LoadTakesTheProfileAndAdopts :
    (∀ cold, board.phase ≠ .loading cold) ∧
      (let s := { board with phase := .loading true }
       s.phase = .loading true ∧ s.lastReset = .powerOn) ∧
      (let s := { board with phase := .loading true, lastReset := .pin }
       s.phase = .loading true ∧ s.lastReset = .pin) ∧
      (let s := { board with phase := .loading false, lastReset := .pin }
       s.phase = .loading false ∧ s.lastReset = .pin ∧ s.store.nvm.valid = false ∧ s.leak.zones[(1 : ZoneId)].state = .wet ∧
         s.leak.zones[(0 : ZoneId)].state ≠ .wet ∧ s.pins.pg[(4 : SlotId)] = true ∧ s.seq.slots[(4 : SlotId)].en = true ∧
         s.pins.pg[(7 : SlotId)] = true ∧ s.seq.slots[(7 : SlotId)].en = false ∧ s.pins.pg[(0 : SlotId)] = false) ∧
      (let p := { defaultSettings with slots := defaultSettings.slots.set 11 (heldBy 1 .general 11) }
       let s := { board with phase := .loading false, lastReset := .pin, store := { board.store with nvm := ⟨p, true, 0⟩ } }
       s.store.nvm.valid = true ∧ p.slots[(11 : SlotId)].zone = some 1 ∧ s.pins.pg[(11 : SlotId)] = true ∧
         s.settings.zones[(1 : ZoneId)].policy = .valveAndShed) := by
  refine ⟨?_, ⟨rfl, rfl⟩, ⟨rfl, rfl⟩, ?_, ?_⟩ <;> decide +kernel

theorem witness_InputsReclassifyTheirModules :
    (board.phase = .running ∧ board.sense.seen = true ∧ board.pins.psu[(4 : PsuId)] = ⟨true, true, true⟩ ∧
        board.budget.psus[(4 : PsuId)].state = .good) ∧
      (State.reset.phase = .running ∧ State.reset.sense.seen = false ∧ State.reset.holdup.state = .starting ∧
        State.reset.pins.psu[(0 : PsuId)] ≠ ⟨true, false, false⟩) ∧
      (board.holdup.state = .online ∧ ({ board with holdup := { board.holdup with lastCounted := 0 } }).holdup.lastCounted = 0) ∧
      ({ board with phase := .inReset false }).phase ≠ .running ∧
      (let s := { board with pins := { board.pins with bbu := board.pins.bbu.set 3 ⟨false, false⟩ } }
       s.pins.bbu[(3 : BbuId)].present = false ∧ s.charge.bbus[(3 : BbuId)].state = .absent) ∧
      (board.pins.bbu[(0 : BbuId)].present = true ∧ board.charge.bbus[(0 : BbuId)].state ≠ .absent) ∧
      (board.pins.bbu[(0 : BbuId)].fault = false ∧ board.charge.bbus[(0 : BbuId)].state ≠ .fault) ∧
      (let s := { board with pins := { board.pins with bbu := board.pins.bbu.set 2 ⟨true, true⟩ } }
       s.pins.bbu[(2 : BbuId)].fault = true ∧ s.charge.bbus[(2 : BbuId)].state = .fault ∧
         s.pubValue (bbuTPoint 2) < s.charge.bbus[(2 : BbuId)].critInForce) := by
  decide +kernel

/-- R62, R64, R67, R70, R72 at an input: PSU 5's AC_OK rises or falls, with two PSUs enough or not and BUS_V at 5,100. -/
theorem witness_inputs_move_the_holdup_state :
    let need (n : Nat) (s : State) : State := { s with settings := { s.settings with holdup := { s.settings.holdup with nAcMin := n } } }
    let uncounted (s : State) : State := { s with holdup := { s.holdup with lastCounted := 0 } }
    let answers (s : State) (level : Bool) (st : HoldupState) : Bool :=
      leads (.psuInputChange 5 .acOk level) { s with pins := { s.pins with psu := s.pins.psu.set 5 ⟨true, !level, true⟩ } }
        (fun t => t.holdup.state == st)
    answers board false .online = true ∧ answers (need 6 board) false .bridging = true ∧
      answers (uncounted (need 6 board)) false .blackout = true ∧ answers bridging true .returning = true ∧
      answers (need 6 bridging) false .bridging = true ∧ answers blackedOut true .returning = true ∧
      answers (need 6 blackedOut) false .blackout = true ∧ answers returning true .returning = true ∧
      answers (need 6 returning) false .bridging = true ∧ answers (uncounted (need 6 returning)) false .blackout = true ∧
      bridging.sense.seen = true ∧ returning.holdup.record.isOpen = true := by
  decide +kernel

/-- The PG pins of slots 0, 1, 2 and 8 are low and those of 4, 6, 7, 11, 15 and 16 high. -/
theorem witness_PgChangesBySlotState :
    board.phase = .running ∧ (board.pins.pg[(0 : SlotId)] = false ∧ board.seq.slots[(0 : SlotId)].state = .off) ∧
      (board.pins.pg[(2 : SlotId)] = false ∧ board.seq.slots[(2 : SlotId)].state = .soak) ∧
      (board.pins.pg[(8 : SlotId)] = false ∧ board.seq.slots[(8 : SlotId)].state = .faulted) ∧
      (board.pins.pg[(4 : SlotId)] = true ∧ board.seq.slots[(4 : SlotId)].state = .on) ∧
      (board.pins.pg[(11 : SlotId)] = true ∧ board.seq.slots[(11 : SlotId)].state = .draining ∧
        board.seq.slots[(11 : SlotId)].reason = .leak) ∧
      (board.pins.pg[(7 : SlotId)] = true ∧ board.seq.slots[(7 : SlotId)].reason = .manager) ∧
      (board.pins.pg[(16 : SlotId)] = true ∧ board.seq.slots[(16 : SlotId)].reason = .reserve ∧
        board.holdup.state = .online ∧ board.settings.slots[(16 : SlotId)].autoRestore = true ∧ board.slotWet 16 = false) ∧
      bridging.holdup.state ≠ .online ∧ ({ board with phase := .inReset false }).phase ≠ .running := by
  decide +kernel

def regulatorIn (st : RegState) (iSet : Nat) : State :=
  { board with
    recharge :=
      { board.recharge with
        state := st, iSet := iSet, step := none, floorTimer := if st = .floor then some 300000 else none,
        shares := sharesOf board.recharge.members iSet }
    seq := { board.seq with queue := [] }
    budget := { board.budget with cap := 30000, pubs := [(2312, 2312)] } }

def reservePub (counted : Nat) (after : Bool) : ReservePub := ⟨0, 0, Vector.replicate 8 false, false, counted, after⟩

def starting (ac : AcEval) (counted : Nat) (held : Bool) : State :=
  { State.reset with
    holdup := { State.reset.holdup with first := some ⟨ac, .busSag, held⟩ }
    charge := { State.reset.charge with pubs := [reservePub counted true] } }

theorem witness_PublicationsReachTheirConsumers :
    (board.phase = .running ∧ board.budget.pubs = [] ∧ board.charge.pubs = [] ∧ board.seq.reports = []) ∧
      ((regulatorIn .off 0).budget.pubs = [(2312, 2312)] ∧ (regulatorIn .off 0).seq.queue = []) ∧
      ((800 : Int) ≤ 2312 ∧ (regulatorIn .floor 50).recharge.state = .floor) ∧
      (let s := regulatorIn .paused 0
       s.recharge.state = .paused ∧ (1000 : Int) + 200 + ((200 * s.busV + 999) / 1000 : Nat) ≤ 2312 ∧
         s.recharge.members[(1 : BbuId)] = true ∧ s.sourceTemp ≤ s.recharge.tChgLimInForce ∧
         ¬ (s.budget.cap : Int) - s.commitmentSum - ((200 * s.busV + 999) / 1000 : Nat) < 0) ∧
      ((starting .good 0 false).holdup.state = .starting ∧ (starting .good 0 false).phase = .running) ∧
      (let s := starting .failed 1 true
       s.holdup.first = some ⟨.failed, .busSag, true⟩ ∧ s.charge.pubs = [reservePub 1 true]) ∧
      (starting .failed 0 true).charge.pubs = [reservePub 0 true] ∧
      (starting .failed 1 false).holdup.first = some ⟨.failed, .busSag, false⟩ ∧
      (let s := { regulatorIn .cruise 400 with seq := { board.seq with queue := [1], lastH := 2312 } }
       s.budget.pubs = [(2312, 2312)] ∧ s.seq.queue = [1] ∧ (1 : SlotId) ∉ ([] : List SlotId) ∧ s.grantable = false ∧
         { s with settings := { s.settings with sequence := { s.settings.sequence with maxSoak := 4 } } }.grantable = true ∧
         ((s.settings.slots[(1 : SlotId)].pReq + s.settings.slots[(1 : SlotId)].pInrush : Nat) : Int) ≤ 2312) ∧
      (let s := { bridging with charge := { bridging.charge with pubs := [reservePub 0 true] } }
       s.holdup.state = .bridging ∧ s.charge.pubs = [reservePub 0 true]) ∧
      (let s := { board with seq := { board.seq with reports := [some 2100] } }
       s.seq.reports = [some 2100] ∧ s.recharge.state = .cruise ∧ s.recharge.lastInhibit = false ∧
         s.settings.recharge.iFloor < s.recharge.iSet) := by
  decide +kernel

/-- A regulator with a last H, whose charging set held BBU 1 or none. -/
def regulatedAt (st : RegState) (iSet : Nat) (had : Bool) (h : Int) : State :=
  let s := regulatorIn st iSet
  { s with recharge := { s.recharge with lastH := h, members := if had then s.recharge.members else Vector.replicate 4 false } }

/-- The regulator answers a sample set that reads BBU 1 at `code` with a state and an I_set. -/
def regulates (code : Nat) (s : State) (st : RegState) (iSet : Nat) : Bool :=
  leads (.sampleSet (calmCodes [(17, code)])) s fun t =>
    t.holdup.state == s.holdup.state && t.recharge.state == st && t.recharge.iSet == iSet

/-- R84, R87, R89 at BUS_V 5,126, where P(200) is 1,026: START takes H from 2,026, the restart H from 2,226; the codes 1946, 1967,
1905 and 1926 read 45, 46, 43 and 44 °C. -/
theorem witness_sample_set_regulates :
    regulates 1946 (regulatedAt .off 0 false 2026) .cruise 200 = true ∧
      regulates 1946 (regulatedAt .off 0 false 2025) .paused 0 = true ∧
      regulates 1967 (regulatedAt .off 0 false 2026) .thermalHold 50 = true ∧
      regulates 1946 (regulatedAt .off 0 true 2026) .off 0 = true ∧
      regulates 1946 (regulatedAt .paused 0 true 2226) .cruise 200 = true ∧
      regulates 1946 (regulatedAt .paused 0 true 2225) .paused 0 = true ∧
      regulates 1946 (regulatedAt .cruise 400 true 0) .cruise 400 = true ∧
      regulates 1967 (regulatedAt .floor 50 true 0) .thermalHold 50 = true ∧
      regulates 1905 (regulatedAt .thermalHold 50 true 0) .cruise 50 = true ∧
      regulates 1926 (regulatedAt .thermalHold 50 true 0) .thermalHold 50 = true ∧
      (regulatedAt .off 0 false 0).seq.queue = [] ∧ (regulatedAt .off 0 false 0).charge.armed = false := by
  decide +kernel

/-- R80, R88: an alarm at BBU 1 empties the set, and a shelf without capacity pauses the charge, the START of one set included. -/
theorem witness_sample_set_stops_charging :
    let dark (s : State) : State := { s with settings := { s.settings with budget := { s.settings.budget with pRate := 0 } } }
    regulates 2070 (regulatedAt .cruise 400 true 0) .off 0 = true ∧
      regulates 1500 (dark (regulatedAt .cruise 400 true 0)) .paused 0 = true ∧
      regulates 1500 (dark (regulatedAt .off 0 false 9000)) .paused 0 = true ∧
      regulates 1967 (dark (regulatedAt .off 0 false 9000)) .paused 0 = true := by
  decide +kernel

def short (st : DeficitState) (asked : Nat) (answers : List (Int × Nat)) : State :=
  { board with
    budget :=
      { board.budget with
        deficit := st, timer := if st = .grace then some 2000 else none, selAsked := asked, answers := answers } }

theorem witness_DeficitIsSelectedAndAnswered :
    ((short .grace 0 []).phase = .running ∧ (short .grace 0 []).budget.deficit = .grace ∧
        (short .grace 0 []).budget.timer.isSome = true) ∧
      board.budget.timer = none ∧ board.budget.selAsked = 0 ∧ (short .selecting 1 []).budget.selAsked ≠ 0 ∧
      board.budget.answers = [] ∧
      ((short .selecting 0 [(468, 6)]).budget.answers = [(468, 6)] ∧
        (short .selecting 0 [(468, 6)]).budget.deficit = .selecting) ∧
      (short .idle 0 [(-1, 0)]).budget.deficit ≠ .selecting ∧ (short .selecting 0 [(468, 6)]).budget.stale = 0 ∧
      (let s := short .selecting 0 [(468, 6), (-1, 0)]
       { s with budget := { s.budget with stale := 1 } }.budget.stale ≠ 0) := by
  decide +kernel

/-- R33: the answer to a selection asked before ONLINE was left is dropped; the next one is judged. -/
theorem test_stale_answer :
    let s := short .selecting 0 [(468, 6), (-1, 0)]
    let u := { s with budget := { s.budget with stale := 1 } }
    leads .deficitAnswer u (fun t => t.budget.deficit == .selecting && t.budget.stale == 0 && t.budget.answers == [(-1, 0)]) = true ∧
      leads .deficitAnswer { u with budget := { u.budget with stale := 0, answers := [(-1, 0)] } }
        (fun t => t.budget.deficit == .grace && t.causes.recs[(131 : CauseId)].code == 3) = true := by
  decide +kernel

theorem witness_TimersOfTestAndHoldup :
    ((testing board).phase = .running ∧ (testing board).charge.test.running = true ∧
        (testing board).charge.test.timer.isSome = true ∧ (testing board).charge.test.bbu = some 0 ∧
        (testing board).charge.bbus[(0 : BbuId)].state = .testing) ∧
      (returning.phase = .running ∧ returning.holdup.state = .returning ∧ returning.holdup.settle.isSome = true ∧
        returning.holdup.record.isOpen = true ∧ returning.charge.armed = false ∧
        returning.settings.targets.mode = .onBridge) ∧
      (returning.seq.slots[(6 : SlotId)].state = .held ∧ returning.seq.slots[(6 : SlotId)].reason = .limit ∧
        returning.seq.slots[(5 : SlotId)].state = .notice ∧ returning.seq.slots[(5 : SlotId)].reason = .manager ∧
        (6 : SlotId) ∉ returning.seq.queue ∧ (5 : SlotId) ∉ returning.seq.queue) ∧
      (bridging.holdup.bridging.isSome = true ∧ bridging.settings.slots[(23 : SlotId)].cls = .critical ∧
        bridging.seq.slots[(4 : SlotId)].state = .on ∧ bridging.settings.slots[(4 : SlotId)].cls ≠ .critical) ∧
      (bridging.holdup.state = .bridging ∧ bridging.holdup.collapse.isSome = true ∧
        bridging.seq.slots[(4 : SlotId)].en = bridging.seq.slots[(4 : SlotId)].state.powered ∧
        bridging.seq.slots[(4 : SlotId)].reason ≠ .leak ∧ bridging.seq.slots[(0 : SlotId)].state = .off ∧
        bridging.settings.slots[(0 : SlotId)].autoRestore = true ∧ bridging.seq.slots[(1 : SlotId)].state = .queued ∧
        bridging.sense.seen = true ∧ bridging.charge.bbus[(0 : BbuId)].state = .standby) ∧
      (bridging.holdup.state ≠ .online ∧ bridging.seq.slots[(3 : SlotId)].state = .soak ∧
        bridging.seq.slots[(2 : SlotId)].pg = false ∧ bridging.seq.slots[(5 : SlotId)].urgency.level ≤ 2 ∧
        bridging.seq.slots[(6 : SlotId)].urgency.level ≤ 2 ∧
        ({ slotAs .notice .leak true with urgency := .immediate } : Slot).reason = .leak) := by
  decide +kernel

/-- The ONLINE-entry clause of TimersOfTestAndHoldup with an armed table. -/
theorem witness_settle_with_an_armed_table :
    returningArmed.phase = .running ∧ returningArmed.holdup.state = .returning ∧
      returningArmed.holdup.settle.isSome = true ∧ returningArmed.charge.armed = true ∧
      returningArmed.charge.halted = false ∧ returningArmed.settings.targets.mode = .onBridge ∧
      returningArmed.charge.bbus[(2 : BbuId)].state = .depleted ∧
      returningArmed.seq.slots[(3 : SlotId)].state = .soak ∧ (3 : SlotId) ∉ returningArmed.seq.queue ∧
      returningArmed.seq.slots[(4 : SlotId)].state = .on ∧ (4 : SlotId) ∉ returningArmed.seq.queue := by
  decide +kernel

def cruising (h : Int) (iSet cap : Nat) : State :=
  { board with
    recharge := { board.recharge with lastH := h, iSet := iSet }
    budget := { board.budget with cap := cap } }

/-- The band of the default settings is 800 to 1,200: one above it, its ends, one below it, and I_set at the floor. -/
theorem witness_RegulatorTimersFollowTheBand :
    ((cruising 1201 400 30000).phase = .running ∧ (cruising 1201 400 30000).recharge.state = .cruise ∧
        (cruising 1201 400 30000).recharge.step.isSome = true ∧ (1000 : Int) + 200 < 1201 ∧
        ¬ ((cruising 1201 400 30000).budget.cap : Int) - (cruising 1201 400 30000).commitmentSum - 2142 < 0) ∧
      ((420 * (cruising 1201 400 30000).busV + 999) / 1000 = 2142) ∧
      (((cruising 1201 400 0).budget.cap : Int) - (cruising 1201 400 0).commitmentSum - 2142 < 0) ∧
      ((799 : Int) < 1000 - 200 ∧ (cruising 799 50 30000).recharge.iSet ≤ (cruising 799 50 30000).settings.recharge.iFloor) ∧
      ((regulatorIn .floor 50).recharge.state = .floor ∧ (regulatorIn .floor 50).recharge.floorTimer.isSome = true) ∧
      (regulatorIn .paused 0).recharge.step = none ∧ board.recharge.floorTimer = none := by
  decide +kernel

def granting (h : Int) : State :=
  { board with
    settings := { board.settings with sequence := { board.settings.sequence with maxSoak := 4 } }
    seq := { board.seq with stagger := some 500, lastH := h } }

/-- Slot 1 heads the queue and needs 1,500 W. -/
theorem witness_SlotTimersMoveTheirSlots :
    ((granting 1500).phase = .running ∧ (granting 1500).seq.stagger.isSome = true ∧ (granting 1500).seq.queue = [1] ∧
        (1 : SlotId) ∉ ([] : List SlotId) ∧ (granting 1500).seq.lastHoldup = .online ∧
        slotIds.countP (fun m => (granting 1500).seq.slots[m].state == .soak) < (granting 1500).settings.sequence.maxSoak ∧
        (((granting 1500).settings.slots[(1 : SlotId)].pReq + (granting 1500).settings.slots[(1 : SlotId)].pInrush : Nat) : Int) ≤
          (granting 1500).seq.lastH ∧ ¬ ((1500 : Nat) : Int) ≤ (granting 1499).seq.lastH) ∧
      (board.seq.slots[(3 : SlotId)].state = .soak ∧ board.seq.slots[(3 : SlotId)].soak.isSome = true ∧
        board.seq.slots[(3 : SlotId)].pg = true ∧ board.seq.slots[(2 : SlotId)].pg = false ∧
        board.seq.slots[(2 : SlotId)].soak.isSome = true ∧ (3 : SlotId) ∉ board.seq.queue ∧ (2 : SlotId) ∉ board.seq.queue) ∧
      (board.seq.slots[(5 : SlotId)].state = .notice ∧ board.seq.slots[(5 : SlotId)].window.isSome = true ∧
        board.seq.slots[(5 : SlotId)].pg = true ∧ (5 : SlotId) ∉ board.seq.queue) ∧
      (board.seq.slots[(6 : SlotId)].state = .held ∧ board.seq.slots[(6 : SlotId)].hold.isSome = true ∧
        board.seq.slots[(6 : SlotId)].pg = true ∧ (6 : SlotId) ∉ board.seq.queue) ∧
      (board.seq.slots[(7 : SlotId)].state = .draining ∧ board.seq.slots[(7 : SlotId)].drain.isSome = true ∧
        board.seq.slots[(7 : SlotId)].pg = true ∧ (7 : SlotId) ∉ board.seq.queue) := by
  decide +kernel

def lineAt (mode : LineMode) (cycle : CycleState) (due : Bool) : State :=
  { board with line := { board.line with mode := mode, cycle := cycle, startDue := due, survey := some 1000 } }

/-- Nothing on the reset part holds the continuous condition; slot 2 of the board, in SOAK, does. -/
theorem witness_CyclesStartAndChooseTheirMode :
    (board.phase = .running ∧ board.line.enabled = true ∧ board.line.cycle = .idle ∧ board.line.mode = .continuous) ∧
      ((lineAt .quiet .idle true).line.mode = .quiet ∧ (lineAt .quiet .idle true).line.startDue = true ∧
        (lineAt .quiet .idle true).line.cycle = .idle) ∧
      (lineAt .quiet (.stopFrame 2) true).line.cycle ≠ .idle ∧
      ((lineAt .continuous (.slotFrame 0 .n) false).line.cycle = .slotFrame 0 .n ∧
        board.seq.slots[(2 : SlotId)].state = .soak) ∧
      (State.reset.phase = .running ∧ (∀ n : SlotId, State.reset.seq.slots[n].state = .off) ∧
        (∀ z : ZoneId, State.reset.leak.zones[z].state = .dry) ∧ State.reset.line.state = .ok ∧
        State.reset.settings.line.mode = .adaptive) ∧
      (lineAt .quiet .idle false).line.survey.isSome = true ∧
      (let x := { (lineAt .continuous (.slotFrame 5 .n) false).line with latched := 0x000020 }
       x.cycle = .slotFrame 5 .n ∧ x.drivesLow = true ∧ { x with cycle := .slotFrame 6 .n }.drivesLow = false) ∧
      ((lineAt .quiet (.startFrame true 0) false).line.cycle = .startFrame true 0 ∧
        ({ board with line := Line.init false }).line.enabled = false) := by
  decide +kernel

def stopping (faultRun cleanRun : Nat) (st : LineState) : State :=
  { board with
    line := { board.line with cycle := .stopFrame 3, faultRun := faultRun, cleanRun := cleanRun, state := st } }

/-- The third faulted cycle, the sixteenth clean one, and one short of each; slots 5 and 6 are warned and held. -/
theorem witness_CycleEndDecodesAndCounts :
    ((stopping 2 0 .ok).phase = .running ∧ (stopping 2 0 .ok).line.cycle = .stopFrame 3) ∧
      ((stopping 2 0 .ok).line.state = .ok ∧ min 3 ((stopping 2 0 .ok).line.faultRun + 1) = 3 ∧
        min 3 ((stopping 1 0 .ok).line.faultRun + 1) ≠ 3) ∧
      ((stopping 0 15 .failed).line.state = .failed ∧ min 16 ((stopping 0 15 .failed).line.cleanRun + 1) = 16 ∧
        min 16 ((stopping 0 14 .failed).line.cleanRun + 1) ≠ 16) ∧
      (board.settings.slots[(5 : SlotId)].zone = none ∧ (5 : SlotId) ∉ board.seq.queue ∧
        board.seq.slots[(5 : SlotId)].state = .notice ∧ board.seq.slots[(5 : SlotId)].urgency = .orderly ∧
        board.settings.sequence.holdEssential = 120) ∧
      (board.seq.slots[(6 : SlotId)].state = .held ∧ board.seq.slots[(6 : SlotId)].pg = true) ∧
      (board.seq.slots[(0 : SlotId)].state = .off ∧ board.seq.slots[(0 : SlotId)].pg = false) ∧
      (board.settings.slots[(10 : SlotId)].role = .leak ∧ board.settings.slots[(10 : SlotId)].zone = some 0) ∧
      (1 ≤ board.settings.zones[(0 : ZoneId)].kTray ∧ board.leak.zones[(1 : ZoneId)].state = .wet ∧
        board.leak.zones[(4 : ZoneId)].state = .fault ∧
        (board.leak.zones[(3 : ZoneId)].state = .suspect ∧ 0 < board.leak.zones[(3 : ZoneId)].ropeCount) ∧
        (board.leak.zones[(5 : ZoneId)].state = .suspect ∧ board.leak.zones[(5 : ZoneId)].ropeCount = 0 ∧
          board.leak.zones[(5 : ZoneId)].awaitSet = false) ∧
        { zoneAs .suspect with awaitSet := true }.awaitSet = true) := by
  decide +kernel

/-- Slots 4, 3, 7 and 21 guard zones 0, 6, 3 and 5 and report; zone 0 floods by one report, and no report ends zone 5. -/
theorem witness_cycle_end_counts_trays :
    let s := flooding .valveAndShed (stopping 0 0 .ok)
    let u := withSlot 21 (heldBy 5 .leak 21) (slotAs .on .none true)
      (withSlot 7 (heldBy 3 .leak 7) (slotAs .draining .manager true)
        (withSlot 3 (heldBy 6 .leak 3) (slotAs .soak .none true) s))
    leads (.cycleEnd ⟨0, 0x200098, 0, 0⟩) u
        (fun t =>
          [0, 6, 3, 5].map (fun z : ZoneId => (t.leak.zones[z].state, t.leak.zones[z].trayCount)) ==
              [(.wet, 1), (.suspect, 1), (.wet, 1), (.suspect, 2)] &&
            [1, 2, 4, 6, 8, 12, 16].map (fun n : SlotId => t.seq.slots[n].state) ==
              [.locked, .locked, .draining, .draining, .faulted, .locked, .draining]) = true ∧
      leads (.cycleEnd ⟨0, 0, 0, 0⟩) u
        (fun t => [0, 3, 5].map (fun z : ZoneId => t.leak.zones[z].state) == [.dry, .suspect, .dry]) = true := by
  decide +kernel

/-! ### Worked cases of the manual, each one step -/

def codesWith (p : Nat) (v : Nat) : Vector (BitVec 12) 29 := Vector.ofFn fun q => if q.val = p then BitVec.ofNat 12 v else 2048

/-- 1.2, worked cases: BUS_V code 3,500 gives 5,126 and BBU_I2 code 1,000 gives −3,071. -/
theorem test_scaling :
    leads (.sampleSet (codesWith 0 3500)) State.reset (fun t => t.sense.points[(0 : PointId)].value == 5126) = true ∧
      leads (.sampleSet (codesWith 14 1000)) State.reset (fun t => t.sense.points[(14 : PointId)].value == -3071) = true := by
  decide +kernel

/-- 1.2, worked cases: span −200, offset 150. -/
theorem test_scaling_negative_span :
    scaledValue 16 ⟨-200, 150, .off, .above, 0, 0⟩ 2048 = 50 ∧ scaledValue 16 ⟨-200, 150, .off, .above, 0, 0⟩ 1000 = 101 := by
  decide +kernel

/-- 1.4, worked case. -/
theorem test_load_window :
    windowMean (windowNext [] true 4500) = 4500 ∧
      windowMean [4500, 4500, 4500, 4500, 4500, 4500, 4500, 4620] = 4515 ∧
      windowNext [4500, 4500, 4500, 4500, 4500, 4620, 4740, 4740] true 4503 =
        [4500, 4500, 4500, 4500, 4620, 4740, 4740, 4503] ∧
      windowMean [4500, 4500, 4500, 4500, 4620, 4740, 4740, 4503] = 4575 := by
  decide +kernel

/-- 1.6, worked case: HYSTERESIS at 1,200 and 1,100. -/
theorem test_hysteresis :
    let set : PointSettings := ⟨2500, 0, .hysteresis, .above, 1200, 1100⟩
    alarmNext set 1151 false = false ∧ alarmNext set 1210 false = true ∧ alarmNext set 1181 true = true ∧
      alarmNext set 1099 true = false ∧ alarmNext set 1250 false = true := by
  decide +kernel

/-- 1.6, worked case: CLEAR_LATCH judged against 57 and against 53, high limit 55. -/
theorem test_clear_latch :
    leads (.clearLatch 1 16) (latched 57) (fun t => t.sense.points[(16 : PointId)].alarm) = true ∧
      leads (.clearLatch 1 16) (latched 53) (fun t => !t.sense.points[(16 : PointId)].alarm) = true := by
  decide +kernel

/-- 2.3, worked case: the table as sorted, and f at 34, 35, 40, 44 and 45 degrees. -/
theorem test_derate_table :
    leads (.setBudget 1 newBudget) board
        (fun t => t.settings.budget.derate == [⟨35, 240⟩, ⟨40, 220⟩, ⟨40, 200⟩, ⟨45, 192⟩]) = true ∧
      [34, 35, 40, 44, 45].map (derateFactor (takeBudget newBudget).derate) = [256, 240, 200, 200, 192] := by
  decide +kernel

/-- 2.4, worked case: charge power, and capacity of five GOOD PSUs at 44 and 46 degrees. -/
theorem test_capacity_figures :
    let at_ (inlet : Int) : State :=
      { board with
        settings :=
          { board.settings with budget := ⟨5500, 1, [⟨35, 240⟩, ⟨40, 220⟩, ⟨45, 192⟩, ⟨50, 128⟩], 20⟩ }
        sense := { board.sense with pub := board.sense.pub.set 20 (goodPoint inlet) } }
    chargePower 250 5230 = 1308 ∧ (recomputeCapacity (at_ 44)).budget.cap = 18906 ∧
      (recomputeCapacity (at_ 46)).budget.cap = 16500 := by
  decide +kernel

/-- 2.5, worked case: DC_OK of PSU 4 falls and capacity goes to 22,000 × f / 256 with the other five less one GOOD. -/
theorem test_psu_lost :
    leads (.psuInputChange 4 .dcOk false) board
      (fun t => t.budget.psus[(4 : PsuId)].state == .fault && t.budget.nGood == 4 && t.budget.cap == 16500) = true := by
  decide +kernel

/-- Sixteen slots ON as 2.5 has them: 0 to 3 CRITICAL, 4 to 11 ESSENTIAL at 1,500 W, 12 to 15 DEFERRABLE at 1,200 W. -/
def loaded : State :=
  { State.reset with
    settings :=
      { State.reset.settings with
        slots := Vector.ofFn fun n =>
          if n.val < 4 then { defaultSlot n with cls := .critical, pReq := 1500 }
          else if n.val < 12 then { defaultSlot n with pReq := 1500 }
          else { defaultSlot n with cls := .deferrable, pReq := 1200 } }
    seq := { State.reset.seq with slots := Vector.ofFn fun n => if n.val < 16 then slotAs .on .none true else slotAs .off .none false }
    shed := ⟨-7332, -7332⟩
    budget := { State.reset.budget with deficit := .selecting, selAsked := 1 } }

/-- 2.5, worked case: 15, 14, 13, 12, 11 and 10 are taken and the projected headroom is 468. -/
theorem test_deficit_selection :
    leads .deficitSelection loaded
      (fun t =>
        t.budget.answers == [(468, 6)] && t.seq.slots[(10 : SlotId)].state == .notice &&
          t.seq.slots[(15 : SlotId)].reason == .deficit && t.seq.slots[(9 : SlotId)].state == .on) = true := by
  decide +kernel

/-- 2.5, worked case: the answer 468 covers the deficit. -/
theorem test_deficit_answer :
    leads .deficitAnswer (short .selecting 0 [(468, 6)]) (fun t => t.budget.deficit == .covered) = true := by
  decide +kernel

theorem test_deficit_grace_expiry :
    leads .deficitTimerExpiry (short .grace 0 [])
      (fun t => t.budget.deficit == .selecting && t.causes.recs[(131 : CauseId)].code == 2) = true := by
  decide +kernel

/-- 3.3, worked cases: −150 A from 300,000, and +20 A at η 230 from 1,000. -/
theorem test_integration :
    (integrate defaultBbu board.charge.bbus[(0 : BbuId)] (-1500)).1.q = 299985 ∧
      (integrate defaultBbu board.charge.bbus[(1 : BbuId)] 200).1.q = 1001 ∧
      (integrate defaultBbu board.charge.bbus[(1 : BbuId)] 200).1.r = 20400 := by
  decide +kernel

/-- 3.5, worked case. -/
theorem test_projected_time :
    projectedTime 810000 4500 = 180 ∧ projectedTime 810000 7 = 65535 ∧ projectedTime 1030000 4500 = 228 := by
  decide +kernel

/-- 3.5, worked case: BBU 3's FAULT input falls at Q 250,000, and it charges (BBU 2 of the board). -/
theorem test_fault_input_falls :
    leads (.bbuFaultInputChange 2 false) { board with pins := { board.pins with bbu := board.pins.bbu.set 2 ⟨true, true⟩ } }
      (fun t => t.charge.bbus[(2 : BbuId)].state == .charging && t.charge.bbus[(2 : BbuId)].q == 250000) = true := by
  decide +kernel

/-- 3.6, worked case: R 450,000 at arming takes entries 0 and 1 and stops at 2. -/
theorem test_arming :
    leads (.armTargets 1)
      { tabled [⟨600000, .falling, .noticeOnly, 1, .none⟩, ⟨500000, .falling, .shed, 2, .orderly⟩,
          ⟨400000, .falling, .shed, 2, .prompt⟩, ⟨250000, .falling, .shed, 1, .prompt⟩] with
        charge := { board.charge with r := 450000 } }
      (fun t =>
        t.charge.p == 2 && t.charge.armed && t.causes.recs[(97 : CauseId)].value == 450000#32 &&
          t.seq.slots[(21 : SlotId)].state == .notice && t.seq.slots[(4 : SlotId)].state == .on) = true := by
  decide +kernel

/-- 3.7, worked case: entries (0, 120) gated, (0, 300) and (200, 65,535) at T_est 228 and 120. -/
theorem test_bands :
    (rangeIds.filter fun k => inBand (takeRanges newRanges)[k] 228) = [1, 2] ∧
      (rangeIds.filter fun k => inBand (takeRanges newRanges)[k] 120) = [0, 1] := by
  decide +kernel

theorem test_set_charge :
    leads (.setCharge 1 0 400000#32) board
      (fun t => t.charge.bbus[(0 : BbuId)].q == 300000 && t.charge.bbus[(0 : BbuId)].full) = true := by
  decide +kernel

theorem test_start_test :
    leads (.startTest 1 0) board
      (fun t => t.charge.bbus[(0 : BbuId)].state == .testing && t.charge.bbus[(0 : BbuId)].out == ⟨true, false, -1500⟩) = true := by
  decide +kernel

theorem test_abort_test :
    leads (.abortTest 1) (testing board)
      (fun t => t.charge.bbus[(0 : BbuId)].state == .standby && t.causes.recs[(133 : CauseId)].code == 3) = true := by
  decide +kernel

/-- 4.2: AC failed in ONLINE opens an event. -/
theorem test_bridging_starts :
    leads (.sampleSet (codesWith 0 3000)) board
      (fun t => t.holdup.state == .bridging && t.holdup.events == 1 && t.recharge.state == .off) = true := by
  decide +kernel

theorem test_settle_ends :
    leads .settleTimerExpiry returning
      (fun t => t.holdup.state == .online && t.seq.slots[(6 : SlotId)].state == .on &&
        t.seq.slots[(5 : SlotId)].state == .notice) = true := by
  decide +kernel

/-- R49, R66 (log 22): the table is disarmed before the DEPLETED BBU is counted again, so the greater R matches no entry. -/
theorem test_settle_ends_with_an_armed_table :
    leads .settleTimerExpiry returningArmed
      (fun t => t.holdup.state == .online && t.charge.p == 0 && !t.charge.armed && t.charge.r == 490000 &&
        t.charge.bbus[(2 : BbuId)].state == .charging && t.seq.slots[(3 : SlotId)] == returningArmed.seq.slots[(3 : SlotId)] &&
        t.seq.slots[(4 : SlotId)] == returningArmed.seq.slots[(4 : SlotId)]) = true := by
  decide +kernel

theorem test_collapse :
    leads .collapseTimerExpiry bridging
      (fun t => t.holdup.state == .blackout && slotIds.all (fun n => !t.seq.slots[n].en) && t.seq.queue == []) = true := by
  decide +kernel

theorem test_bridging_limit :
    leads .bridgingTimerExpiry bridging
      (fun t => t.holdup.state == .bridging && t.seq.slots[(4 : SlotId)].reason == .limit &&
        [2, 3, 5, 6, 23].map (fun n : SlotId => t.seq.slots[n].state) == [.off, .draining, .notice, .draining, .on]) = true := by
  decide +kernel

/-- 5.7, worked case: BBU 1 and BBU 3 share 279 as 140 and 139. -/
theorem test_shares : sharesOf #v[false, true, false, true] 279 = #v[0, 140, 0, 139] := by decide +kernel

/-- 5.7, worked case: H 1,485 and a need of 2,100 at I_set 400 leave 279. -/
theorem test_yield :
    (cruising 1485 400 20625).yieldTo 2100 = 279 ∧
      leads .headReport { cruising 1485 400 60000 with seq := { board.seq with reports := [some 2100] } }
        (fun t => t.recharge.iSet == 279 && t.recharge.yielded) = true := by
  decide +kernel

/-- 5.7, worked case: 500 is below 800, and 120 less ΔI 20 is 100. -/
theorem test_step_down :
    leads .stepTimerExpiry (cruising 500 120 60000) (fun t => t.recharge.iSet == 100 && t.recharge.state == .cruise) = true := by
  decide +kernel

/-- 5.7, worked case: at the floor the next one is FLOOR, and the floor timer ends in PAUSED with FLOOR_TIME. -/
theorem test_floor :
    leads .stepTimerExpiry (cruising 602 50 60000) (fun t => t.recharge.state == .floor) = true ∧
      leads .floorTimerExpiry (regulatorIn .floor 50)
        (fun t => t.recharge.state == .paused && t.causes.recs[(136 : CauseId)].code == 2) = true := by
  decide +kernel

/-- 5.7, worked case: 2,312 restarts a paused regulator at I_start. -/
theorem test_restart :
    leads .headroomPublication (regulatorIn .paused 0)
      (fun t => t.recharge.state == .cruise && t.recharge.iSet == 200) = true := by
  decide +kernel

/-- 6.5: the head is granted at exactly its need and not below. -/
theorem test_grant :
    leads .staggerTimerExpiry (granting 1500) (fun t => t.seq.slots[(1 : SlotId)].state == .soak && t.seq.stagger == some 500) = true ∧
      leads .staggerTimerExpiry (granting 1499) (fun t => t.seq.queue == [1]) = true := by
  decide +kernel

/-- R102: a grant is followed by a report, also when the slot joins and is granted in one event, and head and report are as before. -/
theorem test_grant_reports :
    leads .staggerTimerExpiry (granting 1500) (fun t => t.seq.reports == [none]) = true ∧
      (let s := { granting 1500 with seq := { (granting 1500).seq with queue := [], stagger := none } }
       leads (.powerUp 1 [0]) s (fun t => t.seq.slots[(0 : SlotId)].state == .soak && t.seq.reports == [none])) = true := by
  decide +kernel

theorem test_soak_ends :
    leads (.soakTimerExpiry 3) board (fun t => t.seq.slots[(3 : SlotId)].state == .on) = true ∧
      leads (.soakTimerExpiry 2) board
        (fun t => t.seq.slots[(2 : SlotId)].state == .faulted && t.causes.recs[(74 : CauseId)].code == 1) = true := by
  decide +kernel

theorem test_pg_loss :
    leads (.pgChange 4 false) board
      (fun t => t.seq.slots[(4 : SlotId)].state == .faulted && t.causes.recs[(76 : CauseId)].code == 2) = true := by
  decide +kernel

/-- R119, R124: a drain for the leak ends LOCKED; one for the reserve goes back to the queue under ONLINE. -/
theorem test_drain_ends :
    leads (.pgChange 11 false) board (fun t => t.seq.slots[(11 : SlotId)].state == .locked) = true ∧
      leads (.pgChange 16 false) board (fun t => t.seq.queue == [1, 16]) = true := by
  decide +kernel

/-- R98: one list with each kind of entry. -/
theorem test_power_up_list :
    leads (.powerUp 1 [0, 5, 2, 22]) board
      (fun t =>
        t.link.replies ==
          [.ack 1 0x51 (.slotList
            [⟨0, .queued, .queued⟩, ⟨5, .withdrawn, .on⟩, ⟨2, .noChange, .soak⟩, ⟨22, .refusedWrongState, .off⟩])]) = true := by
  decide +kernel

theorem test_power_down_list :
    leads (.powerDown 1 3 [4, 1, 11]) board
      (fun t =>
        t.link.replies ==
          [.ack 1 0x52 (.slotList [⟨4, .notice, .notice⟩, ⟨1, .off, .off⟩, ⟨11, .draining, .draining⟩])]) = true := by
  decide +kernel

/-- R99: the table's rows. -/
theorem test_release_slot :
    leads (.releaseSlot 1 8 1) board (fun t => t.seq.slots[(8 : SlotId)].state == .queued) = true ∧
      leads (.releaseSlot 1 14 1) board (fun t => t.seq.slots[(14 : SlotId)].state == .off) = true ∧
      leads (.releaseSlot 1 13 1) board (fun t => t.seq.slots[(13 : SlotId)].state == .locked) = true ∧
      leads (.releaseSlot 1 9 1) freeBoard
        (fun t => t.link.tx == some (.reply (.refused 1 .wrongState 0x53))) = true := by
  decide +kernel

/-- 7.2, worked case: a hold on a slot in NOTICE with ORDERLY urgency; its class limit is 120 s here. -/
theorem test_hold :
    leads (.cycleEnd ⟨0, 0, 0x000020, 0⟩) { stopping 0 0 .ok with seq := { board.seq with queue := [] } }
      (fun t => t.seq.slots[(5 : SlotId)].state == .held && t.seq.slots[(5 : SlotId)].hold == some 120000 &&
        t.seq.slots[(6 : SlotId)].state == .draining) = true := by
  decide +kernel

theorem test_window_expiry :
    leads (.noticeWindowExpiry 5) board
      (fun t => t.seq.slots[(5 : SlotId)].state == .draining && t.seq.slots[(5 : SlotId)].drain == some 5000) = true := by
  decide +kernel

theorem test_hold_limit_expiry :
    leads (.holdLimitExpiry 6) board (fun t => t.seq.slots[(6 : SlotId)].state == .draining) = true := by decide +kernel

theorem test_drain_limit_expiry :
    leads (.drainTimerExpiry 7) board
      (fun t => t.seq.slots[(7 : SlotId)].state == .faulted && t.causes.recs[(79 : CauseId)].code == 4) = true := by
  decide +kernel

/-- 8.5, worked case: the third faulted cycle fails the line, the sixteenth clean one mends it and is decoded. -/
theorem test_line_failure :
    leads (.cycleEnd ⟨0, 0, 0, 0x020000⟩) (stopping 2 0 .ok)
        (fun t => t.line.state == .failed && t.causes.recs[(132 : CauseId)].code == 1 && t.line.wave.length == 11) = true ∧
      leads (.cycleEnd ⟨0, 0x000010, 0, 0⟩) (stopping 0 15 .failed)
        (fun t => t.line.state == .ok && t.line.attention == 0x000010 && t.causes.recs[(52 : CauseId)].pending) = true := by
  decide +kernel

/-- R134: slot 2 soaks on the board; nothing holds the condition on the reset part. -/
theorem test_stop_frames :
    leads .slotFrame23End (lineAt .continuous (.slotFrame 0 .n) false)
        (fun t => t.line.mode == .continuous && t.line.cycle == .stopFrame 3) = true ∧
      leads .slotFrame23End { State.reset with line := { State.reset.line with cycle := .slotFrame 0 .n } }
        (fun t => t.line.mode == .quiet && t.line.cycle == .stopFrame 2 && t.line.survey == some 1000) = true := by
  decide +kernel

theorem test_tray_start :
    leads (.cycleStart true) (lineAt .quiet .idle false)
      (fun t => t.line.cycle == .slotFrame 0 .n && t.line.latched == 0x100060 &&
        t.line.wave == [.trayLow, .partLow, .partLow, .partLow]) = true := by
  decide +kernel

/-- R130: a QUIET cycle takes 3.00 ms and a CONTINUOUS one with its gap 3.18 ms; the N phase of slot frame 5 is clock 34, and the gap
is clocks 151 to 158. R128, R129: SSL_CLK stands low on a line that is not enabled. -/
theorem test_cycle_clocks :
    (cycleClocks true 0x20 .quiet).length * lineClockMicros = 3000 ∧
      (cycleClocks false 0x20 .continuous).length * lineClockMicros = 3180 ∧
      (let w := cycleClocks false 0x20 .continuous
       (w.take 5 == [.partLow, .partLow, .partLow, .partLow, .released]) = true ∧ w[34]? = some .partLow ∧
         w[35]? = some .released ∧ w.drop 147 = .released :: List.replicate 3 .partLow ++ List.replicate 8 .released) ∧
      (Line.init true).clockHigh .afterRise = true ∧ (Line.init false).clockHigh .afterRise = false := by
  decide +kernel

theorem test_survey_expiry : leads .surveyTimerExpiry (lineAt .quiet .idle false) (fun t => t.line.startDue) = true := by
  decide +kernel

/-- 9.4, worked case: rope counter 3 and a first tray report confirm the zone by BOTH. -/
theorem test_rope_and_tray :
    let s := stopping 0 0 .ok
    leads (.cycleEnd ⟨0, 0x000010, 0, 0⟩)
      { s with
        settings :=
          { s.settings with
            slots := s.settings.slots.set 4 (heldBy 3 .leak 4)
            zones := s.settings.zones.set 3 { defaultZone with policy := .valveAndShed } }
        leak := { zones := s.leak.zones.set 3 { zoneAs .suspect with ropeCount := 3, cls := .wet } } }
      (fun t => t.leak.zones[(3 : ZoneId)].state == .wet && t.leak.zones[(3 : ZoneId)].confirmation == .both &&
        t.leak.zones[(3 : ZoneId)].valve && t.seq.slots[(4 : SlotId)].state == .draining) = true := by
  decide +kernel

theorem test_clear_zone :
    leads (.clearZone 1 2 0) board (fun t => t.leak.zones[(2 : ZoneId)].state == .dry) = true ∧
      leads (.clearZone 1 1 0) freeBoard (fun t => t.link.tx == some (.reply (.refused 1 .wrongState 0x54))) = true := by
  decide +kernel

/-- 11.6, worked case: a fifth waiting request is answered BUSY, and goes out before the execution reply behind it. -/
theorem test_full_queue :
    leads (.getSense 6 0 12) (waiting 4 0)
        (fun t => t.link.replies == [.refused 6 .busy 0x11] && t.link.queue.length == 4) = true ∧
      leads .txFrameEnd (waiting 4 1)
        (fun t => t.link.tx == some (.reply (.refused 9 .busy 0x57)) && t.link.queue.length == 3 &&
          t.link.replies == [.ack 2 0x57 (.globalHold true)]) = true := by
  decide +kernel

/-- The bytes of a HOLD_ALL with TAG 3, its CRC as the part computes it. -/
theorem test_frame_received :
    leads (.frameReceived (⟨0x57, 3, []⟩ : Frame).bytes) freeBoard
      (fun t => t.causes.hold && t.link.tx == some (.reply (.ack 3 0x57 (.globalHold true)))) = true := by
  decide +kernel

/-- R161, R173: the notice of cause 135 with count 1, condition 1, code 1 and value 0, and an ACK of HOLD_ALL with TAG 3. -/
theorem test_txd_bytes :
    board.txd = [0xA5, 8, 0x90, 0, 0x87, 1, 1, 1, 0, 0, 0, 0, 0x2A, 0x6B] ∧
      (withTx (some (.reply (.ack 3 0x57 (.globalHold true)))) board).txd = [0xA5, 2, 0x80, 3, 0x57, 1, 0xEE, 0x56] ∧
      (withTx (some (.reply (.refused 9 .busy 0x57))) board).txd.take 6 = [0xA5, 2, 0x81, 9, 1, 0x57] ∧
      freeBoard.txd = [] := by
  decide +kernel

/-- R171: the bodies of the largest bulk reads. -/
theorem test_bulk_bodies_fit :
    let sizes (c : Instr) (n : Nat) : Bool :=
      match perform c board with | .ok (_, a) => (a.body 0).length == n | .error _ => false
    sizes (.getSense 1 0 12) 237 ∧ sizes (.getPsu 1 0 6) 80 ∧ sizes (.getBbu 1 0 4) 207 ∧ sizes (.getTargets 1 0 16) 136 ∧
      sizes (.getSlots 1 0 11) 245 ∧ sizes (.getZones 1 0 4) 195 ∧ sizes (.getCauses 1 0 16) 217 := by
  decide +kernel

theorem test_get_slots_clamps :
    leads (.getSlots 1 22 5) freeBoard
      (fun t => match t.link.tx with | some (.reply (.ack _ _ (.slots body))) => body.length == 47 | _ => false) = true := by
  decide +kernel

theorem test_set_masks :
    leads (.setMasks 1 0 [⟨136, 1, 0⟩]) (telling true) (fun t => t.causes.outbox == [] && !t.causes.alert) = true ∧
      leads (.setMasks 1 1 [⟨29, 1, 0⟩]) freeBoard (fun t => t.link.tx == some (.reply (.refused 1 .outOfRange 0x3B))) = true := by
  decide +kernel

theorem test_clear_cause :
    leads (.clearCause 1 [136, 135]) (telling true)
      (fun t => t.causes.outbox == [] && !t.causes.recs[(135 : CauseId)].condition) = true := by
  decide +kernel

/-- R61: V_bridge first, then V_return and V_collapse into what it leaves. -/
theorem test_set_holdup :
    leads (.setHoldup 1 newHoldup) board
      (fun t => t.settings.holdup == ⟨3, 65485, 65535, 65485, 500, 5, 3600⟩) = true := by
  decide +kernel

theorem test_set_slot_critical :
    leads (.setSlot 1 20 { newSlot with enabled := 1 }) board
      (fun t => t.seq.slots[(20 : SlotId)].state == .on && t.seq.slots[(20 : SlotId)].reason == .none) = true ∧
      leads (.setSlot 1 20 { newSlot with zone := 1 }) freeBoard
        (fun t => t.link.tx == some (.reply (.refused 1 .wrongState 0x37))) = true := by
  decide +kernel

theorem test_locked_set :
    leads (.setLine 1 1 100#16) (locked freeBoard) (fun t => t.link.tx == some (.reply (.refused 1 .locked 0x3A))) = true ∧
      leads (.setLine 1 0 100#16) (locked freeBoard)
        (fun t => t.link.tx == some (.reply (.ack 1 0x3A (.line ⟨.adaptive, 100⟩ .ok .continuous)))) = true := by
  decide +kernel

theorem test_store :
    leads (.storeProfile 1) writing (fun t => t.link.replies == [.refused 1 .storeBusy 0x5D]) = true ∧
      leads (.storeWriteComplete true) writing
        (fun t => t.store.nvm.valid && t.causes.recs[(134 : CauseId)].code == 1 && t.store.writing == none) = true := by
  decide +kernel

theorem test_power_on : leads (.powerOn 2) board (fun t => t.phase == .loading true && t.link.straps == 2#2 && t.clock == 0) = true := by
  decide +kernel

/-- R109: after a pin reset PG with EN is ON, PG without EN drains for RESET. -/
theorem test_adoption :
    leads .profileLoadComplete { board with phase := .loading false, lastReset := .pin }
      (fun t => t.seq.slots[(4 : SlotId)].state == .on && t.seq.slots[(7 : SlotId)].state == .draining &&
        t.seq.slots[(7 : SlotId)].reason == .reset && t.seq.slots[(0 : SlotId)].state == .off) = true := by
  decide +kernel

/-- R58, R108, R109, R178: a pin reset that came before the first load is one: PG without EN drains for RESET, and an OFF slot is
adopted so; Q is the Qfloor of the profile. -/
theorem test_pin_reset_before_the_first_load :
    let s := State.poweredOn board.pins 0 Nvm.blank 0 []
    leads (.pinResetRelease 1) { s with phase := .inReset true }
        (fun t => t.lastReset == .pin && t.phase == .loading true) = true ∧
      leads .profileLoadComplete { s with lastReset := .pin }
        (fun t => t.seq.slots[(7 : SlotId)].state == .draining && t.seq.slots[(7 : SlotId)].reason == .reset &&
          t.seq.slots[(0 : SlotId)].adoptedOff && t.charge.bbus[(0 : BbuId)].q == 30000) = true := by
  decide +kernel

theorem test_pin_reset :
    leads .pinResetAssert board (fun t => t.phase == .inReset false && t.link.tx == none && t.causes.alert) = true := by
  decide +kernel

end Sys2Proof.Tests
end

section
/-! PROOFS. Causes that an operation does not raise: what becomes of the record of cause `c` and of the transmitter while other
causes are reported and raised. The one thing that can happen to a cause left alone is that its waiting notice begins (R161). -/

namespace Sys2Proof.Machine

/-- What is being sent when `s` is left is still being sent in `t`. -/
def KeepsSending (s t : State) : Prop := s.link.tx.isSome = true → t.link.tx = s.link.tx

theorem KeepsSending.free {s t : State} (h : KeepsSending s t) (ht : t.link.tx = none) : s.link.tx = none := by
  cases hs : s.link.tx with
  | none => rfl
  | some x => rw [h (by simp [hs]), hs] at ht; cases ht

/-- Cause `c` is not raised in going from `s` to `t`; its notice may have begun on a transmitter that was free. -/
structure Unraised (c : CauseId) (s t : State) : Prop where
  value : t.causes.recs[c].value = s.causes.recs[c].value
  code : t.causes.recs[c].code = s.causes.recs[c].code
  count : t.causes.recs[c].count ≤ s.causes.recs[c].count
  pending : t.causes.recs[c].pending = s.causes.recs[c].pending ∨
    (s.link.tx = none ∧ ∃ n, t.link.tx = some (.notice n) ∧ n.cause = c)
  sending : KeepsSending s t

/-- Cause `c` is neither raised nor reported. -/
structure Quiet (c : CauseId) (s t : State) : Prop extends Unraised c s t where
  condition : t.causes.recs[c].condition = s.causes.recs[c].condition

theorem Unraised.trans {c : CauseId} {s t u : State} (h : Unraised c s t) (k : Unraised c t u) : Unraised c s u where
  value := k.value.trans h.value
  code := k.code.trans h.code
  count := k.count.trans h.count
  pending := by
    rcases k.pending with hk | ⟨htx, hn⟩
    · rcases h.pending with hh | ⟨hfree, n, hn, hc⟩
      · exact .inl (hk.trans hh)
      · exact .inr ⟨hfree, n, by rw [k.sending (by simp [hn]), hn], hc⟩
    · exact .inr ⟨h.sending.free htx, hn⟩
  sending := fun hs => by
    have ht := h.sending hs
    rw [k.sending (by rw [ht]; exact hs), ht]

theorem Quiet.trans {c : CauseId} {s t u : State} (h : Quiet c s t) (k : Quiet c t u) : Quiet c s u :=
  ⟨h.toUnraised.trans k.toUnraised, k.condition.trans h.condition⟩

/-- The record and the transmitter stand as they did. -/
theorem Quiet.of_eq {c : CauseId} {s t : State} (hr : t.causes.recs[c] = s.causes.recs[c]) (hl : t.link.tx = s.link.tx) :
    Quiet c s t where
  value := by rw [hr]
  code := by rw [hr]
  count := by rw [hr]
  pending := .inl (by rw [hr])
  sending := fun _ => hl
  condition := by rw [hr]

theorem Quiet.refl (c : CauseId) (s : State) : Quiet c s s := .of_eq rfl rfl

/-- A raise is still seen after steps that leave the cause alone, and from before such steps. -/
theorem RaisedFrom.widen {c : CauseId} {s t u v : State} {value : Int} {code : Byte} (h : RaisedFrom t u c value code)
    (hsend : KeepsSending t u) (before : Unraised c s t) (after : Unraised c u v) : RaisedFrom s v c value code := by
  obtain ⟨hvalue, hcode, hpending⟩ := h
  refine ⟨after.value.trans hvalue, after.code.trans hcode, ?_⟩
  rcases hpending with hp | ⟨hfree, n, hn, hc⟩
  · rcases after.pending with ha | ⟨hfree, hn⟩
    · exact .inl (ha.trans hp)
    · exact .inr ⟨before.sending.free (hsend.free hfree), hn⟩
  · exact .inr ⟨before.sending.free hfree, n, by rw [after.sending (by simp [hn]), hn], hc⟩

/-! ### The operations on causes -/

/-- R161: a notice that begins clears the pending flag and the count of its own cause alone. -/
theorem beginNotice_quiet {c d : CauseId} {rest : List CauseId} {s : State} (hfree : s.link.tx = none) :
    Quiet c s (s.beginNotice d rest) := by
  have sending : KeepsSending s (s.beginNotice d rest) := by intro h; rw [hfree] at h; cases h
  by_cases hd : d = c
  · subst hd
    exact ⟨⟨by simp [State.beginNotice], by simp [State.beginNotice], by simp [State.beginNotice],
      .inr ⟨hfree, _, rfl, rfl⟩, sending⟩, by simp [State.beginNotice]⟩
  · have hr : (s.beginNotice d rest).causes.recs[c] = s.causes.recs[c] := get_set_other _ _ hd
    exact ⟨⟨by rw [hr], by rw [hr], by rw [hr], .inl (by rw [hr]), sending⟩, by rw [hr]⟩

theorem serveTransmitter_quiet (c : CauseId) (s : State) : Quiet c s (serveTransmitter s) := by
  rcases serveTransmitter_cases s with ⟨h, -⟩ | ⟨r, rs, hfree, -, h⟩ | ⟨d, ds, hfree, -, -, -, h⟩ | ⟨h, -⟩
  · rw [h]; exact .refl c s
  · rw [h]
    exact ⟨⟨rfl, rfl, le_refl _, .inl rfl, fun hs => by rw [hfree] at hs; cases hs⟩, rfl⟩
  · rw [h]; exact beginNotice_quiet hfree
  · rw [h]; exact .refl c s

theorem setCause_quiet {c d : CauseId} (hd : d ≠ c) (x : Cause) (s : State) : Quiet c s (s.setCause d x) :=
  .of_eq (get_set_other _ _ hd) rfl

theorem judgeAlert_quiet (c : CauseId) (s : State) : Quiet c s (judgeAlert s) := .of_eq rfl rfl

theorem joinOutbox_quiet (c d : CauseId) (s : State) : Quiet c s (joinOutbox d s) := by
  rcases joinOutbox_cases d s with ⟨h, -⟩ | ⟨-, -, h⟩
  · rw [h]; exact .refl c s
  · rw [h]; exact .of_eq rfl rfl

theorem reportCondition_quiet {c d : CauseId} (hd : d ≠ c) (a : Bool) (s : State) : Quiet c s (reportCondition d a s) := by
  rcases reportCondition_cases d a s with ⟨-, h⟩ | ⟨-, h⟩
  · rw [h]; exact .refl c s
  · rw [h]; exact (setCause_quiet hd _ s).trans (judgeAlert_quiet c _)

/-- R156: a report moves the condition alone, even that of its own cause. -/
theorem reportCondition_unraised (c d : CauseId) (a : Bool) (s : State) : Unraised c s (reportCondition d a s) := by
  by_cases hd : d = c
  · subst hd
    rcases reportCondition_cases d a s with ⟨-, h⟩ | ⟨-, h⟩
    · rw [h]; exact (Quiet.refl d s).toUnraised
    · rw [h]
      exact ⟨by simp [judgeAlert], by simp [judgeAlert], by simp [judgeAlert], .inl (by simp [judgeAlert]), fun _ => rfl⟩
  · exact (reportCondition_quiet hd a s).toUnraised

theorem reportCondition_condition (c : CauseId) (a : Bool) (s : State) :
    (reportCondition c a s).causes.recs[c].condition = a := by
  rcases reportCondition_cases c a s with ⟨ha, h⟩ | ⟨-, h⟩
  · rw [h]; exact ha
  · rw [h]; simp [judgeAlert]

/-- R157: a raise is the new record of its cause, and then steps that raise nothing. -/
theorem raise_after_record (c d : CauseId) (value : Int) (code : Byte) (s : State) :
    Quiet c (s.setCause d (raised s.causes.recs[d] (eventSource d) value code)) (raise d value code s) := by
  unfold raise
  refine .trans ?_ ((joinOutbox_quiet c d _).trans (serveTransmitter_quiet c _))
  split
  · exact judgeAlert_quiet c _
  · exact .refl c _

theorem raise_quiet {c d : CauseId} (hd : d ≠ c) (value : Int) (code : Byte) (s : State) :
    Quiet c s (raise d value code s) :=
  (setCause_quiet hd _ s).trans (raise_after_record c d value code s)

theorem raise_sending (c : CauseId) (value : Int) (code : Byte) (s : State) : KeepsSending s (raise c value code s) :=
  (raise_after_record c c value code s).sending

theorem raise_raisedFrom (c : CauseId) (value : Int) (code : Byte) (s : State) :
    RaisedFrom s (raise c value code s) c value code := by
  have h := raise_after_record c c value code s
  have recorded : RaisedFrom s (s.setCause c (raised s.causes.recs[c] (eventSource c) value code)) c value code :=
    ⟨by simp [raised], by simp [raised], .inl (by simp [raised])⟩
  exact recorded.widen (fun _ => rfl) (Quiet.refl c s).toUnraised h.toUnraised

/-- R156: only an event-source cause takes its condition from a raise. -/
theorem raise_condition {c : CauseId} (hc : eventSource c = false) (value : Int) (code : Byte) (s : State) :
    (raise c value code s).causes.recs[c].condition = s.causes.recs[c].condition := by
  rw [(raise_after_record c c value code s).condition]; simp [raised, hc]

end Sys2Proof.Machine
end

section
/-! PROOFS. The scanner (chapter 1): what the scan of one point does to that point and its cause, and that it leaves every other
point and cause alone. An analog point and a rope take a code in one form, `takePoint`. -/

namespace Sys2Proof.Machine

theorem causePoint_injective {q r : PointId} (h : causePoint q = causePoint r) : q = r := by
  have hval := congrArg Fin.val h
  exact Fin.ext hval

theorem causePoint_val_lt (q : PointId) : (causePoint q).val < 29 := q.isLt

theorem causePoint_not_eventSource (q : PointId) : eventSource (causePoint q) = false := by
  have := causePoint_val_lt q
  simp only [eventSource, decide_eq_false_iff_not]; omega

theorem analogPoint_ne {p r : AnalogId} (h : p ≠ r) : AnalogId.point p ≠ AnalogId.point r := by
  intro e
  have hval := congrArg Fin.val e
  exact h (Fin.ext hval)

theorem ropePoint_ne {z y : ZoneId} (h : z ≠ y) : ropePoint z ≠ ropePoint y := by
  intro e
  have hval : 21 + z.val = 21 + y.val := congrArg Fin.val e
  exact h (Fin.ext (Nat.add_left_cancel hval))

theorem analogPoint_ne_ropePoint (p : AnalogId) (z : ZoneId) : AnalogId.point p ≠ ropePoint z := by
  intro e
  have hval : p.val = 21 + z.val := congrArg Fin.val e
  omega

/-! ### Steps that spare a point -/

/-- Point `q` and its cause are left alone, and so are the settings of the points. -/
structure Spares (q : PointId) (s t : State) : Prop where
  settings : t.settings.points = s.settings.points
  point : t.sense.points[q] = s.sense.points[q]
  cause : Quiet (causePoint q) s t

theorem Spares.refl (q : PointId) (s : State) : Spares q s s := ⟨rfl, rfl, .refl _ s⟩

theorem Spares.trans {q : PointId} {s t u : State} (h : Spares q s t) (k : Spares q t u) : Spares q s u :=
  ⟨k.settings.trans h.settings, k.point.trans h.point, h.cause.trans k.cause⟩

/-- A fold of steps that all spare a point spares it. -/
theorem foldl_spares {α : Type} {q : PointId} {f : State → α → State} {l : List α}
    (h : ∀ a ∈ l, ∀ s, Spares q s (f s a)) (s : State) : Spares q s (l.foldl f s) := by
  induction l generalizing s with
  | nil => exact .refl q s
  | cons a l ih =>
    exact (h a List.mem_cons_self s).trans (ih (fun b hb => h b (List.mem_cons_of_mem a hb)) (f s a))

/-- In a fold over distinct points the steps around that of `a` spare its point `q`. -/
theorem foldl_visits {α : Type} {q : PointId} {f : State → α → State} {l : List α} {a : α} (ha : a ∈ l) (hl : l.Nodup)
    (h : ∀ b, b ≠ a → ∀ s, Spares q s (f s b)) (s : State) :
    ∃ u, Spares q s u ∧ Spares q (f u a) (l.foldl f s) := by
  obtain ⟨before, after, rfl⟩ := List.append_of_mem ha
  rw [List.nodup_middle, List.nodup_cons, List.mem_append, not_or] at hl
  obtain ⟨⟨hbefore, hafter⟩, -⟩ := hl
  refine ⟨before.foldl f s, foldl_spares (fun b hb => h b fun e => hbefore (e ▸ hb)) s, ?_⟩
  rw [List.foldl_append, List.foldl_cons]
  exact foldl_spares (fun b hb => h b fun e => hafter (e ▸ hb)) _

/-! ### A point takes a record -/

/-- Point `q` takes record `x`, its cause takes the condition, and is raised with a value and a code if there is one to tell. -/
def takePoint (q : PointId) (x : Point) (active : Bool) (told : Option (Int × Byte)) (s : State) : State :=
  let s := reportCondition (causePoint q) active (s.setPoint q x)
  match told with
  | none => s
  | some e => raise (causePoint q) e.1 e.2 s

/-- What `takePoint` comes to, as seen over a stretch of the scan that spares `q` otherwise. -/
structure Scanned (q : PointId) (x : Point) (active : Bool) (told : Option (Int × Byte)) (s t : State) : Prop where
  point : t.sense.points[q] = x
  condition : t.causes.recs[causePoint q].condition = active
  sending : KeepsSending s t
  raised : ∀ e, told = some e → RaisedFrom s t (causePoint q) e.1 e.2
  unraised : told = none → Unraised (causePoint q) s t

theorem Scanned.widen {q : PointId} {x : Point} {active : Bool} {told : Option (Int × Byte)} {s t u v : State}
    (h : Scanned q x active told t u) (before : Unraised (causePoint q) s t) (after : Quiet (causePoint q) u v)
    (point : v.sense.points[q] = u.sense.points[q]) : Scanned q x active told s v where
  point := point.trans h.point
  condition := after.condition.trans h.condition
  sending := fun hs => by
    have ht := before.sending hs
    have hu := h.sending (by rw [ht]; exact hs)
    rw [after.sending (by rw [hu, ht]; exact hs), hu, ht]
  raised := fun e he => (h.raised e he).widen h.sending before after.toUnraised
  unraised := fun he => before.trans ((h.unraised he).trans after.toUnraised)

section TakePoint
variable (q : PointId) (x : Point) (active : Bool) (told : Option (Int × Byte)) (s : State)

theorem setPoint_quiet (c : CauseId) : Quiet c s (s.setPoint q x) := .of_eq rfl rfl

theorem takePoint_base : (takePoint q x active told s).base = (s.setPoint q x).base := by
  cases told <;> simp [takePoint]

theorem takePoint_scanned : Scanned q x active told s (takePoint q x active told s) := by
  have reported : Unraised (causePoint q) s (reportCondition (causePoint q) active (s.setPoint q x)) :=
    (setPoint_quiet q x s _).toUnraised.trans (reportCondition_unraised _ _ active _)
  have condition := reportCondition_condition (causePoint q) active (s.setPoint q x)
  have point : (takePoint q x active told s).sense.points[q] = x := by
    rw [base_sense (takePoint_base q x active told s)]; exact get_set_same _ _ _
  cases told with
  | none => exact ⟨point, condition, reported.sending, by simp, fun _ => reported⟩
  | some e =>
    have raises := raise_raisedFrom (causePoint q) e.1 e.2 (reportCondition (causePoint q) active (s.setPoint q x))
    have sending := raise_sending (causePoint q) e.1 e.2 (reportCondition (causePoint q) active (s.setPoint q x))
    refine ⟨point, ?_, fun hs => ?_, ?_, by simp⟩
    · exact (raise_condition (causePoint_not_eventSource q) _ _ _).trans condition
    · have hreported := reported.sending hs
      exact (sending (by rw [hreported]; exact hs)).trans hreported
    · intro e' he
      rw [← Option.some.inj he]
      exact raises.widen sending reported (Quiet.refl _ _).toUnraised

theorem takePoint_spares {r : PointId} (h : q ≠ r) : Spares r s (takePoint q x active told s) where
  settings := by rw [base_settings (takePoint_base q x active told s)]; rfl
  point := by rw [base_sense (takePoint_base q x active told s)]; exact get_set_other _ _ h
  cause := by
    have hne : causePoint q ≠ causePoint r := fun e => h (causePoint_injective e)
    have reported : Quiet (causePoint r) s (reportCondition (causePoint q) active (s.setPoint q x)) :=
      (setPoint_quiet q x s _).trans (reportCondition_quiet hne active _)
    cases told with
    | none => exact reported
    | some e => exact reported.trans (raise_quiet hne e.1 e.2 _)

end TakePoint

/-! ### The two kinds of point -/

/-- What an analog point's code gives to tell (R4, R14). -/
def analogTold (p : AnalogId) (set : PointSettings) (x : Point) (c : BitVec 12) : Option (Int × Byte) :=
  if railCode c then (if startsRun x.raw then some (x.value, codeStale) else none)
  else if (nextPoint p set x c).alarm && !x.alarm then some ((nextPoint p set x c).value, limitCode set.direction)
  else none

theorem scanAnalog_eq (p : AnalogId) (c : BitVec 12) (s : State) :
    scanAnalog p c s =
      takePoint (AnalogId.point p) (nextPoint p s.settings.points[p] s.sense.points[AnalogId.point p] c)
        (nextPoint p s.settings.points[p] s.sense.points[AnalogId.point p] c).alarming
        (analogTold p s.settings.points[p] s.sense.points[AnalogId.point p] c) s := by
  simp only [scanAnalog, takePoint, analogTold]
  cases railCode c with
  | true => cases startsRun s.sense.points[AnalogId.point p].raw <;> rfl
  | false =>
    cases (nextPoint p s.settings.points[p] s.sense.points[AnalogId.point p] c).alarm &&
      !s.sense.points[AnalogId.point p].alarm <;> rfl

/-- The record of a rope point after a code (R5). -/
def nextRope (x : Point) (c : BitVec 12) : Point := { x with raw := some c, value := (c.toNat : Int), stale := false }

/-- What a rope's code gives to tell (R5). -/
def ropeTold (x : Point) (c : BitVec 12) : Option (Int × Byte) :=
  if railCode c && x.raw != some c then some ((c.toNat : Int), if c = 0 then codeRailLow else codeRailHigh) else none

theorem scanRope_eq (z : ZoneId) (c : BitVec 12) (s : State) :
    scanRope z c s =
      takePoint (ropePoint z) (nextRope s.sense.points[ropePoint z] c) (railCode c)
        (ropeTold s.sense.points[ropePoint z] c) s := by
  simp only [scanRope, takePoint, ropeTold, nextRope]
  split <;> rfl

end Sys2Proof.Machine
end

section
/-! PROOFS. A whole set of codes (R1, section 1.9): each point is scanned once, and the set is published. -/

namespace Sys2Proof.Machine

theorem analogIds_nodup : analogIds.Nodup := by decide
theorem mem_analogIds (p : AnalogId) : p ∈ analogIds := by revert p; decide
theorem zoneIds_nodup : zoneIds.Nodup := by decide
theorem mem_zoneIds (z : ZoneId) : z ∈ zoneIds := by revert z; decide

theorem scanAnalog_spares {q : PointId} {p : AnalogId} (h : AnalogId.point p ≠ q) (c : BitVec 12) (s : State) :
    Spares q s (scanAnalog p c s) := by
  rw [scanAnalog_eq]; exact takePoint_spares _ _ _ _ s h

theorem scanRope_spares {q : PointId} {z : ZoneId} (h : ropePoint z ≠ q) (c : BitVec 12) (s : State) :
    Spares q s (scanRope z c s) := by
  rw [scanRope_eq]; exact takePoint_spares _ _ _ _ s h

theorem publishSet_spares (q : PointId) (s : State) : Spares q s (publishSet s) := ⟨rfl, rfl, .of_eq rfl rfl⟩

/-- The analog points of a set, scanned in order. -/
def scanAnalogs (codes : Vector (BitVec 12) 29) (s : State) : State :=
  analogIds.foldl (fun s p => scanAnalog p codes[AnalogId.point p] s) s

/-- The rope points of a set, scanned in order. -/
def scanRopes (codes : Vector (BitVec 12) 29) (s : State) : State :=
  zoneIds.foldl (fun s z => scanRope z codes[ropePoint z] s) s

theorem scanSet_eq (codes : Vector (BitVec 12) 29) (s : State) :
    scanSet codes s = publishSet (scanRopes codes (scanAnalogs codes s)) := rfl

section ScanSet
variable (codes : Vector (BitVec 12) 29) (s : State)

/-- R2 to R4, R9 to R12, R14. -/
theorem scanSet_analog (p : AnalogId) :
    Scanned (AnalogId.point p)
      (nextPoint p s.settings.points[p] s.sense.points[AnalogId.point p] codes[AnalogId.point p])
      (nextPoint p s.settings.points[p] s.sense.points[AnalogId.point p] codes[AnalogId.point p]).alarming
      (analogTold p s.settings.points[p] s.sense.points[AnalogId.point p] codes[AnalogId.point p])
      s (scanSet codes s) := by
  rw [scanSet_eq]
  obtain ⟨u, before, after⟩ := foldl_visits (f := fun s p => scanAnalog p codes[AnalogId.point p] s) (mem_analogIds p)
    analogIds_nodup (fun r hr s => scanAnalog_spares (analogPoint_ne hr) codes[AnalogId.point r] s) s
  have ropes : Spares (AnalogId.point p) (scanAnalogs codes s) (scanRopes codes (scanAnalogs codes s)) :=
    foldl_spares (fun z _ s => scanRope_spares (analogPoint_ne_ropePoint p z).symm codes[ropePoint z] s) _
  have rest := after.trans (ropes.trans (publishSet_spares _ _))
  rw [scanAnalog_eq, before.settings, before.point] at rest
  exact (takePoint_scanned _ _ _ _ u).widen before.cause.toUnraised rest.cause rest.point

/-- R5. -/
theorem scanSet_rope (z : ZoneId) :
    Scanned (ropePoint z) (nextRope s.sense.points[ropePoint z] codes[ropePoint z]) (railCode codes[ropePoint z])
      (ropeTold s.sense.points[ropePoint z] codes[ropePoint z]) s (scanSet codes s) := by
  rw [scanSet_eq]
  have analogs : Spares (ropePoint z) s (scanAnalogs codes s) :=
    foldl_spares (fun p _ s => scanAnalog_spares (analogPoint_ne_ropePoint p z) codes[AnalogId.point p] s) s
  obtain ⟨u, ropes, after⟩ := foldl_visits (f := fun s z => scanRope z codes[ropePoint z] s) (mem_zoneIds z)
    zoneIds_nodup (fun y hy s => scanRope_spares (ropePoint_ne hy) codes[ropePoint y] s) (scanAnalogs codes s)
  have before := analogs.trans ropes
  have rest := after.trans (publishSet_spares _ _)
  rw [scanRope_eq, before.point] at rest
  exact (takePoint_scanned _ _ _ _ u).widen before.cause.toUnraised rest.cause rest.point

/-! ### Publication (R1, R6) -/

/-- What the scan of one point leaves of the sense block, and the shed controller's block. -/
def State.scanFrame (s : State) : List Nat × Nat × Shed := (s.sense.window, s.sense.setNo, s.shed)

theorem takePoint_scanFrame (q : PointId) (x : Point) (active : Bool) (told : Option (Int × Byte)) :
    (takePoint q x active told s).scanFrame = s.scanFrame := by
  have base := takePoint_base q x active told s
  simp [State.scanFrame, base_sense base, base_shed base, State.setPoint]

theorem scanned_scanFrame : (scanRopes codes (scanAnalogs codes s)).scanFrame = s.scanFrame := by
  have analogs : (scanAnalogs codes s).scanFrame = s.scanFrame :=
    foldl_keeps State.scanFrame _ (fun s p => by rw [scanAnalog_eq, takePoint_scanFrame]) _ s
  rw [← analogs]
  exact foldl_keeps State.scanFrame _ (fun s z => by rw [scanRope_eq, takePoint_scanFrame]) _ _

theorem scanSet_shed : (scanSet codes s).shed = s.shed := congrArg (·.2.2) (scanned_scanFrame codes s)

theorem scanSet_setNo : (scanSet codes s).sense.setNo = (s.sense.setNo + 1) % 4294967296 :=
  congrArg (fun f => (f.2.1 + 1) % 4294967296) (scanned_scanFrame codes s)

theorem scanSet_window :
    (scanSet codes s).sense.window =
      windowNext s.sense.window (!(scanSet codes s).sense.points[busIPoint].stale)
        (scanSet codes s).sense.points[busIPoint].value.toNat :=
  congrArg (fun f : List Nat × Nat × Shed => windowNext f.1 (!(scanSet codes s).sense.points[busIPoint].stale)
    (scanSet codes s).sense.points[busIPoint].value.toNat) (scanned_scanFrame codes s)

theorem scanSet_iAvg : (scanSet codes s).sense.iAvg = windowMean (scanSet codes s).sense.window := rfl
theorem scanSet_pub : (scanSet codes s).sense.pub = (scanSet codes s).sense.points := rfl
theorem scanSet_seen : (scanSet codes s).sense.seen = true := rfl

end ScanSet

theorem windowMean_eq (w : List Nat) : windowMean w = w.sum / 8 := by
  rw [windowMean, List.sum_eq_foldl]

/-! ### What a code makes of a point -/

theorem railCode_iff (c : BitVec 12) : railCode c = true ↔ c = 0 ∨ c = 4095 := by simp [railCode]

theorem startsRun_iff (raw : Option (BitVec 12)) : startsRun raw = true ↔ raw ≠ some 0 ∧ raw ≠ some 4095 := by
  cases raw with
  | none => simp [startsRun]
  | some c => simp [startsRun, railCode]

theorem overLimit_eq (set : PointSettings) (v : Int) :
    overLimit set v = decide (if set.direction = .above then set.high < v else v < set.low) := by
  cases h : set.direction <;> simp [overLimit, h]

theorem underLimit_eq (set : PointSettings) (v : Int) :
    underLimit set v = decide (if set.direction = .above then v < set.low else set.high < v) := by
  cases h : set.direction <;> simp [underLimit, h]

theorem limitCode_eq (d : Direction) : limitCode d = if d = .above then 1 else 2 := by cases d <;> rfl

theorem nextPoint_of_rail {c : BitVec 12} (h : railCode c = true) (p : AnalogId) (set : PointSettings) (x : Point) :
    nextPoint p set x c = { x with raw := some c, stale := true } := if_pos h

theorem nextPoint_of_good {c : BitVec 12} (h : ¬ railCode c = true) (p : AnalogId) (set : PointSettings) (x : Point) :
    nextPoint p set x c =
      { raw := some c, value := scaledValue p set c, stale := false,
        alarm := alarmNext set (scaledValue p set c) x.alarm } := if_neg h

end Sys2Proof.Machine
end

section
/-! PROOFS. The consumers of a sample set: none of them moves a point, the shed controller's block, or raises or reports the cause
of a point. One lemma for each operation, in the order of the definitions. -/

namespace Sys2Proof.Machine

/-- The sense and shed blocks are as they were, and the causes 0 to 28 are neither raised nor reported. -/
structure LeavesPoints (s t : State) : Prop where
  sense : t.sense = s.sense
  shed : t.shed = s.shed
  cause : ∀ c : CauseId, c.val < 29 → Quiet c s t

theorem LeavesPoints.refl (s : State) : LeavesPoints s s := ⟨rfl, rfl, fun c _ => .refl c s⟩

/-- A step that leaves the sense, shed and cause blocks and the transmitter alone. -/
theorem LeavesPoints.then_same {s t u : State} (h : LeavesPoints s t) (hsense : u.sense = t.sense) (hshed : u.shed = t.shed)
    (hcauses : u.causes = t.causes) (hlink : u.link = t.link) : LeavesPoints s u where
  sense := hsense.trans h.sense
  shed := hshed.trans h.shed
  cause := fun c hc => (h.cause c hc).trans (.of_eq (by rw [hcauses]) (by rw [hlink]))

/-- A step on causes that leaves the base alone. -/
theorem LeavesPoints.then_quiet {s t u : State} (h : LeavesPoints s t) (hbase : u.base = t.base)
    (hcause : ∀ c : CauseId, c.val < 29 → Quiet c t u) : LeavesPoints s u where
  sense := (base_sense hbase).trans h.sense
  shed := (base_shed hbase).trans h.shed
  cause := fun c hc => (h.cause c hc).trans (hcause c hc)

section Consumers
variable {s t : State} {b : Bool} {d : CauseId} {i : BbuId} {k : PsuId} {n : SlotId} {z : ZoneId} {x : Nat} {y : Int} {code : Byte}
  {st : BbuState} {dest : SlotState} {upd : Slot → Slot} {reason : ShedReason} {urgency : Urgency} {trigger : Trigger}

/-! ### Blocks, branches and folds -/

theorem setSettings_leaves {r : Settings} (h : LeavesPoints s t) : LeavesPoints s (t.setSettings r) := h.then_same rfl rfl rfl rfl
theorem setBudget_leaves {r : Budget} (h : LeavesPoints s t) : LeavesPoints s (t.setBudget r) := h.then_same rfl rfl rfl rfl
theorem setCharge_leaves {r : Charge} (h : LeavesPoints s t) : LeavesPoints s (t.setCharge r) := h.then_same rfl rfl rfl rfl
theorem setHoldup_leaves {r : Holdup} (h : LeavesPoints s t) : LeavesPoints s (t.setHoldup r) := h.then_same rfl rfl rfl rfl
theorem setRecharge_leaves {r : Recharge} (h : LeavesPoints s t) : LeavesPoints s (t.setRecharge r) :=
  h.then_same rfl rfl rfl rfl
theorem setSeq_leaves {r : Sequencer} (h : LeavesPoints s t) : LeavesPoints s (t.setSeq r) := h.then_same rfl rfl rfl rfl
theorem setLine_leaves {r : Line} (h : LeavesPoints s t) : LeavesPoints s (t.setLine r) := h.then_same rfl rfl rfl rfl
theorem setLeak_leaves {r : Leak} (h : LeavesPoints s t) : LeavesPoints s (t.setLeak r) := h.then_same rfl rfl rfl rfl
theorem setStore_leaves {r : Store} (h : LeavesPoints s t) : LeavesPoints s (t.setStore r) := h.then_same rfl rfl rfl rfl
theorem spendFree_leaves (h : LeavesPoints s t) : LeavesPoints s t.spendFree := h.then_same rfl rfl rfl rfl

theorem ite_leaves {p : Prop} {_ : Decidable p} {u v : State} (hu : LeavesPoints s u) (hv : LeavesPoints s v) :
    LeavesPoints s (if p then u else v) := by split <;> assumption

theorem ite_else_leaves {p : Prop} {_ : Decidable p} {u v : State} (hv : LeavesPoints s v)
    (hu : LeavesPoints s v → LeavesPoints s u) : LeavesPoints s (if p then u else v) := ite_leaves (hu hv) hv

theorem foldl_leaves {α : Type} {f : State → α → State} {l : List α} (hf : ∀ u a, LeavesPoints s u → LeavesPoints s (f u a))
    (h : LeavesPoints s t) : LeavesPoints s (l.foldl f t) := by
  induction l generalizing t with
  | nil => exact h
  | cons a l ih => exact ih (hf t a h)

/-! ### Causes from 29 on -/

theorem ne_of_low {c d : CauseId} (hd : 29 ≤ d.val) (hc : c.val < 29) : d ≠ c := by rintro rfl; omega

theorem reportCondition_leaves (hd : 29 ≤ d.val) (h : LeavesPoints s t) : LeavesPoints s (reportCondition d b t) :=
  h.then_quiet (reportCondition_base d b t) fun _ hc => reportCondition_quiet (ne_of_low hd hc) b t

theorem raise_leaves (hd : 29 ≤ d.val) (h : LeavesPoints s t) : LeavesPoints s (raise d y code t) :=
  h.then_quiet (raise_base d y code t) fun _ hc => raise_quiet (ne_of_low hd hc) y code t

theorem causeZoneWet_high : 29 ≤ (causeZoneWet z).val := Nat.le_add_right_of_le (by decide)
theorem causeRopeFault_high : 29 ≤ (causeRopeFault z).val := Nat.le_add_right_of_le (by decide)
theorem causeSlot_high : 29 ≤ (causeSlot n).val := Nat.le_add_right_of_le (by decide)
theorem causeTarget_high {p : Fin 16} : 29 ≤ (causeTarget p).val := Nat.le_add_right_of_le (by decide)
theorem causeRange_high {r : RangeId} : 29 ≤ (causeRange r).val := Nat.le_add_right_of_le (by decide)
theorem causeBbu_high : 29 ≤ (causeBbu i).val := Nat.le_add_right_of_le (by decide)
theorem causePsu_high : 29 ≤ (causePsu k).val := Nat.le_add_right_of_le (by decide)
theorem causeHoldup_high : 29 ≤ causeHoldup.val := by decide
theorem causeDeficit_high : 29 ≤ causeDeficit.val := by decide
theorem causeTest_high : 29 ≤ causeTest.val := by decide
theorem causeRecharge_high : 29 ≤ causeRecharge.val := by decide

/-! ### Budget unit -/

theorem driveBbu_leaves (h : LeavesPoints s t) : LeavesPoints s (driveBbu i t) := ite_leaves (setCharge_leaves h) h

theorem driveBbus_leaves (h : LeavesPoints s t) : LeavesPoints s (driveBbus t) :=
  foldl_leaves (fun _ _ hu => driveBbu_leaves hu) h

theorem reshare_leaves (h : LeavesPoints s t) : LeavesPoints s (reshare t) := driveBbus_leaves (setRecharge_leaves h)

theorem enterPaused_leaves (h : LeavesPoints s t) : LeavesPoints s (enterPaused y code t) :=
  raise_leaves causeRecharge_high (reportCondition_leaves causeRecharge_high (reshare_leaves (setRecharge_leaves h)))

theorem enterGrace_leaves (h : LeavesPoints s t) : LeavesPoints s (enterGrace y code t) :=
  raise_leaves causeDeficit_high (reportCondition_leaves causeDeficit_high (setBudget_leaves h))

theorem endDeficit_leaves (h : LeavesPoints s t) : LeavesPoints s (endDeficit t) :=
  reportCondition_leaves causeDeficit_high (setBudget_leaves h)

theorem judgeDeficit_leaves (h : LeavesPoints s t) : LeavesPoints s (judgeDeficit t) := by
  rcases judgeDeficit_cases t with e | ⟨-, -, e⟩ | ⟨-, -, -, e⟩ | ⟨-, -, e⟩ <;> rw [e]
  · exact h
  · exact enterGrace_leaves h
  · exact enterGrace_leaves h
  · exact endDeficit_leaves h

theorem recomputeCapacity_leaves (h : LeavesPoints s t) : LeavesPoints s (recomputeCapacity t) := setBudget_leaves h
theorem settleHeadroom_leaves (h : LeavesPoints s t) : LeavesPoints s (settleHeadroom t) := setBudget_leaves h

theorem instructRegulator_leaves (h : LeavesPoints s t) : LeavesPoints s (instructRegulator t) :=
  ite_leaves (enterPaused_leaves h) h

theorem recompute_leaves (h : LeavesPoints s t) : LeavesPoints s (recompute t) :=
  ite_leaves (judgeDeficit_leaves (settleHeadroom_leaves (instructRegulator_leaves h))) (settleHeadroom_leaves h)

theorem leaveDeficit_leaves (h : LeavesPoints s t) : LeavesPoints s (leaveDeficit t) := setBudget_leaves (endDeficit_leaves h)

theorem reclassifyPsu_leaves (h : LeavesPoints s t) : LeavesPoints s (reclassifyPsu k t) :=
  ite_leaves h (raise_leaves causePsu_high (reportCondition_leaves causePsu_high (setBudget_leaves h)))

theorem sampleBudget_leaves (h : LeavesPoints s t) : LeavesPoints s (sampleBudget t) :=
  recompute_leaves (recomputeCapacity_leaves (foldl_leaves (fun _ _ hu => reclassifyPsu_leaves hu) h))

/-! ### Slots -/

theorem lineWatch_leaves (h : LeavesPoints s t) : LeavesPoints s (lineWatch t) := ite_leaves (setLine_leaves h) h

theorem moveSlot_leaves (h : LeavesPoints s t) : LeavesPoints s (moveSlot n dest upd t) :=
  lineWatch_leaves (reportCondition_leaves causeSlot_high (setSeq_leaves h))

theorem shiftSlot_leaves (h : LeavesPoints s t) : LeavesPoints s (shiftSlot n dest upd t) := recompute_leaves (moveSlot_leaves h)
theorem joinQueue_leaves (h : LeavesPoints s t) : LeavesPoints s (joinQueue n t) := setSeq_leaves h
theorem leaveQueue_leaves (h : LeavesPoints s t) : LeavesPoints s (leaveQueue n t) := setSeq_leaves h

theorem enterQueue_leaves (h : LeavesPoints s t) : LeavesPoints s (enterQueue n t) :=
  ite_leaves (moveSlot_leaves h) (joinQueue_leaves (moveSlot_leaves h))

theorem grant_leaves (h : LeavesPoints s t) : LeavesPoints s (grant n t) :=
  shiftSlot_leaves (setSeq_leaves (leaveQueue_leaves h))

theorem sendReport_leaves (h : LeavesPoints s t) : LeavesPoints s (sendReport t) := setSeq_leaves h

theorem grantCheck_leaves (h : LeavesPoints s t) : LeavesPoints s (grantCheck t) := by
  rcases grantCheck_cases t with ⟨e, -⟩ | ⟨_, _, -, -, e⟩ <;> rw [e]
  · exact h
  · exact sendReport_leaves (grant_leaves h)

theorem reportHead_leaves (h : LeavesPoints s t) : LeavesPoints s (reportHead t) := ite_leaves h (sendReport_leaves h)
theorem seqEvent_leaves (h : LeavesPoints s t) : LeavesPoints s (seqEvent t) := reportHead_leaves (grantCheck_leaves h)

theorem restoreSlot_leaves (h : LeavesPoints s t) : LeavesPoints s (restoreSlot n t) :=
  ite_leaves (ite_leaves (enterQueue_leaves h) (setSeq_leaves h)) h

theorem handOver_leaves (h : LeavesPoints s t) : LeavesPoints s (handOver n t) :=
  ite_leaves (seqEvent_leaves (restoreSlot_leaves h)) h

theorem completeDrain_leaves (h : LeavesPoints s t) : LeavesPoints s (completeDrain n t) := by
  simp only [completeDrain]
  split
  · exact shiftSlot_leaves h
  · exact handOver_leaves (shiftSlot_leaves h)

theorem settleDrain_leaves (h : LeavesPoints s t) : LeavesPoints s (settleDrain n t) :=
  ite_leaves (recompute_leaves h) (completeDrain_leaves h)

theorem enterDraining_leaves (h : LeavesPoints s t) : LeavesPoints s (enterDraining n t) :=
  settleDrain_leaves (moveSlot_leaves h)

theorem unpowerSlot_leaves (h : LeavesPoints s t) : LeavesPoints s (unpowerSlot n reason t) := by
  unfold unpowerSlot
  split
  · exact moveSlot_leaves h
  · exact moveSlot_leaves h
  · exact moveSlot_leaves h

theorem seqEventIf_leaves (h : LeavesPoints s t) : LeavesPoints s (seqEventIf b t) := ite_leaves (seqEvent_leaves h) h

theorem handOverFor_leaves (h : LeavesPoints s t) : LeavesPoints s (handOverFor n reason t) :=
  ite_leaves (handOver_leaves h) h

theorem shedUnpowered_leaves (h : LeavesPoints s t) : LeavesPoints s (shedUnpowered n reason t) :=
  handOverFor_leaves (seqEventIf_leaves (unpowerSlot_leaves (leaveQueue_leaves h)))

theorem shedSoak_leaves (h : LeavesPoints s t) : LeavesPoints s (shedSoak n reason urgency t) :=
  seqEvent_leaves (enterDraining_leaves (setSeq_leaves h))

theorem shedOn_leaves (h : LeavesPoints s t) : LeavesPoints s (shedOn n reason urgency t) :=
  ite_leaves (enterDraining_leaves (setSeq_leaves h)) (shiftSlot_leaves h)

theorem escalate_leaves (h : LeavesPoints s t) : LeavesPoints s (escalate n urgency t) := by
  unfold escalate
  split
  · exact enterDraining_leaves h
  · exact enterDraining_leaves h
  · exact enterDraining_leaves h
  · exact h

theorem shedInFlight_leaves (h : LeavesPoints s t) : LeavesPoints s (shedInFlight n reason urgency t) := by
  rcases shedInFlight_cases n reason urgency t with e | ⟨-, -, e⟩ | ⟨-, -, -, e⟩ <;> rw [e]
  · exact h
  · exact escalate_leaves (setSeq_leaves h)
  · exact setSeq_leaves h

theorem shedSlot_leaves (h : LeavesPoints s t) : LeavesPoints s (shedSlot n reason urgency t) := by
  unfold shedSlot
  cases t.seq.slots[n].state with
  | off | queued => exact shedUnpowered_leaves h
  | soak => exact shedSoak_leaves h
  | on => exact shedOn_leaves h
  | notice | held | draining => exact shedInFlight_leaves h
  | faulted | locked => exact ite_leaves (setSeq_leaves h) h

theorem shedClass_leaves (h : LeavesPoints s t) : LeavesPoints s (shedClass reason x urgency t) :=
  foldl_leaves (fun _ _ hu => shedSlot_leaves hu) h

theorem shedAll_leaves (h : LeavesPoints s t) : LeavesPoints s (shedAll t) := foldl_leaves (fun _ _ hu => shedSlot_leaves hu) h
theorem shedZone_leaves (h : LeavesPoints s t) : LeavesPoints s (shedZone z t) :=
  foldl_leaves (fun _ _ hu => shedSlot_leaves hu) h

theorem lockZone_leaves (h : LeavesPoints s t) : LeavesPoints s (lockZone z t) :=
  ite_leaves h (seqEvent_leaves (foldl_leaves (fun _ _ hu => moveSlot_leaves (leaveQueue_leaves hu)) h))

/-! ### Charge accounting unit -/

theorem reportBbu_leaves (h : LeavesPoints s t) : LeavesPoints s (reportBbu i t) := reportCondition_leaves causeBbu_high h

theorem moveBbu_leaves (h : LeavesPoints s t) : LeavesPoints s (moveBbu i st t) :=
  reportBbu_leaves (driveBbu_leaves (setCharge_leaves h))

theorem changeBbu_leaves (h : LeavesPoints s t) : LeavesPoints s (changeBbu i st t) :=
  ite_leaves h (raise_leaves causeBbu_high (moveBbu_leaves h))

theorem setTargetInhibit_leaves (h : LeavesPoints s t) : LeavesPoints s (setTargetInhibit b t) :=
  ite_leaves h (seqEvent_leaves (setSeq_leaves h))

theorem listMatch_leaves (h : LeavesPoints s t) : LeavesPoints s (listMatch x t) := ite_leaves (setHoldup_leaves h) h

theorem targetAction_leaves {e : TargetEntry} (h : LeavesPoints s t) : LeavesPoints s (targetAction e t) := by
  unfold targetAction
  cases e.action with
  | noticeOnly => exact h
  | shed => exact shedClass_leaves h
  | inhibitPowerup => exact setTargetInhibit_leaves h
  | releasePowerup => exact setTargetInhibit_leaves h

theorem matchEntry_leaves {e : TargetEntry} (h : LeavesPoints s t) : LeavesPoints s (matchEntry e t) :=
  setCharge_leaves (raise_leaves causeTarget_high (listMatch_leaves (targetAction_leaves h)))

theorem compareFrom_leaves {fuel : Nat} (h : LeavesPoints s t) : LeavesPoints s (compareFrom fuel t) := by
  induction fuel generalizing t with
  | zero => exact h
  | succ fuel ih =>
    unfold compareFrom
    split
    · exact h
    · exact ite_leaves (ih (matchEntry_leaves h)) h

theorem compareTargets_leaves (h : LeavesPoints s t) : LeavesPoints s (compareTargets t) := ite_leaves (compareFrom_leaves h) h
theorem armTable_leaves (h : LeavesPoints s t) : LeavesPoints s (armTable t) := compareTargets_leaves (setCharge_leaves h)
theorem disarmTable_leaves (h : LeavesPoints s t) : LeavesPoints s (disarmTable t) := setCharge_leaves h
theorem armOnBridge_leaves (h : LeavesPoints s t) : LeavesPoints s (armOnBridge t) := ite_leaves (armTable_leaves h) h
theorem haltTable_leaves (h : LeavesPoints s t) : LeavesPoints s (haltTable t) := setCharge_leaves h

theorem judgeRange_leaves {old new : Vector Bool 8} {r : RangeId} (h : LeavesPoints s t) :
    LeavesPoints s (judgeRange old new x r t) :=
  ite_leaves (raise_leaves causeRange_high (reportCondition_leaves causeRange_high h))
    (reportCondition_leaves causeRange_high h)

theorem recomputeBand_leaves (h : LeavesPoints s t) : LeavesPoints s (recomputeBand t) :=
  foldl_leaves (fun _ _ hu => judgeRange_leaves hu) (setCharge_leaves h)

theorem publishReserve_leaves (h : LeavesPoints s t) : LeavesPoints s (publishReserve t) := setCharge_leaves h

theorem recomputeReserve_leaves (h : LeavesPoints s t) : LeavesPoints s (recomputeReserve t) :=
  publishReserve_leaves (compareTargets_leaves (recomputeBand_leaves (setCharge_leaves h)))

theorem abortTest_leaves {r : TestResult} {f : BbuId → State → BbuState} (h : LeavesPoints s t) :
    LeavesPoints s (abortTest r f t) := by
  simp only [abortTest]
  split
  · exact h
  · exact changeBbu_leaves (raise_leaves causeTest_high (setCharge_leaves h))

theorem failBbu_leaves (h : LeavesPoints s t) : LeavesPoints s (failBbu i st t) :=
  ite_leaves (abortTest_leaves h) (changeBbu_leaves h)

theorem completeTest_leaves (h : LeavesPoints s t) : LeavesPoints s (completeTest i t) :=
  changeBbu_leaves (raise_leaves causeTest_high
    (setCharge_leaves (setCharge_leaves (setStore_leaves (setSettings_leaves h)))))

theorem shiftBbu_leaves {f : BbuState → Bool} (h : LeavesPoints s t) : LeavesPoints s (shiftBbu f st i t) :=
  ite_leaves (recomputeReserve_leaves (changeBbu_leaves h)) h

theorem shiftBbus_leaves {f : BbuState → Bool} (h : LeavesPoints s t) : LeavesPoints s (shiftBbus f st t) :=
  foldl_leaves (fun _ _ hu => shiftBbu_leaves hu) h

theorem depleteAll_leaves (h : LeavesPoints s t) : LeavesPoints s (depleteAll t) := shiftBbus_leaves h

theorem abortTestForAc_leaves (h : LeavesPoints s t) : LeavesPoints s (abortTestForAc t) :=
  ite_leaves (recomputeReserve_leaves (abortTest_leaves h)) h

theorem integrateBbu_leaves (h : LeavesPoints s t) : LeavesPoints s (integrateBbu i t).1 := by
  simp only [integrateBbu]
  split
  · exact h
  · exact ite_else_leaves (ite_else_leaves (setCharge_leaves h) haltTable_leaves) setCharge_leaves

theorem anchorBbu_leaves (h : LeavesPoints s t) : LeavesPoints s (anchorBbu i t) :=
  raise_leaves causeBbu_high (moveBbu_leaves (setCharge_leaves h))

theorem judgeCharging_leaves (h : LeavesPoints s t) : LeavesPoints s (judgeCharging i t) :=
  ite_leaves (ite_leaves (ite_leaves (anchorBbu_leaves h) (setCharge_leaves h)) (setCharge_leaves h))
    (ite_leaves (changeBbu_leaves h) (setCharge_leaves h))

theorem judgeBbu_leaves (h : LeavesPoints s t) : LeavesPoints s (judgeBbu i t) := by
  refine ite_leaves h (ite_leaves (ite_leaves (changeBbu_leaves h) h) (ite_leaves (failBbu_leaves h) ?_))
  cases t.charge.bbus[i].state with
  | standby => exact ite_leaves (changeBbu_leaves h) (ite_leaves (changeBbu_leaves h) h)
  | charging => exact ite_leaves (changeBbu_leaves h) (judgeCharging_leaves h)
  | discharging => exact ite_leaves (changeBbu_leaves h) (ite_leaves h (changeBbu_leaves h))
  | testing => exact ite_leaves (completeTest_leaves h) h
  | depleted => exact ite_leaves (changeBbu_leaves h) h
  | absent | fault => exact h

theorem raiseBottomed_leaves (h : LeavesPoints s t) : LeavesPoints s (raiseBottomed i t) :=
  raise_leaves causeBbu_high (reportBbu_leaves h)

theorem refreshBbu_leaves (h : LeavesPoints s t) : LeavesPoints s (refreshBbu i t) := setCharge_leaves h

theorem sampleBbu_leaves (h : LeavesPoints s t) : LeavesPoints s (sampleBbu b i t) :=
  ite_else_leaves
    (judgeBbu_leaves (integrateBbu_leaves
      (ite_else_leaves (refreshBbu_leaves h) fun hu => driveBbu_leaves (changeBbu_leaves hu))))
    raiseBottomed_leaves

theorem sampleCharge_leaves (h : LeavesPoints s t) : LeavesPoints s (sampleCharge b t) :=
  recomputeReserve_leaves (foldl_leaves (fun _ _ hu => sampleBbu_leaves hu) h)

/-! ### Recharge regulator -/

theorem recomputeIfSet_leaves (h : LeavesPoints s t) : LeavesPoints s (recomputeIfSet x t) := ite_leaves h (recompute_leaves h)

theorem regulatorOff_leaves (h : LeavesPoints s t) : LeavesPoints s (regulatorOff t) :=
  recomputeIfSet_leaves (reportCondition_leaves causeRecharge_high (reshare_leaves (setRecharge_leaves h)))

theorem enterCruise_leaves (h : LeavesPoints s t) : LeavesPoints s (enterCruise x t) :=
  recomputeIfSet_leaves (reportCondition_leaves causeRecharge_high (reshare_leaves (setRecharge_leaves h)))

theorem enterThermal_leaves (h : LeavesPoints s t) : LeavesPoints s (enterThermal t) :=
  recomputeIfSet_leaves (raise_leaves causeRecharge_high
    (reportCondition_leaves causeRecharge_high (reshare_leaves (setRecharge_leaves h))))

theorem pauseRegulator_leaves (h : LeavesPoints s t) : LeavesPoints s (pauseRegulator code t) :=
  recomputeIfSet_leaves (enterPaused_leaves h)

theorem startRegulator_leaves (h : LeavesPoints s t) : LeavesPoints s (startRegulator t) :=
  ite_leaves (regulatorOff_leaves h)
    (ite_leaves (pauseRegulator_leaves h) (ite_leaves (enterThermal_leaves h) (enterCruise_leaves h)))

theorem formSet_leaves (h : LeavesPoints s t) : LeavesPoints s (formSet t) := by
  have formed {p : Prop} {_ : Decidable p} {r : Recharge} : LeavesPoints s (if p then t else reshare (t.setRecharge r)) :=
    ite_leaves h (reshare_leaves (setRecharge_leaves h))
  exact ite_leaves (ite_leaves formed (regulatorOff_leaves formed)) (ite_leaves (startRegulator_leaves formed) formed)

theorem restartIfRoom_leaves (h : LeavesPoints s t) : LeavesPoints s (restartIfRoom t) := ite_leaves (startRegulator_leaves h) h
theorem refreshRecharge_leaves (h : LeavesPoints s t) : LeavesPoints s (refreshRecharge t) := setRecharge_leaves h

theorem sampleRegulator_leaves (h : LeavesPoints s t) : LeavesPoints s (sampleRegulator t) := by
  have formed := formSet_leaves (refreshRecharge_leaves h)
  simp only [sampleRegulator]
  cases (formSet (refreshRecharge t)).recharge.state with
  | off => exact formed
  | cruise | floor => exact ite_leaves (enterThermal_leaves formed) formed
  | paused => exact restartIfRoom_leaves formed
  | thermalHold => exact ite_leaves (enterCruise_leaves formed) formed

/-! ### Holdup controller -/

theorem offerRecord_leaves (h : LeavesPoints s t) : LeavesPoints s (offerRecord trigger t) := setHoldup_leaves h
theorem closeRecord_leaves {why : EndReason} (h : LeavesPoints s t) : LeavesPoints s (closeRecord why t) := setHoldup_leaves h
theorem followRecord_leaves (h : LeavesPoints s t) : LeavesPoints s (followRecord t) := ite_leaves (setHoldup_leaves h) h

theorem moveHoldup_leaves {stage : HoldupState} (h : LeavesPoints s t) : LeavesPoints s (moveHoldup stage t) :=
  raise_leaves causeHoldup_high (reportCondition_leaves causeHoldup_high
    (setRecharge_leaves (setSeq_leaves (setHoldup_leaves h))))

theorem enterBlackout_leaves (h : LeavesPoints s t) : LeavesPoints s (enterBlackout t) :=
  seqEvent_leaves (disarmTable_leaves (depleteAll_leaves (shedAll_leaves
    (moveHoldup_leaves (closeRecord_leaves (setHoldup_leaves h))))))

theorem judgeCounted_leaves (h : LeavesPoints s t) : LeavesPoints s (judgeCounted t) := ite_leaves (enterBlackout_leaves h) h

theorem openEvent_leaves (h : LeavesPoints s t) : LeavesPoints s (openEvent trigger t) :=
  judgeCounted_leaves (seqEvent_leaves (leaveDeficit_leaves (regulatorOff_leaves (abortTestForAc_leaves
    (armOnBridge_leaves (moveHoldup_leaves (offerRecord_leaves (setHoldup_leaves h))))))))

theorem enterReturn_leaves (h : LeavesPoints s t) : LeavesPoints s (enterReturn t) :=
  seqEvent_leaves (moveHoldup_leaves (setHoldup_leaves h))

theorem flicker_leaves (h : LeavesPoints s t) : LeavesPoints s (flicker t) :=
  judgeCounted_leaves (seqEvent_leaves (moveHoldup_leaves (setHoldup_leaves h)))

theorem evaluateAc_leaves (h : LeavesPoints s t) : LeavesPoints s (evaluateAc t) := setHoldup_leaves h

theorem judgeAc_leaves (h : LeavesPoints s t) : LeavesPoints s (judgeAc t) := by
  unfold judgeAc
  split
  · exact openEvent_leaves h
  · exact enterReturn_leaves h
  · exact flicker_leaves h
  · exact enterReturn_leaves h
  · exact h

theorem judgeCollapse_leaves (h : LeavesPoints s t) : LeavesPoints s (judgeCollapse t) := by
  refine ite_leaves ?_ (setHoldup_leaves h)
  cases t.holdup.collapse with
  | some _ => exact h
  | none => exact setHoldup_leaves h

theorem noteFirstSet_leaves (h : LeavesPoints s t) : LeavesPoints s (noteFirstSet t) := by
  unfold noteFirstSet
  cases t.holdup.first with
  | some _ => exact h
  | none => exact setHoldup_leaves h

theorem sampleHoldup_leaves (h : LeavesPoints s t) : LeavesPoints s (sampleHoldup t) := by
  have evaluated := evaluateAc_leaves (followRecord_leaves h)
  have judged := judgeAc_leaves evaluated
  exact ite_leaves (noteFirstSet_leaves evaluated) (ite_leaves (judgeCollapse_leaves judged) judged)

/-! ### Leak monitor -/

theorem moveZone_leaves {r : Zone} (h : LeavesPoints s t) : LeavesPoints s (moveZone z r t) :=
  lineWatch_leaves (reportCondition_leaves causeZoneWet_high (setLeak_leaves h))

theorem spendRope_leaves (h : LeavesPoints s t) : LeavesPoints s (spendRope z t) := by
  unfold spendRope
  cases t.leak.zones[z].code with
  | some _ => exact h
  | none => exact spendFree_leaves h

theorem enterWet_leaves {how : Confirmation} (h : LeavesPoints s t) : LeavesPoints s (enterWet z how t) :=
  ite_else_leaves (lockZone_leaves (raise_leaves causeZoneWet_high (moveZone_leaves (spendRope_leaves h)))) shedZone_leaves

theorem fallBack_leaves (h : LeavesPoints s t) : LeavesPoints s (fallBack z t) := ite_leaves (moveZone_leaves h) h

theorem judgeZone_leaves {how : Confirmation} (h : LeavesPoints s t) : LeavesPoints s (judgeZone z how t) :=
  ite_leaves (fallBack_leaves h) (enterWet_leaves h)

theorem countRope_leaves (h : LeavesPoints s t) : LeavesPoints s (countRope z b t) := by
  simp only [countRope]
  cases t.leak.zones[z].state with
  | dry => exact ite_leaves (moveZone_leaves h) h
  | suspect => exact setLeak_leaves h
  | wet | fault => exact h

theorem judgeRope_leaves {old : RopeClass} (h : LeavesPoints s t) : LeavesPoints s (judgeRope z old t) :=
  ite_leaves
    (ite_leaves (ite_leaves (raise_leaves causeRopeFault_high h) h)
      (raise_leaves causeRopeFault_high (reportCondition_leaves causeRopeFault_high (moveZone_leaves h))))
    (ite_leaves (reportCondition_leaves causeRopeFault_high (moveZone_leaves h)) h)

theorem sampleZone_leaves (h : LeavesPoints s t) : LeavesPoints s (sampleZone z t) := by
  unfold sampleZone
  cases t.sense.pub[ropePoint z].raw with
  | none => exact h
  | some _ =>
    exact ite_leaves (setLeak_leaves h) (judgeZone_leaves (countRope_leaves (judgeRope_leaves (setLeak_leaves h))))

theorem sampleLeak_leaves (h : LeavesPoints s t) : LeavesPoints s (sampleLeak t) :=
  foldl_leaves (fun _ _ hu => sampleZone_leaves hu) h

/-- R1: what follows the scan of a sample set. -/
theorem sampleSet_leaves (codes : Vector (BitVec 12) 29) (s : State) :
    LeavesPoints (scanSet codes (passInterval s)) (sampleSet codes s) := by
  unfold sampleSet
  exact sampleRegulator_leaves (sampleLeak_leaves (sampleHoldup_leaves (sampleCharge_leaves (sampleBudget_leaves (.refl _)))))

end Consumers

end Sys2Proof.Machine
end

section
/-! PROOFS. O31: the sample set as a whole, each clause of the statement from the scan of its point and what the consumers leave. -/

namespace Sys2Proof.Machine

section SampleSet
variable (codes : Vector (BitVec 12) 29) (s : State)

/-- R2 to R4, R9 to R12, R14, over the whole set: the interval that passes before the scan and the consumers after it leave the
point alone. -/
theorem sampleSet_analog (p : AnalogId) :
    Scanned (AnalogId.point p)
      (nextPoint p s.settings.points[p] s.sense.points[AnalogId.point p] codes[AnalogId.point p])
      (nextPoint p s.settings.points[p] s.sense.points[AnalogId.point p] codes[AnalogId.point p]).alarming
      (analogTold p s.settings.points[p] s.sense.points[AnalogId.point p] codes[AnalogId.point p])
      s (sampleSet codes s) := by
  have leaves := sampleSet_leaves codes s
  have passed : Quiet (causePoint (AnalogId.point p)) s (passInterval s) := .of_eq rfl rfl
  exact (scanSet_analog codes (passInterval s) p).widen passed.toUnraised (leaves.cause _ (causePoint_val_lt _))
    (by rw [leaves.sense])

/-- R5, over the whole set. -/
theorem sampleSet_rope (z : ZoneId) :
    Scanned (ropePoint z) (nextRope s.sense.points[ropePoint z] codes[ropePoint z]) (railCode codes[ropePoint z])
      (ropeTold s.sense.points[ropePoint z] codes[ropePoint z]) s (sampleSet codes s) := by
  have leaves := sampleSet_leaves codes s
  have passed : Quiet (causePoint (ropePoint z)) s (passInterval s) := .of_eq rfl rfl
  exact (scanSet_rope codes (passInterval s) z).widen passed.toUnraised (leaves.cause _ (causePoint_val_lt _))
    (by rw [leaves.sense])

/-- R1, R6. -/
theorem sampleSet_window :
    (sampleSet codes s).sense.window =
      windowNext s.sense.window (!(sampleSet codes s).sense.points[busIPoint].stale)
        (sampleSet codes s).sense.points[busIPoint].value.toNat := by
  rw [(sampleSet_leaves codes s).sense]; exact scanSet_window codes (passInterval s)

theorem sampleSet_iAvg : (sampleSet codes s).sense.iAvg = (sampleSet codes s).sense.window.sum / 8 := by
  rw [(sampleSet_leaves codes s).sense, scanSet_iAvg, windowMean_eq]

theorem sampleSet_pub : (sampleSet codes s).sense.pub = (sampleSet codes s).sense.points := by
  rw [(sampleSet_leaves codes s).sense, scanSet_pub]

theorem sampleSet_setNo : (sampleSet codes s).sense.setNo = (s.sense.setNo + 1) % 4294967296 := by
  rw [(sampleSet_leaves codes s).sense]; exact scanSet_setNo codes (passInterval s)

theorem sampleSet_seen : (sampleSet codes s).sense.seen = true := by
  rw [(sampleSet_leaves codes s).sense, scanSet_seen]

theorem sampleSet_shed : (sampleSet codes s).shed = s.shed := by
  rw [(sampleSet_leaves codes s).shed]; exact scanSet_shed codes (passInterval s)

end SampleSet

/-! ### The clauses on one point -/

/-- What the statement says a code makes of an analog point's record. -/
def RecordFollows (p : AnalogId) (set : PointSettings) (x y : Point) (c : BitVec 12) : Prop :=
  let q := AnalogId.point p
  let v := max (pointRange q).1 (min (pointRange q).2 (set.offset + (c.toNat : Int) * set.span / 4096))
  let above := if set.direction = .above then set.high < v else v < set.low
  let under := if set.direction = .above then v < set.low else set.high < v
  ((c = 0 ∨ c = 4095) → y = { x with raw := some c, stale := true }) ∧
    (c ≠ 0 → c ≠ 4095 →
      y.raw = some c ∧ y.value = v ∧ y.stale = false ∧
        (set.mode = .off → y.alarm = false) ∧ (set.mode = .compare → y.alarm = decide above) ∧
        (set.mode = .hysteresis → y.alarm = if x.alarm = true then !decide under else decide above) ∧
        (set.mode = .latch → y.alarm = (x.alarm || decide above)))

theorem scaledValue_eq (p : AnalogId) (set : PointSettings) (c : BitVec 12) :
    scaledValue p set c =
      max (pointRange (AnalogId.point p)).1
        (min (pointRange (AnalogId.point p)).2 (set.offset + (c.toNat : Int) * set.span / 4096)) :=
  congrArg (max _) (min_comm _ _)

theorem nextPoint_follows (p : AnalogId) (set : PointSettings) (x : Point) (c : BitVec 12) :
    RecordFollows p set x (nextPoint p set x c) c := by
  refine ⟨fun hrail => nextPoint_of_rail ((railCode_iff c).2 hrail) p set x, fun hlow hhigh => ?_⟩
  have hgood : ¬ railCode c = true := fun h => ((railCode_iff c).1 h).elim hlow hhigh
  rw [nextPoint_of_good hgood, scaledValue_eq]
  refine ⟨rfl, rfl, rfl, ?_, ?_, ?_, ?_⟩ <;> intro hmode <;>
    simp only [alarmNext, hmode, overLimit_eq, underLimit_eq]

/-- R4, R14: what a code raises at an analog point, and when it raises nothing. -/
theorem Scanned.analog_causes {p : AnalogId} {set : PointSettings} {x y : Point} {c : BitVec 12} {s t : State}
    (h : Scanned (AnalogId.point p) (nextPoint p set x c) (nextPoint p set x c).alarming (analogTold p set x c) s t)
    (hy : t.sense.points[AnalogId.point p] = y) :
    let q := AnalogId.point p
    let old := s.causes.recs[causePoint q]
    let new := t.causes.recs[causePoint q]
    let rail := c = 0 ∨ c = 4095
    let stales := rail ∧ x.raw ≠ some 0 ∧ x.raw ≠ some 4095
    let alarms := ¬ rail ∧ x.alarm = false ∧ y.alarm = true
    new.condition = (y.alarm || y.stale) ∧ (stales → RaisedFrom s t (causePoint q) x.value 3) ∧
      (alarms → RaisedFrom s t (causePoint q) y.value (if set.direction = .above then 1 else 2)) ∧
      (¬ stales → ¬ alarms → new.value = old.value ∧ new.code = old.code ∧ new.count ≤ old.count) := by
  obtain rfl : nextPoint p set x c = y := h.point.symm.trans hy
  intro q old new rail stales alarms
  have hrail : railCode c = true ↔ rail := railCode_iff c
  have hrun : startsRun x.raw = true ↔ x.raw ≠ some 0 ∧ x.raw ≠ some 4095 := startsRun_iff x.raw
  refine ⟨h.condition, fun hs => ?_, fun ha => ?_, fun hs ha => ?_⟩
  · have told : analogTold p set x c = some (x.value, codeStale) := by
      rw [analogTold, if_pos (hrail.2 hs.1), if_pos (hrun.2 hs.2)]
    exact h.raised _ told
  · have told : analogTold p set x c = some ((nextPoint p set x c).value, limitCode set.direction) := by
      rw [analogTold, if_neg (fun hr => ha.1 (hrail.1 hr)), if_pos (by rw [ha.2.1, ha.2.2]; rfl)]
    rw [← limitCode_eq]
    exact h.raised _ told
  · have told : analogTold p set x c = none := by
      unfold analogTold
      split
      · rename_i hr
        exact if_neg fun hstart => hs ⟨hrail.1 hr, hrun.1 hstart⟩
      · rename_i hr
        refine if_neg fun halarm => ha ⟨fun hl => hr (hrail.2 hl), ?_⟩
        simpa [and_comm] using halarm
    have silent := h.unraised told
    exact ⟨silent.value, silent.code, silent.count⟩

/-- R5: what a code raises at a rope point, and when it raises nothing. -/
theorem Scanned.rope_causes {z : ZoneId} {x : Point} {c : BitVec 12} {s t : State}
    (h : Scanned (ropePoint z) (nextRope x c) (railCode c) (ropeTold x c) s t) :
    let q := ropePoint z
    let old := s.causes.recs[causePoint q]
    let new := t.causes.recs[causePoint q]
    let rails := (c = 0 ∨ c = 4095) ∧ x.raw ≠ some c
    new.condition = (c == 0 || c == 4095) ∧
      (rails → RaisedFrom s t (causePoint q) (c.toNat : Int) (if c = 0 then 1 else 2)) ∧
      (¬ rails → new.value = old.value ∧ new.code = old.code ∧ new.count ≤ old.count) := by
  intro q old new rails
  have hrails : (railCode c && x.raw != some c) = true ↔ rails := by
    rw [Bool.and_eq_true, railCode_iff, bne_iff_ne]
  refine ⟨h.condition, fun hr => ?_, fun hr => ?_⟩
  · exact h.raised _ (if_pos (hrails.2 hr))
  · have silent := h.unraised (if_neg (mt hrails.1 hr))
    exact ⟨silent.value, silent.code, silent.count⟩

end Sys2Proof.Machine

open Sys2Proof Sys2Proof.Machine

/-- Settles O31: `sampleSet_analog` and `sampleSet_rope` say what each point and its cause come to over the whole set, and the
scan alone writes the sense block. -/
theorem sampleSetScalesJudgesAndPublishes : Obligations.SampleSetScalesJudgesAndPublishes := by
  unfold Obligations.SampleSetScalesJudgesAndPublishes
  intro codes s hrunning
  have hphase : s.phase = .running := hrunning
  have houter : (sampleSet codes s).outer = (passInterval s).outer := by simp [sampleSet]
  refine ⟨sampleSet codes s, ?_, fun p => ?_, fun z => (sampleSet_rope codes s z).point, ⟨?_, sampleSet_iAvg codes s⟩,
    fun p => (sampleSet_analog codes s p).analog_causes rfl, fun z => (sampleSet_rope codes s z).rope_causes,
    sampleSet_pub codes s, sampleSet_setNo codes s, sampleSet_seen codes s, (outer_pins houter :), (outer_phase houter :),
    (outer_lastReset houter :), sampleSet_shed codes s, (outer_pending houter :)⟩
  · show execSampleSet codes s = _
    simp only [execSampleSet, whenRunning, hphase]
  · have follows := nextPoint_follows p s.settings.points[p] s.sense.points[AnalogId.point p] codes[AnalogId.point p]
    rw [← (sampleSet_analog codes s p).point] at follows
    exact follows
  · refine (sampleSet_window codes s).trans ?_
    cases s.sense.window with
    | nil => cases (sampleSet codes s).sense.points[busIPoint].stale <;> rfl
    | cons _ _ => rfl
end

section
/-! PROOFS. What a matched target entry hands out (R51): a RESERVE shed of a class, or the target inhibit. Both end in a few
elementary steps of the budget unit, the regulator's pause, the sequencer and the line. A property that those steps keep
(`ShedInvariant`) is kept by the whole chain, one lemma for each operation, in the order of the definitions. -/

namespace Sys2Proof.Machine

/-- The causes that the chain reports or raises: the deficit, the regulator's pause and those of the slots. -/
def ShedCause (c : CauseId) : Prop := c = causeDeficit ∨ c = causeRecharge ∨ ∃ n, c = causeSlot n

theorem shedCause_deficit : ShedCause causeDeficit := .inl rfl
theorem shedCause_recharge : ShedCause causeRecharge := .inr (.inl rfl)
theorem shedCause_slot (n : SlotId) : ShedCause (causeSlot n) := .inr (.inr ⟨n, rfl⟩)

/-- Every elementary step of the chain keeps `P`. -/
structure ShedInvariant (P : State → Prop) : Prop where
  setBudget : ∀ {t : State} {x : Budget}, P t → P (t.setBudget x)
  setRecharge : ∀ {t : State} {x : Recharge}, P t → P (t.setRecharge x)
  setSeq : ∀ {t : State} {x : Sequencer}, P t → P (t.setSeq x)
  setLine : ∀ {t : State} {x : Line}, P t → P (t.setLine x)
  driveBbu : ∀ {t : State} {i : BbuId}, P t → P (driveBbu i t)
  reportCondition : ∀ {t : State} {c : CauseId} {a : Bool}, ShedCause c → P t → P (reportCondition c a t)
  raise : ∀ {t : State} {c : CauseId} {v : Int} {code : Byte}, ShedCause c → P t → P (raise c v code t)

theorem ite_keeps {P : State → Prop} {c : Prop} {_ : Decidable c} {u v : State} (hu : P u) (hv : P v) :
    P (if c then u else v) := by split <;> assumption

namespace ShedInvariant
variable {P : State → Prop} {t : State} {n : SlotId} {v : Int} {code : Byte} {st : SlotState} {upd : Slot → Slot}
  {reason : ShedReason} {urgency : Urgency} {b : Bool}

/-! ### Budget unit and the regulator's pause -/

theorem reshare (inv : ShedInvariant P) (h : P t) : P (reshare t) :=
  List.foldlRecOn bbuIds (fun s i => Machine.driveBbu i s) (inv.setRecharge h) fun _ hu _ _ => inv.driveBbu hu

theorem enterPaused (inv : ShedInvariant P) (h : P t) : P (enterPaused v code t) :=
  inv.raise shedCause_recharge (inv.reportCondition shedCause_recharge (inv.reshare (inv.setRecharge h)))

theorem enterGrace (inv : ShedInvariant P) (h : P t) : P (enterGrace v code t) :=
  inv.raise shedCause_deficit (inv.reportCondition shedCause_deficit (inv.setBudget h))

theorem endDeficit (inv : ShedInvariant P) (h : P t) : P (endDeficit t) :=
  inv.reportCondition shedCause_deficit (inv.setBudget h)

theorem judgeDeficit (inv : ShedInvariant P) (h : P t) : P (judgeDeficit t) := by
  rcases judgeDeficit_cases t with e | ⟨-, -, e⟩ | ⟨-, -, -, e⟩ | ⟨-, -, e⟩ <;> rw [e]
  · exact h
  · exact inv.enterGrace h
  · exact inv.enterGrace h
  · exact inv.endDeficit h

theorem instructRegulator (inv : ShedInvariant P) (h : P t) : P (instructRegulator t) := ite_keeps (inv.enterPaused h) h

theorem recompute (inv : ShedInvariant P) (h : P t) : P (recompute t) :=
  ite_keeps (inv.judgeDeficit (inv.setBudget (inv.instructRegulator h))) (inv.setBudget h)

/-! ### Slots -/

theorem lineWatch (inv : ShedInvariant P) (h : P t) : P (lineWatch t) := ite_keeps (inv.setLine h) h

theorem moveSlot (inv : ShedInvariant P) (h : P t) : P (moveSlot n st upd t) :=
  inv.lineWatch (inv.reportCondition (shedCause_slot n) (inv.setSeq h))

theorem shiftSlot (inv : ShedInvariant P) (h : P t) : P (shiftSlot n st upd t) := inv.recompute (inv.moveSlot h)

theorem enterQueue (inv : ShedInvariant P) (h : P t) : P (enterQueue n t) :=
  ite_keeps (inv.moveSlot h) (inv.setSeq (inv.moveSlot h))

theorem grant (inv : ShedInvariant P) (h : P t) : P (grant n t) := inv.shiftSlot (inv.setSeq (inv.setSeq h))

theorem grantCheck (inv : ShedInvariant P) (h : P t) : P (grantCheck t) := by
  rcases grantCheck_cases t with ⟨e, -⟩ | ⟨_, _, -, -, e⟩ <;> rw [e]
  · exact h
  · exact inv.setSeq (inv.grant h)

theorem seqEvent (inv : ShedInvariant P) (h : P t) : P (seqEvent t) :=
  ite_keeps (inv.grantCheck h) (inv.setSeq (inv.grantCheck h))

theorem restoreSlot (inv : ShedInvariant P) (h : P t) : P (restoreSlot n t) :=
  ite_keeps (ite_keeps (inv.enterQueue h) (inv.setSeq h)) h

theorem handOver (inv : ShedInvariant P) (h : P t) : P (handOver n t) := ite_keeps (inv.seqEvent (inv.restoreSlot h)) h

theorem completeDrain (inv : ShedInvariant P) (h : P t) : P (completeDrain n t) := by
  simp only [Machine.completeDrain]
  split
  · exact inv.shiftSlot h
  · exact inv.handOver (inv.shiftSlot h)

theorem enterDraining (inv : ShedInvariant P) (h : P t) : P (enterDraining n t) :=
  ite_keeps (inv.recompute (inv.moveSlot h)) (inv.completeDrain (inv.moveSlot h))

/-! ### Sheds -/

theorem unpowerSlot (inv : ShedInvariant P) (h : P t) : P (unpowerSlot n reason t) := by
  unfold Machine.unpowerSlot
  split
  · exact inv.moveSlot h
  · exact inv.moveSlot h
  · exact inv.moveSlot h

theorem shedUnpowered (inv : ShedInvariant P) (h : P t) : P (shedUnpowered n reason t) := by
  have unpowered := inv.unpowerSlot (n := n) (reason := reason) (inv.setSeq h : P (leaveQueue n t))
  have settled : P (seqEventIf (t.seq.slots[n].state == .queued) _) := ite_keeps (inv.seqEvent unpowered) unpowered
  exact ite_keeps (inv.handOver settled) settled

theorem shedSoak (inv : ShedInvariant P) (h : P t) : P (shedSoak n reason urgency t) :=
  inv.seqEvent (inv.enterDraining (inv.setSeq h))

theorem shedOn (inv : ShedInvariant P) (h : P t) : P (shedOn n reason urgency t) :=
  ite_keeps (inv.enterDraining (inv.setSeq h)) (inv.shiftSlot h)

theorem escalate (inv : ShedInvariant P) (h : P t) : P (escalate n urgency t) := by
  unfold Machine.escalate
  split
  · exact inv.enterDraining h
  · exact inv.enterDraining h
  · exact inv.enterDraining h
  · exact h

theorem shedInFlight (inv : ShedInvariant P) (h : P t) : P (shedInFlight n reason urgency t) := by
  rcases shedInFlight_cases n reason urgency t with e | ⟨-, -, e⟩ | ⟨-, -, -, e⟩ <;> rw [e]
  · exact h
  · exact inv.escalate (inv.setSeq h)
  · exact inv.setSeq h

theorem shedSlot (inv : ShedInvariant P) (h : P t) : P (shedSlot n reason urgency t) := by
  unfold Machine.shedSlot
  cases t.seq.slots[n].state with
  | off | queued => exact inv.shedUnpowered h
  | soak => exact inv.shedSoak h
  | on => exact inv.shedOn h
  | notice | held | draining => exact inv.shedInFlight h
  | faulted | locked => exact ite_keeps (inv.setSeq h) h

theorem shedClass (inv : ShedInvariant P) {k : Nat} (h : P t) : P (shedClass reason k urgency t) :=
  List.foldlRecOn (t.classGroup k) _ h fun _ hu _ _ => inv.shedSlot hu

/-! ### The action of a matched entry -/

theorem setTargetInhibit (inv : ShedInvariant P) (h : P t) : P (setTargetInhibit b t) :=
  ite_keeps h (inv.seqEvent (inv.setSeq h))

/-- R51. -/
theorem targetAction (inv : ShedInvariant P) {e : TargetEntry} (h : P t) : P (targetAction e t) := by
  unfold Machine.targetAction
  cases e.action with
  | noticeOnly => exact h
  | shed => exact inv.shedClass h
  | inhibitPowerup => exact inv.setTargetInhibit h
  | releasePowerup => exact inv.setTargetInhibit h

end ShedInvariant

end Sys2Proof.Machine
end

section
/-! PROOFS. The reserve recompute (R47 to R53): the band set, the comparison of the target table and the publication, and what
they leave of the charge accounting unit. -/

namespace Sys2Proof.Machine

/-! ### Causes leave the charge accounting unit alone -/

@[simp] theorem serveTransmitter_charge (s : State) : (serveTransmitter s).charge = s.charge := by
  rcases serveTransmitter_cases s with ⟨h, -⟩ | ⟨_, _, -, -, h⟩ | ⟨_, _, -, -, -, -, h⟩ | ⟨h, -⟩ <;>
    exact (congrArg State.charge h :)

@[simp] theorem reportCondition_charge (c : CauseId) (a : Bool) (s : State) : (reportCondition c a s).charge = s.charge := by
  rcases reportCondition_cases c a s with ⟨-, h⟩ | ⟨-, h⟩ <;> exact (congrArg State.charge h :)

@[simp] theorem joinOutbox_charge (c : CauseId) (s : State) : (joinOutbox c s).charge = s.charge := by
  rcases joinOutbox_cases c s with ⟨h, -⟩ | ⟨-, -, h⟩ <;> exact (congrArg State.charge h :)

@[simp] theorem raise_charge (c : CauseId) (v : Int) (code : Byte) (s : State) : (raise c v code s).charge = s.charge := by
  simp only [raise, serveTransmitter_charge, joinOutbox_charge]; split <;> rfl

@[simp] theorem reportBbu_charge (i : BbuId) (s : State) : (reportBbu i s).charge = s.charge := reportCondition_charge _ _ s

theorem ShedCause.ne_bbu {c : CauseId} (h : ShedCause c) (i : BbuId) : c ≠ causeBbu i := by
  have := i.isLt
  rw [Ne, Fin.ext_iff]
  rcases h with rfl | rfl | ⟨n, rfl⟩
  · show 131 ≠ 120 + i.val; omega
  · show 136 ≠ 120 + i.val; omega
  · show 72 + n.val ≠ 120 + i.val; omega

theorem causeTarget_ne_bbu (p : Fin 16) (i : BbuId) : causeTarget p ≠ causeBbu i := by
  rw [Ne, Fin.ext_iff]; show 96 + p.val ≠ 120 + i.val; omega

theorem causeRange_ne_bbu (k : RangeId) (i : BbuId) : causeRange k ≠ causeBbu i := by
  rw [Ne, Fin.ext_iff]; show 112 + k.val ≠ 120 + i.val; omega

/-! ### The comparison -/

/-- What a comparison of the target table leaves of the charge accounting: it moves the table's place on, may disarm it, and may
change BBU outputs through the regulator's pause (R50, R51, R88); the causes of the BBUs are neither raised nor reported. -/
structure KeepsReserve (s t : State) : Prop where
  charge : t.charge = { s.charge with bbus := t.charge.bbus, p := t.charge.p, armed := t.charge.armed }
  bbus : ∀ i : BbuId, t.charge.bbus[i] = { s.charge.bbus[i] with out := t.charge.bbus[i].out }
  advances : s.charge.p ≤ t.charge.p
  armed : t.charge.armed = true → s.charge.armed = true
  quiet : ∀ i : BbuId, Quiet (causeBbu i) s t

namespace KeepsReserve
variable {s t u : State}

theorem refl (s : State) : KeepsReserve s s := ⟨rfl, fun _ => rfl, le_refl _, id, fun _ => .refl _ s⟩

/-- A step on causes other than those of the BBUs. -/
theorem then_causes (h : KeepsReserve s t) (hcharge : u.charge = t.charge) (hquiet : ∀ i, Quiet (causeBbu i) t u) :
    KeepsReserve s u where
  charge := by rw [hcharge]; exact h.charge
  bbus := by rw [hcharge]; exact h.bbus
  advances := by rw [hcharge]; exact h.advances
  armed := by rw [hcharge]; exact h.armed
  quiet := fun i => (h.quiet i).trans (hquiet i)

/-- A step on another block. -/
theorem then_same (h : KeepsReserve s t) (hcharge : u.charge = t.charge) (hcauses : u.causes = t.causes)
    (hlink : u.link = t.link) : KeepsReserve s u :=
  h.then_causes hcharge fun _ => .of_eq (by rw [hcauses]) (by rw [hlink])

/-- R41: an output alone. -/
theorem then_out (h : KeepsReserve s t) (i : BbuId) (o : BbuOut) :
    KeepsReserve s (t.setBbu i { t.charge.bbus[i] with out := o }) where
  charge :=
    (congrArg (fun x : Charge => { x with bbus := t.charge.bbus.set i { t.charge.bbus[i] with out := o } }) h.charge :)
  bbus j := by
    rw [State.setBbu_charge]
    simp only [get_set]
    split
    · rename_i e
      subst e
      exact congrArg (fun x : Bbu => { x with out := o }) (h.bbus i)
    · exact h.bbus j
  advances := h.advances
  armed := h.armed
  quiet j := (h.quiet j).trans (.of_eq rfl rfl)

/-- R50: the place of the table moves on, and the table may be disarmed. -/
theorem then_place (h : KeepsReserve s t) {p : Nat} {armed : Bool} (hp : s.charge.p ≤ p)
    (ha : armed = true → t.charge.armed = true) :
    KeepsReserve s (t.setCharge { t.charge with p := p, armed := armed }) where
  charge := congrArg (fun x : Charge => { x with p := p, armed := armed }) h.charge
  bbus := h.bbus
  advances := hp
  armed := fun e => h.armed (ha e)
  quiet i := (h.quiet i).trans (.of_eq rfl rfl)

theorem then_raise {c : CauseId} (hc : ∀ i, c ≠ causeBbu i) {v : Int} {code : Byte} (h : KeepsReserve s t) :
    KeepsReserve s (raise c v code t) := h.then_causes (raise_charge c v code t) fun i => raise_quiet (hc i) v code t

theorem then_report {c : CauseId} (hc : ∀ i, c ≠ causeBbu i) {a : Bool} (h : KeepsReserve s t) :
    KeepsReserve s (reportCondition c a t) :=
  h.then_causes (reportCondition_charge c a t) fun i => reportCondition_quiet (hc i) a t

theorem shedInvariant (s : State) : ShedInvariant (KeepsReserve s) where
  setBudget h := h.then_same rfl rfl rfl
  setRecharge h := h.then_same rfl rfl rfl
  setSeq h := h.then_same rfl rfl rfl
  setLine h := h.then_same rfl rfl rfl
  driveBbu h := ite_keeps (h.then_out _ _) h
  reportCondition hc h := h.then_report hc.ne_bbu
  raise hc h := h.then_raise hc.ne_bbu

theorem then_matchEntry (h : KeepsReserve s t) (e : TargetEntry) : KeepsReserve s (matchEntry e t) := by
  have acted : KeepsReserve s (targetAction e t) := (shedInvariant s).targetAction h
  have listed : KeepsReserve s (listMatch t.charge.p (targetAction e t)) := ite_keeps (acted.then_same rfl rfl rfl) acted
  exact (listed.then_raise (causeTarget_ne_bbu _)).then_place (Nat.le_succ_of_le h.advances)
    fun ha => ((Bool.and_eq_true _ _).mp ha).1

theorem then_compareFrom (h : KeepsReserve s t) (fuel : Nat) : KeepsReserve s (compareFrom fuel t) := by
  induction fuel generalizing t with
  | zero => exact h
  | succ fuel ih =>
    unfold compareFrom
    split
    · exact h
    · exact ite_keeps (ih (h.then_matchEntry _)) h

end KeepsReserve

/-- R50 to R52. -/
theorem compareTargets_keepsReserve (s : State) : KeepsReserve s (compareTargets s) :=
  ite_keeps ((KeepsReserve.refl s).then_compareFrom _) (.refl s)

/-! ### The reckoning -/

theorem recomputeBand_charge (s : State) :
    (recomputeBand s).charge = { s.charge with band := s.bandAt s.charge.tEst } := by
  refine foldl_keeps State.charge _ (fun u k => ?_) rangeIds _
  unfold judgeRange
  exact ite_keeps (P := fun v => v.charge = u.charge) (by simp) (by simp)

theorem recomputeBand_quiet (i : BbuId) (s : State) : Quiet (causeBbu i) s (recomputeBand s) := by
  simp only [recomputeBand]
  refine List.foldlRecOn (motive := Quiet (causeBbu i) s) rangeIds _ (.of_eq rfl rfl) fun u hu k _ => ?_
  have reported := hu.trans (reportCondition_quiet (causeRange_ne_bbu k i) (s.bandAt s.charge.tEst)[k] u)
  exact ite_keeps (reported.trans (raise_quiet (causeRange_ne_bbu k i) _ _ _)) reported

/-- R, T_est and the band set as they stand when the target table is compared (R47, R53). -/
def reckon (s : State) : State :=
  recomputeBand (s.setCharge { s.charge with r := s.reserveSum, tEst := projectedTime s.reserveSum s.sense.iAvg })

theorem recomputeReserve_eq (s : State) : recomputeReserve s = publishReserve (compareTargets (reckon s)) := rfl

theorem reckon_charge (s : State) :
    (reckon s).charge =
      { s.charge with
        r := s.reserveSum
        tEst := projectedTime s.reserveSum s.sense.iAvg
        band := s.bandAt (projectedTime s.reserveSum s.sense.iAvg) } := recomputeBand_charge _

theorem reckon_quiet (i : BbuId) (s : State) : Quiet (causeBbu i) s (reckon s) := by
  refine Quiet.trans ?_ (recomputeBand_quiet i _)
  exact .of_eq rfl rfl

theorem publishReserve_last (s : State) :
    let t := publishReserve s
    t.charge.pubs.getLast? =
      some ⟨t.charge.r, t.charge.tEst, t.charge.band, t.gatedBy t.charge.band, t.countedBbus, t.sense.seen⟩ :=
  List.getLast?_concat

section Reserve
variable (s : State)

theorem recomputeReserve_charge :
    (recomputeReserve s).charge =
      { s.charge with
        bbus := (recomputeReserve s).charge.bbus
        r := s.reserveSum
        tEst := projectedTime s.reserveSum s.sense.iAvg
        band := s.bandAt (projectedTime s.reserveSum s.sense.iAvg)
        p := (recomputeReserve s).charge.p
        armed := (recomputeReserve s).charge.armed
        pubs := (recomputeReserve s).charge.pubs } := by
  have kept := (compareTargets_keepsReserve (reckon s)).charge
  rw [reckon_charge] at kept
  exact congrArg (fun x : Charge => { x with pubs := (recomputeReserve s).charge.pubs }) kept

theorem recomputeReserve_test : (recomputeReserve s).charge.test = s.charge.test :=
  (congrArg Charge.test (recomputeReserve_charge s) :)

theorem recomputeReserve_bbu (i : BbuId) :
    (recomputeReserve s).charge.bbus[i] =
      { s.charge.bbus[i] with out := (recomputeReserve s).charge.bbus[i].out } := by
  have kept := (compareTargets_keepsReserve (reckon s)).bbus i
  rw [reckon_charge] at kept
  exact kept

theorem recomputeReserve_bbu_state (i : BbuId) :
    (recomputeReserve s).charge.bbus[i].state = s.charge.bbus[i].state := (congrArg Bbu.state (recomputeReserve_bbu s i) :)

theorem recomputeReserve_bbu_q (i : BbuId) : (recomputeReserve s).charge.bbus[i].q = s.charge.bbus[i].q :=
  (congrArg Bbu.q (recomputeReserve_bbu s i) :)

theorem recomputeReserve_place_le : s.charge.p ≤ (recomputeReserve s).charge.p := by
  have kept := (compareTargets_keepsReserve (reckon s)).advances
  rw [reckon_charge] at kept
  exact kept

theorem recomputeReserve_armed (h : (recomputeReserve s).charge.armed = true) : s.charge.armed = true := by
  have kept := (compareTargets_keepsReserve (reckon s)).armed h
  rw [reckon_charge] at kept
  exact kept

theorem recomputeReserve_unarmed (h : s.charge.armed = false) : (recomputeReserve s).charge.p = s.charge.p := by
  have unarmed : (reckon s).charge.armed = false := by rw [reckon_charge]; exact h
  have uncompared : compareTargets (reckon s) = reckon s := by simp [compareTargets, unarmed]
  rw [recomputeReserve_eq, uncompared]
  show (reckon s).charge.p = _
  rw [reckon_charge]

theorem recomputeReserve_quiet (i : BbuId) : Quiet (causeBbu i) s (recomputeReserve s) :=
  ((reckon_quiet i s).trans ((compareTargets_keepsReserve (reckon s)).quiet i)).trans (.of_eq rfl rfl)

/-- R47, R53: the pair handed on is the one that the comparison has left standing. -/
theorem recomputeReserve_reserveReckoned : (recomputeReserve s).reserveReckoned := by
  have hsettings := base_settings (recomputeReserve_base s)
  have hsense := base_sense (recomputeReserve_base s)
  have hr := congrArg Charge.r (recomputeReserve_charge s)
  have htime := congrArg Charge.tEst (recomputeReserve_charge s)
  have hband := congrArg Charge.band (recomputeReserve_charge s)
  refine ⟨?_, ?_, fun k => ?_, ?_⟩
  · rw [hr, hsettings]
    refine congrArg List.sum (List.map_congr_left fun i _ => ?_)
    rw [recomputeReserve_bbu_state, recomputeReserve_bbu_q, usable]
  · rw [htime, hr, hsense]; rfl
  · rw [hband, htime, hsettings]; simp [State.bandAt]
  · rw [recomputeReserve_eq]; exact publishReserve_last _

end Reserve

end Sys2Proof.Machine
end

section
/-! PROOFS. O42: SET_CHARGE (R46). -/

namespace Sys2Proof.Machine

/-! ### A request taken at once (R168) -/

theorem State.atOnce_canExecute {s : State} (h : s.atOnce = true) : s.canExecute = true :=
  ((Bool.and_eq_true _ _).mp h).1

theorem State.atOnce_running {s : State} (h : s.atOnce = true) : s.phase = .running := by
  have := State.atOnce_canExecute h
  simp only [State.canExecute, Bool.and_eq_true, beq_iff_eq] at this
  exact this.1.1

theorem request_atOnce {s : State} (h : s.atOnce = true) {c : Instr} {f : Frame} (hf : encodeRequest c = some f)
    (run : State → Judged) : request c run s = answer f.tag f.kind (run s) s := by
  have hnow : (s.canExecute && s.link.queue.isEmpty) = true := h
  simp only [request, hf, State.atOnce_running h, hnow, if_true]

/-! ### The charge as set (R46) -/

/-- The record of a BBU that takes a charge of `value`. -/
def Bbu.charged (b : Bbu) (qFull value : Nat) : Bbu :=
  { b with
    q := min value qFull, r := 0, calibrated := true, bottomed := false, full := min value qFull == qFull }

/-- The new record stands and its condition is reported; what is left is the reckoning. -/
def putCharge (i : BbuId) (value : Nat) (s : State) : State :=
  reportBbu i (s.setBbu i (s.charge.bbus[i].charged s.settings.bbus[i].qFull value))

section Charged
variable (i : BbuId) (value : Nat) (s : State)

theorem setCharge_eq : setCharge i value s = recomputeReserve (putCharge i value s) := by
  have hclamp : clampNat 0 s.settings.bbus[i].qFull value = min value s.settings.bbus[i].qFull := Nat.zero_max _
  simp only [setCharge, putCharge, Bbu.withCharge, Bbu.charged, hclamp]

theorem putCharge_charge :
    (putCharge i value s).charge =
      { s.charge with
        bbus := s.charge.bbus.set i (s.charge.bbus[i].charged s.settings.bbus[i].qFull value) } :=
  reportBbu_charge i _

theorem putCharge_bbu :
    (putCharge i value s).charge.bbus[i] = s.charge.bbus[i].charged s.settings.bbus[i].qFull value := by
  rw [putCharge_charge]; exact get_set_same _ _ _

/-- R42: with the bottomed flag clear the condition is the state's alone. -/
theorem putCharge_condition :
    (putCharge i value s).causes.recs[causeBbu i].condition =
      (s.charge.bbus[i].state == .fault || s.charge.bbus[i].state == .depleted) := by
  refine (reportCondition_condition _ _ _).trans ?_
  rw [State.setBbu_charge, get_set_same]
  exact Bool.or_false _

/-- R46, R47: the record as set, with the outputs that the comparison may have changed. -/
theorem setCharge_bbu :
    (setCharge i value s).charge.bbus[i] =
      { s.charge.bbus[i].charged s.settings.bbus[i].qFull value with
        out := (setCharge i value s).charge.bbus[i].out } := by
  rw [setCharge_eq, recomputeReserve_bbu]
  simp only [putCharge_bbu]

theorem setCharge_q : (setCharge i value s).charge.bbus[i].q = min value s.settings.bbus[i].qFull :=
  congrArg Bbu.q (setCharge_bbu i value s)

theorem setCharge_condition :
    (setCharge i value s).causes.recs[causeBbu i].condition =
      (s.charge.bbus[i].state == .fault || s.charge.bbus[i].state == .depleted) := by
  rw [setCharge_eq]
  exact (recomputeReserve_quiet _ i).condition.trans (putCharge_condition i value s)

theorem setCharge_test : (setCharge i value s).charge.test = s.charge.test := by
  rw [setCharge_eq, recomputeReserve_test, putCharge_charge]

theorem setCharge_place_of_unarmed (h : s.charge.armed = false) : (setCharge i value s).charge.p = s.charge.p := by
  have place := congrArg Charge.p (putCharge_charge i value s)
  rw [setCharge_eq, recomputeReserve_unarmed _ ((congrArg Charge.armed (putCharge_charge i value s)).trans h), place]

theorem setCharge_place_le : s.charge.p ≤ (setCharge i value s).charge.p := by
  rw [setCharge_eq]
  exact (congrArg Charge.p (putCharge_charge i value s)).symm.le.trans (recomputeReserve_place_le _)

theorem setCharge_armed (h : (setCharge i value s).charge.armed = true) : s.charge.armed = true := by
  rw [setCharge_eq] at h
  exact (congrArg Charge.armed (putCharge_charge i value s)).symm.trans (recomputeReserve_armed _ h)

end Charged

/-- R168, R169: an ABSENT BBU refuses, any other takes the charge and reports it. -/
theorem exec_setCharge_atOnce {s : State} (h : s.atOnce = true) {b : Byte} {i : BbuId} (hi : takeId 4 b = some i) (tag : Byte)
    (v : BitVec 32) :
    exec (.setCharge tag b v) s = .next (answer tag 0x59
      (demand (s.charge.bbus[i].state != .absent) .wrongState
        (.ok (setCharge i v.toNat s, .charge (setCharge i v.toNat s).charge.bbus[i].q))) s) := by
  show execSetCharge tag b v s = _
  rw [execSetCharge, request_atOnce h rfl]
  simp only [runSetCharge, hi, withId]
  rfl

end Sys2Proof.Machine

open Sys2Proof Sys2Proof.Machine

/-- Settles O42: the record is written and its condition reported (`putCharge`), and the reckoning that follows moves outputs
and the place of the target table alone. -/
theorem setChargeTakesTheValue : Obligations.SetChargeTakesTheValue := by
  unfold Obligations.SetChargeTakesTheValue
  intro s tag b i v hnow hi old qFull
  have hexec := exec_setCharge_atOnce hnow hi tag v
  have hreckoned : (setCharge i v.toNat s).reserveReckoned := by
    rw [setCharge_eq]; exact recomputeReserve_reserveReckoned _
  constructor
  · intro habsent
    have hstate : s.charge.bbus[i].state = .absent := habsent
    rw [Refuses, hexec, hstate]
    rfl
  · intro hpresent
    refine ⟨.charge (setCharge i v.toNat s).charge.bbus[i].q, setCharge i v.toNat s, ?_, rfl, setCharge_q i v.toNat s, ?_,
      hreckoned, setCharge_condition i v.toNat s, setCharge_test i v.toNat s, setCharge_place_of_unarmed i v.toNat s,
      setCharge_place_le i v.toNat s, setCharge_armed i v.toNat s⟩
    · rw [hexec, demand, if_pos (bne_iff_ne.2 hpresent)]
      rfl
    · show (setCharge i v.toNat s).charge.bbus[i] = _
      rw [setCharge_q]
      exact setCharge_bbu i v.toNat s
end

section
/-! PROOFS. ALERT (R162): the level as a statement over the causes, and that it depends on the settings and the conditions
alone. -/

namespace Sys2Proof.Machine

/-- R162: the lists `alertLevel` zips are the masks and the records, cause by cause. -/
theorem alertLevel_iff (s : State) :
    s.alertLevel = true ↔
      s.settings.globalAlert = true ∧
        ∃ d : CauseId, s.settings.masks[d].alertEnable = true ∧ s.causes.recs[d].condition = true := by
  simp only [State.alertLevel, Bool.and_eq_true, List.any_eq_true, id_eq, List.mem_iff_getElem, List.length_zipWith,
    Vector.length_toList, List.getElem_zipWith, Vector.getElem_toList]
  refine and_congr_right fun _ => ⟨?_, ?_⟩
  · rintro ⟨_, ⟨d, hd, hlevel⟩, rfl⟩
    exact ⟨⟨d, by omega⟩, Bool.and_eq_true_iff.1 hlevel⟩
  · rintro ⟨d, henabled, hactive⟩
    exact ⟨true, ⟨d.val, by omega, Bool.and_eq_true_iff.2 ⟨henabled, hactive⟩⟩, rfl⟩

theorem alertLevel_congr {s t : State} (hset : t.settings = s.settings)
    (hcond : ∀ d : CauseId, t.causes.recs[d].condition = s.causes.recs[d].condition) : t.alertLevel = s.alertLevel :=
  Bool.eq_iff_iff.2 (by simp only [alertLevel_iff, hset, hcond])

end Sys2Proof.Machine
end

section
/-! PROOFS. O26: a raise and a condition report. A raise is the new record (`recordRaise`), the outbox and then the transmitter;
on a transmitter that was served before (R161) the last step begins the notice of the raised cause or does nothing. -/

namespace Sys2Proof.Machine

/-- R161 has been followed up to `s`: a free transmitter is one that has nothing it may send. -/
def State.served (s : State) : Prop :=
  s.link.tx = none → s.link.replies = [] ∧ (s.causes.hold = true ∨ s.causes.outbox = [])

theorem serveTransmitter_of_served {s : State} (h : s.served) : serveTransmitter s = s := by
  rcases serveTransmitter_cases s with
    ⟨hs, -⟩ | ⟨r, rs, hfree, hreplies, -⟩ | ⟨c, cs, hfree, -, hhold, hout, -⟩ | ⟨hs, -⟩
  · exact hs
  · simp [(h hfree).1] at hreplies
  · simpa [hhold, hout] using (h hfree).2
  · exact hs

/-- The outbox after a cause was to join it (R157). -/
def State.joined (c : CauseId) (s : State) : List CauseId :=
  if s.settings.masks[c].mask = true ∨ c ∈ s.causes.outbox then s.causes.outbox else s.causes.outbox ++ [c]

theorem joined_of_masked {c : CauseId} {s : State} (h : s.settings.masks[c].mask = true) :
    s.joined c = s.causes.outbox := if_pos (.inl h)

theorem joined_of_unmasked {c : CauseId} {s : State} (h : s.settings.masks[c].mask = false) (hout : c ∉ s.causes.outbox) :
    s.joined c = s.causes.outbox ++ [c] := if_neg (by rw [h]; simp [hout])

theorem joinOutbox_eq (c : CauseId) (s : State) :
    joinOutbox c s = s.setCauses { s.causes with outbox := s.joined c } := by
  rcases joinOutbox_cases c s with ⟨h, hstays⟩ | ⟨hmask, hout, h⟩
  · rw [h, State.joined, if_pos hstays]; rfl
  · rw [h, joined_of_unmasked hmask hout]

/-- The first part of a raise (R157): the new record, and ALERT where the raise moves the condition. -/
def recordRaise (c : CauseId) (value : Int) (code : Byte) (s : State) : State :=
  let t := s.setCause c (raised s.causes.recs[c] (eventSource c) value code)
  if eventSource c then judgeAlert t else t

section Raise

variable (c : CauseId) (value : Int) (code : Byte) (s : State)

theorem raise_eq : raise c value code s = serveTransmitter (joinOutbox c (recordRaise c value code s)) := rfl

/-- What a raise's first part changes, with the level of ALERT. -/
theorem recordRaise_eq :
    recordRaise c value code s =
      s.setCauses
        { s.causes with
          recs := s.causes.recs.set c (raised s.causes.recs[c] (eventSource c) value code)
          alert := if eventSource c then (recordRaise c value code s).alertLevel else s.causes.alert } := by
  unfold recordRaise
  split <;> rfl

@[simp] theorem recordRaise_link : (recordRaise c value code s).link = s.link := by rw [recordRaise_eq]; rfl
@[simp] theorem recordRaise_settings : (recordRaise c value code s).settings = s.settings := by rw [recordRaise_eq]; rfl
@[simp] theorem recordRaise_outbox : (recordRaise c value code s).causes.outbox = s.causes.outbox := by
  rw [recordRaise_eq]; rfl
@[simp] theorem recordRaise_hold : (recordRaise c value code s).causes.hold = s.causes.hold := by
  rw [recordRaise_eq]; rfl
@[simp] theorem recordRaise_recs :
    (recordRaise c value code s).causes.recs =
      s.causes.recs.set c (raised s.causes.recs[c] (eventSource c) value code) := by
  rw [recordRaise_eq]; rfl

theorem recordRaise_record :
    (recordRaise c value code s).causes.recs[c] = raised s.causes.recs[c] (eventSource c) value code := by
  rw [recordRaise_recs]; exact get_set_same _ _ _

theorem recordRaise_alert :
    (recordRaise c value code s).causes.alert =
      if eventSource c then (recordRaise c value code s).alertLevel else s.causes.alert :=
  congrArg (·.causes.alert) (recordRaise_eq c value code s)

/-- R161: the raise finds the transmitter free to begin a notice, and its cause is one to be told. -/
def Begins : Prop := s.link.tx = none ∧ s.causes.hold = false ∧ s.settings.masks[c].mask = false

variable {c s}

/-- The outbox was empty, so the raised cause is its head and its notice is the one that begins. -/
theorem raise_of_begins (hserved : s.served) (h : Begins c s) :
    raise c value code s =
      ((recordRaise c value code s).setCauses { (recordRaise c value code s).causes with outbox := [c] }).beginNotice c
        [] := by
  obtain ⟨hfree, hhold, hmask⟩ := h
  obtain ⟨hreplies, hidle⟩ := hserved hfree
  have hout : s.causes.outbox = [] := hidle.resolve_left (by simp [hhold])
  rw [raise_eq, joinOutbox_eq, joined_of_unmasked (by simpa using hmask) (by simp [hout])]
  simp [serveTransmitter, hfree, hreplies, hhold, hout]

/-- Else the transmitter has nothing new to send, and the raise ends in the outbox. -/
theorem raise_of_not_begins (hserved : s.served) (h : ¬ Begins c s) :
    raise c value code s =
      (recordRaise c value code s).setCauses { (recordRaise c value code s).causes with outbox := s.joined c } := by
  have hjoined : (recordRaise c value code s).joined c = s.joined c := by
    simp only [State.joined, recordRaise_settings, recordRaise_outbox]
  rw [raise_eq, joinOutbox_eq, hjoined]
  refine serveTransmitter_of_served fun hfree => ?_
  obtain ⟨hreplies, hidle⟩ := hserved (by simpa using hfree)
  refine ⟨by simpa using hreplies, ?_⟩
  by_cases hmask : s.settings.masks[c].mask = true
  · rw [joined_of_masked hmask]
    simpa using hidle
  · left
    by_contra hhold
    exact h ⟨by simpa using hfree, by simpa using hhold, by simpa using hmask⟩

theorem raise_cases (hserved : s.served) :
    (Begins c s ∧
      raise c value code s =
        ((recordRaise c value code s).setCauses { (recordRaise c value code s).causes with outbox := [c] }).beginNotice c
          []) ∨
    (¬ Begins c s ∧
      raise c value code s =
        (recordRaise c value code s).setCauses { (recordRaise c value code s).causes with outbox := s.joined c }) :=
  (em (Begins c s)).imp (fun h => ⟨h, raise_of_begins value code hserved h⟩)
    fun h => ⟨h, raise_of_not_begins value code hserved h⟩

/-! ### What a raise moves -/

theorem raise_settings : (raise c value code s).settings = s.settings := base_settings (raise_base c value code s)

/-- Of the link a raise moves the sending alone, and of the other blocks nothing. -/
theorem raise_frame (hserved : s.served) :
    raise c value code s =
      { s with causes := (raise c value code s).causes, link := { s.link with tx := (raise c value code s).link.tx } } := by
  rcases raise_cases value code hserved with ⟨-, h⟩ | ⟨-, h⟩ <;> rw [h, recordRaise_eq] <;> rfl

theorem raise_hold (hserved : s.served) : (raise c value code s).causes.hold = s.causes.hold := by
  rcases raise_cases value code hserved with ⟨-, h⟩ | ⟨-, h⟩ <;> rw [h] <;> exact recordRaise_hold c value code s

theorem raise_other_record (hserved : s.served) {d : CauseId} (hd : d ≠ c) :
    (raise c value code s).causes.recs[d] = s.causes.recs[d] := by
  have hrecorded : (recordRaise c value code s).causes.recs[d] = s.causes.recs[d] := by
    rw [recordRaise_recs]; exact get_set_other _ _ hd.symm
  rcases raise_cases value code hserved with ⟨-, h⟩ | ⟨-, h⟩ <;> rw [h]
  · exact (get_set_other _ _ hd.symm).trans hrecorded
  · exact hrecorded

/-- R162: what follows the new record moves no condition, so the level judged with the record still stands. -/
theorem raise_alertLevel : (raise c value code s).alertLevel = (recordRaise c value code s).alertLevel :=
  alertLevel_congr (by rw [raise_settings, recordRaise_settings]) fun d => by
    rw [(raise_after_record d c value code s).condition, recordRaise_recs]; rfl

theorem raise_alert (hserved : s.served) :
    (raise c value code s).causes.alert =
      if eventSource c then (raise c value code s).alertLevel else s.causes.alert := by
  rw [raise_alertLevel, ← recordRaise_alert]
  rcases raise_cases value code hserved with ⟨-, h⟩ | ⟨-, h⟩ <;> rw [h] <;> rfl

/-- R161: the notice copies the record of the raise, of which the snapshot and the condition stay. -/
theorem raise_begun (hserved : s.served) (h : Begins c s) :
    let new := raised s.causes.recs[c] (eventSource c) value code
    (raise c value code s).causes.recs[c] = { new with pending := false, count := 0 } ∧
      (raise c value code s).causes.outbox = [] ∧
      (raise c value code s).link.tx = some (.notice ⟨c, new.count, new.condition, new.code, new.value⟩) := by
  rw [raise_of_begins value code hserved h, ← recordRaise_record]
  exact ⟨get_set_same _ _ _, rfl, rfl⟩

/-- R157: the record waits as the raise made it. -/
theorem raise_waiting (hserved : s.served) (h : ¬ Begins c s) :
    (raise c value code s).causes.recs[c] = raised s.causes.recs[c] (eventSource c) value code ∧
      (raise c value code s).link.tx = s.link.tx ∧ (raise c value code s).causes.outbox = s.joined c := by
  rw [raise_of_not_begins value code hserved h]
  exact ⟨recordRaise_record c value code s, by simp, rfl⟩

end Raise

/-! ### What a report moves -/

section Report

variable (c : CauseId) (active : Bool) (s : State)

theorem reportCondition_frame :
    reportCondition c active s =
      { s with
        causes :=
          { s.causes with
            recs := (reportCondition c active s).causes.recs, alert := (reportCondition c active s).causes.alert } } := by
  rcases reportCondition_cases c active s with ⟨-, h⟩ | ⟨-, h⟩ <;> rw [h]
  rfl

/-- R156; a report of the condition that stands writes the record as it is. -/
theorem reportCondition_recs :
    (reportCondition c active s).causes.recs = s.causes.recs.set c { s.causes.recs[c] with condition := active } := by
  rcases reportCondition_cases c active s with ⟨rfl, h⟩ | ⟨-, h⟩ <;> rw [h]
  · exact (Vector.set_getElem_self _).symm
  · rfl

theorem reportCondition_alert_of_same (h : s.causes.recs[c].condition = active) :
    (reportCondition c active s).causes.alert = s.causes.alert := by
  rw [reportCondition, if_pos h]

/-- R162: judging ALERT moves nothing that the level depends on. -/
theorem reportCondition_alert_of_changed (h : s.causes.recs[c].condition ≠ active) :
    (reportCondition c active s).causes.alert = (reportCondition c active s).alertLevel := by
  rw [reportCondition, if_neg h]; rfl

end Report

end Sys2Proof.Machine

open Sys2Proof Sys2Proof.Machine

/-- Settles O26: the premise is `State.served`, so a raise ends in the notice of its own cause or in the outbox; a report that
changes the condition judges ALERT from the record it has just written. -/
theorem raisesAndReportsKeepTheRecords : Obligations.RaisesAndReportsKeepTheRecords := by
  unfold Obligations.RaisesAndReportsKeepTheRecords
  constructor
  · intro c value code s hserved t old new begins
    have halert := raise_alert (c := c) value code hserved
    exact ⟨raise_frame value code hserved, raise_hold value code hserved,
      fun d hd => raise_other_record value code hserved hd,
      fun hevent => by rw [halert, if_pos hevent],
      fun hlevel => by rw [halert, if_neg (by simp [hlevel])],
      raise_begun value code hserved, raise_waiting value code hserved⟩
  · intro c active s t
    refine ⟨reportCondition_frame c active s, reportCondition_recs c active s,
      reportCondition_alert_of_same c active s, fun hchanged => ?_⟩
    rw [reportCondition_alert_of_changed c active s hchanged, alertLevel_iff,
      base_settings (reportCondition_base c active s)]
end

section
/-! PROOFS. O1 to O5: what a step runs, that every command completes and what it leaves alone outside the blocks, and the reset
state. -/

namespace Sys2Proof.Machine

/-- Each row of a request is judged and executed as the request it spells (log 15). -/
theorem exec_of_request {c : Instr} (h : (encodeRequest c).isSome = true) (s : State) :
    exec c s = .next (request c (perform c) s) := by
  cases c
  case powerOn | pinResetAssert | pinResetRelease | profileLoadComplete | sampleSet | psuInputChange | headroomPublication
    | deficitTimerExpiry | deficitSelection | deficitAnswer | bbuPresentChange | bbuFaultInputChange | reservePublication
    | testTimerExpiry | settleTimerExpiry | bridgingTimerExpiry | collapseTimerExpiry | stepTimerExpiry | floorTimerExpiry
    | headReport | staggerTimerExpiry | soakTimerExpiry | pgChange | noticeWindowExpiry | holdLimitExpiry | drainTimerExpiry
    | cycleStart | surveyTimerExpiry | cycleEnd | frameReceived | rxGapTimeout | txFrameEnd | storeWriteComplete
    | slotFrame23End | frameAbandoned => cases h
  all_goals rfl

theorem pins_of_outer {t : State} {o : Outer} (h : t.outer = o) : t.pins = o.pins := congrArg Outer.pins h
theorem clock_of_outer {t : State} {o : Outer} (h : t.outer = o) : t.clock = o.clock := congrArg Outer.clock h
theorem pending_of_outer {t : State} {o : Outer} (h : t.outer = o) : t.pending = o.pending := congrArg Outer.pending h

/-! ### Requests leave the outer state alone -/

/-- R169: whatever a decoded request is, accepting it leaves the outer state as it was. -/
theorem perform_keepsOuter (i : Instr) (s : State) : Judged.keepsOuter (perform i s) s := by
  have hset {new : Settings} {effect : State → State} {ack : State → Ack} (h : ∀ u, (effect u).outer = u.outer) :
      Judged.keepsOuter (takeSettings new effect ack s) s := keepsOuter_takeSettings h
  cases i
  case getStatus | getReserve | getRanges | getQueue | getTransferRecord | getTest | getProfileInfo | holdAll | releaseAll =>
    exact keepsOuter_ok rfl
  case getSense | getPsu | getBbu | getTargets | getSlots | getZones | getCauses =>
    simp only [perform, runGetSense, runGetPsu, runGetBbu, runGetTargets, runGetSlots, runGetZones, runGetCauses]
    exact keepsOuter_bulk _ _ _ _ _ _
  case setLimit => exact keepsOuter_withId fun p => hset (limitTaken_outer p)
  case setBudget =>
    unfold perform runSetBudget
    exact hset (effect := fun t => recompute (recomputeCapacity t)) fun u => by simp
  case setChargeParams => exact keepsOuter_withId fun i => hset (chargeTaken_outer i)
  case setTargets => exact keepsOuter_demand (hset fun u => setCharge_outer u _)
  case setRanges =>
    unfold perform runSetRanges
    exact hset (effect := fun t => publishReserve (recomputeBand t)) fun u => by simp
  case setHoldup =>
    unfold perform runSetHoldup
    exact hset fun u => rfl
  case setRecharge =>
    unfold perform runSetRecharge
    exact hset rechargeTaken_outer
  case setSlot =>
    refine keepsOuter_withId fun n => keepsOuter_withId fun zone => keepsOuter_demand (keepsOuter_demand (hset fun u => ?_))
    simp only [slotTaken]
    repeat' split
    all_goals simp
  case setSequence =>
    unfold perform runSetSequence
    exact hset seqEvent_outer
  case setZone => exact keepsOuter_withId fun z => keepsOuter_demand (keepsOuter_demand (hset (zoneTaken_outer z _)))
  case setLine =>
    unfold perform runSetLine
    exact hset lineWatch_outer
  case setMasks =>
    refine keepsOuter_demand (keepsOuter_withId fun es => keepsOuter_demand (keepsOuter_ok ?_))
    rw [judgeAlert_outer, foldl_keeps State.outer _ (fun u e => takeMaskEntry_outer e u), adopt_outer]
  case armTargets => exact keepsOuter_demand (keepsOuter_ok (armTable_outer s))
  case powerUp tag slots =>
    refine keepsOuter_demand (keepsOuter_withId fun ns => keepsOuter_ok ?_)
    generalize s = u
    induction ns generalizing u with
    | nil => rfl
    | cons n ns ih =>
      refine (ih _).trans ?_
      simp only [powerUpSlot]
      repeat' split
      all_goals simp
  case powerDown tag urgency slots =>
    refine keepsOuter_demand (keepsOuter_withId fun ns => keepsOuter_ok ?_)
    generalize s = u
    induction ns generalizing u with
    | nil => rfl
    | cons n ns ih =>
      refine (ih _).trans ?_
      simp only [powerDownSlot]
      split <;> simp
  case releaseSlot =>
    refine keepsOuter_withId fun n => keepsOuter_demand (keepsOuter_ok ?_)
    simp only [releaseSlot]
    repeat' split
    all_goals simp
  case clearZone =>
    refine keepsOuter_withId fun z => keepsOuter_demand (keepsOuter_ok ?_)
    have hzone : (clearZone z s).outer = s.outer := by
      simp only [clearZone]
      split <;> simp
    have hslot (n : SlotId) (u : State) : (requeueSlot n u).outer = u.outer := by
      simp only [requeueSlot]
      split <;> simp
    have hfold (l : List SlotId) : (l.foldl (fun u n => requeueSlot n u) (clearZone z s)).outer = s.outer := by
      rw [foldl_keeps State.outer _ (fun u n => hslot n u), hzone]
    repeat' split
    all_goals simp only [seqEvent_outer, hfold]
  case clearLatch =>
    refine keepsOuter_withId fun p => keepsOuter_ok ?_
    simp only [clearLatch]
    split <;> simp
  case clearCause =>
    refine keepsOuter_demand (keepsOuter_withId fun cs => keepsOuter_ok ?_)
    refine foldl_keeps State.outer _ (fun u c => ?_) _ _
    simp only [clearCause]
    split <;> simp
  case setCharge =>
    exact keepsOuter_withId fun i => keepsOuter_demand (keepsOuter_ok (by simp [setCharge]))
  case startTest => exact keepsOuter_withId fun i => keepsOuter_demand (keepsOuter_ok (by simp [startTest]))
  case abortTest => exact keepsOuter_demand (keepsOuter_ok (by simp))
  case clearTransferRecord => exact keepsOuter_demand (keepsOuter_ok (by simp))
  case storeProfile => exact keepsOuter_demand (keepsOuter_ok (by simp))
  case lockProfile => exact keepsOuter_withId fun k => keepsOuter_ok (by simp)
  all_goals exact keepsOuter_error s _

theorem answer_outer {tag kind : Byte} {judged : Judged} {s : State} (h : judged.keepsOuter s) :
    (answer tag kind judged s).outer = s.outer := by
  rcases answer_cases tag kind judged s with ⟨t, ack, hj, e⟩ | ⟨code, -, e⟩ <;> rw [e, pushReply_outer]
  exact h t ack hj

theorem request_outer (c : Instr) (s : State) : (request c (perform c) s).outer = s.outer := by
  unfold request
  repeat' split
  · rfl
  · rfl
  · exact answer_outer (perform_keepsOuter c s)
  · exact offerFrame_outer _ s

@[simp] theorem executeHead_outer (s : State) : (executeHead s).outer = s.outer := by
  rcases executeHead_cases s with ⟨e, -⟩ | ⟨f, fs, -, -, e⟩ <;> rw [e]
  rw [answer_outer, setLink_outer]
  unfold judgeFrame
  split
  · exact keepsOuter_error _ _
  · exact keepsOuter_error _ _
  · exact perform_keepsOuter _ _

theorem receiveByte_outer (b : Byte) (s : State) : (receiveByte b s).outer = s.outer := by
  simp only [receiveByte]
  split <;> simp [acceptFrame]

/-! ### Events leave the outer state alone -/

theorem whenRunning_outer {f : State → State} {s : State} (h : (f s).outer = s.outer) :
    (whenRunning f s).outer = s.outer := by
  unfold whenRunning
  split
  · exact h
  · rfl
  · rfl

theorem whenOut_outer {f : State → State} {s : State} (h : (f s).outer = s.outer) : (whenOut f s).outer = s.outer := by
  unfold whenOut
  split
  · rfl
  · exact h
  · exact h

theorem onExpiry_outer {t : Timer} {f : State → State} {s : State} (h : (f s).outer = s.outer) :
    (onExpiry t f s).outer = s.outer := by
  unfold onExpiry
  split
  · rfl
  · exact h

/-- The commands that start the part, stop it, sample it or move a pin. -/
def isOuterCommand : Instr → Bool
  | .powerOn _ | .pinResetAssert | .pinResetRelease _ | .profileLoadComplete | .sampleSet _ | .psuInputChange _ _ _
  | .bbuPresentChange _ _ | .bbuFaultInputChange _ _ | .pgChange _ _ => true
  | _ => false

theorem headroomPublication_outer (s : State) : (headroomPublication s).outer = s.outer := by
  unfold headroomPublication
  rw [foldl_keeps State.outer _ (fun u p => by simp [deliverHeadroom]), setBudget_outer]

theorem expireDeficit_outer (s : State) : (expireDeficit s).outer = s.outer := by
  unfold expireDeficit
  split <;> simp

theorem selectDeficit_outer (s : State) : (selectDeficit s).outer = s.outer := by
  simp only [selectDeficit]
  split
  · rfl
  · rw [setBudget_outer, foldl_keeps State.outer _ (fun u n => shedSlot_outer n _ _ u), setBudget_outer]

theorem takeAnswer_outer (s : State) : (takeAnswer s).outer = s.outer := by
  have hjudge (p : Int) (u : State) : (judgeAnswer p u).outer = u.outer := by
    unfold judgeAnswer
    repeat' split
    all_goals simp
  rcases takeAnswer_cases s with ⟨e, -⟩ | ⟨a, rest, -, ⟨e, -⟩ | ⟨-, -, e⟩⟩ <;> rw [e] <;> simp [hjudge]

/-- Every command but the outer ones, in the form of what it does to the state. -/
theorem exec_of_inner (c : Instr) (s : State) (h : isOuterCommand c = false) : ∃ t, exec c s = .next t ∧ t.outer = s.outer := by
  cases c
  case powerOn | pinResetAssert | pinResetRelease | profileLoadComplete | sampleSet | psuInputChange | bbuPresentChange
    | bbuFaultInputChange | pgChange => cases h
  case headroomPublication => exact ⟨_, rfl, whenRunning_outer (headroomPublication_outer s)⟩
  case deficitTimerExpiry => exact ⟨_, rfl, whenRunning_outer (onExpiry_outer (expireDeficit_outer s))⟩
  case deficitSelection => exact ⟨_, rfl, whenRunning_outer (selectDeficit_outer s)⟩
  case deficitAnswer => exact ⟨_, rfl, whenRunning_outer (takeAnswer_outer s)⟩
  case reservePublication => exact ⟨_, rfl, whenRunning_outer (reservePublication_outer s)⟩
  case testTimerExpiry =>
    exact ⟨_, rfl, whenRunning_outer (onExpiry_outer (by unfold expireTest; split <;> simp))⟩
  case settleTimerExpiry =>
    exact ⟨_, rfl, whenRunning_outer (onExpiry_outer (by unfold expireSettle; split <;> simp))⟩
  case bridgingTimerExpiry => exact ⟨_, rfl, whenRunning_outer (onExpiry_outer (by simp [expireBridging]))⟩
  case collapseTimerExpiry =>
    exact ⟨_, rfl, whenRunning_outer (onExpiry_outer (by unfold expireCollapse; split <;> simp))⟩
  case stepTimerExpiry =>
    refine ⟨_, rfl, whenRunning_outer (onExpiry_outer ?_)⟩
    unfold expireStep
    split
    · exact outer_of_base (stepRegulator_base s)
    · rfl
  case floorTimerExpiry =>
    exact ⟨_, rfl, whenRunning_outer (onExpiry_outer (by unfold expireFloor; split <;> simp))⟩
  case headReport => exact ⟨_, rfl, whenRunning_outer (headReport_outer s)⟩
  case staggerTimerExpiry => exact ⟨_, rfl, whenRunning_outer (onExpiry_outer (by simp [expireStagger]))⟩
  case soakTimerExpiry =>
    exact ⟨_, rfl, whenRunning_outer (onExpiry_outer (by unfold expireSoak; repeat' split
                                                         all_goals simp))⟩
  case noticeWindowExpiry =>
    exact ⟨_, rfl, whenRunning_outer (onExpiry_outer (by unfold expireWindow; split <;> simp))⟩
  case holdLimitExpiry =>
    exact ⟨_, rfl, whenRunning_outer (onExpiry_outer (by unfold expireHold; split <;> simp))⟩
  case drainTimerExpiry =>
    exact ⟨_, rfl, whenRunning_outer (onExpiry_outer (by unfold expireDrain; split <;> simp))⟩
  case cycleStart =>
    exact ⟨_, rfl, whenRunning_outer (by unfold startCycle; split <;> simp)⟩
  case surveyTimerExpiry => exact ⟨_, rfl, whenRunning_outer (onExpiry_outer (setLine_outer s _))⟩
  case cycleEnd => exact ⟨_, rfl, whenRunning_outer (by unfold cycleEnd; split <;> simp)⟩
  case frameReceived bytes =>
    exact ⟨_, rfl, whenOut_outer (foldl_keeps State.outer _ (fun u b => receiveByte_outer b u) _ _)⟩
  case rxGapTimeout => exact ⟨_, rfl, whenOut_outer (setLink_outer s _)⟩
  case frameAbandoned => exact ⟨_, rfl, whenOut_outer (setLink_outer s _)⟩
  case txFrameEnd => exact ⟨_, rfl, whenOut_outer (by unfold endFrame; split <;> simp)⟩
  case storeWriteComplete verified =>
    refine ⟨_, rfl, ?_⟩
    split
    · rfl
    · unfold completeWrite
      split <;> simp
  case slotFrame23End =>
    exact ⟨_, rfl, whenRunning_outer (by unfold endFrame23; split <;> simp)⟩
  all_goals exact ⟨_, exec_of_request rfl s, request_outer _ s⟩

/-! ### The outer commands -/

theorem abandonWrite_outer (s : State) : (abandonWrite s).outer = s.outer := by
  unfold abandonWrite
  split <;> rfl

theorem psuChange_outer (k : PsuId) (pin : PsuPin) (s : State) : (psuChange k pin s).outer = s.outer := by
  simp only [psuChange, inputBudget]
  repeat' split
  all_goals simp

theorem bbuChange_outer {i : BbuId} {effect : State → State} (h : ∀ u, (effect u).outer = u.outer) (s : State) :
    (bbuChange i effect s).outer = s.outer := by
  simp only [bbuChange]
  split <;> simp [h]

theorem presentChange_outer (i : BbuId) (level : Bool) (s : State) : (presentChange i level s).outer = s.outer := by
  simp only [presentChange]
  repeat' split
  all_goals simp

theorem faultChange_outer (i : BbuId) (level : Bool) (s : State) : (faultChange i level s).outer = s.outer := by
  simp only [faultChange]
  repeat' split
  all_goals simp

theorem pgChange_outer (n : SlotId) (level : Bool) (s : State) : (pgChange n level s).outer = s.outer := by
  simp only [pgChange, pgRise, pgFall]
  repeat' split
  all_goals simp

theorem whenRunning_clock {f : State → State} {s : State} (h : (f s).outer = s.outer) :
    (whenRunning f s).pending = s.pending ∧ (whenRunning f s).clock = s.clock :=
  ⟨outer_pending (whenRunning_outer h), outer_clock (whenRunning_outer h)⟩

/-- R1: the sample set itself moves the clock alone, by the interval that ends. -/
theorem sampleSet_outer (codes : Vector (BitVec 12) 29) (s : State) :
    (sampleSet codes s).outer = { s.outer with clock := s.clock + 10 } := by
  simp only [sampleSet, sampleRegulator_outer, sampleLeak_outer, sampleHoldup_outer, sampleCharge_outer, sampleBudget_outer,
    scanSet_outer]
  rfl

theorem completeLoad_outer (cold : Bool) (s : State) :
    (completeLoad cold s).outer = { s.outer with phase := .running } := by
  have hraise (u : State) : (raiseFallback u).outer = u.outer := by
    unfold raiseFallback
    split <;> simp
  simp only [completeLoad, executeHead_outer, adoptSlots, settleHeadroom_outer, setSeq_outer, hraise]
  rfl

theorem assertReset_outer (cold : Bool) (s : State) :
    (assertReset cold s).outer = { s.outer with phase := .inReset cold } := by
  have h := (abandonWrite_outer (closeRecord .reset s)).trans (closeRecord_outer .reset s)
  simp only [assertReset, State.outer]
  simp only [outer_lastReset h, outer_pins h, outer_clock h, outer_pending h]

end Sys2Proof.Machine

open Sys2Proof Sys2Proof.Machine

/-- Settles O1: a step takes the front of the queue. -/
theorem stepRunsTheFrontCommand : Obligations.StepRunsTheFrontCommand := by
  intro c rest s
  rfl

namespace Sys2Proof.Machine

theorem step_of_internal {s : State} (h : s.pending = []) {i : Instr} (hi : s.nextInternal = some i) : step s = exec i s := by
  simp only [step, h, hi]

theorem step_of_idle {s : State} (h : s.pending = []) (hi : s.nextInternal = none) : step s = .next s := by
  simp only [step, h, hi]

theorem nextInternal_of_running {s : State} (h : s.running) : s.nextInternal = firstOf s.outstanding := by
  unfold State.nextInternal
  rw [show s.phase = .running from h]

theorem nextInternal_of_not_running {s : State} (h : ¬ s.running) : s.nextInternal = none := by
  unfold State.nextInternal
  cases hp : s.phase
  case running => exact absurd hp h
  all_goals rfl

/-- A list of events of which none is outstanding has no first one. -/
theorem firstOf_of_none {l : List (Bool × Instr)} (h : (l.all fun e => !e.1) = true) : firstOf l = none := by
  induction l with
  | nil => rfl
  | cons e l ih =>
    obtain ⟨b, i⟩ := e
    simp only [List.all_cons, Bool.and_eq_true, Bool.not_eq_true'] at h
    obtain ⟨rfl, hl⟩ := h
    exact ih hl

end Sys2Proof.Machine

/-- Settles O2: the list of outstanding events begins with the three publications, and an empty queue takes the first that is
set. -/
theorem idlePartTakesWhatIsOutstanding : Obligations.IdlePartTakesWhatIsOutstanding := by
  intro s hidle
  refine ⟨fun hrun hp => ?_, fun hrun hp hc => ?_, fun hrun hp hc hr => ?_, fun hrun => ?_, fun hnone => ?_⟩
  · refine step_of_internal hidle ((nextInternal_of_running hrun).trans ?_)
    simp [State.outstanding, firstOf, List.isEmpty_eq_false_iff.mpr hp]
  · refine step_of_internal hidle ((nextInternal_of_running hrun).trans ?_)
    simp [State.outstanding, firstOf, hp, List.isEmpty_eq_false_iff.mpr hc]
  · refine step_of_internal hidle ((nextInternal_of_running hrun).trans ?_)
    simp [State.outstanding, firstOf, hp, hc, List.isEmpty_eq_false_iff.mpr hr]
  · exact step_of_idle hidle (nextInternal_of_not_running hrun)
  · refine step_of_idle hidle ?_
    by_cases hrun : s.running
    · exact (nextInternal_of_running hrun).trans (firstOf_of_none hnone)
    · exact nextInternal_of_not_running hrun

/-- Settles O3: a command that is no outer one leaves the whole outer state alone; the nine outer ones are taken one by one. -/
theorem everyCommandCompletes : Obligations.EveryCommandCompletes := by
  intro c s
  by_cases hinner : isOuterCommand c = false
  · obtain ⟨t, he, ho⟩ := exec_of_inner c s hinner
    refine ⟨t, he, outer_pending ho, fun _ _ _ _ => outer_pins ho, ?_, ?_, fun _ _ => outer_clock ho⟩
    · rintro codes rfl; cases hinner
    · rintro straps rfl; cases hinner
  cases c
  case powerOn straps =>
    have ho := abandonWrite_outer s
    have hpending : (powerOn straps s).pending = s.pending := outer_pending (s := s) (t := abandonWrite s) ho
    have hpins : (powerOn straps s).pins = s.pins := outer_pins (s := s) (t := abandonWrite s) ho
    exact ⟨_, rfl, hpending, fun _ _ _ _ => hpins, by simp, fun _ _ => rfl, fun _ h => absurd rfl (h straps)⟩
  case pinResetAssert =>
    have hkeep (cold : Bool) : (assertReset cold s).pins = s.pins ∧ (assertReset cold s).pending = s.pending ∧
        (assertReset cold s).clock = s.clock := by
      have h := assertReset_outer cold s
      exact ⟨pins_of_outer h, pending_of_outer h, clock_of_outer h⟩
    have h : (pinResetAssert s).pins = s.pins ∧ (pinResetAssert s).pending = s.pending ∧
        (pinResetAssert s).clock = s.clock := by
      unfold pinResetAssert
      split
      · exact ⟨rfl, rfl, rfl⟩
      · exact hkeep _
      · exact hkeep _
    exact ⟨_, rfl, h.2.1, fun _ _ _ _ => h.1, by simp, by simp, fun _ _ => h.2.2⟩
  case pinResetRelease straps =>
    have h : (pinResetRelease straps s).pins = s.pins ∧ (pinResetRelease straps s).pending = s.pending ∧
        (pinResetRelease straps s).clock = s.clock := by
      unfold pinResetRelease
      split <;> exact ⟨rfl, rfl, rfl⟩
    exact ⟨_, rfl, h.2.1, fun _ _ _ _ => h.1, by simp, by simp, fun _ _ => h.2.2⟩
  case profileLoadComplete =>
    refine ⟨_, rfl, ?_⟩
    split
    · rename_i cold _
      have h := completeLoad_outer cold s
      exact ⟨pending_of_outer h, fun _ _ _ _ => pins_of_outer h, by simp, by simp,
        fun _ _ => clock_of_outer h⟩
    · exact ⟨rfl, fun _ _ _ _ => rfl, by simp, by simp, fun _ _ => rfl⟩
    · exact ⟨rfl, fun _ _ _ _ => rfl, by simp, by simp, fun _ _ => rfl⟩
  case sampleSet codes =>
    refine ⟨_, rfl, ?_⟩
    unfold whenRunning
    split
    · have h := sampleSet_outer codes s
      exact ⟨pending_of_outer h, fun _ _ _ _ => pins_of_outer h, fun _ _ _ => clock_of_outer h, by simp,
        fun hne => absurd rfl (hne codes)⟩
    all_goals
      rename_i hp
      exact ⟨rfl, fun _ _ _ _ => rfl, fun _ _ hrun => by simp [State.running, hp] at hrun, by simp,
        fun hne => absurd rfl (hne codes)⟩
  case psuInputChange k pin level =>
    refine ⟨_, rfl, ?_, fun hne => absurd rfl (hne k pin level), by simp, by simp, fun _ _ => ?_⟩
    all_goals
      dsimp only
      split
      · rfl
    · exact (whenRunning_clock (psuChange_outer k pin _)).1
    · exact (whenRunning_clock (psuChange_outer k pin _)).2
  case bbuPresentChange i level =>
    refine ⟨_, rfl, ?_, fun _ hne => absurd rfl (hne i level), by simp, by simp, fun _ _ => ?_⟩
    all_goals
      dsimp only
      split
      · rfl
    · exact (whenRunning_clock (bbuChange_outer (presentChange_outer i level) _)).1
    · exact (whenRunning_clock (bbuChange_outer (presentChange_outer i level) _)).2
  case bbuFaultInputChange i level =>
    refine ⟨_, rfl, ?_, fun _ _ hne => absurd rfl (hne i level), by simp, by simp, fun _ _ => ?_⟩
    all_goals
      dsimp only
      split
      · rfl
    · exact (whenRunning_clock (bbuChange_outer (faultChange_outer i level) _)).1
    · exact (whenRunning_clock (bbuChange_outer (faultChange_outer i level) _)).2
  case pgChange n level =>
    refine ⟨_, rfl, ?_, fun _ _ _ hne => absurd rfl (hne n level), by simp, by simp, fun _ _ => ?_⟩
    all_goals
      split
      · rfl
    · exact (whenRunning_clock (pgChange_outer n level _)).1
    · exact (whenRunning_clock (pgChange_outer n level _)).2
  all_goals exact absurd rfl hinner

/-- Settles O4: the reset state is written out, so each value is read off it. -/
theorem resetHoldsTheManualValues : Obligations.ResetHoldsTheManualValues := by
  unfold Obligations.ResetHoldsTheManualValues
  and_intros
  all_goals decide +kernel

namespace Sys2Proof.Machine

theorem reset_is_lawful : Lawful State.reset where
  settings := ⟨Tests.defaults_are_legal, Tests.defaults_are_legal, nofun⟩
  slots := by intro _; decide +kernel
  queue := by intro _; decide +kernel
  leaks := by refine ⟨?_, fun _ => ?_⟩ <;> decide +kernel
  warnings := by intro _; decide +kernel
  zones := by intro _; decide +kernel
  points := by intro _; decide +kernel
  budget := by intro _; decide +kernel
  charge := by unfold ChargeLaw; decide +kernel
  regulator := by
    intro _
    refine ⟨?_, ?_, ?_, ?_, ?_, ?_, ?_, rfl⟩ <;> decide +kernel
  holdup := by intro _; decide +kernel
  line := by
    intro _
    refine ⟨?_, ?_, ?_, ?_, ?_, ?_, ?_, ?_, .inl rfl⟩ <;> decide +kernel
  causes := by refine ⟨?_, ?_, fun _ => ?_⟩ <;> decide +kernel
  link := by unfold LinkLaw; decide +kernel

theorem completeLoad_of_blank : completeLoad true (State.poweredOn Pins.allLow 0 Nvm.blank 0 []) = State.reset := by
  decide +kernel

end Sys2Proof.Machine

/-- Settles O5: law by law on the one state, and the load evaluated. -/
theorem resetIsLawfulAndEndsTheFirstLoad : Obligations.ResetIsLawfulAndEndsTheFirstLoad :=
  ⟨reset_is_lawful, congrArg Host.Outcome.next completeLoad_of_blank, rfl⟩
end

section
/-! PROOFS. The cause records and the link under the shared operations: a raise, a report and the service of the transmitter keep
the law of the outbox and ALERT, and the law of the link. -/

namespace Sys2Proof.Machine

/-! ### The outbox and the records -/

/-- R157, R162: a report moves one condition and judges ALERT by it. -/
theorem reportCondition_causeLaw {s : State} (h : CauseLaw s) (c : CauseId) (a : Bool) :
    CauseLaw (reportCondition c a s) := by
  rcases reportCondition_cases c a s with ⟨-, e⟩ | ⟨-, e⟩ <;> rw [e]
  · exact h
  obtain ⟨hnodup, hrows, -⟩ := h
  refine ⟨hnodup, fun d => ?_, fun _ => rfl⟩
  by_cases hd : c = d
  · subst hd
    simpa [judgeAlert] using hrows c
  · have := hrows d
    simp only [judgeAlert, State.setCauses_causes, State.setCause_causes, State.setCauses_settings, State.setCause_settings,
      get_set_other _ _ hd]
    exact this

/-- R161: a notice takes a condition along and leaves it. -/
theorem beginNotice_recs_condition (c : CauseId) (cs : List CauseId) (s : State) (d : CauseId) :
    (s.beginNotice c cs).causes.recs[d].condition = s.causes.recs[d].condition := by
  simp only [State.beginNotice, State.setLink_causes, State.setCauses_causes, get_set]
  split
  · subst_vars; rfl
  · rfl

/-- R161: the head of the outbox begins its notice, and is no longer pending. -/
theorem beginNotice_causeLaw {s : State} (h : CauseLaw s) {c : CauseId} {cs : List CauseId} (hout : s.causes.outbox = c :: cs) :
    CauseLaw (s.beginNotice c cs) := by
  obtain ⟨hnodup, hrows, halert⟩ := h
  rw [hout, List.nodup_cons] at hnodup
  refine ⟨hnodup.2, fun d => ?_, fun hrun => ?_⟩
  · obtain ⟨hmem, hcount, hle⟩ := hrows d
    rw [hout, List.mem_cons] at hmem
    by_cases hd : c = d
    · subst hd
      simp [State.beginNotice, hnodup.1]
    · simp only [State.beginNotice, State.setLink_causes, State.setLink_settings, State.setCauses_causes,
        State.setCauses_settings, get_set_other _ _ hd]
      refine ⟨?_, hcount, hle⟩
      rw [← hmem]
      simp [Ne.symm hd]
  · exact (halert hrun).trans
      (alertLevel_congr (s := s) (t := s.beginNotice c cs) rfl fun d => beginNotice_recs_condition c cs s d).symm

theorem serveTransmitter_causeLaw {s : State} (h : CauseLaw s) : CauseLaw (serveTransmitter s) := by
  rcases serveTransmitter_cases s with ⟨e, -⟩ | ⟨r, rs, -, -, e⟩ | ⟨c, cs, -, -, -, hout, e⟩ | ⟨e, -⟩ <;> rw [e]
  · exact h
  · exact h
  · exact beginNotice_causeLaw h hout
  · exact h

/-- R157: the raised cause is pending with a count above 0, and stands in the outbox unless it is masked. -/
theorem joinOutbox_recordRaise_causeLaw {s : State} (h : CauseLaw s) (c : CauseId) (v : Int) (k : Byte) :
    CauseLaw (joinOutbox c (recordRaise c v k s)) := by
  obtain ⟨hnodup, hrows, halert⟩ := h
  have hjoined : (recordRaise c v k s).joined c = s.joined c := by
    simp only [State.joined, recordRaise_settings, recordRaise_outbox]
  have hnew (d : CauseId) : d ∈ s.joined c ↔ d ∈ s.causes.outbox ∨ (d = c ∧ s.settings.masks[c].mask = false) := by
    by_cases hm : s.settings.masks[c].mask = true
    · rw [joined_of_masked hm, hm]
      simp
    · rw [Bool.not_eq_true] at hm
      by_cases hc : c ∈ s.causes.outbox
      · rw [State.joined, if_pos (.inr hc)]
        refine ⟨.inl, ?_⟩
        rintro (h | ⟨rfl, -⟩)
        · exact h
        · exact hc
      · rw [joined_of_unmasked hm hc, List.mem_append, List.mem_singleton, hm]
        simp
  rw [joinOutbox_eq, hjoined]
  refine ⟨?_, fun d => ?_, fun hrun => ?_⟩
  · show (s.joined c).Nodup
    unfold State.joined
    split
    · exact hnodup
    · rename_i hnot
      exact List.nodup_append.2 ⟨hnodup, by simp, by
        rintro a ha b hb rfl
        rw [List.mem_singleton] at hb
        subst hb
        exact hnot (.inr ha)⟩
  · simp only [State.setCauses_causes, State.setCauses_settings, recordRaise_recs, recordRaise_settings, hnew]
    obtain ⟨hmem, hcount, hle⟩ := hrows d
    by_cases hd : c = d
    · subst hd
      rw [get_set_same, hmem]
      refine ⟨?_, ?_, ?_⟩
      · simp only [raised]
        tauto
      · simp only [raised, true_iff]
        omega
      · exact Nat.min_le_left _ _
    · rw [get_set_other _ _ hd, ← hmem]
      exact ⟨by simp [Ne.symm hd], hcount, hle⟩
  · have hlevel : ((recordRaise c v k s).setCauses { (recordRaise c v k s).causes with outbox := s.joined c }).alertLevel =
        (recordRaise c v k s).alertLevel := alertLevel_congr rfl fun _ => rfl
    rw [hlevel]
    show (recordRaise c v k s).causes.alert = _
    rw [recordRaise_alert]
    split
    · rfl
    · rename_i hevent
      refine (halert (by rw [recordRaise_eq] at hrun; exact hrun)).trans (alertLevel_congr (recordRaise_settings c v k s) fun d => ?_).symm
      rw [recordRaise_recs, get_set]
      split
      · subst_vars; simp [raised, hevent]
      · rfl

theorem raise_causeLaw {s : State} (h : CauseLaw s) (c : CauseId) (v : Int) (k : Byte) : CauseLaw (raise c v k s) :=
  serveTransmitter_causeLaw (joinOutbox_recordRaise_causeLaw h c v k)

/-! ### The link -/

/-- The law of the link (R161, R167, R168), while a request is being executed (`executing`) or not: in an execution the part may
execute, and its reply has yet to serve the transmitter. -/
structure LinkOk (executing : Bool) (s : State) : Prop where
  queue : s.link.queue.length ≤ 4
  busy : s.busyWaiting ≤ 4
  single : s.executionReplies ≤ 1
  prompt : executing = false → s.canExecute = true → s.link.queue = []
  ready : executing = true → s.canExecute = true
  replies : s.link.tx = none → s.link.replies = []
  outbox : executing = false → s.link.tx = none → s.causes.hold = true ∨ s.causes.outbox = []

theorem linkLaw_iff {s : State} : LinkLaw s ↔ LinkOk false s := by
  constructor
  · rintro ⟨hqueue, hbusy, hsingle, hprompt, hserved⟩
    exact ⟨hqueue, hbusy, hsingle, fun _ => hprompt, nofun, fun ht => (hserved ht).1, fun _ ht => (hserved ht).2⟩
  · intro h
    exact ⟨h.queue, h.busy, h.single, h.prompt rfl, fun ht => ⟨h.replies ht, h.outbox rfl ht⟩⟩

/-- R168: what a request may be executed on: a running part with no execution reply. -/
theorem canExecute_iff (s : State) : s.canExecute = true ↔ s.phase = .running ∧ s.executionReplies = 0 := by
  have hreplies : s.link.replies.all Reply.isBusy = true ↔ s.link.replies.countP (fun r => !r.isBusy) = 0 := by
    simp [List.countP_eq_zero]
  unfold State.canExecute State.executionReplies
  rw [Bool.and_eq_true, Bool.and_eq_true, beq_iff_eq, hreplies, Nat.add_eq_zero_iff, and_assoc]
  refine and_congr_right fun _ => and_congr_right fun _ => ?_
  cases s.link.tx with
  | none => simp
  | some t => cases t.isExecution <;> simp

/-- The law reads the phase, the link and the causes. -/
theorem LinkOk.of_same {executing : Bool} {s t : State} (h : LinkOk executing s) (hphase : t.phase = s.phase)
    (hlink : t.link = s.link) (hcauses : t.causes = s.causes) : LinkOk executing t := by
  have hreplies : t.executionReplies = s.executionReplies := by rw [State.executionReplies, hlink]; rfl
  have hcan : t.canExecute = s.canExecute := by rw [Bool.eq_iff_iff, canExecute_iff, canExecute_iff, hphase, hreplies]
  obtain ⟨hqueue, hbusy, hsingle, hprompt, hready, hwait, hout⟩ := h
  refine ⟨hlink ▸ hqueue, ?_, hreplies ▸ hsingle, ?_, ?_, hlink ▸ hwait, ?_⟩
  · rw [State.busyWaiting, hlink]
    exact hbusy
  · rw [hcan, hlink]
    exact hprompt
  · rw [hcan]
    exact hready
  · rw [hlink, hcauses]
    exact hout

theorem LinkOk.begin_notice {executing : Bool} {s : State} (h : LinkOk executing s) (htx : s.link.tx = none) (x : Causes) (n : Notice) :
    LinkOk executing ((s.setCauses x).setLink { s.link with tx := some (.notice n) }) := by
  have hreplies := h.replies htx
  have hcount : ((s.setCauses x).setLink { s.link with tx := some (.notice n) }).executionReplies = s.executionReplies := by
    simp [State.executionReplies, htx, Sending.isExecution]
  have hcan : ((s.setCauses x).setLink { s.link with tx := some (.notice n) }).canExecute = s.canExecute := by
    rw [Bool.eq_iff_iff, canExecute_iff, canExecute_iff, hcount]
    rfl
  exact
    { queue := h.queue
      busy := h.busy
      single := hcount ▸ h.single
      prompt := fun he hc => h.prompt he (hcan ▸ hc)
      ready := fun he => hcan.trans (h.ready he)
      replies := nofun
      outbox := nofun }

/-- R161: the transmitter is served after a change of the causes. -/
theorem LinkOk.serve {executing : Bool} {s : State} (h : LinkOk executing s) (x : Causes) :
    LinkOk executing (serveTransmitter (s.setCauses x)) := by
  have hsame (houtbox : executing = false → s.link.tx = none → x.hold = true ∨ x.outbox = []) :
      LinkOk executing (s.setCauses x) :=
    ⟨h.queue, h.busy, h.single, h.prompt, h.ready, h.replies, houtbox⟩
  rcases serveTransmitter_cases (s.setCauses x) with
    ⟨e, htx⟩ | ⟨r, rs, htx, hr, -⟩ | ⟨c, cs, htx, -, -, -, e⟩ | ⟨e, -, -, hidle⟩
  · rw [e]
    exact hsame fun _ ht => absurd htx (by simp [ht])
  · simp [h.replies htx] at hr
  · rw [e]
    exact h.begin_notice htx _ _
  · rw [e]
    exact hsame fun _ _ => hidle

theorem LinkOk.setCauses {executing : Bool} {s : State} (h : LinkOk executing s) {x : Causes}
    (hold : x.hold = s.causes.hold) (hout : x.outbox = s.causes.outbox) : LinkOk executing (s.setCauses x) :=
  ⟨h.queue, h.busy, h.single, h.prompt, h.ready, h.replies, fun he ht => by
    show x.hold = true ∨ x.outbox = []
    rw [hold, hout]
    exact h.outbox he ht⟩

/-! ### Frames -/

theorem serveTransmitter_eq (s : State) :
    serveTransmitter s = (s.setCauses (serveTransmitter s).causes).setLink (serveTransmitter s).link := by
  rcases serveTransmitter_cases s with ⟨e, -⟩ | ⟨r, rs, -, -, e⟩ | ⟨c, cs, -, -, -, -, e⟩ | ⟨e, -⟩ <;> rw [e] <;> rfl

/-- A raise moves the causes and the link. -/
theorem raise_split (c : CauseId) (v : Int) (k : Byte) (s : State) :
    raise c v k s = (s.setCauses (raise c v k s).causes).setLink (raise c v k s).link := by
  conv_lhs => rw [raise_eq, serveTransmitter_eq, ← raise_eq, joinOutbox_eq, recordRaise_eq]
  rfl

theorem reportCondition_eq (c : CauseId) (a : Bool) (s : State) :
    reportCondition c a s = s.setCauses (reportCondition c a s).causes := by
  rcases reportCondition_cases c a s with ⟨-, e⟩ | ⟨-, e⟩ <;> rw [e] <;> rfl

/-! What a raise and a report leave alone. -/

@[simp] theorem raise_budget (c : CauseId) (v : Int) (k : Byte) (s : State) : (raise c v k s).budget = s.budget := by
  rw [raise_split]; rfl
@[simp] theorem raise_holdup (c : CauseId) (v : Int) (k : Byte) (s : State) : (raise c v k s).holdup = s.holdup := by
  rw [raise_split]; rfl
@[simp] theorem raise_recharge (c : CauseId) (v : Int) (k : Byte) (s : State) : (raise c v k s).recharge = s.recharge := by
  rw [raise_split]; rfl
@[simp] theorem raise_seq (c : CauseId) (v : Int) (k : Byte) (s : State) : (raise c v k s).seq = s.seq := by
  rw [raise_split]; rfl
@[simp] theorem raise_shed (c : CauseId) (v : Int) (k : Byte) (s : State) : (raise c v k s).shed = s.shed := by
  rw [raise_split]; rfl
@[simp] theorem raise_line (c : CauseId) (v : Int) (k : Byte) (s : State) : (raise c v k s).line = s.line := by
  rw [raise_split]; rfl
@[simp] theorem raise_leak (c : CauseId) (v : Int) (k : Byte) (s : State) : (raise c v k s).leak = s.leak := by
  rw [raise_split]; rfl
@[simp] theorem raise_store (c : CauseId) (v : Int) (k : Byte) (s : State) : (raise c v k s).store = s.store := by
  rw [raise_split]; rfl
@[simp] theorem raise_sense (c : CauseId) (v : Int) (k : Byte) (s : State) : (raise c v k s).sense = s.sense := by
  rw [raise_split]; rfl
@[simp] theorem raise_phase (c : CauseId) (v : Int) (k : Byte) (s : State) : (raise c v k s).phase = s.phase := by
  rw [raise_split]; rfl
@[simp] theorem raise_clock (c : CauseId) (v : Int) (k : Byte) (s : State) : (raise c v k s).clock = s.clock := by
  rw [raise_split]; rfl
@[simp] theorem reportCondition_budget (c : CauseId) (a : Bool) (s : State) : (reportCondition c a s).budget = s.budget := by
  rw [reportCondition_eq]; rfl
@[simp] theorem reportCondition_holdup (c : CauseId) (a : Bool) (s : State) : (reportCondition c a s).holdup = s.holdup := by
  rw [reportCondition_eq]; rfl
@[simp] theorem reportCondition_recharge (c : CauseId) (a : Bool) (s : State) : (reportCondition c a s).recharge = s.recharge := by
  rw [reportCondition_eq]; rfl
@[simp] theorem reportCondition_seq (c : CauseId) (a : Bool) (s : State) : (reportCondition c a s).seq = s.seq := by
  rw [reportCondition_eq]; rfl
@[simp] theorem reportCondition_shed (c : CauseId) (a : Bool) (s : State) : (reportCondition c a s).shed = s.shed := by
  rw [reportCondition_eq]; rfl
@[simp] theorem reportCondition_line (c : CauseId) (a : Bool) (s : State) : (reportCondition c a s).line = s.line := by
  rw [reportCondition_eq]; rfl
@[simp] theorem reportCondition_leak (c : CauseId) (a : Bool) (s : State) : (reportCondition c a s).leak = s.leak := by
  rw [reportCondition_eq]; rfl
@[simp] theorem reportCondition_store (c : CauseId) (a : Bool) (s : State) : (reportCondition c a s).store = s.store := by
  rw [reportCondition_eq]; rfl
@[simp] theorem reportCondition_sense (c : CauseId) (a : Bool) (s : State) : (reportCondition c a s).sense = s.sense := by
  rw [reportCondition_eq]; rfl
@[simp] theorem reportCondition_phase (c : CauseId) (a : Bool) (s : State) : (reportCondition c a s).phase = s.phase := by
  rw [reportCondition_eq]; rfl
@[simp] theorem reportCondition_clock (c : CauseId) (a : Bool) (s : State) : (reportCondition c a s).clock = s.clock := by
  rw [reportCondition_eq]; rfl
@[simp] theorem reportCondition_settings (c : CauseId) (a : Bool) (s : State) : (reportCondition c a s).settings = s.settings := by
  rw [reportCondition_eq]; rfl

theorem serveTransmitter_condition (s : State) (d : CauseId) :
    (serveTransmitter s).causes.recs[d].condition = s.causes.recs[d].condition := by
  rcases serveTransmitter_cases s with ⟨e, -⟩ | ⟨r, rs, -, -, e⟩ | ⟨c, cs, -, -, -, -, e⟩ | ⟨e, -⟩ <;> rw [e]
  · rfl
  · exact beginNotice_recs_condition c cs s d

/-- R156: a raise makes an event-source cause active and moves no other condition. -/
theorem raise_keeps_condition {d : CauseId} (hd : eventSource d = false) (c : CauseId) (v : Int) (k : Byte) (s : State) :
    (raise c v k s).causes.recs[d].condition = s.causes.recs[d].condition := by
  rw [raise_eq, serveTransmitter_condition, joinOutbox_eq]
  show (recordRaise c v k s).causes.recs[d].condition = _
  rw [recordRaise_recs, get_set]
  split
  · subst_vars; simp [raised, hd]
  · rfl

theorem raise_linkOk {executing : Bool} {s : State} (h : LinkOk executing s) (c : CauseId) (v : Int) (k : Byte) :
    LinkOk executing (raise c v k s) := by
  rw [raise_eq, joinOutbox_eq, recordRaise_eq]
  exact h.serve _

theorem reportCondition_linkOk {executing : Bool} {s : State} (h : LinkOk executing s) (c : CauseId) (a : Bool) :
    LinkOk executing (reportCondition c a s) := by
  rcases reportCondition_cases c a s with ⟨-, e⟩ | ⟨-, e⟩ <;> rw [e]
  · exact h
  · exact h.setCauses rfl rfl

end Sys2Proof.Machine
end

section
/-! PROOFS. What a running part keeps in the middle of a command: the laws of Safety, each with the slack that a command takes
between two of its moves (`Slack`). With no slack this is the law itself; every shared operation keeps it. -/

namespace Sys2Proof.Machine

/-! ### Conditions and their owners (R156) -/

/-- The records that own a condition. -/
inductive Owner where
  | analog (p : AnalogId) | rope (z : ZoneId) | wet (z : ZoneId) | ropeFault (z : ZoneId) | attention (n : SlotId)
  | slot (n : SlotId) | psu (k : PsuId) | holdup | deficit | line | recharge

/-- The cause whose condition follows an owner. -/
def Owner.cause : Owner → CauseId
  | .analog p => causePoint (AnalogId.point p)
  | .rope z => causePoint (ropePoint z)
  | .wet z => causeZoneWet z
  | .ropeFault z => causeRopeFault z
  | .attention n => causeAttention n
  | .slot n => causeSlot n
  | .psu k => causePsu k
  | .holdup => causeHoldup
  | .deficit => causeDeficit
  | .line => causeLine
  | .recharge => causeRecharge

/-- R5: a rope point's condition by its raw code. -/
def ropeRails : Option (BitVec 12) → Bool
  | none => false
  | some c => railCode c

/-- The condition that an owner's record calls for. -/
def State.due (s : State) : Owner → Bool
  | .analog p => s.sense.points[AnalogId.point p].alarm || s.sense.points[AnalogId.point p].stale
  | .rope z => ropeRails s.sense.points[ropePoint z].raw
  | .wet z => s.leak.zones[z].state == .wet
  | .ropeFault z => s.leak.zones[z].ropeFault
  | .attention n => s.line.attention.getLsbD n.val
  | .slot n => s.seq.slots[n].state == .faulted
  | .psu k => s.budget.psus[k].state == .noAc || s.budget.psus[k].state == .fault
  | .holdup => s.holdup.state.alarming
  | .deficit => s.budget.deficit != .idle
  | .line => s.line.state == .failed
  | .recharge => s.recharge.state == .paused || s.recharge.state == .thermalHold

theorem Owner.cause_injective {a b : Owner} (h : a.cause = b.cause) : a = b := by
  have hval : a.cause.val = b.cause.val := congrArg Fin.val h
  cases a <;> cases b <;>
    simp only [Owner.cause, causePoint, AnalogId.point, ropePoint, causeZoneWet, causeRopeFault, causeAttention, causeSlot,
      causePsu, causeHoldup, causeDeficit, causeLine, causeRecharge, Owner.analog.injEq, Owner.rope.injEq, Owner.wet.injEq,
      Owner.ropeFault.injEq, Owner.attention.injEq, Owner.slot.injEq, Owner.psu.injEq, Fin.ext_iff, reduceCtorEq] at hval ⊢ <;>
    omega

theorem Owner.cause_not_event (o : Owner) : eventSource o.cause = false := by
  have h : ¬ ((96 ≤ o.cause.val ∧ o.cause.val ≤ 111) ∨ (133 ≤ o.cause.val ∧ o.cause.val ≤ 135)) := by
    cases o <;>
      simp only [Owner.cause, causePoint, AnalogId.point, ropePoint, causeZoneWet, causeRopeFault, causeAttention, causeSlot,
        causePsu, causeHoldup, causeDeficit, causeLine, causeRecharge] <;>
      omega
  exact decide_eq_false h

/-! ### The laws of one record -/

/-- R95 and the tables of sections 6.2 and 7, of one slot; `unsettled` waives PG. -/
structure SlotOk (unsettled : Prop) (x : Slot) : Prop where
  en : x.en = x.state.powered
  notice : x.notice = (x.state == .notice || x.state == .held)
  soak : x.soak.isSome = (x.state == .soak)
  window : x.window.isSome = (x.state == .notice)
  hold : x.hold.isSome = (x.state == .held)
  drain : x.drain.isSome = (x.state == .draining)
  pg : x.state = .on ∨ x.state = .notice ∨ x.state = .held ∨ x.state = .draining → unsettled ∨ x.pg = true

/-- A slot of a WET zone under VALVE_AND_SHED is shut off for it (R151). -/
def Slot.shut (x : Slot) : Prop := (x.state = .draining ∧ x.reason = .leak) ∨ x.state = .faulted ∨ x.state = .locked

/-- In a shed that gives warning (R112). -/
def Slot.warned (x : Slot) : Prop := x.state = .notice ∨ x.state = .held

/-- The reasons that give warning. -/
def ShedReason.warns (r : ShedReason) : Prop := r = .manager ∨ r = .reserve ∨ r = .limit ∨ r = .deficit

/-- Where a CRITICAL slot that is up can be found after a command that only warns it, or drains it for a reason that may (R112). -/
def Slot.keptUp (x : Slot) : Prop :=
  (x.state = .on ∨ x.state = .notice ∨ x.state = .held) ∨
    (x.state = .draining ∧ (x.reason = .manager ∨ x.reason = .leak ∨ x.reason = .blackout)) ∨
    (x.state = .faulted ∧ x.pg = false)

/-- R145, R150 of one zone; `unjudged` waives the evidence of SUSPECT. -/
structure ZoneOk (unjudged : Prop) (x : Zone) : Prop where
  dry : x.state = .dry → x.ropeFault = false
  fault : x.state = .fault → x.ropeFault = true
  evidence : x.state = .suspect → unjudged ∨ 0 < x.ropeCount ∨ 0 < x.trayCount ∨ x.awaitSet = true ∨ x.awaitCycle = true
  ropeCount : x.ropeCount ≤ 255
  trayCount : x.trayCount ≤ 255

/-- Section 5.1, R81 and R83 of the regulator. -/
structure RegulatorOk (set : RechargeSettings) (x : Recharge) : Prop where
  shares : x.shares = sharesOf x.members x.iSet
  yielded : x.yielded = true → x.state = .cruise
  step : x.step.isSome = (x.state == .cruise)
  floorTimer : x.floorTimer.isSome = (x.state == .floor)
  idle : x.state = .off ∨ x.state = .paused → x.iSet = 0
  cruise : x.state = .cruise → set.iFloor ≤ x.iSet ∧ x.iSet ≤ set.iMax
  floor : x.state = .floor ∨ x.state = .thermalHold → x.iSet = set.iFloor

/-- R62 to R77 of the holdup controller. -/
structure HoldupOk (x : Holdup) : Prop where
  settle : x.settle.isSome = (x.state == .returning)
  collapse : x.collapse.isSome = true → x.state = .bridging
  bridging : x.bridging.isSome = true → x.eventOpen = true
  event : x.eventOpen = true → x.state = .bridging ∨ x.state = .returning
  record : x.record.isOpen = true → x.eventOpen = true ∧ x.record.valid = false

/-- R130 to R139 of the status line, but for its starts. -/
structure LineOk (x : Line) : Prop where
  enabled : x.enabled = true
  faultRun : x.faultRun ≤ 3
  cleanRun : x.cleanRun ≤ 16
  faults : x.faults ≤ 65535
  hold : x.state = .failed → x.hold = 0
  wave : x.WaveLaw

/-- R43, R45 of one BBU. -/
structure BbuOk (set : BbuSettings) (b : Bbu) : Prop where
  q : b.q ≤ set.qFull
  r : b.r ≤ 25599
  full : b.full = (b.q == set.qFull)

/-! ### Slack -/

/-- What a command has let loose between two of its moves. -/
structure Slack where
  /-- The holdup state, where it is known. -/
  now : Option HoldupState := none
  /-- Owners whose condition has not been reported yet. -/
  late : Owner → Prop := fun _ => False
  /-- ONLINE has been left, and the regulator and the deficit handling have not been told. -/
  leaving : Bool := false
  /-- A slot whose place in the queue or PG is being settled. -/
  loose : Option SlotId := none
  /-- Slots of a zone entering WET that may still be QUEUED. -/
  toLock : List SlotId := []
  /-- Slots of a zone entering WET that have not been shed. -/
  toShed : List SlotId := []
  /-- A slot that has become CRITICAL. -/
  promoted : Option SlotId := none
  /-- A zone whose evidence is being judged. -/
  unjudged : Option ZoneId := none
  /-- The line has yet to watch for a start. -/
  unwatched : Bool := false
  /-- A request is being executed. -/
  executing : Bool := false
  /-- The profile load has kept zone records and a transfer record, of which no law speaks while it runs. -/
  unkept : Bool := false
  /-- CRITICAL slots that were up when the command began. -/
  up : SlotId → Prop := fun _ => False

/-- The laws of a running part, each but for its slack. -/
structure Inv (g : Slack) (s : State) : Prop where
  running : s.phase = .running
  now : ∀ st, g.now = some st → s.holdup.state = st
  settings : SettingsLaw s
  conditions : ∀ o, ¬ g.late o → s.causes.recs[o.cause].condition = s.due o
  slots : ∀ n : SlotId, SlotOk (g.loose = some n) s.seq.slots[n]
  up : ∀ n : SlotId, g.up n → s.settings.slots[n].cls = .critical ∧ s.seq.slots[n].keptUp
  warned : ∀ n : SlotId, s.seq.slots[n].warned →
    s.seq.slots[n].reason.warns ∧
      (s.settings.slots[n].cls = .critical → g.promoted = some n ∨ s.seq.slots[n].reason = .manager)
  inQueue : ∀ n ∈ s.seq.queue, s.seq.slots[n].state = .queued
  queued : ∀ n : SlotId, s.seq.slots[n].state = .queued → g.loose = some n ∨ n ∈ s.seq.queue
  order : (s.seq.queue.filter fun m => g.loose ≠ some m).Pairwise (fun a b => s.before a b = true)
  dryQueue : ∀ n : SlotId, s.seq.slots[n].state = .queued → n ∈ g.toLock ∨ s.slotWet n = false
  valve : ∀ z : ZoneId, s.leak.zones[z].state = .wet → s.settings.zones[z].policy.closesValve = true →
    s.leak.zones[z].valve = true
  shut : ∀ n : SlotId, s.slotWetShed n = true → n ∈ g.toShed ∨ s.seq.slots[n].shut
  zones : g.unkept = false → ∀ z : ZoneId, ZoneOk (g.unjudged = some z) s.leak.zones[z]
  points : ∀ p : AnalogId, s.sense.points[AnalogId.point p].stale = SenseLaw.startsOrRails s.sense.points[AnalogId.point p].raw ∧
    (s.settings.points[p].mode = .off → s.sense.points[AnalogId.point p].alarm = false)
  deficitTimer : s.budget.timer.isSome = (s.budget.deficit == .grace)
  deficit : s.budget.deficit ≠ .idle → g.leaving = true ∨ s.holdup.state = .online
  charge : ∀ i : BbuId, BbuOk s.settings.bbus[i] s.charge.bbus[i]
  regulator : RegulatorOk s.settings.recharge s.recharge
  regulatorOn : s.recharge.state ≠ .off → g.leaving = true ∨ s.holdup.state = .online
  regulatorCopy : s.recharge.lastHoldup = s.holdup.state
  holdup : g.unkept = false → HoldupOk s.holdup
  holdupCopy : s.seq.lastHoldup = s.holdup.state
  line : LineOk s.line
  starts : s.line.mode = .quiet → s.line.cycle.waiting = true →
    (s.line.survey.isSome = true ∨ s.line.startDue = true) ∧
      (g.unwatched = false → s.continuousCondition = true → s.line.startDue = true)
  causes : CauseLaw s
  link : LinkOk g.executing s

/-- A running part that keeps every law has no slack. -/
theorem Inv.of_lawful {s : State} (h : Lawful s) (hrun : s.running) : Inv {} s := by
  have hzones := h.zones hrun
  obtain ⟨hanalog, hrope⟩ := h.points hrun
  obtain ⟨htimer, honline, hdeficit, hpsu⟩ := h.budget hrun
  obtain ⟨hcopy, hoff, hshares, hyield, hstep, hfloor, hpaused, htable⟩ := h.regulator hrun
  obtain ⟨hsettle, hcollapse, hbridging, hevent, hrecord, hseq, halarm⟩ := h.holdup hrun
  obtain ⟨henabled, hfr, hcr, hf, hhold, hattention, hline, hstarts, hwave⟩ := h.line hrun
  obtain ⟨hsorted, hmem⟩ := h.queue hrun
  exact
    { running := hrun
      now := nofun
      settings := h.settings
      conditions := fun o _ => by
        cases o with
        | analog p => exact (hanalog p).2.2
        | rope z =>
          refine (hrope z).trans ?_
          simp only [State.due]
          cases s.sense.points[ropePoint z].raw <;> rfl
        | wet z => exact (hzones z).1
        | ropeFault z => exact (hzones z).2.1
        | attention n => exact hattention n
        | slot n => exact (h.slots hrun n).2.2.2.2.2.2.2
        | psu k => exact hpsu k
        | holdup => exact halarm
        | deficit => exact hdeficit
        | line => exact hline
        | recharge => exact hpaused
      slots := fun n => by
        obtain ⟨hen, hnotice, hsoak, hwindow, hhold, hdrain, hpg, -⟩ := h.slots hrun n
        exact ⟨hen, hnotice, hsoak, hwindow, hhold, hdrain, fun hst => .inr (hpg hst)⟩
      up := fun _ hn => hn.elim
      warned := fun n hn => ⟨(h.warnings hrun n hn).1, fun hc => .inr ((h.warnings hrun n hn).2 hc)⟩
      inQueue := fun n => (hmem n).1.1
      queued := fun n hn => .inr ((hmem n).1.2 hn)
      order := hsorted.filter _
      dryQueue := fun n hn => .inr ((hmem n).2 hn)
      valve := h.leaks.1
      shut := fun n hn => .inr (h.leaks.2 hrun n hn)
      zones := fun _ z => by
        obtain ⟨-, -, hdry, hfault, hsuspect, hrc, htc⟩ := hzones z
        exact ⟨hdry, hfault, fun hs => .inr (hsuspect hs), hrc, htc⟩
      points := fun p => ⟨(hanalog p).1, (hanalog p).2.1⟩
      deficitTimer := htimer
      deficit := fun hd => .inr (honline hd)
      charge := fun i => ⟨(h.charge i).1, (h.charge i).2.1, (h.charge i).2.2⟩
      regulator :=
        { shares := hshares
          yielded := hyield
          step := hstep
          floorTimer := hfloor
          idle := fun hst => by rcases hst with hst | hst <;> simpa [hst] using htable
          cruise := fun hst => by simpa [hst] using htable
          floor := fun hst => by rcases hst with hst | hst <;> simpa [hst] using htable }
      regulatorOn := fun hne => .inr (by by_contra hst; exact hne (hoff hst))
      regulatorCopy := hcopy
      holdup := fun _ => ⟨hsettle, hcollapse, hbridging, hevent, hrecord⟩
      holdupCopy := hseq
      line := ⟨henabled, hfr, hcr, hf, hhold, hwave⟩
      starts := fun hm hw => ⟨(hstarts hm hw).1, fun _ => (hstarts hm hw).2⟩
      causes := h.causes
      link := linkLaw_iff.1 h.link }

/-- Every law together, those of zones, holdup and link where the records that a reset or a load keeps are lawful. -/
structure LawfulBut (kept : Prop) (s : State) : Prop where
  settings : SettingsLaw s
  slots : SlotLaw s
  queue : QueueLaw s
  leaks : LeakLaw s
  warnings : WarningLaw s
  zones : kept → ZoneLaw s
  points : SenseLaw s
  budget : BudgetLaw s
  charge : ChargeLaw s
  regulator : RegulatorLaw s
  holdup : kept → HoldupLaw s
  line : LineLaw s
  causes : CauseLaw s
  link : kept → LinkLaw s

/-- With every slack taken up the laws hold. -/
theorem Inv.lawful {g : Slack} {s : State} (h : Inv g s) (hlate : ∀ o, ¬ g.late o) (hleaving : g.leaving = false)
    (hloose : g.loose = none) (hlock : g.toLock = []) (hshed : g.toShed = []) (hpromoted : g.promoted = none)
    (hunjudged : g.unjudged = none) (hunwatched : g.unwatched = false) (hexecuting : g.executing = false) :
    LawfulBut (g.unkept = false) s := by
  have hcond (o : Owner) := h.conditions o (hlate o)
  have hon {p : Prop} : (g.leaving = true ∨ p) ↔ p := by simp [hleaving]
  exact
    { settings := h.settings
      slots := fun _ n => by
        have hn := h.slots n
        exact ⟨hn.en, hn.notice, hn.soak, hn.window, hn.hold, hn.drain,
          fun hst => (hn.pg hst).resolve_left (by simp [hloose]), hcond (.slot n)⟩
      queue := fun _ => by
        refine ⟨by simpa [hloose] using h.order, fun n => ⟨⟨h.inQueue n, fun hn => ?_⟩, fun hn => ?_⟩⟩
        · exact (h.queued n hn).resolve_left (by simp [hloose])
        · exact (h.dryQueue n hn).resolve_left (by simp [hlock])
      leaks := ⟨h.valve, fun _ n hn => (h.shut n hn).resolve_left (by simp [hshed])⟩
      warnings := fun _ n hn => ⟨(h.warned n hn).1, fun hc => ((h.warned n hn).2 hc).resolve_left (by simp [hpromoted])⟩
      zones := fun hkept _ z => by
        have hz := h.zones hkept z
        exact ⟨hcond (.wet z), hcond (.ropeFault z), hz.dry, hz.fault,
          fun hs => (hz.evidence hs).resolve_left (by simp [hunjudged]), hz.ropeCount, hz.trayCount⟩
      points := fun _ => by
        refine ⟨fun p => ⟨(h.points p).1, (h.points p).2, hcond (.analog p)⟩, fun z => ?_⟩
        refine (hcond (.rope z)).trans ?_
        simp only [State.due]
        cases s.sense.points[ropePoint z].raw <;> rfl
      budget := fun _ => ⟨h.deficitTimer, fun hd => hon.1 (h.deficit hd), hcond .deficit, fun k => hcond (.psu k)⟩
      charge := fun i => ⟨(h.charge i).q, (h.charge i).r, (h.charge i).full⟩
      regulator := fun _ => by
        have hr := h.regulator
        refine ⟨h.regulatorCopy, fun hst => ?_, hr.shares, hr.yielded, hr.step, hr.floorTimer, hcond .recharge, ?_⟩
        · by_contra hne
          exact hst (hon.1 (h.regulatorOn hne))
        · cases hst : s.recharge.state with
          | off => exact hr.idle (.inl hst)
          | paused => exact hr.idle (.inr hst)
          | cruise => exact hr.cruise hst
          | floor => exact hr.floor (.inl hst)
          | thermalHold => exact hr.floor (.inr hst)
      holdup := fun hkept _ => ⟨(h.holdup hkept).settle, (h.holdup hkept).collapse, (h.holdup hkept).bridging,
        (h.holdup hkept).event, (h.holdup hkept).record, h.holdupCopy, hcond .holdup⟩
      line := fun _ => ⟨h.line.enabled, h.line.faultRun, h.line.cleanRun, h.line.faults, h.line.hold,
        fun n => hcond (.attention n), hcond .line,
        fun hm hw => ⟨(h.starts hm hw).1, (h.starts hm hw).2 hunwatched⟩, h.line.wave⟩
      causes := h.causes
      link := fun _ => linkLaw_iff.2 (hexecuting ▸ h.link) }

end Sys2Proof.Machine
end

section
/-! PROOFS. The single updates of a block under the laws of a running part (`Inv`): what each must keep, and the slack it takes. -/

namespace Sys2Proof.Machine

section Updates

variable {g : Slack} {s : State}

/-! ### Slack -/

/-- More conditions may be unreported. -/
theorem Inv.allow (h : Inv g s) {late : Owner → Prop} (hl : ∀ o, g.late o → late o) : Inv { g with late := late } s :=
  { h with conditions := fun o ho => h.conditions o fun hg => ho (hl o hg) }

theorem Inv.forget (h : Inv g s) : Inv { g with now := none } s := { h with now := nofun }

/-- R33, R83: the regulator is OFF and the deficit handling has ended. -/
theorem Inv.settled (h : Inv g s) (hr : s.recharge.state = .off) (hd : s.budget.deficit = .idle) :
    Inv { g with leaving := false } s :=
  { h with
    deficit := fun hne => absurd hd hne
    regulatorOn := fun hne => absurd hr hne }

/-! ### Causes -/

/-- A change of the causes that moves no owned condition. -/
theorem Inv.setCauses (h : Inv g s) {x : Causes} {l : Link}
    (hcond : ∀ o : Owner, x.recs[o.cause].condition = s.causes.recs[o.cause].condition)
    (hcauses : CauseLaw ((s.setCauses x).setLink l)) (hlink : LinkOk g.executing ((s.setCauses x).setLink l)) :
    Inv g ((s.setCauses x).setLink l) :=
  { h with
    conditions := fun o ho => (hcond o).trans (h.conditions o ho)
    causes := hcauses
    link := hlink }

/-- R157: a raise keeps every law. -/
theorem Inv.raise (h : Inv g s) (c : CauseId) (v : Int) (k : Byte) : Inv g (raise c v k s) := by
  have hcauses := raise_causeLaw h.causes c v k
  have hlink := raise_linkOk h.link c v k
  have hcond (o : Owner) := raise_keeps_condition o.cause_not_event c v k s
  rw [raise_split] at hcauses hlink ⊢
  exact h.setCauses hcond hcauses hlink

theorem reportCondition_recs_condition (c : CauseId) (a : Bool) (s : State) (d : CauseId) :
    (reportCondition c a s).causes.recs[d].condition = if c = d then a else s.causes.recs[d].condition := by
  rw [reportCondition_recs, get_set]
  split
  · rfl
  · rfl

/-- R156: the report of an owner's condition takes up its slack. -/
theorem Inv.report (o : Owner) (h : Inv { g with late := fun o' => g.late o' ∨ o' = o } s) {a : Bool} (ha : a = s.due o) :
    Inv g (reportCondition o.cause a s) := by
  have hcauses := reportCondition_causeLaw h.causes o.cause a
  have hlink := reportCondition_linkOk h.link o.cause a
  have hcond (o' : Owner) (ho' : ¬ g.late o') : (reportCondition o.cause a s).causes.recs[o'.cause].condition = s.due o' := by
    rw [reportCondition_recs_condition]
    split
    · rename_i he
      rw [ha, Owner.cause_injective he]
    · rename_i hne
      exact h.conditions o' (not_or.2 ⟨ho', fun he => hne (by rw [he])⟩)
  rw [reportCondition_eq] at hcauses hlink hcond ⊢
  exact { h with conditions := hcond, causes := hcauses, link := hlink }

/-- R156: a condition that no owner's law speaks of. -/
theorem Inv.reportFree (h : Inv g s) {c : CauseId} (hc : ∀ o : Owner, c ≠ o.cause) (a : Bool) :
    Inv g (reportCondition c a s) := by
  have hcauses := reportCondition_causeLaw h.causes c a
  have hlink := reportCondition_linkOk h.link c a
  have hcond (o : Owner) : (reportCondition c a s).causes.recs[o.cause].condition = s.causes.recs[o.cause].condition := by
    rw [reportCondition_recs_condition, if_neg (hc o)]
  rw [reportCondition_eq] at hcauses hlink hcond ⊢
  exact { h with conditions := fun o ho => (hcond o).trans (h.conditions o ho), causes := hcauses, link := hlink }

theorem causeRange_free (k : RangeId) (o : Owner) : causeRange k ≠ o.cause := by
  intro he
  have := congrArg Fin.val he
  cases o <;> simp only [Owner.cause, causeRange, causePoint, AnalogId.point, ropePoint, causeZoneWet, causeRopeFault,
    causeAttention, causeSlot, causePsu, causeHoldup, causeDeficit, causeLine, causeRecharge] at this <;> omega

theorem causeBbu_free (i : BbuId) (o : Owner) : causeBbu i ≠ o.cause := by
  intro he
  have := congrArg Fin.val he
  cases o <;> simp only [Owner.cause, causeBbu, causePoint, AnalogId.point, ropePoint, causeZoneWet, causeRopeFault,
    causeAttention, causeSlot, causePsu, causeHoldup, causeDeficit, causeLine, causeRecharge] at this <;> omega

/-! ### Budget unit -/

/-- The deficit state moves, and its condition has yet to be reported. -/
theorem Inv.setDeficit (h : Inv g s) {x : Budget} (hpsus : x.psus = s.budget.psus)
    (htimer : x.timer.isSome = (x.deficit == .grace)) (hon : x.deficit ≠ .idle → g.leaving = true ∨ s.holdup.state = .online) :
    Inv { g with late := fun o => g.late o ∨ o = .deficit } (s.setBudget x) :=
  { h with
    link := h.link.of_same rfl rfl rfl
    conditions := fun o ho => by
      refine (h.conditions o (not_or.1 ho).1).trans ?_
      cases o with
      | deficit => exact absurd rfl (not_or.1 ho).2
      | psu k => simp only [State.due, State.setBudget_budget, hpsus]
      | _ => rfl
    deficitTimer := htimer
    deficit := hon }

/-- The other fields of the budget unit. -/
theorem Inv.setBudget (h : Inv g s) {x : Budget} (hpsus : ∀ k : PsuId, x.psus[k].state = s.budget.psus[k].state)
    (hdeficit : x.deficit = s.budget.deficit) (htimer : x.timer.isSome = s.budget.timer.isSome) : Inv g (s.setBudget x) :=
  { h with
    link := h.link.of_same rfl rfl rfl
    conditions := fun o ho => by
      refine (h.conditions o ho).trans ?_
      cases o with
      | deficit => simp only [State.due, State.setBudget_budget, hdeficit]
      | psu k => simp only [State.due, State.setBudget_budget, hpsus]
      | _ => rfl
    deficitTimer := htimer.trans (h.deficitTimer.trans (by simp only [State.setBudget_budget, hdeficit]))
    deficit := fun hne => h.deficit (hdeficit ▸ hne) }

theorem Inv.setPsu (h : Inv g s) (k : PsuId) (x : Psu) :
    Inv { g with late := fun o => g.late o ∨ o = .psu k } (s.setPsu k x) :=
  { h with
    link := h.link.of_same rfl rfl rfl
    conditions := fun o ho => by
      refine (h.conditions o (not_or.1 ho).1).trans ?_
      cases o with
      | psu j =>
        have hne : k ≠ j := fun e => (not_or.1 ho).2 (by rw [e])
        simp only [State.due, State.setPsu_budget, get_set_other _ _ hne]
      | _ => rfl }

/-! ### Charge accounting unit -/

theorem Inv.setCharge (h : Inv g s) {x : Charge} (hb : ∀ i : BbuId, BbuOk s.settings.bbus[i] x.bbus[i]) :
    Inv g (s.setCharge x) :=
  { h with link := h.link.of_same rfl rfl rfl, charge := hb }

theorem Inv.setBbu (h : Inv g s) {i : BbuId} {b : Bbu} (hb : BbuOk s.settings.bbus[i] b) : Inv g (s.setBbu i b) :=
  h.setCharge fun j => by
    rw [get_set]
    split
    · rename_i he
      subst he
      exact hb
    · exact h.charge j

/-- A BBU record whose counter stays. -/
theorem Inv.setBbu_same (h : Inv g s) {i : BbuId} {b : Bbu} (hq : b.q = s.charge.bbus[i].q) (hr : b.r = s.charge.bbus[i].r)
    (hfull : b.full = s.charge.bbus[i].full) : Inv g (s.setBbu i b) :=
  h.setBbu ⟨by rw [hq]; exact (h.charge i).q, by rw [hr]; exact (h.charge i).r, by rw [hfull, hq]; exact (h.charge i).full⟩

/-! ### Regulator -/

/-- The regulator takes a state, and its condition has yet to be reported. -/
theorem Inv.setRegulator (h : Inv g s) {x : Recharge} (hx : RegulatorOk s.settings.recharge x)
    (hcopy : x.lastHoldup = s.recharge.lastHoldup) (hon : x.state ≠ .off → g.leaving = true ∨ s.holdup.state = .online) :
    Inv { g with late := fun o => g.late o ∨ o = .recharge } (s.setRecharge x) :=
  { h with
    link := h.link.of_same rfl rfl rfl
    conditions := fun o ho => by
      refine (h.conditions o (not_or.1 ho).1).trans ?_
      cases o with
      | recharge => exact absurd rfl (not_or.1 ho).2
      | _ => rfl
    regulator := hx
    regulatorOn := hon
    regulatorCopy := hcopy.trans h.regulatorCopy }

/-- The regulator's fields under a state with the same condition. -/
theorem Inv.setRecharge (h : Inv g s) {x : Recharge} (hx : RegulatorOk s.settings.recharge x)
    (hcopy : x.lastHoldup = s.recharge.lastHoldup)
    (hcond : (x.state == .paused || x.state == .thermalHold) = (s.recharge.state == .paused || s.recharge.state == .thermalHold))
    (hon : x.state ≠ .off → s.recharge.state ≠ .off) : Inv g (s.setRecharge x) :=
  { h with
    link := h.link.of_same rfl rfl rfl
    conditions := fun o ho => by
      refine (h.conditions o ho).trans ?_
      cases o with
      | recharge => exact hcond.symm
      | _ => rfl
    regulator := hx
    regulatorOn := fun hne => h.regulatorOn (hon hne)
    regulatorCopy := hcopy.trans h.regulatorCopy }

/-! ### Holdup controller -/

/-- The holdup controller's fields under the state that stands. -/
theorem Inv.setHoldup (h : Inv g s) {x : Holdup} (hx : g.unkept = false → HoldupOk x) (hst : x.state = s.holdup.state) : Inv g (s.setHoldup x) :=
  { h with
    link := h.link.of_same rfl rfl rfl
    now := fun st e => hst.trans (h.now st e)
    conditions := fun o ho => by
      refine (h.conditions o ho).trans ?_
      cases o with
      | holdup => simp only [State.due, State.setHoldup_holdup, hst]
      | _ => rfl
    deficit := fun hd => (h.deficit hd).imp_right hst.trans
    regulatorOn := fun hd => (h.regulatorOn hd).imp_right hst.trans
    regulatorCopy := h.regulatorCopy.trans hst.symm
    holdup := hx
    holdupCopy := h.holdupCopy.trans hst.symm }

/-- A record that stays as open and as valid as it is (R76). -/
theorem Inv.setRecord (h : Inv g s) {r : Transfer} (hopen : r.isOpen = true → s.holdup.record.isOpen = true)
    (hvalid : r.isOpen = true → r.valid = s.holdup.record.valid) : Inv g (s.setHoldup { s.holdup with record := r }) :=
  h.setHoldup
    (fun hk => ⟨(h.holdup hk).settle, (h.holdup hk).collapse, (h.holdup hk).bridging, (h.holdup hk).event, fun ho =>
      ⟨((h.holdup hk).record (hopen ho)).1, (hvalid ho).trans ((h.holdup hk).record (hopen ho)).2⟩⟩) rfl

/-! ### Sequencer and shed controller -/

/-- The sequencer's fields that no law speaks of. -/
theorem Inv.setSeq (h : Inv g s) {x : Sequencer} (hslots : x.slots = s.seq.slots) (hqueue : x.queue = s.seq.queue)
    (hcopy : x.lastHoldup = s.seq.lastHoldup) : Inv g (s.setSeq x) := by
  obtain ⟨slots, queue, stagger, inhibit, lastH, lastHoldup, lastInhibit, lastReport, reports, onlineSeen, headSeen⟩ := x
  obtain rfl : slots = s.seq.slots := hslots
  obtain rfl : queue = s.seq.queue := hqueue
  obtain rfl : lastHoldup = s.seq.lastHoldup := hcopy
  exact
    { h with
      link := h.link.of_same rfl rfl rfl
      conditions := fun o ho => by
        refine (h.conditions o ho).trans ?_
        cases o <;> rfl }

theorem Inv.setShed (h : Inv g s) (x : Shed) : Inv g (s.setShed x) :=
  { h with
    link := h.link.of_same rfl rfl rfl
    conditions := fun o ho => by
      refine (h.conditions o ho).trans ?_
      cases o <;> rfl }

/-! ### Status line -/

/-- R135: a start that comes due takes up the slack of the watch. -/
theorem Inv.lineWatch (h : Inv { g with unwatched := true } s) : Inv g (lineWatch s) := by
  unfold Machine.lineWatch
  split
  · exact
      { h with
        link := h.link.of_same rfl rfl rfl
        conditions := fun o ho => by
          refine (h.conditions o ho).trans ?_
          cases o <;> rfl
        line := ⟨h.line.enabled, h.line.faultRun, h.line.cleanRun, h.line.faults, h.line.hold, h.line.wave⟩
        starts := fun _ _ => ⟨.inr rfl, fun _ _ => rfl⟩ }
  · rename_i hoff
    exact
      { h with
        link := h.link.of_same rfl rfl rfl
        starts := fun hm hw => ⟨(h.starts hm hw).1, fun _ hc => by
          by_contra hdue
          exact hoff (by simp [h.line.enabled, hm, hw, hc, hdue])⟩ }

/-! ### Slots -/

/-- The record of a slot that takes a state (R95). -/
def Slot.moved (x : Slot) (st : SlotState) : Slot :=
  { x with state := st, en := st.powered, adoptedOff := x.adoptedOff && st == .off }

theorem moveSlot_eq (n : SlotId) (st : SlotState) (upd : Slot → Slot) (s : State) :
    moveSlot n st upd s =
      Machine.lineWatch (reportCondition (causeSlot n) (st == .faulted) (s.setSlot n ((upd s.seq.slots[n]).moved st))) := rfl

theorem setSlot_slots (s : State) (n m : SlotId) (x : Slot) :
    (s.setSlot n x).seq.slots[m] = if n = m then x else s.seq.slots[m] := get_set _ _ _ _

/-- A slot outside the queue takes a record; `l` and `rest` are the slack that stays. -/
theorem Inv.setSlot (h : Inv g s) {n : SlotId} {x : Slot} (l : Option SlotId) (rest : List SlotId)
    (hg : g.loose = none ∨ g.loose = some n) (hl : l = none ∨ l = some n)
    (hrest : ∀ m ∈ g.toShed, m ∈ rest ∨ (m = n ∧ x.shut)) (hout : n ∉ s.seq.queue) (hx : SlotOk (l = some n) x)
    (hqueued : x.state = .queued → l = some n ∧ s.slotWet n = false)
    (hshut : s.seq.slots[n].shut → x.shut ∨ s.slotWetShed n = false)
    (hwarned : x.warned → x.reason.warns ∧
      (s.settings.slots[n].cls = .critical → g.promoted = some n ∨ x.reason = .manager))
    (hup : g.up n → s.seq.slots[n].keptUp → x.keptUp) :
    Inv { g with late := fun o => g.late o ∨ o = .slot n, loose := l, toShed := rest, unwatched := true } (s.setSlot n x) := by
  have hfilter (k : Option SlotId) (hk : k = none ∨ k = some n) : (s.seq.queue.filter fun m => k ≠ some m) = s.seq.queue := by
    refine List.filter_eq_self.2 fun m hm => ?_
    have hne : n ≠ m := fun e => hout (e ▸ hm)
    rcases hk with rfl | rfl <;> simp [hne]
  have hother {m : SlotId} (hm : n ≠ m) : l = some m ↔ g.loose = some m := by
    rcases hl with rfl | rfl <;> rcases hg with hg | hg <;> simp [hg, hm]
  exact
    { h with
      link := h.link.of_same rfl rfl rfl
      conditions := fun o ho => by
        refine (h.conditions o (not_or.1 ho).1).trans ?_
        cases o with
        | slot m =>
          have hne : n ≠ m := fun e => (not_or.1 ho).2 (by rw [e])
          simp only [State.due, setSlot_slots, if_neg hne]
        | _ => rfl
      slots := fun m => by
        rw [setSlot_slots]
        split
        · rename_i e
          subst e
          exact hx
        · rename_i hne
          have hm := h.slots m
          exact ⟨hm.en, hm.notice, hm.soak, hm.window, hm.hold, hm.drain, fun hst => (hm.pg hst).imp_left (hother hne).2⟩
      up := fun m hm => by
        refine ⟨(h.up m hm).1, ?_⟩
        rw [setSlot_slots]
        split
        · rename_i e
          subst e
          exact hup hm (h.up n hm).2
        · exact (h.up m hm).2
      warned := fun m => by
        rw [setSlot_slots]
        split
        · rename_i e
          subst e
          exact hwarned
        · exact h.warned m
      inQueue := fun m hm => by
        rw [setSlot_slots, if_neg (ne_of_mem_of_not_mem hm hout).symm]
        exact h.inQueue m hm
      queued := fun m => by
        rw [setSlot_slots]
        split
        · rename_i e
          subst e
          exact fun hst => .inl (hqueued hst).1
        · rename_i hne
          exact fun hst => (h.queued m hst).imp_left (hother hne).2
      order := by
        have := h.order
        rw [hfilter _ hg] at this
        exact (hfilter _ hl).symm ▸ this
      dryQueue := fun m => by
        rw [setSlot_slots]
        split
        · rename_i e
          subst e
          exact fun hst => .inr (hqueued hst).2
        · exact h.dryQueue m
      shut := fun m hm => by
        rw [setSlot_slots]
        split
        · rename_i e
          subst e
          rcases h.shut n hm with htoShed | hold
          · exact (hrest n htoShed).imp_right And.right
          · exact .inr ((hshut hold).resolve_right (by simp [show s.slotWetShed n = true from hm]))
        · rename_i hne
          exact (h.shut m hm).imp_left fun htoShed => (hrest m htoShed).resolve_right fun he => hne he.1.symm
      starts := fun hm hw => ⟨(h.starts hm hw).1, nofun⟩ }

/-- A slot's record under the state that stands. -/
theorem Inv.tweakSlot (h : Inv g s) {n : SlotId} {x : Slot} (hst : x.state = s.seq.slots[n].state)
    (hx : SlotOk (g.loose = some n) x) (hshut : s.seq.slots[n].shut → x.shut)
    (hwarned : x.warned → x.reason.warns ∧
      (s.settings.slots[n].cls = .critical → g.promoted = some n ∨ x.reason = .manager))
    (hup : g.up n → s.seq.slots[n].keptUp → x.keptUp) : Inv g (s.setSlot n x) := by
  have hstates (m : SlotId) : (s.setSlot n x).seq.slots[m].state = s.seq.slots[m].state := by
    rw [setSlot_slots]
    split
    · rename_i e
      subst e
      exact hst
    · rfl
  have hcontinuous : (s.setSlot n x).continuousCondition = s.continuousCondition := by
    simp only [State.continuousCondition, hstates]
    rfl
  exact
    { h with
      link := h.link.of_same rfl rfl rfl
      conditions := fun o ho => by
        refine (h.conditions o ho).trans ?_
        cases o with
        | slot m => simp only [State.due, hstates]
        | _ => rfl
      slots := fun m => by
        rw [setSlot_slots]
        split
        · rename_i e
          subst e
          exact hx
        · exact h.slots m
      up := fun m hm => by
        refine ⟨(h.up m hm).1, ?_⟩
        rw [setSlot_slots]
        split
        · rename_i e
          subst e
          exact hup hm (h.up n hm).2
        · exact (h.up m hm).2
      warned := fun m => by
        rw [setSlot_slots]
        split
        · rename_i e
          subst e
          exact hwarned
        · exact h.warned m
      inQueue := fun m hm => (hstates m).trans (h.inQueue m hm)
      queued := fun m hm => h.queued m ((hstates m).symm.trans hm)
      dryQueue := fun m hm => h.dryQueue m ((hstates m).symm.trans hm)
      shut := fun m hm => by
        rw [setSlot_slots]
        split
        · rename_i e
          subst e
          exact (h.shut n hm).imp_right hshut
        · exact h.shut m hm
      starts := fun hm hw => ⟨(h.starts hm hw).1, fun hu hc => (h.starts hm hw).2 hu (hcontinuous ▸ hc)⟩ }

/-- A slot outside the queue takes a state (R95, R107, R133); `l` and `rest` are the slack that stays. -/
theorem Inv.moveSlot (h : Inv g s) {n : SlotId} {st : SlotState} {upd : Slot → Slot} (l : Option SlotId) (rest : List SlotId)
    (hg : g.loose = none ∨ g.loose = some n) (hl : l = none ∨ l = some n)
    (hrest : ∀ m ∈ g.toShed, m ∈ rest ∨ (m = n ∧ ((upd s.seq.slots[n]).moved st).shut)) (hout : n ∉ s.seq.queue)
    (hx : SlotOk (l = some n) ((upd s.seq.slots[n]).moved st))
    (hqueued : st = .queued → l = some n ∧ s.slotWet n = false)
    (hshut : s.seq.slots[n].shut → ((upd s.seq.slots[n]).moved st).shut ∨ s.slotWetShed n = false)
    (hwarned : ((upd s.seq.slots[n]).moved st).warned → (upd s.seq.slots[n]).reason.warns ∧
      (s.settings.slots[n].cls = .critical → g.promoted = some n ∨ (upd s.seq.slots[n]).reason = .manager))
    (hup : g.up n → s.seq.slots[n].keptUp → ((upd s.seq.slots[n]).moved st).keptUp) :
    Inv { g with loose := l, toShed := rest } (moveSlot n st upd s) := by
  have hset := h.setSlot l rest hg hl hrest hout hx hqueued hshut hwarned hup
  have hreport := Inv.report (g := { g with loose := l, toShed := rest, unwatched := true }) (.slot n) hset (a := st == .faulted) (by
    simp only [State.due, setSlot_slots, if_pos]
    rfl)
  exact Inv.lineWatch (g := { g with loose := l, toShed := rest }) hreport

end Updates

end Sys2Proof.Machine
end

section
/-! PROOFS. The budget unit, the BBU outputs and the regulator keep the laws of a running part. -/

namespace Sys2Proof.Machine

section Budget

variable {g : Slack} {s : State}

theorem foldl_inv {α : Type} {f : State → α → State} {l : List α} (hf : ∀ t a, a ∈ l → Inv g t → Inv g (f t a)) (h : Inv g s) :
    Inv g (l.foldl f s) := by
  induction l generalizing s with
  | nil => exact h
  | cons a l ih => exact ih (fun t b hb => hf t b (List.mem_cons_of_mem a hb)) (hf s a List.mem_cons_self h)

theorem ite_inv {p : Prop} {_ : Decidable p} {t u : State} (ht : p → Inv g t) (hu : ¬ p → Inv g u) : Inv g (if p then t else u) := by
  split
  · exact ht ‹_›
  · exact hu ‹_›

/-- What is known of the holdup state is known again. -/
theorem Inv.recall {st : Option HoldupState} (h : Inv { g with now := st } s) (hg : ∀ x, g.now = some x → st = some x) : Inv g s :=
  { h with now := fun x hx => h.now x (hg x hx) }

theorem Inv.online_of_online (h : Inv g s) (ho : s.online = true) : Inv { g with now := some .online } s :=
  { h with
    now := fun x hx => by
      cases hx
      simpa [State.online] using ho }

/-! ### BBU outputs (R41, R81) -/

theorem driveBbu_inv (h : Inv g s) (i : BbuId) : Inv g (driveBbu i s) :=
  ite_inv (fun _ => h.setBbu_same rfl rfl rfl) fun _ => h

theorem driveBbus_inv (h : Inv g s) : Inv g (driveBbus s) := foldl_inv (fun _ i _ ht => driveBbu_inv ht i) h

@[simp] theorem driveBbu_recharge (i : BbuId) (s : State) : (driveBbu i s).recharge = s.recharge := by unfold driveBbu; split <;> rfl
@[simp] theorem driveBbu_holdup (i : BbuId) (s : State) : (driveBbu i s).holdup = s.holdup := by unfold driveBbu; split <;> rfl
@[simp] theorem driveBbu_budget (i : BbuId) (s : State) : (driveBbu i s).budget = s.budget := by unfold driveBbu; split <;> rfl
@[simp] theorem driveBbu_seq (i : BbuId) (s : State) : (driveBbu i s).seq = s.seq := by unfold driveBbu; split <;> rfl
@[simp] theorem driveBbus_recharge (s : State) : (driveBbus s).recharge = s.recharge :=
  foldl_keeps State.recharge _ (fun s i => driveBbu_recharge i s) _ s
@[simp] theorem driveBbus_holdup (s : State) : (driveBbus s).holdup = s.holdup :=
  foldl_keeps State.holdup _ (fun s i => driveBbu_holdup i s) _ s
@[simp] theorem driveBbus_budget (s : State) : (driveBbus s).budget = s.budget :=
  foldl_keeps State.budget _ (fun s i => driveBbu_budget i s) _ s
@[simp] theorem driveBbus_seq (s : State) : (driveBbus s).seq = s.seq :=
  foldl_keeps State.seq _ (fun s i => driveBbu_seq i s) _ s

/-- The regulator's record with its shares worked out (R81). -/
def Recharge.shared (x : Recharge) : Recharge := { x with shares := sharesOf x.members x.iSet }

theorem reshare_setRecharge (s : State) (x : Recharge) : reshare (s.setRecharge x) = driveBbus (s.setRecharge x.shared) := rfl

@[simp] theorem reshare_recharge (s : State) : (reshare s).recharge = s.recharge.shared := by simp [reshare, Recharge.shared]
@[simp] theorem reshare_holdup (s : State) : (reshare s).holdup = s.holdup := by simp [reshare]
@[simp] theorem reshare_budget (s : State) : (reshare s).budget = s.budget := by simp [reshare]
@[simp] theorem reshare_seq (s : State) : (reshare s).seq = s.seq := by simp [reshare]

/-- The regulator takes a state with its shares, and reports its condition (section 5.1). -/
theorem setRegulator_inv (h : Inv g s) {x : Recharge} (hx : RegulatorOk s.settings.recharge x.shared)
    (hcopy : x.lastHoldup = s.recharge.lastHoldup) (hon : x.state ≠ .off → g.leaving = true ∨ s.holdup.state = .online)
    {a : Bool} (ha : a = (x.state == .paused || x.state == .thermalHold)) :
    Inv g (reportCondition causeRecharge a (reshare (s.setRecharge x))) := by
  have hset := driveBbus_inv (h.setRegulator hx hcopy hon)
  exact Inv.report .recharge (reshare_setRecharge s x ▸ hset) (by
    simp only [ha, State.due, reshare_recharge, State.setRecharge_recharge]
    rfl)

/-- The regulator's record without a setpoint, as OFF and PAUSED have it. -/
def Recharge.stopped (x : Recharge) (st : RegState) : Recharge :=
  { x with state := st, iSet := 0, step := none, floorTimer := none, yielded := false }

theorem Recharge.stopped_ok (x : Recharge) (set : RechargeSettings) {st : RegState} (hst : st = .off ∨ st = .paused) :
    RegulatorOk set (x.stopped st).shared := by
  rcases hst with rfl | rfl <;>
    exact
      { shares := rfl
        yielded := fun h => by cases h
        step := rfl
        floorTimer := rfl
        idle := fun _ => rfl
        cruise := fun h => by cases h
        floor := fun h => by rcases h with h | h <;> cases h }

theorem enterPaused_eq (v : Int) (k : Byte) (s : State) :
    enterPaused v k s =
      raise causeRecharge v k (reportCondition causeRecharge true (reshare (s.setRecharge (s.recharge.stopped .paused)))) := rfl

theorem enterPaused_inv (h : Inv g s) (hon : g.leaving = true ∨ s.holdup.state = .online) (v : Int) (k : Byte) :
    Inv g (enterPaused v k s) := by
  rw [enterPaused_eq]
  have hset : Inv g (reportCondition causeRecharge true (reshare (s.setRecharge (s.recharge.stopped .paused)))) :=
    setRegulator_inv h (s.recharge.stopped_ok _ (.inr rfl)) rfl (fun _ => hon) rfl
  exact hset.raise _ _ _

/-! ### Deficit state -/

theorem setDeficit_inv (h : Inv g s) {x : Budget} (hpsus : x.psus = s.budget.psus)
    (htimer : x.timer.isSome = (x.deficit == .grace)) (hon : x.deficit ≠ .idle → g.leaving = true ∨ s.holdup.state = .online)
    {a : Bool} (ha : a = (x.deficit != .idle)) : Inv g (reportCondition causeDeficit a (s.setBudget x)) :=
  Inv.report .deficit (h.setDeficit hpsus htimer hon) ha

theorem enterGrace_inv (h : Inv g s) (hon : g.leaving = true ∨ s.holdup.state = .online) (v : Int) (k : Byte) :
    Inv g (enterGrace v k s) := by
  unfold enterGrace
  have hset := setDeficit_inv h (x := { s.budget with deficit := .grace, timer := some (s.settings.budget.grace * 100) })
    rfl rfl (fun _ => hon) (a := true) rfl
  exact hset.raise _ _ _

theorem endDeficit_inv (h : Inv g s) : Inv g (endDeficit s) :=
  setDeficit_inv h (x := { s.budget with deficit := .idle, timer := none }) rfl rfl (fun hne => absurd rfl hne) (a := false) rfl

theorem judgeDeficit_inv (h : Inv g s) (hon : g.leaving = true ∨ s.holdup.state = .online) : Inv g (judgeDeficit s) := by
  rcases judgeDeficit_cases s with e | ⟨-, -, e⟩ | ⟨-, -, -, e⟩ | ⟨-, -, e⟩ <;> rw [e]
  · exact h
  · exact enterGrace_inv h hon _ _
  · exact enterGrace_inv h hon _ _
  · exact endDeficit_inv h

theorem leaveDeficit_inv (h : Inv g s) : Inv g (leaveDeficit s) := (endDeficit_inv h).setBudget (fun _ => rfl) rfl rfl

/-! ### Headroom -/

theorem settleHeadroom_inv (h : Inv g s) : Inv g (settleHeadroom s) := h.setBudget (fun _ => rfl) rfl rfl

theorem recomputeCapacity_inv (h : Inv g s) : Inv g (recomputeCapacity s) := h.setBudget (fun _ => rfl) rfl rfl

theorem instructRegulator_inv (h : Inv g s) (hon : g.leaving = true ∨ s.holdup.state = .online) : Inv g (instructRegulator s) :=
  ite_inv (fun _ => enterPaused_inv h hon _ _) fun _ => h

/-- R26 to R32: a recompute keeps every law. -/
theorem recompute_inv (h : Inv g s) : Inv g (recompute s) := by
  rcases recompute_cases s with ⟨-, e⟩ | ⟨ho, e⟩ <;> rw [e]
  · exact settleHeadroom_inv h
  · have hon := h.online_of_online ho
    have hset := settleHeadroom_inv (instructRegulator_inv hon (.inr (hon.now _ rfl)))
    exact (judgeDeficit_inv hset (.inr (hset.now _ rfl))).recall fun x hx => by
      rw [← hon.now _ rfl, h.now x hx]

theorem reclassifyPsu_inv (h : Inv g s) (k : PsuId) : Inv g (reclassifyPsu k s) :=
  ite_inv (fun _ => h) fun _ => Inv.raise (Inv.report (.psu k) (h.setPsu k _) (by
    simp only [State.due, State.setPsu_budget, get_set_same])) _ _ _

theorem sampleBudget_inv (h : Inv g s) : Inv g (sampleBudget s) :=
  recompute_inv (recomputeCapacity_inv (foldl_inv (fun _ k _ ht => reclassifyPsu_inv ht k) h))

/-! ### Regulator -/

theorem recomputeIfSet_inv (h : Inv g s) (before : Nat) : Inv g (recomputeIfSet before s) :=
  ite_inv (fun _ => h) fun _ => recompute_inv h

/-- The order of the setpoints (R82). -/
theorem Inv.setpoints (h : Inv g s) :
    s.settings.recharge.iFloor ≤ s.settings.recharge.iStart ∧ s.settings.recharge.iStart ≤ s.settings.recharge.iMax := by
  obtain ⟨⟨-, -, -, -, -, -, ⟨-, -, -, -, -, -, -, hfloor, hstart, -⟩, -⟩, -⟩ := h.settings
  exact ⟨hfloor, hstart⟩

theorem Inv.setpoint_cruise (h : Inv g s) (hst : s.recharge.state = .cruise) :
    s.settings.recharge.iFloor ≤ s.recharge.iSet ∧ s.recharge.iSet ≤ s.settings.recharge.iMax := h.regulator.cruise hst

theorem regulatorOff_eq (s : State) :
    regulatorOff s = recomputeIfSet s.recharge.iSet
      (reportCondition causeRecharge false (reshare (s.setRecharge (s.recharge.stopped .off)))) := rfl

theorem regulatorOff_inv (h : Inv g s) : Inv g (regulatorOff s) := by
  rw [regulatorOff_eq]
  have hset : Inv g (reportCondition causeRecharge false (reshare (s.setRecharge (s.recharge.stopped .off)))) :=
    setRegulator_inv h (s.recharge.stopped_ok _ (.inl rfl)) rfl (fun hne => absurd rfl hne) rfl
  exact recomputeIfSet_inv hset _

/-- The regulator's record in CRUISE (R84). -/
def Recharge.cruising (x : Recharge) (iSet : Nat) (step : Timer) : Recharge :=
  { x with state := .cruise, iSet := iSet, step := step, floorTimer := none }

theorem enterCruise_eq (i : Nat) (s : State) :
    enterCruise i s = recomputeIfSet s.recharge.iSet
      (reportCondition causeRecharge false (reshare (s.setRecharge (s.recharge.cruising i s.stepTime)))) := rfl

theorem Recharge.cruising_ok (x : Recharge) {set : RechargeSettings} {i : Nat} {step : Timer} (hlow : set.iFloor ≤ i)
    (hhigh : i ≤ set.iMax) (hstep : step.isSome = true) : RegulatorOk set (x.cruising i step).shared where
  shares := rfl
  yielded _ := rfl
  step := hstep
  floorTimer := rfl
  idle h := by rcases h with h | h <;> cases h
  cruise _ := ⟨hlow, hhigh⟩
  floor h := by rcases h with h | h <;> cases h

theorem enterCruise_inv (h : Inv g s) (hon : g.leaving = true ∨ s.holdup.state = .online) {i : Nat}
    (hlow : s.settings.recharge.iFloor ≤ i) (hhigh : i ≤ s.settings.recharge.iMax) : Inv g (enterCruise i s) := by
  rw [enterCruise_eq]
  have hset : Inv g (reportCondition causeRecharge false (reshare (s.setRecharge (s.recharge.cruising i s.stepTime)))) :=
    setRegulator_inv h (s.recharge.cruising_ok hlow hhigh rfl) rfl (fun _ => hon) rfl
  exact recomputeIfSet_inv hset _

/-- The regulator's record at I_floor with its timers cancelled (R89). -/
def Recharge.heldBack (x : Recharge) (iFloor : Nat) : Recharge :=
  { x with state := .thermalHold, iSet := iFloor, step := none, floorTimer := none, yielded := false }

theorem Recharge.heldBack_ok (x : Recharge) (set : RechargeSettings) : RegulatorOk set (x.heldBack set.iFloor).shared where
  shares := rfl
  yielded h := by cases h
  step := rfl
  floorTimer := rfl
  idle h := by rcases h with h | h <;> cases h
  cruise h := by cases h
  floor _ := rfl

theorem enterThermal_eq (s : State) :
    enterThermal s = recomputeIfSet s.recharge.iSet (raise causeRecharge s.sourceTemp codeThermal
      (reportCondition causeRecharge true (reshare (s.setRecharge (s.recharge.heldBack s.settings.recharge.iFloor))))) := rfl

theorem enterThermal_inv (h : Inv g s) (hon : g.leaving = true ∨ s.holdup.state = .online) : Inv g (enterThermal s) := by
  rw [enterThermal_eq]
  have hset : Inv g (reportCondition causeRecharge true
      (reshare (s.setRecharge (s.recharge.heldBack s.settings.recharge.iFloor)))) :=
    setRegulator_inv h (s.recharge.heldBack_ok _) rfl (fun _ => hon) rfl
  exact recomputeIfSet_inv (hset.raise _ _ _) _

theorem pauseRegulator_inv (h : Inv g s) (hon : g.leaving = true ∨ s.holdup.state = .online) (k : Byte) :
    Inv g (pauseRegulator k s) := recomputeIfSet_inv (enterPaused_inv h hon _ _) _

theorem startRegulator_inv (h : Inv g s) (hon : g.leaving = true ∨ s.holdup.state = .online) : Inv g (startRegulator s) :=
  ite_inv (fun _ => regulatorOff_inv h) fun _ =>
    ite_inv (fun _ => pauseRegulator_inv h hon _) fun _ =>
      ite_inv (fun _ => enterThermal_inv h hon) fun _ => enterCruise_inv h hon h.setpoints.1 h.setpoints.2

/-- The regulator's fields that no law speaks of. -/
theorem Inv.tuneRecharge (h : Inv g s) {x : Recharge} (hstate : x.state = s.recharge.state) (hset : x.iSet = s.recharge.iSet)
    (hmembers : x.members = s.recharge.members) (hshares : x.shares = s.recharge.shares) (hstep : x.step = s.recharge.step)
    (hfloor : x.floorTimer = s.recharge.floorTimer) (hyield : x.yielded = true → s.recharge.yielded = true)
    (hcopy : x.lastHoldup = s.recharge.lastHoldup) : Inv g (s.setRecharge x) := by
  refine h.setRecharge ⟨?_, ?_, ?_, ?_, ?_, ?_, ?_⟩ hcopy (by rw [hstate]) (by rw [hstate]; exact id)
  · rw [hshares, hmembers, hset]
    exact h.regulator.shares
  · rw [hstate]
    exact fun hy => h.regulator.yielded (hyield hy)
  · rw [hstep, hstate]
    exact h.regulator.step
  · rw [hfloor, hstate]
    exact h.regulator.floorTimer
  · rw [hstate, hset]
    exact h.regulator.idle
  · rw [hstate, hset]
    exact h.regulator.cruise
  · rw [hstate, hset]
    exact h.regulator.floor

theorem setMembers_inv (h : Inv g s) (m : Vector Bool 4) : Inv g (reshare (s.setRecharge { s.recharge with members := m })) := by
  rw [reshare_setRecharge]
  obtain ⟨-, hyield, hstep, hfloor, hidle, hcruise, hhold⟩ := h.regulator
  exact driveBbus_inv (h.setRecharge ⟨rfl, hyield, hstep, hfloor, hidle, hcruise, hhold⟩ rfl rfl id)

/-- R80: the charging set alone, before what it starts or stops. -/
def takeSet (s : State) : State :=
  if s.chargingSet = s.recharge.members then s else reshare (s.setRecharge { s.recharge with members := s.chargingSet })

theorem formSet_eq (s : State) :
    formSet s =
      if memberCount s.chargingSet = 0 then
        (if (takeSet s).recharge.state = .off then takeSet s else regulatorOff (takeSet s))
      else if memberCount s.recharge.members = 0 ∧ (takeSet s).recharge.state = .off ∧ (takeSet s).recharge.lastHoldup = .online
        then startRegulator (takeSet s) else takeSet s := rfl

theorem takeSet_inv (h : Inv g s) : Inv g (takeSet s) := ite_inv (fun _ => h) fun _ => setMembers_inv h _

theorem formSet_inv (h : Inv g s) : Inv g (formSet s) := by
  rw [formSet_eq]
  have hset := takeSet_inv h
  exact ite_inv (fun _ => ite_inv (fun _ => hset) fun _ => regulatorOff_inv hset) fun _ =>
    ite_inv (fun hon => startRegulator_inv hset (.inr (hset.regulatorCopy.symm.trans hon.2.2))) fun _ => hset

theorem restartIfRoom_inv (h : Inv g s) (hon : s.recharge.state ≠ .off) : Inv g (restartIfRoom s) :=
  ite_inv (fun _ => startRegulator_inv h (h.regulatorOn hon)) fun _ => h

theorem tryYield_inv (h : Inv g s) : Inv g (tryYield s) := by
  rcases tryYield_cases s with e | ⟨need, -, hst, -, hlow, e⟩ <;> rw [e]
  · exact h
  refine recomputeIfSet_inv ?_ _
  rw [reshare_setRecharge]
  obtain ⟨-, hhigh⟩ := h.setpoint_cruise hst
  obtain ⟨hge, hle⟩ := yieldTo_bounds s need hlow.le
  obtain ⟨-, -, -, hfloor, -⟩ := h.regulator
  refine driveBbus_inv (h.setRecharge ⟨rfl, fun _ => hst, ?_, hfloor, ?_, fun _ => ⟨hge, hle.trans hhigh⟩, ?_⟩ rfl rfl id)
  · simp only [Recharge.shared, hst]
    rfl
  · simp [Recharge.shared, hst]
  · simp [Recharge.shared, hst]

theorem refreshRecharge_inv (h : Inv g s) : Inv g (refreshRecharge s) := h.tuneRecharge rfl rfl rfl rfl rfl rfl id rfl

theorem sampleRegulator_inv (h : Inv g s) : Inv g (sampleRegulator s) := by
  have hset := formSet_inv (refreshRecharge_inv h)
  unfold sampleRegulator
  simp only
  have hon (hst : (formSet (refreshRecharge s)).recharge.state ≠ .off) := hset.regulatorOn hst
  split
  · exact hset
  · exact ite_inv (fun _ => enterThermal_inv hset (hon (by simp [*]))) fun _ => hset
  · exact ite_inv (fun _ => enterThermal_inv hset (hon (by simp [*]))) fun _ => hset
  · exact restartIfRoom_inv hset (by simp [*])
  · exact ite_inv (fun _ => enterCruise_inv hset (hon (by simp [*])) le_rfl (hset.setpoints.1.trans hset.setpoints.2)) fun _ => hset

theorem regulatorHeadroom_inv (h : Inv g s) (p : Int) : Inv g (regulatorHeadroom p s) := by
  have hset : Inv g (s.setRecharge { s.recharge with lastH := p }) := h.tuneRecharge rfl rfl rfl rfl rfl rfl id rfl
  unfold regulatorHeadroom
  simp only [State.setRecharge_recharge]
  split
  · exact hset
  · exact hset
  · rename_i hst
    refine ite_inv (fun _ => enterCruise_inv hset (hset.regulatorOn (by simp [hst])) ?_ ?_) fun _ => hset
    · exact (hset.regulator.floor (.inl hst)).ge
    · exact (hset.regulator.floor (.inl hst)).le.trans (hset.setpoints.1.trans hset.setpoints.2)
  · exact restartIfRoom_inv hset (by simp [*])
  · exact tryYield_inv hset

theorem regulatorReserve_inv (h : Inv g s) (p : ReservePub) : Inv g (regulatorReserve p s) := by
  have hset : Inv g (formSet (s.setRecharge { s.recharge with lastBand := p.band, lastInhibit := p.inhibit })) :=
    formSet_inv (h.tuneRecharge rfl rfl rfl rfl rfl rfl id rfl)
  exact ite_inv (fun _ => tryYield_inv hset) fun _ => hset

theorem regulatorHead_inv (h : Inv g s) (head : Option Nat) : Inv g (regulatorHead head s) :=
  tryYield_inv (h.tuneRecharge rfl rfl rfl rfl rfl rfl (fun hy => (Bool.and_eq_true_iff.1 hy).1) rfl)

theorem stepRegulator_inv (h : Inv g s) (hst : s.recharge.state = .cruise) : Inv g (stepRegulator s) := by
  have hon := h.regulatorOn (by simp [hst])
  obtain ⟨hlow, hhigh⟩ := h.setpoint_cruise hst
  obtain ⟨hfs, hsm⟩ := h.setpoints
  refine ite_inv (fun _ => enterCruise_inv h hon ?_ ?_) fun _ =>
    ite_inv (fun _ => enterCruise_inv h hon hlow hhigh) fun _ =>
      ite_inv (fun _ => enterCruise_inv h hon (le_max_right _ _) ?_) fun hfloor => ?_
  · split
    · exact hlow
    · omega
  · split
    · exact hhigh
    · exact min_le_right _ _
  · omega
  · refine h.setRecharge ⟨h.regulator.shares, ?_, rfl, rfl, ?_, ?_, fun _ => by simp only; omega⟩ rfl (by rw [hst]; rfl) (by simp [hst])
    · simp
    · simp
    · simp

end Budget

end Sys2Proof.Machine
end

section
/-! PROOFS. The slot moves, the power-up queue and the sheds keep the laws of a running part. -/

namespace Sys2Proof.Machine

section Slots

variable {g : Slack} {s : State} {n : SlotId}

/-! ### What a move of one slot leaves alone -/

@[simp] theorem lineWatch_seq (s : State) : (lineWatch s).seq = s.seq := by unfold lineWatch; split <;> rfl
@[simp] theorem lineWatch_holdup (s : State) : (lineWatch s).holdup = s.holdup := by unfold lineWatch; split <;> rfl

theorem moveSlot_slots (n m : SlotId) (st : SlotState) (upd : Slot → Slot) (s : State) :
    (moveSlot n st upd s).seq.slots[m] = if n = m then (upd s.seq.slots[n]).moved st else s.seq.slots[m] := by
  rw [moveSlot_eq, lineWatch_seq, reportCondition_seq, setSlot_slots]

theorem moveSlot_queue (n : SlotId) (st : SlotState) (upd : Slot → Slot) (s : State) :
    (moveSlot n st upd s).seq.queue = s.seq.queue := by
  rw [moveSlot_eq, lineWatch_seq, reportCondition_seq]
  rfl

/-- A move reads the record that stands. -/
theorem moveSlot_setSlot (n : SlotId) (st : SlotState) (upd : Slot → Slot) (x : Slot) (s : State) :
    moveSlot n st upd (s.setSlot n x) = moveSlot n st (fun _ => upd x) s := by
  rw [moveSlot_eq, moveSlot_eq, setSlot_slots, if_pos rfl]
  simp only [State.setSlot, State.setSeq, Vector.set_set]

theorem setSlot_self (n : SlotId) (s : State) : s.setSlot n s.seq.slots[n] = s := by
  simp only [State.setSlot, State.setSeq, Fin.getElem_fin, Vector.set_getElem_self]

/-! ### Slots outside the queue -/

theorem Inv.out_of_queue (h : Inv g s) (hn : s.seq.slots[n].state ≠ .queued) : n ∉ s.seq.queue := fun hm => hn (h.inQueue n hm)

theorem Slot.not_shut_of_powered {x : Slot} (h : x.state.powered = true) : ¬ x.shut := by
  rintro (⟨h', -⟩ | h' | h') <;> simp [h', SlotState.powered] at h

/-- No timer runs and no notice stands. -/
structure Slot.still (x : Slot) : Prop where
  notice : x.notice = false
  soak : x.soak = none
  window : x.window = none
  hold : x.hold = none
  drain : x.drain = none

/-- The states without power and without a timer. -/
def SlotState.atRest : SlotState → Bool
  | .off | .queued | .faulted | .locked => true
  | _ => false

theorem SlotState.idle_timers {st : SlotState} (h : st.atRest = true ∨ st = .on) :
    (st == .soak) = false ∧ (st == .notice) = false ∧ (st == .held) = false ∧ (st == .draining) = false := by
  cases st <;> simp_all [SlotState.atRest]

theorem SlotOk.still {p : Prop} {x : Slot} (h : SlotOk p x) (hst : x.state.atRest = true ∨ x.state = .on) : x.still := by
  obtain ⟨hs, hn, hh, hd⟩ := SlotState.idle_timers hst
  exact
    { notice := by rw [h.notice, hn, hh]; rfl
      soak := Option.isSome_eq_false_iff.1 (h.soak.trans hs) |> Option.isNone_iff_eq_none.1
      window := Option.isSome_eq_false_iff.1 (h.window.trans hn) |> Option.isNone_iff_eq_none.1
      hold := Option.isSome_eq_false_iff.1 (h.hold.trans hh) |> Option.isNone_iff_eq_none.1
      drain := Option.isSome_eq_false_iff.1 (h.drain.trans hd) |> Option.isNone_iff_eq_none.1 }

/-- A still slot takes a state without power, or ON with PG high. -/
theorem Slot.still.moved_ok {x : Slot} (h : x.still) {p : Prop} {st : SlotState}
    (hst : st.atRest = true ∨ (st = .on ∧ x.pg = true)) : SlotOk p (x.moved st) := by
  obtain ⟨hs, hn, hh, hd⟩ := SlotState.idle_timers (hst.imp_right And.left)
  exact
    { en := rfl
      notice := h.notice.trans (by rw [show (x.moved st).state = st from rfl, hn, hh]; rfl)
      soak := (congrArg Option.isSome h.soak).trans hs.symm
      window := (congrArg Option.isSome h.window).trans hn.symm
      hold := (congrArg Option.isSome h.hold).trans hh.symm
      drain := (congrArg Option.isSome h.drain).trans hd.symm
      pg := fun hup => .inr (by
        rcases hst with hrest | ⟨-, hpg⟩
        · rcases hup with h | h | h | h <;> rw [show st = _ from h] at hrest <;> cases hrest
        · exact hpg) }

/-- R96: what the order of the queue orders. -/
theorem before_trans {s : State} {a b c : SlotId} (hab : s.before a b = true) (hbc : s.before b c = true) : s.before a c = true := by
  simp only [State.before, decide_eq_true_eq, Fin.lt_def] at *
  omega

theorem before_total {s : State} {a b : SlotId} (hne : a ≠ b) (h : s.before a b ≠ true) : s.before b a = true := by
  simp only [State.before, decide_eq_true_eq, Fin.lt_def, ne_eq, Fin.ext_iff] at *
  omega

theorem mem_insertSlot {before : SlotId → SlotId → Bool} {n m : SlotId} {l : List SlotId} :
    m ∈ insertSlot before n l ↔ m = n ∨ m ∈ l := by
  induction l with
  | nil => simp [insertSlot]
  | cons k ks ih =>
    unfold insertSlot
    split
    · simp
    · simp only [List.mem_cons, ih]
      tauto

/-- R96: a slot joins an ordered queue at its place. -/
theorem insertSlot_pairwise {l : List SlotId} (hl : l.Pairwise fun a b => s.before a b = true) (hn : n ∉ l) :
    (insertSlot s.before n l).Pairwise fun a b => s.before a b = true := by
  induction l with
  | nil => simp [insertSlot]
  | cons k ks ih =>
    obtain ⟨hk, hks⟩ := List.pairwise_cons.1 hl
    rw [List.mem_cons, not_or] at hn
    unfold insertSlot
    split
    · rename_i hb
      refine List.pairwise_cons.2 ⟨fun m hm => ?_, hl⟩
      rcases List.mem_cons.1 hm with rfl | hm
      · exact hb
      · exact before_trans hb (hk m hm)
    · rename_i hb
      refine List.pairwise_cons.2 ⟨fun m hm => ?_, ih hks hn.2⟩
      rcases mem_insertSlot.1 hm with rfl | hm
      · exact before_total hn.1 hb
      · exact hk m hm

theorem mem_leaveQueue {m : SlotId} : m ∈ (leaveQueue n s).seq.queue ↔ m ∈ s.seq.queue ∧ m ≠ n := by
  simp [leaveQueue]

/-- A slot leaves the queue, and its state is yet to follow. -/
theorem leaveQueue_inv (h : Inv g s) (hg : g.loose = none) (n : SlotId) : Inv { g with loose := some n } (leaveQueue n s) := by
  have horder := h.order
  simp only [hg, ne_eq, reduceCtorEq, not_false_eq_true, decide_true, List.filter_true] at horder
  exact
    { h with
      link := h.link.of_same rfl rfl rfl
      conditions := fun o ho => by
        refine (h.conditions o ho).trans ?_
        cases o <;> rfl
      slots := fun m => by
        have hm := h.slots m
        exact ⟨hm.en, hm.notice, hm.soak, hm.window, hm.hold, hm.drain, fun hst => (hm.pg hst).imp_left (by simp [hg])⟩
      inQueue := fun m hm => h.inQueue m (mem_leaveQueue.1 hm).1
      queued := fun m hm => by
        by_cases hn : n = m
        · exact .inl (by rw [hn])
        · exact .inr (mem_leaveQueue.2 ⟨(h.queued m hm).resolve_left (by simp [hg]), fun he => hn he.symm⟩)
      order := (horder.filter _).filter _ }

/-- A QUEUED slot takes its place (R96). -/
theorem joinQueue_inv (h : Inv { g with loose := some n } s) (hst : s.seq.slots[n].state = .queued) :
    Inv { g with loose := none } (joinQueue n s) := by
  have hmem {m : SlotId} : m ∈ (joinQueue n s).seq.queue ↔ m = n ∨ m ∈ s.seq.queue := by
    simp only [joinQueue, State.setSeq_seq, mem_insertSlot, List.mem_filter, decide_eq_true_eq]
    tauto
  exact
    { h with
      link := h.link.of_same rfl rfl rfl
      conditions := fun o ho => by
        refine (h.conditions o ho).trans ?_
        cases o <;> rfl
      slots := fun m => by
        have hm := h.slots m
        refine ⟨hm.en, hm.notice, hm.soak, hm.window, hm.hold, hm.drain, fun hup => (hm.pg hup).imp_left fun he => ?_⟩
        cases he
        rw [show (joinQueue n s).seq.slots[n].state = .queued from hst] at hup
        simp at hup
      inQueue := fun m hm => by
        rcases hmem.1 hm with rfl | hm
        · exact hst
        · exact h.inQueue m hm
      queued := fun m hm => by
        refine .inr (hmem.2 ?_)
        rcases h.queued m hm with he | hin
        · exact .inl (Option.some.inj he).symm
        · exact .inr hin
      order := by
        refine List.Pairwise.filter _ (insertSlot_pairwise ?_ (by simp))
        have horder := h.order
        have hsame : (s.seq.queue.filter fun m => decide (some n ≠ some m)) = s.seq.queue.filter fun m => decide (m ≠ n) :=
          List.filter_congr fun m _ => by simp [eq_comm]
        rw [hsame] at horder
        exact horder }

/-! ### Slack of slots -/

theorem Inv.reshed (h : Inv g s) {rest : List SlotId} (hrest : ∀ m ∈ g.toShed, m ∈ rest ∨ s.seq.slots[m].shut) :
    Inv { g with toShed := rest } s :=
  { h with
    shut := fun m hm => by
      rcases h.shut m hm with hin | hshut
      · exact hrest m hin
      · exact .inr hshut }

theorem Inv.relock (h : Inv g s) {rest : List SlotId} (hrest : ∀ m ∈ g.toLock, m ∈ rest ∨ s.seq.slots[m].state ≠ .queued) :
    Inv { g with toLock := rest } s :=
  { h with
    dryQueue := fun m hm => by
      rcases h.dryQueue m hm with hin | hdry
      · exact .inl ((hrest m hin).resolve_right fun hne => hne hm)
      · exact .inr hdry }

/-! ### Moves without power -/

/-- A slot that has been kept up and is no more. -/
theorem Inv.not_up (h : Inv g s) (hn : ¬ s.seq.slots[n].keptUp) : ¬ g.up n := fun hup => hn (h.up n hup).2

theorem Slot.not_keptUp {x : Slot} (h : x.state = .off ∨ x.state = .queued ∨ x.state = .soak ∨ x.state = .locked) : ¬ x.keptUp := by
  rintro ((h' | h' | h') | ⟨h', -⟩ | ⟨h', -⟩) <;> simp [h'] at h

/-- A slot outside the queue goes to OFF, FAULTED or LOCKED. -/
theorem moveToRest_inv (h : Inv g s) {st : SlotState} {upd : Slot → Slot} (rest : List SlotId)
    (hg : g.loose = none ∨ g.loose = some n) (hrest : ∀ m ∈ g.toShed, m ∈ rest ∨ (m = n ∧ st ≠ .off)) (hout : n ∉ s.seq.queue)
    (hstill : (upd s.seq.slots[n]).still) (hst : st = .off ∨ st = .faulted ∨ st = .locked)
    (hshut : s.seq.slots[n].shut → st ≠ .off ∨ s.slotWetShed n = false)
    (hup : g.up n → st = .faulted ∧ (upd s.seq.slots[n]).pg = false) :
    Inv { g with loose := none, toShed := rest } (moveSlot n st upd s) := by
  have hmoved (hne : st ≠ .off) : ((upd s.seq.slots[n]).moved st).shut := .inr (hst.resolve_left hne)
  refine h.moveSlot none rest hg (.inl rfl) (fun m hm => (hrest m hm).imp_right fun he => ⟨he.1, hmoved he.2⟩) hout
    (hstill.moved_ok ?_) ?_ (fun hs => (hshut hs).imp_left hmoved) ?_ ?_
  · rcases hst with rfl | rfl | rfl <;> exact .inl rfl
  · rintro rfl
    simp at hst
  · rintro (hw | hw) <;> rw [show st = _ from hw] at hst <;> simp at hst
  · intro hu _
    exact .inr (.inr (hup hu))

/-- Entering the queue, or LOCKED (R97). -/
theorem enterQueue_inv (h : Inv g s) (hg : g.loose = none)
    (hst : s.seq.slots[n].state = .off ∨ s.seq.slots[n].state = .faulted ∨ s.seq.slots[n].state = .locked) (hup : ¬ g.up n) :
    Inv g (enterQueue n s) := by
  have hout : n ∉ s.seq.queue := h.out_of_queue (by rcases hst with e | e | e <;> rw [e] <;> nofun)
  have hstill : s.seq.slots[n].still := (h.slots n).still (.inl (by rcases hst with e | e | e <;> rw [e] <;> rfl))
  have hstill' : ({ s.seq.slots[n] with restore := false } : Slot).still :=
    ⟨hstill.notice, hstill.soak, hstill.window, hstill.hold, hstill.drain⟩
  rcases enterQueue_cases n s with ⟨-, e⟩ | ⟨hdry, e⟩ <;> rw [e]
  · have hmove := moveToRest_inv h g.toShed (.inl hg) (fun m hm => .inl hm) hout (st := .locked)
      (upd := fun x => { x with restore := false }) hstill' (.inr (.inr rfl)) (fun _ => .inl nofun) (fun hu => (hup hu).elim)
    rwa [← hg] at hmove
  · have hdry' : s.slotWetShed n = false := by
      unfold State.slotWet at hdry
      unfold State.slotWetShed
      split at hdry <;> simp_all
    have hmove := h.moveSlot (st := .queued) (upd := fun x => { x with restore := false }) (some n) g.toShed (.inl hg) (.inr rfl)
      (fun m hm => .inl hm) hout (hstill'.moved_ok (.inl rfl)) (fun _ => ⟨rfl, hdry⟩) (fun _ => .inr hdry')
      (by rintro (hw | hw) <;> cases hw) (fun hu => (hup hu).elim)
    have hjoin := joinQueue_inv (g := g) hmove (by rw [moveSlot_slots, if_pos rfl]; rfl)
    rwa [← hg] at hjoin

/-! ### Grants and head reports -/

theorem sendReport_inv (h : Inv g s) : Inv g (sendReport s) := h.setSeq rfl rfl rfl

theorem reportHead_inv (h : Inv g s) : Inv g (reportHead s) := ite_inv (fun _ => h) fun _ => sendReport_inv h

/-- R101: the head leaves the queue for SOAK. -/
theorem grant_inv (h : Inv g s) (hg : g.loose = none) (hn : n ∈ s.seq.queue) : Inv g (grant n s) := by
  have hst := h.inQueue n hn
  have hleave := leaveQueue_inv h hg n
  have hstagger := hleave.setSeq (x := { (leaveQueue n s).seq with
    stagger := some (s.settings.sequence.staggerCount * s.settings.sequence.staggerUnit) }) rfl rfl rfl
  have hstill : s.seq.slots[n].still := (h.slots n).still (.inl (by rw [hst]; rfl))
  refine recompute_inv ?_
  have hmove := hstagger.moveSlot (n := n) (st := .soak)
    (upd := fun x => { x with soak := some (s.settings.slots[n].soak * 100) }) none g.toShed (.inr rfl) (.inl rfl)
    (fun m hm => .inl hm) (fun hm => (mem_leaveQueue.1 hm).2 rfl)
    ⟨rfl, hstill.notice, rfl, congrArg Option.isSome hstill.window, congrArg Option.isSome hstill.hold,
      congrArg Option.isSome hstill.drain, by rintro (h | h | h | h) <;> cases h⟩
    nofun ?_ (by rintro (h | h) <;> cases h) ?_
  · rwa [← hg] at hmove
  · rintro (⟨hs, -⟩ | hs | hs) <;> exact absurd (hst.symm.trans hs) nofun
  · exact fun _ hk => absurd hk (Slot.not_keptUp (.inr (.inl hst)))

theorem grantCheck_inv (h : Inv g s) (hg : g.loose = none) : Inv g (grantCheck s) := by
  rcases grantCheck_cases s with ⟨e, -⟩ | ⟨n, ns, hq, -, e⟩ <;> rw [e]
  · exact h
  · exact sendReport_inv (grant_inv h hg (by rw [hq]; exact List.mem_cons_self))

/-- R101, R102: an event of the sequencer. -/
theorem seqEvent_inv (h : Inv g s) (hg : g.loose = none) : Inv g (seqEvent s) := reportHead_inv (grantCheck_inv h hg)

theorem seqEventIf_inv (h : Inv g s) (hg : g.loose = none) (b : Bool) : Inv g (seqEventIf b s) :=
  ite_inv (fun _ => seqEvent_inv h hg) fun _ => h

/-- A record that changes only what no law of the slots speaks of. -/
theorem Inv.retouch (h : Inv g s) {x : Slot} (hstate : x.state = s.seq.slots[n].state) (hen : x.en = s.seq.slots[n].en)
    (hnotice : x.notice = s.seq.slots[n].notice) (hsoak : x.soak = s.seq.slots[n].soak)
    (hwindow : x.window = s.seq.slots[n].window) (hhold : x.hold = s.seq.slots[n].hold) (hdrain : x.drain = s.seq.slots[n].drain)
    (hpg : x.pg = s.seq.slots[n].pg) (hreason : x.reason = s.seq.slots[n].reason) : Inv g (s.setSlot n x) := by
  obtain ⟨sen, snotice, ssoak, swindow, shold, sdrain, spg⟩ := h.slots n
  refine h.tweakSlot hstate ⟨?_, ?_, ?_, ?_, ?_, ?_, ?_⟩ ?_ ?_ ?_
  · rw [hen, hstate, sen]
  · rw [hnotice, hstate, snotice]
  · rw [hsoak, hstate, ssoak]
  · rw [hwindow, hstate, swindow]
  · rw [hhold, hstate, shold]
  · rw [hdrain, hstate, sdrain]
  · rw [hstate, hpg]
    exact spg
  · unfold Slot.shut
    rw [hstate, hreason]
    exact id
  · unfold Slot.warned
    rw [hstate, hreason]
    exact h.warned n
  · unfold Slot.keptUp
    rw [hstate, hreason, hpg]
    exact fun _ => id

theorem restoreSlot_inv (h : Inv g s) (hg : g.loose = none) (n : SlotId) : Inv g (restoreSlot n s) := by
  refine ite_inv (fun hc => ite_inv (fun _ => ?_) fun _ => h.retouch rfl rfl rfl rfl rfl rfl rfl rfl rfl) fun _ => h
  simp only [Bool.and_eq_true, beq_iff_eq] at hc
  exact enterQueue_inv h hg (.inl hc.2) (h.not_up (Slot.not_keptUp (.inl hc.2)))

theorem handOver_inv (h : Inv g s) (hg : g.loose = none) (n : SlotId) : Inv g (handOver n s) :=
  ite_inv (fun _ => seqEvent_inv (restoreSlot_inv h hg n) hg) fun _ => h

/-! ### Drains -/

theorem completeDrain_cases (n : SlotId) (s : State) :
    (s.seq.slots[n].reason = .leak ∧ completeDrain n s =
      shiftSlot n .locked (fun x => { x.quit with reason := .leak, urgency := .immediate, restore := false }) s) ∨
    (s.seq.slots[n].reason ≠ .leak ∧ ∃ restore, completeDrain n s =
      handOver n (shiftSlot n .off (fun x => { x.noShed with restore := restore }) s)) := by
  cases hr : s.seq.slots[n].reason <;> unfold completeDrain <;> simp only [hr]
  case leak => exact .inl ⟨trivial, trivial⟩
  all_goals exact .inr ⟨nofun, _, rfl⟩

/-- R119: a drain ends in OFF, or in LOCKED for a leak. -/
theorem completeDrain_inv (h : Inv g s) (hg : g.loose = none ∨ g.loose = some n) (hst : s.seq.slots[n].state = .draining)
    (hup : ¬ g.up n) (rest : List SlotId) (hrest : ∀ m ∈ g.toShed, m ∈ rest ∨ (m = n ∧ s.seq.slots[n].reason = .leak)) :
    Inv { g with loose := none, toShed := rest } (completeDrain n s) := by
  have hout : n ∉ s.seq.queue := h.out_of_queue (by rw [hst]; nofun)
  have hsoak : s.seq.slots[n].soak = none :=
    Option.isNone_iff_eq_none.1 (Option.isSome_eq_false_iff.1 ((h.slots n).soak.trans (by rw [hst]; rfl)))
  rcases completeDrain_cases n s with ⟨hr, e⟩ | ⟨hr, restore, e⟩ <;> rw [e]
  · exact recompute_inv (moveToRest_inv h rest hg (fun m hm => (hrest m hm).imp_right fun he => ⟨he.1, nofun⟩) hout
      ⟨rfl, hsoak, rfl, rfl, rfl⟩ (.inr (.inr rfl)) (fun _ => .inl nofun) fun hu => (hup hu).elim)
  · refine handOver_inv (recompute_inv (moveToRest_inv h rest hg (fun m hm => .inl ?_) hout ⟨rfl, hsoak, rfl, rfl, rfl⟩
      (.inl rfl) (fun hs => ?_) fun hu => (hup hu).elim)) rfl n
    · exact (hrest m hm).resolve_right fun he => hr he.2
    · rcases hs with ⟨-, hl⟩ | hl | hl
      · exact absurd hl hr
      · exact absurd (hst.symm.trans hl) nofun
      · exact absurd (hst.symm.trans hl) nofun

end Slots



end Sys2Proof.Machine
end

section
/-! PROOFS. The sheds of section 7 and the moves of a slot on its own timers keep the laws of a running part. -/

namespace Sys2Proof.Machine

section Sheds

variable {g : Slack} {s : State} {n : SlotId}

/-- The reasons for which a CRITICAL slot may be shed (R112). -/
def ShedReason.sparesNone (r : ShedReason) : Prop := r = .manager ∨ r = .leak ∨ r = .blackout

/-- A shed that a class and an urgency allow (section 7.1): a CRITICAL slot only for a reason that spares none, and a warning only
for a reason that warns. -/
structure ShedFits (s : State) (n : SlotId) (r : ShedReason) (u : Urgency) : Prop where
  critical : s.settings.slots[n].cls = .critical → r.sparesNone
  warns : u ≠ .immediate → r.warns

theorem ShedFits.manager {r : ShedReason} {u : Urgency} (h : ShedFits s n r u) (hu : u ≠ .immediate)
    (hc : s.settings.slots[n].cls = .critical) : r = .manager := by
  rcases h.critical hc with e | e | e
  · exact e
  · subst e
    rcases h.warns hu with e | e | e | e <;> cases e
  · subst e
    rcases h.warns hu with e | e | e | e <;> cases e

theorem ShedFits.not_leak {u : Urgency} (h : ShedFits s n .leak u) : u = .immediate := by
  by_contra hu
  rcases h.warns hu with e | e | e | e <;> cases e

theorem ShedFits.of_settings {t : State} {r : ShedReason} {u : Urgency} (h : ShedFits s n r u) (ht : t.settings = s.settings) :
    ShedFits t n r u := ⟨ht ▸ h.critical, h.warns⟩

/-- The slot's record under the reason and urgency of a shed. -/
def Slot.shedFor (x : Slot) (r : ShedReason) (u : Urgency) : Slot := { x with reason := r, urgency := u }

/-! ### Entry to DRAINING (R118) -/

/-- A slot with power enters DRAINING; with PG low it completes at once. -/
theorem drain_inv (h : Inv g s) (hg : g.loose = none) (hst : s.seq.slots[n].state.powered = true) {r : ShedReason} {u : Urgency}
    (rest : List SlotId) (hrest : ∀ m ∈ g.toShed, m ∈ rest ∨ (m = n ∧ r = .leak))
    (hup : g.up n → s.seq.slots[n].keptUp → r.sparesNone) :
    Inv { g with toShed := rest } (enterDraining n (s.setSlot n (s.seq.slots[n].shedFor r u))) := by
  have hout : n ∉ s.seq.queue := h.out_of_queue fun e => by rw [e] at hst; cases hst
  unfold enterDraining
  rw [moveSlot_setSlot]
  generalize hupd : (fun _ : Slot => ({ (s.seq.slots[n].shedFor r u).quit with
    soak := none, drain := some ((s.setSlot n (s.seq.slots[n].shedFor r u)).settings.slots[n].drainLimit * 1000) } : Slot)) = upd
  have hx : (upd s.seq.slots[n]).moved .draining = { (s.seq.slots[n].shedFor r u).quit with
      state := .draining, en := false, adoptedOff := (upd s.seq.slots[n]).adoptedOff && false, soak := none,
      drain := some ((s.setSlot n (s.seq.slots[n].shedFor r u)).settings.slots[n].drainLimit * 1000) } := by
    subst hupd
    rfl
  have hmove (l : Option SlotId) (hl : l = none ∨ l = some n) (hpg : l = some n ∨ s.seq.slots[n].pg = true)
      (keep : List SlotId) (hkeep : ∀ m ∈ g.toShed, m ∈ keep ∨ (m = n ∧ r = .leak)) :
      Inv { g with loose := l, toShed := keep } (moveSlot n .draining upd s) := by
    refine h.moveSlot l keep (.inl hg) hl (fun m hm => (hkeep m hm).imp_right fun he => ⟨he.1, .inl ?_⟩) hout ?_ nofun
      (fun hs => absurd hs (Slot.not_shut_of_powered hst)) ?_ ?_
    · rw [hx]
      exact ⟨rfl, he.2⟩
    · rw [hx]
      exact ⟨rfl, rfl, rfl, rfl, rfl, rfl, fun _ => hpg⟩
    · rintro (hw | hw) <;> cases hw
    · intro hu hk
      rw [hx]
      exact .inr (.inl ⟨rfl, hup hu hk⟩)
  have hstate : (moveSlot n .draining upd s).seq.slots[n].state = .draining := by
    rw [moveSlot_slots, if_pos rfl]
    rfl
  have hreason : (moveSlot n .draining upd s).seq.slots[n].reason = r := by
    rw [moveSlot_slots, if_pos rfl, hx]
    rfl
  have hslotpg : (moveSlot n .draining upd s).seq.slots[n].pg = s.seq.slots[n].pg := by
    rw [moveSlot_slots, if_pos rfl, hx]
    rfl
  rcases settleDrain_cases n (moveSlot n .draining upd s) with ⟨hpg, e⟩ | ⟨hpg, e⟩ <;> rw [e]
  · have hdone := recompute_inv (hmove none (.inl rfl) (.inr (hslotpg ▸ hpg)) rest hrest)
    rwa [← hg] at hdone
  · have hmid := hmove (some n) (.inr rfl) (.inl rfl) g.toShed fun m hm => .inl hm
    have hnot : ¬ g.up n := by
      intro hu
      have hk := (h.up n hu).2
      have hsoak : s.seq.slots[n].state = .soak := by
        by_contra hne
        have hon : s.seq.slots[n].state = .on ∨ s.seq.slots[n].state = .notice ∨ s.seq.slots[n].state = .held ∨
            s.seq.slots[n].state = .draining := by
          revert hst hne
          cases s.seq.slots[n].state <;> simp [SlotState.powered]
        have := ((h.slots n).pg hon).resolve_left (by simp [hg])
        rw [hslotpg, this] at hpg
        cases hpg
      exact Slot.not_keptUp (.inr (.inr (.inl hsoak))) hk
    have hdone := completeDrain_inv hmid (.inr rfl) hstate hnot rest fun m hm => (hrest m hm).imp_right fun he => ⟨he.1, hreason.trans he.2⟩
    rwa [← hg] at hdone

/-- A drain for the reason that stands. -/
theorem enterDraining_inv (h : Inv g s) (hg : g.loose = none) (hst : s.seq.slots[n].state.powered = true)
    (hup : g.up n → s.seq.slots[n].keptUp → s.seq.slots[n].reason.sparesNone) : Inv g (enterDraining n s) := by
  have hd := drain_inv (u := s.seq.slots[n].urgency) h hg hst g.toShed (fun m hm => .inl hm) hup
  rwa [show s.seq.slots[n].shedFor s.seq.slots[n].reason s.seq.slots[n].urgency = s.seq.slots[n] from rfl, setSlot_self] at hd

/-! ### One shed (R113 to R115) -/

theorem unpowerSlot_inv (h : Inv g s) (hg : g.loose = none ∨ g.loose = some n) (hout : n ∉ s.seq.queue)
    (hst : s.seq.slots[n].state = .off ∨ s.seq.slots[n].state = .queued) (r : ShedReason) (rest : List SlotId)
    (hrest : ∀ m ∈ g.toShed, m ∈ rest ∨ (m = n ∧ r = .leak)) :
    Inv { g with loose := none, toShed := rest } (unpowerSlot n r s) := by
  obtain ⟨hnotice, hsoak, hwindow, hhold, hdrain⟩ : s.seq.slots[n].still :=
    (h.slots n).still (.inl (by rcases hst with e | e <;> rw [e] <;> rfl))
  have hup : ¬ g.up n := h.not_up (Slot.not_keptUp (by rcases hst with e | e <;> simp only [e, true_or, or_true]))
  have hshut : ¬ s.seq.slots[n].shut := by
    rintro (⟨hs, -⟩ | hs | hs) <;> rcases hst with e | e <;> exact absurd (e.symm.trans hs) nofun
  have hoff (hr : r ≠ .leak) (upd : Slot → Slot) (hstill : (upd s.seq.slots[n]).still) :
      Inv { g with loose := none, toShed := rest } (moveSlot n .off upd s) :=
    moveToRest_inv h rest hg (fun m hm => .inl ((hrest m hm).resolve_right fun he => hr he.2)) hout hstill (.inl rfl)
      (fun hs => absurd hs hshut) fun hu => (hup hu).elim
  unfold unpowerSlot
  split
  · exact moveToRest_inv h rest hg (fun m hm => (hrest m hm).imp_right fun he => ⟨he.1, nofun⟩) hout
      ⟨hnotice, hsoak, hwindow, hhold, hdrain⟩ (.inr (.inr rfl)) (fun hs => absurd hs hshut) fun hu => (hup hu).elim
  · exact hoff nofun _ ⟨hnotice, hsoak, hwindow, hhold, hdrain⟩
  · exact hoff (by assumption) _ ⟨hnotice, hsoak, hwindow, hhold, hdrain⟩

theorem handOverFor_inv (h : Inv g s) (hg : g.loose = none) (n : SlotId) (r : ShedReason) : Inv g (handOverFor n r s) :=
  ite_inv (fun _ => handOver_inv h hg n) fun _ => h

theorem shedUnpowered_inv (h : Inv g s) (hg : g.loose = none)
    (hst : s.seq.slots[n].state = .off ∨ s.seq.slots[n].state = .queued) (r : ShedReason) (rest : List SlotId)
    (hrest : ∀ m ∈ g.toShed, m ∈ rest ∨ (m = n ∧ r = .leak)) : Inv { g with toShed := rest } (shedUnpowered n r s) := by
  have hleave := leaveQueue_inv h hg n
  have hmove := unpowerSlot_inv hleave (.inr rfl) (fun hm => (mem_leaveQueue.1 hm).2 rfl) hst r rest hrest
  have hdone := handOverFor_inv (seqEventIf_inv hmove rfl (s.seq.slots[n].state == .queued)) rfl n r
  rwa [← hg] at hdone

theorem shedSoak_inv (h : Inv g s) (hg : g.loose = none) (hst : s.seq.slots[n].state = .soak) (r : ShedReason) (u : Urgency)
    (rest : List SlotId) (hrest : ∀ m ∈ g.toShed, m ∈ rest ∨ (m = n ∧ r = .leak)) :
    Inv { g with toShed := rest } (shedSoak n r u s) :=
  seqEvent_inv (drain_inv h hg (by rw [hst]; rfl) rest hrest fun _ hk =>
    absurd hk (Slot.not_keptUp (.inr (.inr (.inl hst))))) hg

theorem Inv.up_critical (h : Inv g s) (hu : g.up n) : s.settings.slots[n].cls = .critical := (h.up n hu).1

theorem shedOn_inv (h : Inv g s) (hg : g.loose = none) (hst : s.seq.slots[n].state = .on) {r : ShedReason} {u : Urgency}
    (hfits : ShedFits s n r u) (rest : List SlotId) (hrest : ∀ m ∈ g.toShed, m ∈ rest ∨ (m = n ∧ r = .leak)) :
    Inv { g with toShed := rest } (shedOn n r u s) := by
  have hpowered : s.seq.slots[n].state.powered = true := by rw [hst]; rfl
  refine ite_inv (fun _ => drain_inv h hg hpowered rest hrest fun hu _ => hfits.critical (h.up_critical hu)) fun hu => ?_
  obtain ⟨-, hsoak, -, hhold, hdrain⟩ : s.seq.slots[n].still := (h.slots n).still (.inr hst)
  have hpg := ((h.slots n).pg (.inl hst)).resolve_left (by simp [hg])
  refine recompute_inv ?_
  have hmove := h.moveSlot (n := n) (st := .notice)
    (upd := fun x => { x with
      reason := r, urgency := u, notice := true, window := some (s.settings.sequence.noticeWindow * 10) })
    none rest (.inl hg) (.inl rfl) (fun m hm => .inl ((hrest m hm).resolve_right fun he => ?_))
    (h.out_of_queue (by rw [hst]; nofun))
    ⟨rfl, rfl, congrArg Option.isSome hsoak, rfl, congrArg Option.isSome hhold, congrArg Option.isSome hdrain, fun _ => .inr hpg⟩
    nofun (fun hs => absurd hs (Slot.not_shut_of_powered hpowered))
    (fun _ => ⟨hfits.warns hu, fun hc => .inr (hfits.manager hu hc)⟩) fun _ _ => .inl (.inr (.inl rfl))
  · rwa [← hg] at hmove
  · obtain ⟨-, rfl⟩ := he
    exact hu hfits.not_leak

/-- R115: the new reason and urgency of a shed in flight that stays where it is. -/
theorem reshedSlot_inv (h : Inv g s) (hst : s.seq.slots[n].state.inFlight = true) (hleak : s.seq.slots[n].reason ≠ .leak)
    {r : ShedReason} {u : Urgency} (hwarn : s.seq.slots[n].warned → r.warns)
    (hcrit : s.settings.slots[n].cls = .critical → r.sparesNone) (rest : List SlotId)
    (hrest : ∀ m ∈ g.toShed, m ∈ rest ∨ (m = n ∧ r = .leak)) :
    Inv { g with toShed := rest } (s.setSlot n (s.seq.slots[n].shedFor r u)) := by
  have hmanager (hw : s.seq.slots[n].warned) (hc : s.settings.slots[n].cls = .critical) : r = .manager := by
    rcases hcrit hc with e | rfl | rfl
    · exact e
    · rcases hwarn hw with e | e | e | e <;> cases e
    · rcases hwarn hw with e | e | e | e <;> cases e
  have hset : Inv g (s.setSlot n (s.seq.slots[n].shedFor r u)) := by
    obtain ⟨hen, hnotice, hsoak, hwindow, hhold, hdrain, hpg⟩ := h.slots n
    refine h.tweakSlot rfl ⟨hen, hnotice, hsoak, hwindow, hhold, hdrain, hpg⟩ ?_ (fun hw => ⟨hwarn hw, fun hc => .inr (hmanager hw hc)⟩) ?_
    · rintro (⟨-, he⟩ | he | he)
      · exact absurd he hleak
      · rw [he] at hst
        cases hst
      · rw [he] at hst
        cases hst
    · rintro hu (hk | ⟨hk, -⟩ | hk)
      · exact .inl hk
      · exact .inr (.inl ⟨hk, hcrit (h.up_critical hu)⟩)
      · exact .inr (.inr hk)
  refine hset.reshed fun m hm => (hrest m hm).imp_right ?_
  rintro ⟨rfl, rfl⟩
  rw [setSlot_slots, if_pos rfl]
  refine .inl ⟨?_, rfl⟩
  show s.seq.slots[m].state = .draining
  by_contra hne
  have hw : s.seq.slots[m].warned := by
    unfold Slot.warned
    revert hst hne
    cases s.seq.slots[m].state <;> simp [SlotState.inFlight]
  rcases hwarn hw with e | e | e | e <;> cases e

theorem escalate_cases (n : SlotId) (u : Urgency) (s : State) :
    (s.seq.slots[n].warned ∧ escalate n u s = enterDraining n s) ∨
    (¬ (s.seq.slots[n].warned ∧ u = .immediate) ∧ escalate n u s = s) := by
  unfold escalate
  split
  · rename_i hst
    exact .inl ⟨.inl hst, rfl⟩
  · rename_i hst
    exact .inl ⟨.inr hst, rfl⟩
  · rename_i hst
    exact .inl ⟨.inr hst, rfl⟩
  · rename_i hnot _ hheld
    refine .inr ⟨?_, rfl⟩
    rintro ⟨hw | hw, rfl⟩
    · exact hnot hw rfl
    · exact hheld hw rfl

theorem shedInFlight_inv (h : Inv g s) (hg : g.loose = none) (hst : s.seq.slots[n].state.inFlight = true) {r : ShedReason}
    {u : Urgency} (hfits : ShedFits s n r u) (rest : List SlotId) (hrest : ∀ m ∈ g.toShed, m ∈ rest ∨ (m = n ∧ r = .leak)) :
    Inv { g with toShed := rest } (shedInFlight n r u s) := by
  unfold shedInFlight
  simp only
  refine ite_inv (fun hleak => h.reshed fun m hm => (hrest m hm).imp_right ?_) fun hleak =>
    ite_inv (fun hle => ?_) fun hle => ite_inv (fun hm => ?_) fun _ => h.reshed fun m hm => (hrest m hm).imp_right ?_
  · rintro ⟨rfl, -⟩
    refine .inl ⟨?_, hleak⟩
    by_contra hne
    have hw : s.seq.slots[m].warned := by
      unfold Slot.warned
      revert hst hne
      cases s.seq.slots[m].state <;> simp [SlotState.inFlight]
    rcases (h.warned m hw).1 with e | e | e | e <;> exact absurd (hleak.symm.trans e) nofun
  · have hslot : (s.setSlot n (s.seq.slots[n].shedFor r u)).seq.slots[n] = s.seq.slots[n].shedFor r u := by
      rw [setSlot_slots, if_pos rfl]
    rcases escalate_cases n u (s.setSlot n (s.seq.slots[n].shedFor r u)) with ⟨hw, e⟩ | ⟨hw, e⟩
    · have hpowered : s.seq.slots[n].state.powered = true := by
        rw [hslot] at hw
        rcases hw with hw | hw <;> rw [show s.seq.slots[n].state = _ from hw] <;> rfl
      exact e ▸ drain_inv h hg hpowered rest hrest fun hu _ => hfits.critical (h.up_critical hu)
    · rw [hslot] at hw
      have hstay := reshedSlot_inv (u := u) h hst hleak (fun hwarn => hfits.warns fun hu => hw ⟨hwarn, hu⟩) hfits.critical rest hrest
      exact (congrArg (Inv _) e).mpr hstay
  · obtain ⟨rfl, -⟩ := hm
    exact reshedSlot_inv (u := s.seq.slots[n].urgency) h hst hleak (fun _ => .inl rfl) (fun _ => .inl rfl) rest hrest
  · rintro ⟨rfl, rfl⟩
    refine absurd ?_ hle
    rw [hfits.not_leak]
    cases s.seq.slots[m].urgency <;> decide

/-- R112 to R115: a shed of one slot. -/
theorem shedSlot_inv (h : Inv g s) (hg : g.loose = none) {r : ShedReason} {u : Urgency} (hfits : ShedFits s n r u)
    (rest : List SlotId) (hrest : ∀ m ∈ g.toShed, m ∈ rest ∨ (m = n ∧ r = .leak)) :
    Inv { g with toShed := rest } (shedSlot n r u s) := by
  have hflight (hst : s.seq.slots[n].state.inFlight = true) := shedInFlight_inv h hg hst hfits rest hrest
  have hdead (hst : s.seq.slots[n].state = .faulted ∨ s.seq.slots[n].state = .locked) :
      Inv { g with toShed := rest } (if r = .leak then s.setSlot n { s.seq.slots[n] with reason := .leak } else s) := by
    have hwarned : ¬ s.seq.slots[n].warned := by
      rintro (he | he) <;> rcases hst with e | e <;> exact absurd (e.symm.trans he) nofun
    refine ite_inv (fun hr => ?_) fun hr => h.reshed fun m hm => .inl ((hrest m hm).resolve_right fun he => hr he.2)
    obtain ⟨hen, hnotice, hsoak, hwindow, hhold, hdrain, hpg⟩ := h.slots n
    have hset : Inv g (s.setSlot n { s.seq.slots[n] with reason := .leak }) := by
      refine h.tweakSlot rfl ⟨hen, hnotice, hsoak, hwindow, hhold, hdrain, hpg⟩ (fun _ => .inr hst) (fun hw => absurd hw hwarned) ?_
      rintro - (hk | ⟨hk, -⟩ | hk)
      · exact .inl hk
      · rcases hst with e | e <;> exact absurd (e.symm.trans hk) nofun
      · exact .inr (.inr hk)
    refine hset.reshed fun m hm => (hrest m hm).imp_right ?_
    rintro ⟨rfl, -⟩
    rw [setSlot_slots, if_pos rfl]
    exact .inr hst
  unfold shedSlot
  split
  case h_1 hst => exact shedUnpowered_inv h hg (.inl hst) r rest hrest
  case h_2 hst => exact shedUnpowered_inv h hg (.inr hst) r rest hrest
  case h_3 hst => exact shedSoak_inv h hg hst r u rest hrest
  case h_4 hst => exact shedOn_inv h hg hst hfits rest hrest
  case h_5 hst => exact hflight (by rw [hst]; rfl)
  case h_6 hst => exact hflight (by rw [hst]; rfl)
  case h_7 hst => exact hflight (by rw [hst]; rfl)
  case h_8 hst => exact hdead (.inl hst)
  case h_9 hst => exact hdead (.inr hst)

/-! ### Sheds of many slots -/

theorem shedSlot_settings (n : SlotId) (r : ShedReason) (u : Urgency) (s : State) : (shedSlot n r u s).settings = s.settings :=
  base_settings (shedSlot_base n r u s)

theorem shedSlots_inv (h : Inv g s) (hg : g.loose = none) {r : ShedReason} {u : Urgency} {l : List SlotId}
    (hfits : ∀ n ∈ l, ShedFits s n r u) : Inv g (l.foldl (fun s n => shedSlot n r u s) s) := by
  induction l generalizing s with
  | nil => exact h
  | cons n l ih =>
    have hone := shedSlot_inv h hg (hfits n List.mem_cons_self) g.toShed fun m hm => .inl hm
    exact ih hone fun m hm => (hfits m (List.mem_cons_of_mem n hm)).of_settings (shedSlot_settings n r u s)

/-- R123: a shed by class spares the CRITICAL slots. -/
theorem shedClass_inv (h : Inv g s) (hg : g.loose = none) {r : ShedReason} {k : Nat} {u : Urgency} (hk : 1 ≤ k) (hr : r.warns) :
    Inv g (shedClass r k u s) := by
  refine shedSlots_inv h hg fun n hn => ⟨fun hc => ?_, fun _ => hr⟩
  simp only [State.classGroup, List.mem_filter, Bool.and_eq_true, decide_eq_true_eq] at hn
  have hle := hn.2.1
  rw [hc] at hle
  exact absurd hle (by simp only [SlotClass.level]; omega)

/-- R124: the blackout shed. -/
theorem shedAll_inv (h : Inv g s) (hg : g.loose = none) : Inv g (shedAll s) :=
  shedSlots_inv h hg fun _ _ => ⟨fun _ => .inr (.inr rfl), fun hu => absurd rfl hu⟩

/-- R124: the leak shed leaves no slot of the zone to shed. -/
theorem shedZone_inv {z : ZoneId} (h : Inv { g with toShed := s.zoneSlots z } s) (hg : g.loose = none) (ht : g.toShed = []) :
    Inv g (shedZone z s) := by
  unfold shedZone
  revert h
  generalize s.zoneSlots z = l
  intro h
  induction l generalizing s with
  | nil => rwa [← ht] at h
  | cons n l ih =>
    refine ih (shedSlot_inv h hg ⟨fun _ => .inr (.inl rfl), fun hu => absurd rfl hu⟩ l fun m hm => ?_)
    rcases List.mem_cons.1 hm with rfl | hm
    · exact .inr ⟨rfl, rfl⟩
    · exact .inl hm

/-- R97: one QUEUED slot of a WET zone leaves the queue for LOCKED. -/
def lockSlot (s : State) (n : SlotId) : State := moveSlot n .locked (fun x => { x with restore := false }) (leaveQueue n s)

theorem lockSlot_inv (h : Inv g s) (hg : g.loose = none) (hst : s.seq.slots[n].state = .queued) : Inv g (lockSlot s n) := by
  obtain ⟨hnotice, hsoak, hwindow, hhold, hdrain⟩ := (h.slots n).still (.inl (by rw [hst]; rfl))
  have hmove := moveToRest_inv (leaveQueue_inv h hg n) (st := .locked) (upd := fun x => { x with restore := false }) g.toShed (.inr rfl)
    (fun m hm => .inl hm) (fun hm => (mem_leaveQueue.1 hm).2 rfl) ⟨hnotice, hsoak, hwindow, hhold, hdrain⟩ (.inr (.inr rfl))
    (fun _ => .inl nofun) fun hu => absurd hu (h.not_up (Slot.not_keptUp (.inr (.inl hst))))
  rwa [← hg] at hmove

theorem lockSlot_slots (s : State) (n m : SlotId) :
    (lockSlot s n).seq.slots[m].state = if n = m then .locked else s.seq.slots[m].state := by
  unfold lockSlot
  rw [moveSlot_slots]
  split <;> rfl

theorem lockSlots_inv {l : List SlotId} (h : Inv { g with toLock := l } s) (hg : g.loose = none) (ht : g.toLock = [])
    (hst : ∀ n ∈ l, s.seq.slots[n].state = .queued) (hl : l.Nodup) : Inv g (l.foldl lockSlot s) := by
  induction l generalizing s with
  | nil => rwa [← ht] at h
  | cons n l ih =>
    rw [List.nodup_cons] at hl
    have hone := (lockSlot_inv h hg (hst n List.mem_cons_self)).relock (rest := l) fun m hm => by
      rcases List.mem_cons.1 hm with rfl | hm
      · refine .inr ?_
        rw [lockSlot_slots, if_pos rfl]
        nofun
      · exact .inl hm
    refine ih hone (fun m hm => ?_) hl.2
    rw [lockSlot_slots, if_neg (ne_of_mem_of_not_mem hm hl.1).symm]
    exact hst m (List.mem_cons_of_mem n hm)

theorem slotIds_nodup : slotIds.Nodup := by decide

theorem mem_slotIds (n : SlotId) : n ∈ slotIds := by revert n; decide

theorem mem_zoneSlots {z : ZoneId} : n ∈ s.zoneSlots z ↔ s.settings.slots[n].zone = some z := by
  simp [State.zoneSlots, mem_slotIds]

/-- R97: a zone that has entered WET keeps no slot in the queue. -/
theorem lockZone_inv {z : ZoneId} (h : Inv { g with toLock := s.zoneSlots z } s) (hg : g.loose = none) (ht : g.toLock = []) :
    Inv g (lockZone z s) := by
  have hqueued : Inv { g with toLock := (s.zoneSlots z).filter fun n => s.seq.slots[n].state == .queued } s :=
    h.relock fun m hm => by
      by_cases hq : s.seq.slots[m].state = .queued
      · exact .inl (List.mem_filter.2 ⟨hm, by simpa using hq⟩)
      · exact .inr hq
  unfold lockZone
  simp only
  split
  · rename_i hempty
    rw [List.isEmpty_iff.1 hempty] at hqueued
    rwa [← ht] at hqueued
  · exact seqEvent_inv (lockSlots_inv hqueued hg ht (fun n hn => by simpa using (List.mem_filter.1 hn).2)
      ((slotIds_nodup.filter _).filter _)) hg

/-! ### Withdrawals, faults and holds -/

/-- R121: a warned slot goes back to ON. -/
theorem withdrawSlot_inv (h : Inv g s) (hg : g.loose = none) (hw : s.seq.slots[n].warned) : Inv g (withdrawSlot n s) := by
  have hpowered : s.seq.slots[n].state.powered = true := by rcases hw with e | e <;> rw [e] <;> rfl
  have hpg := ((h.slots n).pg (.inr (hw.imp_right .inl))).resolve_left (by simp [hg])
  have hsoak : s.seq.slots[n].soak = none :=
    Option.isNone_iff_eq_none.1 (Option.isSome_eq_false_iff.1 ((h.slots n).soak.trans (by rcases hw with e | e <;> rw [e] <;> rfl)))
  have hstill : s.seq.slots[n].noShed.still := ⟨rfl, hsoak, rfl, rfl, rfl⟩
  have hmove := h.moveSlot (n := n) (st := .on) (upd := Slot.noShed) none g.toShed (.inl hg) (.inl rfl) (fun m hm => .inl hm)
    (h.out_of_queue (by rcases hw with e | e <;> rw [e] <;> nofun)) (hstill.moved_ok (.inr ⟨rfl, hpg⟩)) nofun
    (fun hs => absurd hs (Slot.not_shut_of_powered hpowered)) (by rintro (e | e) <;> cases e) fun _ _ => .inl (.inl rfl)
  refine recompute_inv ?_
  rwa [← hg] at hmove

/-- R104, R105, R120: a slot outside the queue enters FAULTED. -/
theorem faultSlot_inv (h : Inv g s) (hg : g.loose = none ∨ g.loose = some n) (hst : s.seq.slots[n].state ≠ .queued)
    (hup : g.up n → s.seq.slots[n].pg = false) (code : Byte) : Inv { g with loose := none } (faultSlot n code s) :=
  recompute_inv (Inv.raise (moveToRest_inv h g.toShed hg (fun m hm => .inl hm) (h.out_of_queue hst)
    ⟨rfl, rfl, rfl, rfl, rfl⟩ (.inr (.inl rfl)) (fun _ => .inl nofun) fun hu => ⟨rfl, hup hu⟩) _ _ _)

/-- R117: a slot in NOTICE moves to HELD. -/
theorem holdSlot_inv (h : Inv g s) (hg : g.loose = none) (hst : s.seq.slots[n].state = .notice) (limit : Nat) :
    Inv g (holdSlot n limit s) := by
  obtain ⟨-, hnotice, hsoak, -, -, hdrain, hpg⟩ := h.slots n
  have hmove := h.moveSlot (n := n) (st := .held) (upd := fun x => { x with window := none, hold := some (limit * 1000) }) none
    g.toShed (.inl hg) (.inl rfl) (fun m hm => .inl hm) (h.out_of_queue (by rw [hst]; nofun))
    ⟨rfl, hnotice.trans (by rw [hst]; rfl), hsoak.trans (by rw [hst]; rfl), rfl, rfl, hdrain.trans (by rw [hst]; rfl),
      fun _ => .inr ((hpg (.inr (.inl hst))).resolve_left (by simp [hg]))⟩
    nofun (fun hs => absurd hs (Slot.not_shut_of_powered (by rw [hst]; rfl))) (fun _ => h.warned n (.inl hst))
    fun _ _ => .inl (.inr (.inr rfl))
  refine recompute_inv ?_
  rwa [← hg] at hmove

/-- A CRITICAL slot stands in NOTICE or HELD for a reason that spares none. -/
theorem Inv.spares_of_warned (h : Inv g s) (hp : g.promoted = none) (hw : s.seq.slots[n].warned) (hu : g.up n) :
    s.seq.slots[n].reason.sparesNone :=
  .inl (((h.warned n hw).2 (h.up_critical hu)).resolve_left (by simp [hp]))

theorem judgeHold_inv (h : Inv g s) (hg : g.loose = none) (hp : g.promoted = none) (asserted : Bool) (n : SlotId) :
    Inv g (judgeHold asserted n s) := by
  unfold judgeHold
  simp only
  split
  · rename_i hst
    exact ite_inv (fun _ => holdSlot_inv h hg hst _) fun _ => h
  · rename_i hst
    exact ite_inv (fun _ => h) fun _ => enterDraining_inv h hg (by rw [hst]; rfl) fun hu _ => h.spares_of_warned hp (.inr hst) hu
  · exact h

end Sheds


end Sys2Proof.Machine
end

section
/-! PROOFS. The charge accounting unit keeps the laws of a running part. -/

namespace Sys2Proof.Machine

section ChargeUnit

variable {g : Slack} {s : State}

/-! ### BBU states -/

theorem reportBbu_inv (h : Inv g s) (i : BbuId) : Inv g (reportBbu i s) := h.reportFree (causeBbu_free i) _

theorem moveBbu_inv (h : Inv g s) (i : BbuId) (st : BbuState) : Inv g (moveBbu i st s) := by
  have hset : Inv g (s.setBbu i { s.charge.bbus[i] with state := st, taper := 0 }) := h.setBbu_same rfl rfl rfl
  exact reportBbu_inv (driveBbu_inv hset i) i

theorem changeBbu_inv (h : Inv g s) (i : BbuId) (st : BbuState) : Inv g (changeBbu i st s) :=
  ite_inv (fun _ => h) fun _ => (moveBbu_inv h i st).raise _ _ _

/-- The charge unit's fields but its BBUs. -/
theorem Inv.tuneCharge (h : Inv g s) {x : Charge} (hb : x.bbus = s.charge.bbus) : Inv g (s.setCharge x) :=
  h.setCharge fun i => by rw [hb]; exact h.charge i

/-! ### Target table -/

theorem setTargetInhibit_inv (h : Inv g s) (hg : g.loose = none) (on : Bool) : Inv g (setTargetInhibit on s) :=
  ite_inv (fun _ => h) fun _ => seqEvent_inv (h.setSeq rfl rfl rfl) hg

theorem listMatch_inv (h : Inv g s) (p : Nat) : Inv g (listMatch p s) :=
  ite_inv (fun _ => h.setRecord id fun _ => rfl) fun _ => h

theorem Inv.entry_legal (h : Inv g s) {e : TargetEntry} (he : e ∈ s.settings.targets.entries) : 1 ≤ e.minClass := by
  obtain ⟨⟨-, -, -, ⟨-, hentries⟩, -⟩, -⟩ := h.settings
  exact (hentries e he).2.1

theorem targetAction_inv (h : Inv g s) (hg : g.loose = none) {e : TargetEntry} (he : 1 ≤ e.minClass) :
    Inv g (targetAction e s) := by
  unfold targetAction
  split
  · exact h
  · exact shedClass_inv h hg he (.inr (.inl rfl))
  · exact setTargetInhibit_inv h hg true
  · exact setTargetInhibit_inv h hg false

theorem matchEntry_inv (h : Inv g s) (hg : g.loose = none) {e : TargetEntry} (he : 1 ≤ e.minClass) : Inv g (matchEntry e s) :=
  ((listMatch_inv (targetAction_inv h hg he) s.charge.p).raise _ _ _).tuneCharge rfl

theorem compareFrom_inv (h : Inv g s) (hg : g.loose = none) (fuel : Nat) : Inv g (compareFrom fuel s) := by
  induction fuel generalizing s with
  | zero => exact h
  | succ fuel ih =>
    unfold compareFrom
    split
    · exact h
    · rename_i e he
      exact ite_inv (fun _ => ih (matchEntry_inv h hg (h.entry_legal (List.mem_of_getElem? he)))) fun _ => h

theorem compareTargets_inv (h : Inv g s) (hg : g.loose = none) : Inv g (compareTargets s) :=
  ite_inv (fun _ => compareFrom_inv h hg _) fun _ => h

theorem armTable_inv (h : Inv g s) (hg : g.loose = none) : Inv g (armTable s) := compareTargets_inv (h.tuneCharge rfl) hg

theorem disarmTable_inv (h : Inv g s) : Inv g (disarmTable s) := h.tuneCharge rfl

theorem armOnBridge_inv (h : Inv g s) (hg : g.loose = none) : Inv g (armOnBridge s) :=
  ite_inv (fun _ => armTable_inv h hg) fun _ => h

theorem haltTable_inv (h : Inv g s) : Inv g (haltTable s) := h.tuneCharge rfl

/-! ### Reserve -/

theorem judgeRange_inv (h : Inv g s) (old new : Vector Bool 8) (t : Nat) (k : RangeId) : Inv g (judgeRange old new t k s) := by
  have hreport := h.reportFree (causeRange_free k) new[k]
  exact ite_inv (fun _ => hreport.raise _ _ _) fun _ => hreport

theorem recomputeBand_inv (h : Inv g s) : Inv g (recomputeBand s) :=
  foldl_inv (fun _ k _ ht => judgeRange_inv ht _ _ _ k) (h.tuneCharge rfl)

theorem publishReserve_inv (h : Inv g s) : Inv g (publishReserve s) := h.tuneCharge rfl

theorem recomputeReserve_inv (h : Inv g s) (hg : g.loose = none) : Inv g (recomputeReserve s) :=
  publishReserve_inv (compareTargets_inv (recomputeBand_inv (h.tuneCharge rfl)) hg)

/-! ### Capacity test -/

theorem abortTest_inv (h : Inv g s) (result : TestResult) (st : BbuId → State → BbuState) : Inv g (abortTest result st s) := by
  unfold abortTest
  simp only
  split
  · exact h
  · refine changeBbu_inv (Inv.raise ?_ _ _ _) _ _
    exact h.tuneCharge rfl

theorem failBbu_inv (h : Inv g s) (i : BbuId) (st : BbuState) : Inv g (failBbu i st s) :=
  ite_inv (fun _ => abortTest_inv h _ _) fun _ => changeBbu_inv h i st

theorem Inv.bbu_legal (h : Inv g s) (i : BbuId) : s.settings.bbus[i].legal := by
  obtain ⟨⟨-, -, hbbus, -⟩, -⟩ := h.settings
  exact hbbus i

/-- The settings a completed test leaves (R56). -/
def BbuSettings.tested (set : BbuSettings) (d : Nat) : BbuSettings :=
  { set with
    qFull := max (set.qFloor + 1) (min 16777215 (set.qFloor + d))
    margin := min set.margin (max (set.qFloor + 1) (min 16777215 (set.qFloor + d))) }

theorem BbuSettings.tested_legal {set : BbuSettings} (h : set.legal) (d : Nat) : (set.tested d).legal := by
  simp only [BbuSettings.legal, BbuSettings.tested] at *
  omega

theorem BbuSettings.floor_lt_tested (set : BbuSettings) (d : Nat) : set.qFloor < (set.tested d).qFull := by
  simp only [BbuSettings.tested]
  omega

/-- A BBU takes legal settings and a charge that fits them. -/
theorem Inv.setBbuSettings (h : Inv g s) {i : BbuId} {set : BbuSettings} {b : Bbu} (hset : set.legal) (hb : BbuOk set b)
    {x : Store} (hnvm : x.nvm = s.store.nvm) (hwriting : x.writing = s.store.writing) :
    Inv g (((s.setBbuSettings i set).setStore x).setBbu i b) := by
  have hbbus (j : BbuId) : (((s.setBbuSettings i set).setStore x).setBbu i b).settings.bbus[j] =
      if i = j then set else s.settings.bbus[j] := get_set _ _ _ _
  exact
    { h with
      link := h.link.of_same rfl rfl rfl
      conditions := fun o ho => by
        refine (h.conditions o ho).trans ?_
        cases o <;> rfl
      settings := by
        obtain ⟨⟨hpoints, hbudget, hold, hrest⟩, hprofile, hsnapshot⟩ := h.settings
        refine ⟨⟨hpoints, hbudget, fun j => ?_, hrest⟩, ?_, ?_⟩
        · rw [hbbus]
          split
          · exact hset
          · exact hold j
        · show x.nvm.profile.legal
          rw [hnvm]
          exact hprofile
        · show ∀ w, x.writing = some w → w.snapshot.legal
          rw [hwriting]
          exact hsnapshot
      charge := fun j => by
        rw [hbbus, State.setBbu_charge, get_set]
        split
        · exact hb
        · exact h.charge j }

/-- The record a completed test leaves (R56). -/
def Bbu.tested (b : Bbu) (qFloor health : Nat) : Bbu :=
  { b with q := qFloor, r := 0, calibrated := true, bottomed := false, full := false, health := some health }

/-- The settings, the store and the BBU at the end of a test (R56, R175). -/
def takeTest (i : BbuId) (s : State) : State :=
  let set := s.settings.bbus[i]
  let new := set.tested s.charge.test.d
  ((s.setBbuSettings i new).setStore { s.store with unstored := s.store.unstored || new.qFull != set.qFull }).setBbu i
    (s.charge.bbus[i].tested set.qFloor (min 255 (s.charge.test.d * 100 / set.dRated)))

theorem completeTest_eq (i : BbuId) (s : State) :
    completeTest i s =
      changeBbu i .charging (raise causeTest s.charge.test.d (BitVec.ofNat 8 TestResult.complete.code)
        ((takeTest i s).setCharge { (takeTest i s).charge with
          test := { s.charge.test with running := false, timer := none, result := .complete } })) := rfl

theorem takeTest_inv (h : Inv g s) (i : BbuId) : Inv g (takeTest i s) := by
  have hlt := BbuSettings.floor_lt_tested s.settings.bbus[i] s.charge.test.d
  have hb : BbuOk (s.settings.bbus[i].tested s.charge.test.d)
      (s.charge.bbus[i].tested s.settings.bbus[i].qFloor (min 255 (s.charge.test.d * 100 / s.settings.bbus[i].dRated))) :=
    ⟨hlt.le, Nat.zero_le _, (beq_false_of_ne hlt.ne).symm⟩
  exact h.setBbuSettings (BbuSettings.tested_legal (h.bbu_legal i) _) hb rfl rfl

theorem completeTest_inv (h : Inv g s) (i : BbuId) : Inv g (completeTest i s) := by
  rw [completeTest_eq]
  refine changeBbu_inv (Inv.raise ?_ _ _ _) _ _
  exact (takeTest_inv h i).tuneCharge rfl

/-! ### Requests of the holdup controller -/

theorem shiftBbu_inv (h : Inv g s) (hg : g.loose = none) (f : BbuState → Bool) (st : BbuState) (i : BbuId) :
    Inv g (shiftBbu f st i s) := ite_inv (fun _ => recomputeReserve_inv (changeBbu_inv h i st) hg) fun _ => h

theorem shiftBbus_inv (h : Inv g s) (hg : g.loose = none) (f : BbuState → Bool) (st : BbuState) : Inv g (shiftBbus f st s) :=
  foldl_inv (fun _ i _ ht => shiftBbu_inv ht hg f st i) h

theorem abortTestForAc_inv (h : Inv g s) (hg : g.loose = none) : Inv g (abortTestForAc s) :=
  ite_inv (fun _ => recomputeReserve_inv (abortTest_inv h _ _) hg) fun _ => h

/-! ### One BBU on one sample set -/

theorem integrateBbu_inv (h : Inv g s) (i : BbuId) : Inv g (integrateBbu i s).1 := by
  unfold integrateBbu
  simp only
  split
  · exact h
  obtain ⟨hq, hr, hfull⟩ := integrate_bounds s.settings.bbus[i] s.charge.bbus[i] (s.pubValue (bbuIPoint i)) (h.bbu_legal i).1
  have hset : Inv g (s.setBbu i (integrate s.settings.bbus[i] s.charge.bbus[i] (s.pubValue (bbuIPoint i))).1) :=
    h.setBbu ⟨hq, hr, hfull⟩
  have hhalt : Inv g (if (integrate s.settings.bbus[i] s.charge.bbus[i] (s.pubValue (bbuIPoint i))).2 &&
      s.charge.bbus[i].state.counted then
        haltTable (s.setBbu i (integrate s.settings.bbus[i] s.charge.bbus[i] (s.pubValue (bbuIPoint i))).1)
      else s.setBbu i (integrate s.settings.bbus[i] s.charge.bbus[i] (s.pubValue (bbuIPoint i))).1) :=
    ite_inv (fun _ => haltTable_inv hset) fun _ => hset
  exact ite_inv (fun _ => hhalt.tuneCharge rfl) fun _ => hhalt

theorem anchorBbu_inv (h : Inv g s) (i : BbuId) : Inv g (anchorBbu i s) := by
  have hset : Inv g (s.setBbu i { s.charge.bbus[i] with
      q := s.settings.bbus[i].qFull, r := 0, calibrated := true, full := true, bottomed := false }) :=
    h.setBbu ⟨le_rfl, Nat.zero_le _, (beq_self_eq_true _).symm⟩
  exact (moveBbu_inv hset i .standby).raise _ _ _

theorem judgeCharging_inv (h : Inv g s) (i : BbuId) : Inv g (judgeCharging i s) :=
  ite_inv (fun _ => ite_inv (fun _ => ite_inv (fun _ => anchorBbu_inv h i) fun _ => h.setBbu_same rfl rfl rfl)
    fun _ => h.setBbu_same rfl rfl rfl) fun _ =>
      ite_inv (fun _ => changeBbu_inv h i _) fun _ => h.setBbu_same rfl rfl rfl

theorem judgeBbu_inv (h : Inv g s) (i : BbuId) : Inv g (judgeBbu i s) := by
  have hchange (st : BbuState) := changeBbu_inv h i st
  refine ite_inv (fun _ => h) fun _ => ite_inv (fun _ => ite_inv (fun _ => hchange _) fun _ => h) fun _ =>
    ite_inv (fun _ => failBbu_inv h i _) fun _ => ?_
  split
  · exact ite_inv (fun _ => hchange _) fun _ => ite_inv (fun _ => hchange _) fun _ => h
  · exact ite_inv (fun _ => hchange _) fun _ => judgeCharging_inv h i
  · exact ite_inv (fun _ => hchange _) fun _ => ite_inv (fun _ => h) fun _ => hchange _
  · exact ite_inv (fun _ => completeTest_inv h i) fun _ => h
  · exact ite_inv (fun _ => hchange _) fun _ => h
  · exact h
  · exact h

theorem sampleBbu_inv (h : Inv g s) (fresh : Bool) (i : BbuId) : Inv g (sampleBbu fresh i s) := by
  unfold sampleBbu
  simp only
  have hfresh : Inv g (refreshBbu i s) := h.setBbu_same rfl rfl rfl
  have hclass : Inv g (if fresh then driveBbu i (changeBbu i ((refreshBbu i s).classOf i) (refreshBbu i s)) else refreshBbu i s) :=
    ite_inv (fun _ => driveBbu_inv (changeBbu_inv hfresh i _) i) fun _ => hfresh
  have hjudge := judgeBbu_inv (integrateBbu_inv hclass i) i
  exact ite_inv (fun _ => (reportBbu_inv hjudge i).raise _ _ _) fun _ => hjudge

theorem sampleCharge_inv (h : Inv g s) (hg : g.loose = none) (fresh : Bool) : Inv g (sampleCharge fresh s) :=
  recomputeReserve_inv (foldl_inv (fun _ i _ ht => sampleBbu_inv ht fresh i) h) hg

end ChargeUnit

end Sys2Proof.Machine
end

section
/-! PROOFS. The holdup controller keeps the laws of a running part. -/

namespace Sys2Proof.Machine

section HoldupUnit

variable {g : Slack} {s : State}

theorem moveHoldup_eq (st : HoldupState) (s : State) :
    moveHoldup st s =
      raise causeHoldup s.busV (stateCode st.code) (reportCondition causeHoldup st.alarming
        (((s.setHoldup { s.holdup with state := st }).setSeq { s.seq with lastHoldup := st }).setRecharge
          { s.recharge with lastHoldup := st })) := rfl

/-- The holdup state and its copies, before the report (R74). -/
theorem Inv.setHoldupState (h : Inv g s) {x : Holdup} {st : HoldupState} (l : Bool)
    (hx : g.unkept = false → HoldupOk { x with state := st })
    (hl : l = true ∨ st = .online ∨ (g.leaving = false ∧ s.holdup.state ≠ .online)) :
    Inv { g with now := some st, leaving := l, late := fun o => g.late o ∨ o = .holdup }
      (((s.setHoldup { x with state := st }).setSeq { s.seq with lastHoldup := st }).setRecharge
        { s.recharge with lastHoldup := st }) := by
  have hon {p : Prop} (hp : p → g.leaving = true ∨ s.holdup.state = .online) (hyes : p) : l = true ∨ st = .online := by
    rcases hl with hl | hl | ⟨hleaving, hne⟩
    · exact .inl hl
    · exact .inr hl
    · rcases hp hyes with h' | h'
      · rw [hleaving] at h'
        cases h'
      · exact absurd h' hne
  obtain ⟨hshares, hyield, hstep, hfloor, hidle, hcruise, hhold⟩ := h.regulator
  exact
    { h with
      link := h.link.of_same rfl rfl rfl
      now := fun st' e => Option.some.inj e
      conditions := fun o ho => by
        refine (h.conditions o (not_or.1 ho).1).trans ?_
        cases o with
        | holdup => exact absurd rfl (not_or.1 ho).2
        | _ => rfl
      deficit := hon h.deficit
      regulator := ⟨hshares, hyield, hstep, hfloor, hidle, hcruise, hhold⟩
      regulatorOn := hon h.regulatorOn
      regulatorCopy := rfl
      holdup := hx
      holdupCopy := rfl }

/-- A change of holdup state (R74); `l` tells whether the regulator and the deficit handling have yet to be told. -/
theorem moveHoldup_inv (h : Inv g s) {x : Holdup} {st : HoldupState} (l : Bool)
    (hx : g.unkept = false → HoldupOk { x with state := st })
    (hl : l = true ∨ st = .online ∨ (g.leaving = false ∧ s.holdup.state ≠ .online)) :
    Inv { g with now := some st, leaving := l } (moveHoldup st (s.setHoldup x)) := by
  rw [moveHoldup_eq]
  have hset := h.setHoldupState l hx hl
  have hreport := Inv.report (g := { g with now := some st, leaving := l }) .holdup hset (a := st.alarming) rfl
  exact hreport.raise _ _ _

/-! ### The transfer record -/

theorem Transfer.close_isOpen (t : Transfer) (why : EndReason) (r : Nat) : (t.close why r).isOpen = false := by
  unfold Transfer.close
  split
  · rfl
  · rename_i ho
    simpa using ho

/-- The record that an event is offered (R75). -/
def State.offered (s : State) (trigger : Trigger) : Transfer :=
  let t := s.holdup.record
  if t.valid then { t with since := min 255 (t.since + 1) }
  else if t.isOpen then t
  else
    { Transfer.empty with
      isOpen := true
      seqNo := s.holdup.events
      start := s.seconds
      trigger := some trigger
      rStart := s.holdup.lastR
      tEstStart := s.holdup.lastTEst
      minBusV := s.recordBusV }

/-- R75: an offered record that is open is not valid. -/
theorem State.offered_valid {trigger : Trigger} (hrec : s.holdup.record.isOpen = true → s.holdup.record.valid = false)
    (ho : (s.offered trigger).isOpen = true) : (s.offered trigger).valid = false := by
  unfold State.offered at *
  simp only at *
  split at ho
  · rename_i hv
    exact absurd (hrec ho) (by simp [hv])
  · rename_i hv
    split at ho
    · rw [if_neg hv, if_pos ho]
      simpa using hv
    · rename_i hc
      rw [if_neg hv, if_neg hc]
      rfl

/-! ### Transitions -/

/-- The holdup record without timers or event (R66, R71). -/
def Holdup.ended (x : Holdup) (why : EndReason) : Holdup :=
  { x with settle := none, bridging := none, collapse := none, eventOpen := false, record := x.record.close why x.lastR }

theorem Holdup.ended_ok (x : Holdup) (why : EndReason) {st : HoldupState} (hst : (st == .returning) = false) :
    HoldupOk { x.ended why with state := st } where
  settle := hst.symm
  collapse h := by cases h
  bridging h := by cases h
  event h := by cases h
  record ho := absurd ho (by
    show ¬ (x.record.close why x.lastR).isOpen = true
    rw [Transfer.close_isOpen]
    nofun)

theorem enterBlackout_eq (s : State) :
    enterBlackout s = seqEvent (disarmTable (depleteAll (shedAll (moveHoldup .blackout (s.setHoldup (s.holdup.ended .blackout)))))) :=
  rfl

/-- R71: entry to BLACKOUT. -/
theorem enterBlackout_inv (h : Inv g s) (hg : g.loose = none) (hn : g.now = none) (hleaving : g.leaving = false)
    (hst : s.holdup.state ≠ .online) : Inv g (enterBlackout s) := by
  rw [enterBlackout_eq]
  have hmove := moveHoldup_inv h (st := .blackout) false (fun _ => s.holdup.ended_ok .blackout rfl) (.inr (.inr ⟨hleaving, hst⟩))
  have hdone := seqEvent_inv (disarmTable_inv (shiftBbus_inv (shedAll_inv hmove hg) hg BbuState.depletes .depleted)) hg
  rw [← hleaving] at hdone
  exact hdone.recall (by simp [hn])

theorem judgeCounted_inv (h : Inv g s) (hg : g.loose = none) (hn : g.now = none) (hleaving : g.leaving = false)
    (hst : s.holdup.state ≠ .online) : Inv g (judgeCounted s) :=
  ite_inv (fun _ => enterBlackout_inv h hg hn hleaving hst) fun _ => h

/-- The holdup record of a new event (R62, R68, R75). -/
def State.opened (s : State) (trigger : Trigger) : Holdup :=
  let x := { s.holdup with
    events := min 65535 (s.holdup.events + 1)
    eventOpen := true
    settle := none
    collapse := none
    bridging := if 0 < s.settings.holdup.tMax then some (s.settings.holdup.tMax * 1000) else none }
  { x with record := (s.setHoldup x).offered trigger }

theorem openEvent_eq (trigger : Trigger) (s : State) :
    openEvent trigger s =
      judgeCounted (seqEvent (leaveDeficit (regulatorOff (abortTestForAc (armOnBridge
        (moveHoldup .bridging (s.setHoldup (s.opened trigger)))))))) := rfl

theorem recompute_recharge_of_offline (h : s.online = false) : (recompute s).recharge = s.recharge := by
  rcases recompute_cases s with ⟨-, e⟩ | ⟨ho, -⟩
  · rw [e, settleHeadroom, State.setBudget_recharge]
  · rw [h] at ho
    cases ho

theorem regulatorOff_state_of_offline (h : s.online = false) : (regulatorOff s).recharge.state = .off := by
  rw [regulatorOff_eq]
  unfold recomputeIfSet
  split
  · rw [reportCondition_recharge, reshare_recharge]
    rfl
  · rw [recompute_recharge_of_offline, reportCondition_recharge, reshare_recharge]
    · rfl
    · simpa [State.online] using h

theorem endDeficit_budget (s : State) : (endDeficit s).budget = { s.budget with deficit := .idle, timer := none } := by
  unfold endDeficit
  rw [reportCondition_budget]
  rfl

theorem endDeficit_recharge (s : State) : (endDeficit s).recharge = s.recharge := by
  unfold endDeficit
  rw [reportCondition_recharge]
  rfl

theorem leaveDeficit_deficit (s : State) : (leaveDeficit s).budget.deficit = .idle := by
  unfold leaveDeficit
  simp only [State.setBudget_budget, endDeficit_budget]

theorem leaveDeficit_recharge (s : State) : (leaveDeficit s).recharge = s.recharge := by
  unfold leaveDeficit
  simp only [State.setBudget_recharge, endDeficit_recharge]

/-- R83, R33: ONLINE left, the regulator is put OFF and the deficit handling ended. -/
theorem stopUnits_inv (h : Inv { g with now := some .bridging, leaving := true } s) (hn : g.now = none) (hl : g.leaving = false) :
    Inv { g with now := some .bridging } (leaveDeficit (regulatorOff s)) := by
  have hoffline : s.online = false := by
    simp only [State.online, h.now _ rfl]
    rfl
  have hdone := (leaveDeficit_inv (regulatorOff_inv h)).settled
    (by rw [leaveDeficit_recharge]; exact regulatorOff_state_of_offline hoffline) (leaveDeficit_deficit _)
  rwa [← hl] at hdone

/-- R62, R63, R68: an event opens. -/
theorem openEvent_inv (h : Inv g s) (hg : g.loose = none) (hn : g.now = none) (hl : g.leaving = false) (trigger : Trigger) :
    Inv g (openEvent trigger s) := by
  rw [openEvent_eq]
  have hopened (hk : g.unkept = false) : HoldupOk { s.opened trigger with state := .bridging } :=
    { settle := rfl
      collapse := fun _ => rfl
      bridging := fun _ => rfl
      event := fun _ => .inl rfl
      record := fun ho => ⟨rfl, State.offered_valid (fun ho => ((h.holdup hk).record ho).2) ho⟩ }
  have hmove := moveHoldup_inv h (st := .bridging) true hopened (.inl rfl)
  have hunits := stopUnits_inv (abortTestForAc_inv (armOnBridge_inv hmove hg) hg) hn hl
  have hevent := seqEvent_inv hunits hg
  have hst := hevent.now _ rfl
  exact judgeCounted_inv (hevent.recall (by simp [hn])) hg hn hl (by rw [hst]; nofun)

/-- The holdup record that waits for the return (R64, R72). -/
def State.settling (s : State) : Holdup :=
  { s.holdup with settle := some (s.settings.holdup.tSettle * 100), collapse := none }

theorem enterReturn_eq (s : State) : enterReturn s = seqEvent (moveHoldup .returning (s.setHoldup s.settling)) := rfl

theorem enterReturn_inv (h : Inv g s) (hg : g.loose = none) (hn : g.now = none) (hl : g.leaving = false)
    (hst : s.holdup.state ≠ .online) : Inv g (enterReturn s) := by
  rw [enterReturn_eq]
  have hok (hk : g.unkept = false) : HoldupOk { s.settling with state := .returning } :=
    { settle := rfl
      collapse := fun h => by cases h
      bridging := (h.holdup hk).bridging
      event := fun _ => .inr rfl
      record := (h.holdup hk).record }
  have hmove := moveHoldup_inv h (st := .returning) false hok (.inr (.inr ⟨hl, hst⟩))
  have hdone := seqEvent_inv hmove hg
  rw [← hl] at hdone
  exact hdone.recall (by simp [hn])

/-- The holdup record of a flicker (R67). -/
def Holdup.flickered (x : Holdup) : Holdup :=
  { x with
    settle := none
    record := if x.record.isOpen then { x.record with flickers := min 255 (x.record.flickers + 1) } else x.record }

theorem flicker_eq (s : State) :
    flicker s = judgeCounted (seqEvent (moveHoldup .bridging (s.setHoldup s.holdup.flickered))) := rfl

theorem flicker_inv (h : Inv g s) (hg : g.loose = none) (hn : g.now = none) (hl : g.leaving = false)
    (hst : s.holdup.state ≠ .online) : Inv g (flicker s) := by
  rw [flicker_eq]
  have hok (hk : g.unkept = false) : HoldupOk { s.holdup.flickered with state := .bridging } :=
    { settle := rfl
      collapse := fun _ => rfl
      bridging := (h.holdup hk).bridging
      event := fun _ => .inl rfl
      record := fun ho => by
        unfold Holdup.flickered at *
        simp only at *
        split at ho
        · rename_i hopen
          rw [if_pos hopen]
          exact (h.holdup hk).record hopen
        · rename_i hopen
          exact absurd ho hopen }
  have hmove := moveHoldup_inv h (st := .bridging) false hok (.inr (.inr ⟨hl, hst⟩))
  have hevent := seqEvent_inv hmove hg
  rw [← hl] at hevent
  have hnow := hevent.now _ rfl
  exact judgeCounted_inv (hevent.recall (by simp [hn])) hg hn hl (by rw [hnow]; nofun)

/-! ### ONLINE -/

theorem withdrawSheds_inv (h : Inv g s) (hg : g.loose = none) : Inv g (withdrawSheds s) :=
  foldl_inv (fun _ _ _ ht => ite_inv (fun hw => withdrawSlot_inv ht hg (by
    simp only [Slot.withdrawable, Bool.and_eq_true, Bool.or_eq_true, beq_iff_eq] at hw
    exact hw.1)) fun _ => ht) h

theorem enterQueue_slots {n m : SlotId} (hne : n ≠ m) (s : State) : (enterQueue n s).seq.slots[m] = s.seq.slots[m] := by
  rcases enterQueue_cases n s with ⟨-, e⟩ | ⟨-, e⟩ <;> rw [e]
  · rw [moveSlot_slots, if_neg hne]
  · simp only [joinQueue, State.setSeq_seq]
    rw [moveSlot_slots, if_neg hne]

/-- R108: slots in OFF are queued one after another. -/
theorem enterQueues_inv (h : Inv g s) (hg : g.loose = none) {l : List SlotId} (hl : l.Nodup)
    (hoff : ∀ n ∈ l, s.seq.slots[n].state = .off) : Inv g (l.foldl (fun s n => enterQueue n s) s) := by
  induction l generalizing s with
  | nil => exact h
  | cons n l ih =>
    rw [List.nodup_cons] at hl
    have hn := hoff n List.mem_cons_self
    refine ih (enterQueue_inv h hg (.inl hn) (h.not_up (Slot.not_keptUp (.inl hn)))) hl.2 fun m hm => ?_
    rw [enterQueue_slots (ne_of_mem_of_not_mem hm hl.1).symm]
    exact hoff m (List.mem_cons_of_mem n hm)

theorem State.off_of_autoStarts {n : SlotId} (h : s.autoStarts n = true) : s.seq.slots[n].state = .off := by
  simp only [State.autoStarts, Bool.and_eq_true, beq_iff_eq] at h
  exact h.1.1.2

theorem queueAtOnline_inv (h : Inv g s) (hg : g.loose = none) : Inv g (queueAtOnline s) := by
  unfold queueAtOnline
  simp only
  have hauto := enterQueues_inv h hg (slotIds_nodup.filter s.autoStarts) fun n hn =>
    State.off_of_autoStarts (List.mem_filter.1 hn).2
  have hrestore := foldl_inv (f := fun s n => restoreSlot n s) (l := slotIds) (fun _ n _ ht => restoreSlot_inv ht hg n) hauto
  generalize slotIds.foldl (fun s n => restoreSlot n s) _ = t at hrestore ⊢
  exact hrestore.setSeq rfl rfl rfl

theorem enterOnline_eq (s : State) :
    enterOnline s = recompute (startRegulator (seqEvent (queueAtOnline (withdrawSheds (refillDepleted (disarmOnBridge
      (moveHoldup .online (s.setHoldup (s.holdup.ended .acReturn))))))))) := rfl

/-- R65, R66: entry to ONLINE. -/
theorem enterOnline_inv (h : Inv g s) (hg : g.loose = none) (hn : g.now = none) (hl : g.leaving = false) : Inv g (enterOnline s) := by
  rw [enterOnline_eq]
  have hmove := moveHoldup_inv h (st := .online) false (fun _ => s.holdup.ended_ok .acReturn rfl) (.inr (.inl rfl))
  have hdisarm : Inv _ (disarmOnBridge (moveHoldup .online (s.setHoldup (s.holdup.ended .acReturn)))) :=
    ite_inv (fun _ => disarmTable_inv hmove) fun _ => hmove
  have hqueue := seqEvent_inv (queueAtOnline_inv (withdrawSheds_inv (shiftBbus_inv hdisarm hg (· == .depleted) .charging) hg) hg) hg
  have hdone := recompute_inv (startRegulator_inv hqueue (.inr (hqueue.now _ rfl)))
  rw [← hl] at hdone
  exact hdone.recall (by simp [hn])

/-! ### AC and the reserve -/

/-- The holdup controller's fields that no law speaks of. -/
theorem Inv.tuneHoldup (h : Inv g s) {x : Holdup} (hstate : x.state = s.holdup.state) (hsettle : x.settle = s.holdup.settle)
    (hcollapse : x.collapse = s.holdup.collapse) (hbridging : x.bridging = s.holdup.bridging)
    (hevent : x.eventOpen = s.holdup.eventOpen) (hrecord : x.record = s.holdup.record) : Inv g (s.setHoldup x) := by
  refine h.setHoldup (fun hk => ⟨?_, ?_, ?_, ?_, ?_⟩) hstate
  · rw [hsettle, hstate]
    exact (h.holdup hk).settle
  · rw [hcollapse, hstate]
    exact (h.holdup hk).collapse
  · rw [hbridging, hevent]
    exact (h.holdup hk).bridging
  · rw [hevent, hstate]
    exact (h.holdup hk).event
  · rw [hrecord, hevent]
    exact (h.holdup hk).record

theorem evaluateAc_inv (h : Inv g s) : Inv g (evaluateAc s) := h.tuneHoldup rfl rfl rfl rfl rfl rfl

theorem followRecord_inv (h : Inv g s) : Inv g (followRecord s) :=
  ite_inv (fun _ => h.setRecord id fun _ => rfl) fun _ => h

theorem judgeAc_inv (h : Inv g s) (hg : g.loose = none) (hn : g.now = none) (hl : g.leaving = false) : Inv g (judgeAc s) := by
  unfold judgeAc
  split
  · exact openEvent_inv h hg hn hl _
  · exact enterReturn_inv h hg hn hl (by simp [*])
  · exact flicker_inv h hg hn hl (by simp [*])
  · exact enterReturn_inv h hg hn hl (by simp [*])
  · exact h

theorem judgeCollapse_inv (h : Inv g s) (hst : s.holdup.state = .bridging) : Inv g (judgeCollapse s) := by
  have hset (t : Timer) : Inv g (s.setHoldup { s.holdup with collapse := t }) :=
    h.setHoldup (fun hk => ⟨(h.holdup hk).settle, fun _ => hst, (h.holdup hk).bridging, (h.holdup hk).event, (h.holdup hk).record⟩)
      rfl
  refine ite_inv (fun _ => ?_) fun _ => hset none
  split
  · exact h
  · exact hset _

theorem noteFirstSet_inv (h : Inv g s) : Inv g (noteFirstSet s) := by
  unfold noteFirstSet
  split
  · exact h
  · exact h.tuneHoldup rfl rfl rfl rfl rfl rfl

theorem sampleHoldup_inv (h : Inv g s) (hg : g.loose = none) (hn : g.now = none) (hl : g.leaving = false) :
    Inv g (sampleHoldup s) := by
  have heval := evaluateAc_inv (followRecord_inv h)
  have hac := judgeAc_inv heval hg hn hl
  exact ite_inv (fun _ => noteFirstSet_inv heval) fun _ => ite_inv (fun hst => judgeCollapse_inv hac hst.2) fun _ => hac

theorem inputHoldup_inv (h : Inv g s) (hg : g.loose = none) (hn : g.now = none) (hl : g.leaving = false) :
    Inv g (inputHoldup s) := ite_inv (fun _ => h) fun _ => judgeAc_inv (evaluateAc_inv h) hg hn hl

theorem startDecision_inv (h : Inv g s) (hg : g.loose = none) (hn : g.now = none) (hl : g.leaving = false)
    (hst : s.holdup.state ≠ .online) (f : FirstSet) : Inv g (startDecision f s) :=
  ite_inv (fun _ => enterOnline_inv h hg hn hl) fun _ =>
    ite_inv (fun _ => openEvent_inv h hg hn hl _) fun _ => enterBlackout_inv h hg hn hl hst

theorem reserveHoldup_inv (h : Inv g s) (hg : g.loose = none) (hn : g.now = none) (hl : g.leaving = false) (p : ReservePub) :
    Inv g (reserveHoldup p s) := by
  have hset : Inv g (s.setHoldup { s.holdup with lastR := p.r, lastTEst := p.tEst, lastCounted := p.counted }) :=
    h.tuneHoldup rfl rfl rfl rfl rfl rfl
  unfold reserveHoldup
  simp only [State.setHoldup_holdup]
  split
  · rename_i hst
    split
    · exact ite_inv (fun _ => startDecision_inv hset hg hn hl (by simp [hst]) _) fun _ => hset
    · exact hset
  · exact judgeCounted_inv hset hg hn hl (by simp [*])
  · exact hset

end HoldupUnit

end Sys2Proof.Machine
end

section
/-! PROOFS. The leak monitor, the sense scanner and the passing of time keep the laws of a running part. -/

namespace Sys2Proof.Machine

section ZonesAndPoints

variable {g : Slack} {s : State}

/-! ### Zone records -/

theorem setZone_zones (s : State) (z y : ZoneId) (x : Zone) :
    (s.setZone z x).leak.zones[y] = if z = y then x else s.leak.zones[y] := get_set _ _ _ _

theorem slotWet_setZone {n : SlotId} {z : ZoneId} {x : Zone} (h : (s.setZone z x).slotWet n = true) :
    s.slotWet n = true ∨ (x.state = .wet ∧ n ∈ s.zoneSlots z) := by
  unfold State.slotWet at *
  rw [mem_zoneSlots]
  simp only [State.setZone_settings] at h
  split at h
  · cases h
  · rename_i y hy
    rw [setZone_zones] at h
    rw [hy]
    by_cases he : z = y
    · subst he
      rw [if_pos rfl] at h
      exact .inr ⟨by simpa using h, rfl⟩
    · rw [if_neg he] at h
      exact .inl h

theorem slotWetShed_setZone {n : SlotId} {z : ZoneId} {x : Zone} (h : (s.setZone z x).slotWetShed n = true) :
    s.slotWetShed n = true ∨ (x.state = .wet ∧ s.settings.zones[z].policy = .valveAndShed ∧ n ∈ s.zoneSlots z) := by
  unfold State.slotWetShed at *
  rw [mem_zoneSlots]
  simp only [State.setZone_settings] at h
  split at h
  · cases h
  · rename_i y hy
    rw [setZone_zones] at h
    rw [hy]
    by_cases he : z = y
    · subst he
      rw [if_pos rfl, Bool.and_eq_true] at h
      exact .inr ⟨by simpa using h.1, by simpa using h.2, rfl⟩
    · rw [if_neg he] at h
      exact .inl h

/-- A zone takes a record; `late`, `lock`, `shed` and `open'` are the slack that stays. -/
theorem Inv.setZone (h : Inv g s) {z : ZoneId} {x : Zone} (late : Owner → Prop) (lock shed : List SlotId) (open' : Option ZoneId)
    (hlate : ∀ o, ¬ late o → ¬ g.late o ∧ (o = .wet z → x.state = s.leak.zones[z].state) ∧
      (o = .ropeFault z → x.ropeFault = s.leak.zones[z].ropeFault))
    (hg : g.unjudged = none ∨ g.unjudged = some z) (hopen : open' = none ∨ open' = some z)
    (hx : g.unkept = false → ZoneOk (open' = some z) x)
    (hvalve : x.state = .wet → s.settings.zones[z].policy.closesValve = true → x.valve = true)
    (hlocked : ∀ n ∈ g.toLock, n ∈ lock)
    (hlock : x.state = .wet → s.leak.zones[z].state = .wet ∨ ∀ n ∈ s.zoneSlots z, n ∈ lock)
    (hshedded : ∀ n ∈ g.toShed, n ∈ shed)
    (hshed : x.state = .wet → s.settings.zones[z].policy = .valveAndShed →
      s.leak.zones[z].state = .wet ∨ ∀ n ∈ s.zoneSlots z, n ∈ shed) :
    Inv { g with late := late, toLock := lock, toShed := shed, unjudged := open', unwatched := true } (s.setZone z x) := by
  have hother {y : ZoneId} (hy : z ≠ y) : open' = some y ↔ g.unjudged = some y := by
    rcases hopen with rfl | rfl <;> rcases hg with hg | hg <;> simp [hg, hy]
  exact
    { h with
      link := h.link.of_same rfl rfl rfl
      conditions := fun o ho => by
        obtain ⟨hnot, hwet, hfault⟩ := hlate o ho
        refine (h.conditions o hnot).trans ?_
        cases o with
        | wet y =>
          simp only [State.due, setZone_zones]
          split
          · rename_i e
            subst e
            rw [hwet rfl]
          · rfl
        | ropeFault y =>
          simp only [State.due, setZone_zones]
          split
          · rename_i e
            subst e
            rw [hfault rfl]
          · rfl
        | _ => rfl
      dryQueue := fun n hn => by
        cases hwet : (s.setZone z x).slotWet n
        · exact .inr rfl
        rcases slotWet_setZone hwet with hold | ⟨hst, hn'⟩
        · exact .inl (hlocked n ((h.dryQueue n hn).resolve_right (by simp [hold])))
        · rcases hlock hst with hwas | hall
          · have hold : s.slotWet n = true := by
              unfold State.slotWet
              rw [mem_zoneSlots.1 hn']
              simpa using hwas
            exact .inl (hlocked n ((h.dryQueue n hn).resolve_right (by simp [hold])))
          · exact .inl (hall n hn')
      valve := fun y => by
        rw [setZone_zones]
        split
        · rename_i e
          subst e
          exact hvalve
        · exact h.valve y
      shut := fun n hn => by
        rcases slotWetShed_setZone hn with hold | ⟨hst, hpolicy, hn'⟩
        · exact (h.shut n hold).imp_left (hshedded n)
        · rcases hshed hst hpolicy with hwas | hall
          · have hold : s.slotWetShed n = true := by
              unfold State.slotWetShed
              rw [mem_zoneSlots.1 hn']
              simp only [Bool.and_eq_true, beq_iff_eq]
              exact ⟨hwas, hpolicy⟩
            exact (h.shut n hold).imp_left (hshedded n)
          · exact .inl (hall n hn')
      zones := fun hk y => by
        rw [setZone_zones]
        split
        · rename_i e
          subst e
          exact hx hk
        · rename_i hne
          obtain ⟨hdry, hfault, hev, hrc, htc⟩ := h.zones hk y
          exact ⟨hdry, hfault, fun hs => (hev hs).imp_left (hother hne).2, hrc, htc⟩
      starts := fun hm hw => ⟨(h.starts hm hw).1, nofun⟩ }

theorem continuousCondition_setZone {z : ZoneId} {x : Zone} (hst : x.state = s.leak.zones[z].state) :
    (s.setZone z x).continuousCondition = s.continuousCondition := by
  have hstates (y : ZoneId) : (s.setZone z x).leak.zones[y].state = s.leak.zones[y].state := by
    rw [setZone_zones]
    split
    · rename_i e
      subst e
      exact hst
    · rfl
  simp only [State.continuousCondition, hstates]
  rfl

/-- A zone's record under the state, the fault flag and the valve that stand. -/
theorem Inv.tuneZone (h : Inv g s) {z : ZoneId} {x : Zone} (open' : Option ZoneId) (hg : g.unjudged = none ∨ g.unjudged = some z)
    (hopen : open' = none ∨ open' = some z) (hst : x.state = s.leak.zones[z].state)
    (hfault : x.ropeFault = s.leak.zones[z].ropeFault) (hvalve : x.valve = s.leak.zones[z].valve)
    (hx : g.unkept = false → ZoneOk (open' = some z) x) : Inv { g with unjudged := open' } (s.setZone z x) := by
  have hset := h.setZone g.late g.toLock g.toShed open' (fun o ho => ⟨ho, fun _ => hst, fun _ => hfault⟩) hg hopen hx
    (fun hw hc => hvalve ▸ h.valve z (hst ▸ hw) hc) (fun _ => id) (fun hw => .inl (hst ▸ hw)) (fun _ => id)
    (fun hw _ => .inl (hst ▸ hw))
  exact
    { hset with
      starts := fun hm hw => ⟨(h.starts hm hw).1, fun hu hc => (h.starts hm hw).2 hu (continuousCondition_setZone hst ▸ hc)⟩ }

theorem Slack.with_unjudged (h : g.unjudged = none) : { g with unjudged := none } = g := by
  rw [← h]

/-- The record that a zone takes in a move (R150). -/
def Zone.entered (x : Zone) : Zone :=
  { x with awaitSet := x.awaitSet && x.state == .suspect, awaitCycle := x.awaitCycle && x.state == .suspect }

theorem moveZone_eq (z : ZoneId) (x : Zone) (s : State) :
    moveZone z x s = lineWatch (reportCondition (causeZoneWet z) (x.state == .wet) (s.setZone z x.entered)) := rfl

theorem ZoneOk.entered {p : Prop} {x : Zone} (h : ZoneOk p x) : ZoneOk p x.entered := by
  obtain ⟨hdry, hfault, hev, hrc, htc⟩ := h
  refine ⟨hdry, hfault, fun hs => (hev hs).imp_right fun h' => ?_, hrc, htc⟩
  have hs' : (x.state == .suspect) = true := by simpa [Zone.entered] using hs
  simpa [Zone.entered, hs'] using h'

/-- A zone takes a state, and its condition is reported (R135, R147, R152). -/
theorem moveZone_inv (h : Inv g s) {z : ZoneId} {x : Zone} (late : Owner → Prop) (lock shed : List SlotId) (open' : Option ZoneId)
    (hlate : ∀ o, ¬ late o → ¬ g.late o ∧ (o = .ropeFault z → x.ropeFault = s.leak.zones[z].ropeFault))
    (hg : g.unjudged = none ∨ g.unjudged = some z) (hopen : open' = none ∨ open' = some z)
    (hx : g.unkept = false → ZoneOk (open' = some z) x)
    (hvalve : x.state = .wet → s.settings.zones[z].policy.closesValve = true → x.valve = true)
    (hlocked : ∀ n ∈ g.toLock, n ∈ lock)
    (hlock : x.state = .wet → s.leak.zones[z].state = .wet ∨ ∀ n ∈ s.zoneSlots z, n ∈ lock)
    (hshedded : ∀ n ∈ g.toShed, n ∈ shed)
    (hshed : x.state = .wet → s.settings.zones[z].policy = .valveAndShed →
      s.leak.zones[z].state = .wet ∨ ∀ n ∈ s.zoneSlots z, n ∈ shed) :
    Inv { g with late := late, toLock := lock, toShed := shed, unjudged := open' } (moveZone z x s) := by
  rw [moveZone_eq]
  have hset := h.setZone (x := x.entered) (fun o => late o ∨ o = .wet z) lock shed open'
    (fun o ho => ⟨(hlate o (not_or.1 ho).1).1, fun e => absurd e (not_or.1 ho).2, (hlate o (not_or.1 ho).1).2⟩)
    hg hopen (fun hk => (hx hk).entered) hvalve hlocked hlock hshedded hshed
  have hreport := Inv.report
    (g := { g with late := late, toLock := lock, toShed := shed, unjudged := open', unwatched := true }) (.wet z) hset
    (a := x.state == .wet) (by
      simp only [State.due, setZone_zones, if_pos]
      rfl)
  exact Inv.lineWatch (g := { g with late := late, toLock := lock, toShed := shed, unjudged := open' }) hreport

/-- A move to a state that is not WET and leaves the fault flag alone. -/
theorem moveZone_calm_inv (h : Inv g s) {z : ZoneId} {x : Zone} (hg : g.unjudged = none ∨ g.unjudged = some z)
    (hst : x.state ≠ .wet) (hfault : x.ropeFault = s.leak.zones[z].ropeFault)
    (hx : g.unkept = false → ZoneOk False x) :
    Inv { g with unjudged := none } (moveZone z x s) :=
  moveZone_inv h g.late g.toLock g.toShed none (fun o ho => ⟨ho, fun _ => hfault⟩) hg (.inl rfl)
    (fun hk => ⟨(hx hk).dry, (hx hk).fault, fun hs => ((hx hk).evidence hs).imp_left False.elim, (hx hk).ropeCount,
      (hx hk).trayCount⟩)
    (fun hw => absurd hw hst) (fun _ => id) (fun hw => absurd hw hst) (fun _ => id) fun hw => absurd hw hst

/-! ### WET (R151) -/

theorem spendRope_inv (h : Inv g s) (z : ZoneId) : Inv g (spendRope z s) := by
  unfold spendRope
  split
  · exact h
  · exact
      { h with
        link := h.link.of_same rfl rfl rfl
        conditions := fun o ho => by
          refine (h.conditions o ho).trans ?_
          cases o <;> rfl }

theorem spendRope_leak (z : ZoneId) (s : State) : (spendRope z s).leak = s.leak := by unfold spendRope; split <;> rfl
theorem spendRope_settings (z : ZoneId) (s : State) : (spendRope z s).settings = s.settings := by unfold spendRope; split <;> rfl

theorem lineWatch_settings (s : State) : (lineWatch s).settings = s.settings := base_settings (lineWatch_base s)

theorem moveZone_settings (z : ZoneId) (x : Zone) (s : State) : (moveZone z x s).settings = s.settings := by
  rw [moveZone_eq, lineWatch_settings, reportCondition_settings, State.setZone_settings]

/-- The record of a zone that is confirmed (R151). -/
def Zone.confirmed (x : Zone) (how : Confirmation) (policy : Policy) : Zone :=
  { x with state := .wet, confirmation := how, valve := x.valve || policy.closesValve }

theorem enterWet_eq (z : ZoneId) (how : Confirmation) (s : State) :
    enterWet z how s =
      if s.settings.zones[z].policy = .valveAndShed then
        shedZone z (lockZone z (raise (causeZoneWet z) (s.ropeValue z) (BitVec.ofNat 8 how.code)
          (moveZone z (s.leak.zones[z].confirmed how s.settings.zones[z].policy) (spendRope z s))))
      else
        lockZone z (raise (causeZoneWet z) (s.ropeValue z) (BitVec.ofNat 8 how.code)
          (moveZone z (s.leak.zones[z].confirmed how s.settings.zones[z].policy) (spendRope z s))) := rfl

theorem zoneSlots_congr {t : State} (h : t.settings = s.settings) (z : ZoneId) : t.zoneSlots z = s.zoneSlots z := by
  unfold State.zoneSlots
  rw [h]

theorem enterWet_inv (h : Inv g s) {z : ZoneId} (hloose : g.loose = none) (hg : g.unjudged = none ∨ g.unjudged = some z)
    (hlock : g.toLock = []) (hshed : g.toShed = []) (how : Confirmation) : Inv { g with unjudged := none } (enterWet z how s) := by
  have hwet (shed : List SlotId) (hs : s.settings.zones[z].policy = .valveAndShed → shed = s.zoneSlots z) :
      Inv { g with toLock := s.zoneSlots z, toShed := shed, unjudged := none }
        (raise (causeZoneWet z) (s.ropeValue z) (BitVec.ofNat 8 how.code)
          (moveZone z (s.leak.zones[z].confirmed how s.settings.zones[z].policy) (spendRope z s))) := by
    have hslots : (spendRope z s).zoneSlots z = s.zoneSlots z := zoneSlots_congr (spendRope_settings z s) z
    have hmove := moveZone_inv (spendRope_inv h z) (x := s.leak.zones[z].confirmed how s.settings.zones[z].policy)
      g.late (s.zoneSlots z) shed none (fun o ho => ⟨ho, fun _ => by rw [spendRope_leak]; rfl⟩) hg (.inl rfl)
      (fun hk => ⟨nofun, nofun, nofun, (h.zones hk z).ropeCount, (h.zones hk z).trayCount⟩)
      (fun _ hc => by
        rw [spendRope_settings] at hc
        simp only [Zone.confirmed, hc, Bool.or_true])
      (by simp [hlock]) (fun _ => .inr fun n hn => hslots ▸ hn) (by simp [hshed])
      (fun _ hp => .inr fun n hn => by
        rw [spendRope_settings] at hp
        rw [hs hp, ← hslots]
        exact hn)
    exact hmove.raise _ _ _
  have hsettings : (raise (causeZoneWet z) (s.ropeValue z) (BitVec.ofNat 8 how.code)
      (moveZone z (s.leak.zones[z].confirmed how s.settings.zones[z].policy) (spendRope z s))).settings = s.settings := by
    rw [raise_settings, moveZone_settings, spendRope_settings]
  rw [enterWet_eq]
  split
  · rename_i hp
    have hlocked := lockZone_inv (g := { g with toShed := s.zoneSlots z, unjudged := none }) (z := z)
      (by rw [zoneSlots_congr hsettings z]; exact hwet _ fun _ => rfl) hloose hlock
    refine shedZone_inv (g := { g with unjudged := none }) ?_ hloose hshed
    rwa [zoneSlots_congr ((base_settings (lockZone_base z _)).trans hsettings) z]
  · rename_i hp
    refine lockZone_inv (g := { g with unjudged := none }) (z := z) ?_ hloose hlock
    rw [zoneSlots_congr hsettings z]
    exact hwet g.toShed fun he => absurd he hp

/-! ### Evidence (R147 to R150) -/

theorem fallBack_inv (h : Inv g s) {z : ZoneId} (hg : g.unjudged = none ∨ g.unjudged = some z) :
    Inv { g with unjudged := none } (fallBack z s) := by
  unfold fallBack
  simp only
  split
  · refine moveZone_calm_inv h hg ?_ rfl fun hk => ⟨?_, ?_, ?_, (h.zones hk z).ropeCount, (h.zones hk z).trayCount⟩ <;>
      cases hf : s.leak.zones[z].ropeFault <;> simp
  · rename_i hnot
    exact
      { h with
        zones := fun hk y => by
          obtain ⟨ydry, yfault, yev, yrc, ytc⟩ := h.zones hk y
          refine ⟨ydry, yfault, fun hs => .inr ((yev hs).elim (fun he => ?_) id), yrc, ytc⟩
          have hzy : z = y := by
            rcases hg with hg | hg
            · rw [hg] at he
              cases he
            · exact Option.some.inj (hg.symm.trans he)
          subst hzy
          by_contra hnone
          refine hnot ⟨hs, ?_⟩
          simp only [not_or, Nat.not_lt, Nat.le_zero, Bool.not_eq_true] at hnone
          exact hnone }

theorem judgeZone_inv (h : Inv g s) {z : ZoneId} (hloose : g.loose = none) (hg : g.unjudged = none ∨ g.unjudged = some z)
    (hlock : g.toLock = []) (hshed : g.toShed = []) (how : Confirmation) : Inv { g with unjudged := none } (judgeZone z how s) :=
  ite_inv (fun _ => fallBack_inv h hg) fun _ => enterWet_inv h hloose hg hlock hshed how

theorem Inv.unjudge (h : Inv g s) (z : ZoneId) (hg : g.unjudged = none) : Inv { g with unjudged := some z } s :=
  { h with
    zones := fun hk y => by
      obtain ⟨hdry, hfault, hev, hrc, htc⟩ := h.zones hk y
      exact ⟨hdry, hfault, fun hs => (hev hs).imp_left (by simp [hg]), hrc, htc⟩ }

theorem countRope_inv (h : Inv g s) (z : ZoneId) (hg : g.unjudged = none) (wet : Bool) :
    Inv { g with unjudged := some z } (countRope z wet s) := by
  unfold countRope
  simp only
  split
  · refine ite_inv (fun _ => ?_) fun _ => h.unjudge z hg
    have hmove := moveZone_calm_inv h (x := { s.leak.zones[z] with state := .suspect, ropeCount := 1, trayCount := 0 }) (.inl hg)
      nofun rfl fun _ => ⟨nofun, nofun, fun _ => .inr (.inl Nat.one_pos), (by decide : (1 : Nat) ≤ 255), Nat.zero_le _⟩
    exact hmove.unjudge z rfl
  · rename_i hst
    refine h.tuneZone (some z) (.inl hg) (.inr rfl) rfl rfl rfl fun hk => ?_
    obtain ⟨hdry, hfault, hev, hrc, htc⟩ := h.zones hk z
    refine ⟨hdry, hfault, fun _ => .inl rfl, ?_, htc⟩
    simp only
    split <;> omega
  · exact h.unjudge z hg
  · exact h.unjudge z hg

theorem countTray_inv (h : Inv g s) (z : ZoneId) (hg : g.unjudged = none) (accepted : Bool) :
    Inv { g with unjudged := some z } (countTray z accepted s) := by
  have hmove := moveZone_calm_inv h (x := { s.leak.zones[z] with state := .suspect, ropeCount := 0, trayCount := 1 }) (.inl hg)
    nofun rfl fun _ => ⟨nofun, nofun, fun _ => .inr (.inr (.inl Nat.one_pos)), Nat.zero_le _, (by decide : (1 : Nat) ≤ 255)⟩
  have hsuspect : Inv { g with unjudged := some z }
      (if accepted then moveZone z { s.leak.zones[z] with state := .suspect, ropeCount := 0, trayCount := 1 } s else s) :=
    ite_inv (fun _ => hmove.unjudge z rfl) fun _ => h.unjudge z hg
  unfold countTray
  simp only
  split
  · exact hsuspect
  · exact hsuspect
  · refine h.tuneZone (some z) (.inl hg) (.inr rfl) rfl rfl rfl fun hk => ?_
    obtain ⟨hdry, hfault, hev, hrc, htc⟩ := h.zones hk z
    refine ⟨hdry, hfault, fun _ => .inl rfl, hrc, ?_⟩
    simp only
    split <;> omega
  · exact h.unjudge z hg

/-! ### Ropes (R145) -/

/-- The record of a zone whose rope turns out broken (R145). -/
def Zone.ropeBroken (x : Zone) : Zone :=
  { x with
    state := match x.state with
      | .dry => .fault
      | .suspect => if 0 < x.trayCount then .suspect else .fault
      | st => st
    ropeFault := true
    ropeCount := if x.state = .suspect then 0 else x.ropeCount }

/-- The record of a zone whose rope reads DRY again (R145). -/
def Zone.ropeMended (x : Zone) : Zone := { x with state := if x.state = .fault then .dry else x.state, ropeFault := false }

theorem judgeRope_eq (z : ZoneId) (old : RopeClass) (s : State) :
    judgeRope z old s =
      let x := s.leak.zones[z]
      if x.cls.broken then
        if x.ropeFault then
          if old.broken && old != x.cls then raise (causeRopeFault z) (s.ropeValue z) (ropeFaultCode x.cls) s else s
        else
          raise (causeRopeFault z) ((moveZone z x.ropeBroken s).ropeValue z) (ropeFaultCode x.cls)
            (reportCondition (causeRopeFault z) true (moveZone z x.ropeBroken s))
      else if x.cls = .dry ∧ x.ropeFault = true then reportCondition (causeRopeFault z) false (moveZone z x.ropeMended s)
      else s := rfl

theorem Zone.ropeBroken_state (x : Zone) :
    x.ropeBroken.state = .fault ∨ (0 < x.trayCount ∧ x.ropeBroken.state = .suspect) ∨
      (x.state = .wet ∧ x.ropeBroken.state = .wet) := by
  cases hst : x.state <;> simp only [Zone.ropeBroken, hst]
  case suspect =>
    by_cases ht : 0 < x.trayCount
    · simp [ht]
    · simp [ht]
  all_goals simp

theorem ZoneOk.ropeBroken {p : Prop} {x : Zone} (h : ZoneOk p x) : ZoneOk False x.ropeBroken := by
  obtain ⟨-, -, -, hrc, htc⟩ := h
  refine ⟨fun hd => ?_, fun _ => rfl, fun hs => ?_, ?_, htc⟩
  · rcases x.ropeBroken_state with e | ⟨-, e⟩ | ⟨-, e⟩ <;> exact absurd (e.symm.trans hd) nofun
  · rcases x.ropeBroken_state with e | ⟨ht, -⟩ | ⟨-, e⟩
    · exact absurd (e.symm.trans hs) nofun
    · exact .inr (.inr (.inl ht))
    · exact absurd (e.symm.trans hs) nofun
  · unfold Zone.ropeBroken
    simp only
    split
    · exact Nat.zero_le _
    · exact hrc

theorem ZoneOk.ropeMended {x : Zone} (h : ZoneOk False x) : ZoneOk False x.ropeMended := by
  obtain ⟨-, -, hev, hrc, htc⟩ := h
  refine ⟨fun _ => rfl, fun hs => ?_, fun hs => hev ?_, hrc, htc⟩ <;> simp only [Zone.ropeMended] at hs <;> split at hs
  · cases hs
  · exact absurd hs ‹_›
  · cases hs
  · exact hs

theorem moveZone_zones (z y : ZoneId) (x : Zone) (s : State) :
    (moveZone z x s).leak.zones[y] = if z = y then x.entered else s.leak.zones[y] := by
  have hleak : (moveZone z x s).leak = (s.setZone z x.entered).leak := by
    rw [moveZone_eq, base_leak (lineWatch_base _), reportCondition_leak]
  rw [hleak, setZone_zones]

/-- A move of a zone that is not WET, with a new fault flag and its report. -/
theorem moveFault_inv (h : Inv g s) {z : ZoneId} {x : Zone} (hg : g.unjudged = none) (hst : x.state ≠ .wet)
    (hx : g.unkept = false → ZoneOk False x) {a : Bool} (ha : a = x.ropeFault) :
    Inv g (reportCondition (causeRopeFault z) a (moveZone z x s)) := by
  have hmove := moveZone_inv (x := x) h (fun o => g.late o ∨ o = .ropeFault z) g.toLock g.toShed none
    (fun o ho => ⟨(not_or.1 ho).1, fun e => absurd e (not_or.1 ho).2⟩) (.inl hg) (.inl rfl)
    (fun hk => ⟨(hx hk).dry, (hx hk).fault, fun hs => ((hx hk).evidence hs).imp_left False.elim, (hx hk).ropeCount,
      (hx hk).trayCount⟩)
    (fun hw => absurd hw hst) (fun _ => id) (fun hw => absurd hw hst) (fun _ => id) (fun hw => absurd hw hst)
  have hreport := Inv.report (g := { g with unjudged := none }) (.ropeFault z) hmove (a := a) (by
    simp only [State.due, moveZone_zones, if_pos, ha]
    rfl)
  rwa [Slack.with_unjudged hg] at hreport

theorem ZoneOk.closed {x : Zone} {z : ZoneId} (hg : g.unjudged = none) (h : ZoneOk (g.unjudged = some z) x) : ZoneOk False x :=
  ⟨h.dry, h.fault, fun hs => (h.evidence hs).imp_left (by simp [hg]), h.ropeCount, h.trayCount⟩

/-- A record that keeps its state, its fault flag and its evidence. -/
theorem ZoneOk.closedFor {p : Prop} {x y : Zone} {z : ZoneId} (hg : g.unjudged = none) (h : ZoneOk (g.unjudged = some z) x)
    (hst : y.state = x.state := by rfl) (hfault : y.ropeFault = x.ropeFault := by rfl) (hrc : y.ropeCount = x.ropeCount := by rfl)
    (htc : y.trayCount = x.trayCount := by rfl) (hset : y.awaitSet = x.awaitSet := by rfl)
    (hcycle : y.awaitCycle = x.awaitCycle := by rfl) : ZoneOk p y := by
  refine ⟨?_, ?_, fun hs => ?_, hrc ▸ h.ropeCount, htc ▸ h.trayCount⟩
  · rw [hst, hfault]
    exact h.dry
  · rw [hst, hfault]
    exact h.fault
  · rw [hrc, htc, hset, hcycle]
    exact .inr ((h.evidence (hst ▸ hs)).resolve_left (by simp [hg]))

theorem judgeRope_inv (h : Inv g s) {z : ZoneId} (hg : g.unjudged = none) (hst : s.leak.zones[z].state ≠ .wet) (old : RopeClass) :
    Inv g (judgeRope z old s) := by
  have hok (hk : g.unkept = false) := (h.zones hk z).closed hg
  have hbroken : (s.leak.zones[z]).ropeBroken.state ≠ .wet := by
    rcases (s.leak.zones[z]).ropeBroken_state with e | ⟨-, e⟩ | ⟨e, -⟩
    · rw [e]
      nofun
    · rw [e]
      nofun
    · exact absurd e hst
  have hmended : (s.leak.zones[z]).ropeMended.state ≠ .wet := by
    unfold Zone.ropeMended
    simp only
    split
    · nofun
    · exact hst
  rw [judgeRope_eq]
  refine ite_inv (fun _ => ite_inv (fun _ => ite_inv (fun _ => h.raise _ _ _) fun _ => h) fun _ => ?_) fun _ =>
    ite_inv (fun _ => moveFault_inv h hg hmended (fun hk => (hok hk).ropeMended) rfl) fun _ => h
  exact (moveFault_inv h hg hbroken (fun hk => (hok hk).ropeBroken) rfl).raise _ _ _

/-! ### Zones on a sample set and on a cycle end -/

/-- No zone is being judged or shed. -/
structure Slack.Level (g : Slack) : Prop where
  loose : g.loose = none
  unjudged : g.unjudged = none
  toLock : g.toLock = []
  toShed : g.toShed = []

theorem judgeAfter_inv (hg : g.Level) {z : ZoneId} (h : Inv { g with unjudged := some z } s) (how : Confirmation) :
    Inv g (judgeZone z how s) := by
  have hdone := judgeZone_inv h hg.loose (.inr rfl) hg.toLock hg.toShed how
  rwa [Slack.with_unjudged hg.unjudged] at hdone

theorem sampleZone_inv (h : Inv g s) (hg : g.Level) (z : ZoneId) : Inv g (sampleZone z s) := by
  unfold sampleZone
  simp only
  split
  · exact h
  rename_i c _
  have hread := h.tuneZone (x := { s.leak.zones[z] with
      code := some c, cls := ropeClass s.settings.zones[z] s.leak.zones[z].cls c }) none (.inl hg.unjudged) (.inl rfl) rfl rfl rfl
    fun hk => (h.zones hk z).closedFor hg.unjudged
  rw [Slack.with_unjudged hg.unjudged] at hread
  refine ite_inv (fun _ => hread) fun hwet => ?_
  have hrope := judgeRope_inv hread (z := z) hg.unjudged (by rw [setZone_zones, if_pos rfl]; exact hwet) s.leak.zones[z].cls
  exact judgeAfter_inv hg (countRope_inv hrope z hg.unjudged _) _

theorem sampleLeak_inv (h : Inv g s) (hg : g.Level) : Inv g (sampleLeak s) := foldl_inv (fun _ z _ ht => sampleZone_inv ht hg z) h

theorem cycleZone_inv (h : Inv g s) (hg : g.Level) (z : ZoneId) (report held : Bool) : Inv g (cycleZone z report held s) := by
  have hread := h.tuneZone (x := { s.leak.zones[z] with report := report, reportHeld := held }) none (.inl hg.unjudged) (.inl rfl)
    rfl rfl rfl fun hk => (h.zones hk z).closedFor hg.unjudged
  rw [Slack.with_unjudged hg.unjudged] at hread
  exact ite_inv (fun _ => hread) fun _ => judgeAfter_inv hg (countTray_inv hread z hg.unjudged _) _

theorem cycleLeak_inv (h : Inv g s) (hg : g.Level) : Inv g (cycleLeak s) := foldl_inv (fun _ z _ ht => cycleZone_inv ht hg z _ _) h

/-! ### Sense points (R4, R5, R14) -/

theorem setPoint_points (s : State) (p q : PointId) (x : Point) :
    (s.setPoint p x).sense.points[q] = if p = q then x else s.sense.points[q] := get_set _ _ _ _

/-- An analog point takes a record, and its condition has yet to be reported. -/
theorem Inv.setAnalog (h : Inv g s) {p : AnalogId} {x : Point} (hstale : x.stale = SenseLaw.startsOrRails x.raw)
    (hoff : s.settings.points[p].mode = .off → x.alarm = false) :
    Inv { g with late := fun o => g.late o ∨ o = .analog p } (s.setPoint (AnalogId.point p) x) :=
  { h with
    link := h.link.of_same rfl rfl rfl
    conditions := fun o ho => by
      refine (h.conditions o (not_or.1 ho).1).trans ?_
      cases o with
      | analog q =>
        have hne : p ≠ q := fun e => (not_or.1 ho).2 (by rw [e])
        simp only [State.due, setPoint_points, if_neg (analogPoint_ne hne)]
      | rope z => simp only [State.due, setPoint_points, if_neg (analogPoint_ne_ropePoint p z)]
      | _ => rfl
    points := fun q => by
      rw [setPoint_points]
      by_cases he : p = q
      · subst he
        rw [if_pos rfl]
        exact ⟨hstale, hoff⟩
      · rw [if_neg (analogPoint_ne he)]
        exact h.points q }

/-- A rope point takes a record, and its condition has yet to be reported. -/
theorem Inv.setRope (h : Inv g s) (z : ZoneId) (x : Point) :
    Inv { g with late := fun o => g.late o ∨ o = .rope z } (s.setPoint (ropePoint z) x) :=
  { h with
    link := h.link.of_same rfl rfl rfl
    conditions := fun o ho => by
      refine (h.conditions o (not_or.1 ho).1).trans ?_
      cases o with
      | rope y =>
        have hne : z ≠ y := fun e => (not_or.1 ho).2 (by rw [e])
        simp only [State.due, setPoint_points, if_neg (ropePoint_ne hne)]
      | analog q => simp only [State.due, setPoint_points, if_neg (analogPoint_ne_ropePoint q z).symm]
      | _ => rfl
    points := fun q => by
      rw [setPoint_points, if_neg (analogPoint_ne_ropePoint q z).symm]
      exact h.points q }

/-- An analog point takes a record and reports its condition (R14). -/
theorem setPoint_inv (h : Inv g s) {p : AnalogId} {x : Point} (hstale : x.stale = SenseLaw.startsOrRails x.raw)
    (hoff : s.settings.points[p].mode = .off → x.alarm = false) :
    Inv g (reportCondition (causePoint (AnalogId.point p)) x.alarming (s.setPoint (AnalogId.point p) x)) :=
  Inv.report (.analog p) (h.setAnalog hstale hoff) (by
    simp only [State.due, setPoint_points, if_pos]
    rfl)

theorem scanAnalog_inv (h : Inv g s) (p : AnalogId) (c : BitVec 12) : Inv g (scanAnalog p c s) := by
  have hset := setPoint_inv h (p := p) (x := nextPoint p s.settings.points[p] s.sense.points[AnalogId.point p] c) (by
    unfold nextPoint
    split
    · rename_i hr
      exact hr.symm
    · rename_i hr
      exact (Bool.not_eq_true _ ▸ hr).symm) (fun hoff => by
    unfold nextPoint
    split
    · exact (h.points p).2 hoff
    · simp only [alarmNext, hoff])
  unfold scanAnalog
  exact ite_inv (fun _ => ite_inv (fun _ => hset.raise _ _ _) fun _ => hset) fun _ =>
    ite_inv (fun _ => hset.raise _ _ _) fun _ => hset

theorem scanRope_inv (h : Inv g s) (z : ZoneId) (c : BitVec 12) : Inv g (scanRope z c s) := by
  have hset := Inv.report (.rope z) (h.setRope z { s.sense.points[ropePoint z] with
    raw := some c, value := (c.toNat : Int), stale := false }) (a := railCode c) (by
      simp only [State.due, setPoint_points, if_pos]
      rfl)
  exact ite_inv (fun _ => hset.raise _ _ _) fun _ => hset

theorem publishSet_inv (h : Inv g s) : Inv g (publishSet s) :=
  { h with
    link := h.link.of_same rfl rfl rfl
    conditions := fun o ho => by
      refine (h.conditions o ho).trans ?_
      cases o <;> rfl }

theorem scanSet_inv (h : Inv g s) (codes : Vector (BitVec 12) 29) : Inv g (scanSet codes s) := by
  unfold scanSet
  exact publishSet_inv (foldl_inv (fun _ z _ ht => scanRope_inv ht z _) (foldl_inv (fun _ p _ ht => scanAnalog_inv ht p _) h))

/-! ### Time (log 3) -/

theorem Timer.pass_isSome (t : Timer) : (Timer.pass t).isSome = t.isSome := by cases t <;> rfl

theorem passInterval_slots (s : State) (n : SlotId) : (passInterval s).seq.slots[n] = s.seq.slots[n].pass := by
  simp only [passInterval, Fin.getElem_fin, Vector.getElem_ofFn]

theorem passInterval_queue (s : State) : (passInterval s).seq.queue = s.seq.queue := by simp only [passInterval]
theorem passInterval_seqHoldup (s : State) : (passInterval s).seq.lastHoldup = s.seq.lastHoldup := by simp only [passInterval]
theorem passInterval_line (s : State) : (passInterval s).line = { s.line with survey := Timer.pass s.line.survey } := by
  simp only [passInterval]

theorem SlotOk.pass {p : Prop} {x : Slot} (h : SlotOk p x) : SlotOk p x.pass :=
  ⟨h.en, h.notice, (Timer.pass_isSome _).trans h.soak, (Timer.pass_isSome _).trans h.window, (Timer.pass_isSome _).trans h.hold,
    (Timer.pass_isSome _).trans h.drain, h.pg⟩

theorem passInterval_inv (h : Inv g s) : Inv g (passInterval s) :=
  { h with
    link := h.link.of_same rfl rfl rfl
    settings := by
      refine ⟨h.settings.1, h.settings.2.1, fun w hw => ?_⟩
      obtain ⟨w', hw', rfl⟩ := Option.map_eq_some_iff.1 hw
      exact h.settings.2.2 w' hw'
    conditions := fun o ho => by
      refine (h.conditions o ho).trans ?_
      cases o with
      | slot n =>
        simp only [State.due, passInterval_slots]
        rfl
      | _ => rfl
    slots := fun n => by
      rw [passInterval_slots]
      exact (h.slots n).pass
    up := fun n hn => by
      rw [passInterval_slots]
      exact h.up n hn
    warned := fun n => by
      rw [passInterval_slots]
      exact h.warned n
    inQueue := fun n hn => by
      rw [passInterval_slots]
      rw [passInterval_queue] at hn
      exact h.inQueue n hn
    queued := fun n => by
      rw [passInterval_slots, passInterval_queue]
      exact h.queued n
    order := by
      rw [passInterval_queue]
      exact h.order
    dryQueue := fun n => by
      rw [passInterval_slots]
      exact h.dryQueue n
    shut := fun n => by
      rw [passInterval_slots]
      exact h.shut n
    deficitTimer := (Timer.pass_isSome _).trans h.deficitTimer
    regulator :=
      ⟨h.regulator.shares, h.regulator.yielded, (Timer.pass_isSome _).trans h.regulator.step,
        (Timer.pass_isSome _).trans h.regulator.floorTimer, h.regulator.idle, h.regulator.cruise, h.regulator.floor⟩
    holdup :=
      fun hk => ⟨(Timer.pass_isSome _).trans (h.holdup hk).settle,
        fun hc => (h.holdup hk).collapse ((Timer.pass_isSome _).symm.trans hc),
        fun hb => (h.holdup hk).bridging ((Timer.pass_isSome _).symm.trans hb), (h.holdup hk).event, (h.holdup hk).record⟩
    holdupCopy := by
      rw [passInterval_seqHoldup]
      exact h.holdupCopy
    line := by
      rw [passInterval_line]
      exact ⟨h.line.enabled, h.line.faultRun, h.line.cleanRun, h.line.faults, h.line.hold, h.line.wave⟩
    starts := by
      rw [passInterval_line]
      refine fun hm hw => ⟨(h.starts hm hw).1.imp_left fun hs => (Timer.pass_isSome _).trans hs, fun hu hc => (h.starts hm hw).2 hu ?_⟩
      simp only [State.continuousCondition, passInterval_slots, passInterval_line] at hc
      exact hc }

/-- R1: a whole sample set. -/
theorem sampleSet_inv (h : Inv g s) (hg : g.Level) (hn : g.now = none) (hl : g.leaving = false)
    (codes : Vector (BitVec 12) 29) : Inv g (sampleSet codes s) := by
  unfold sampleSet
  exact sampleRegulator_inv (sampleLeak_inv (sampleHoldup_inv (sampleCharge_inv (sampleBudget_inv
    (scanSet_inv (passInterval_inv h) codes)) hg.loose _) hg.loose hn hl) hg)

end ZonesAndPoints


end Sys2Proof.Machine
end

section
/-! PROOFS. The slot status line keeps the laws of a running part. -/

namespace Sys2Proof.Machine

section LineUnit

variable {g : Slack} {s : State}

/-- The line takes a record; `late` and `u` are the slack that stays. -/
theorem Inv.setLine (h : Inv g s) {x : Line} (late : Owner → Prop) (u : Bool)
    (hlate : ∀ o, ¬ late o → ¬ g.late o ∧ (∀ n, o = .attention n → x.attention.getLsbD n.val = s.line.attention.getLsbD n.val) ∧
      (o = .line → x.state = s.line.state))
    (hx : LineOk x)
    (hstarts : x.mode = .quiet → x.cycle.waiting = true → (x.survey.isSome = true ∨ x.startDue = true) ∧
      (u = false → (s.setLine x).continuousCondition = true → x.startDue = true)) :
    Inv { g with late := late, unwatched := u } (s.setLine x) :=
  { h with
    link := h.link.of_same rfl rfl rfl
    conditions := fun o ho => by
      obtain ⟨hnot, hattention, hstate⟩ := hlate o ho
      refine (h.conditions o hnot).trans ?_
      cases o with
      | attention n => exact (hattention n rfl).symm
      | line => simp only [State.due, State.setLine_line, hstate rfl]
      | _ => rfl
    line := hx
    starts := hstarts }

/-! ### Start of a cycle (R130, R131, R135) -/

theorem beginCycle_inv (h : Inv g s) (byTray : Bool) : Inv g (beginCycle byTray s) := by
  rw [beginCycle_eq]
  exact h.setLine g.late g.unwatched (fun o ho => ⟨ho, fun _ _ => rfl, fun _ => rfl⟩)
    ⟨h.line.enabled, h.line.faultRun, h.line.cleanRun, h.line.faults, h.line.hold, byTray, (List.append_nil _).symm⟩ nofun

theorem startCycle_inv (h : Inv g s) (byTray : Bool) : Inv g (startCycle byTray s) :=
  ite_inv (fun _ => beginCycle_inv h byTray) fun _ => h

theorem expireSurvey_inv (h : Inv g s) : Inv g (expireSurvey s) :=
  h.setLine (x := { s.line with startDue := true, survey := none }) g.late g.unwatched (fun o ho => ⟨ho, fun _ _ => rfl, fun _ => rfl⟩)
    ⟨h.line.enabled, h.line.faultRun, h.line.cleanRun, h.line.faults, h.line.hold, h.line.wave⟩
    fun _ _ => ⟨.inr rfl, fun _ _ => rfl⟩

/-! ### End of slot frame 23 (R134) -/

/-- The line at the end of slot frame 23, its mode judged (R130, R134). -/
def Line.stopping (x : Line) (n : SlotId) (phase : LinePhase) (mode : LineMode) (survey : Timer) : Line :=
  { x with
    wave := x.wave ++ (slotClocks x.latched).drop (6 * n.val + phase.offset)
    mode := mode
    cycle := .stopFrame mode.stopLength
    survey := survey }

theorem judgeMode_eq (n : SlotId) (phase : LinePhase) (s : State) :
    judgeMode (driveSlotFrames n phase s) =
      if s.continuousCondition then s.setLine (s.line.stopping n phase .continuous s.line.survey)
      else s.setLine (s.line.stopping n phase .quiet (some (s.settings.line.survey * 10))) := rfl

theorem Line.stopping_ok {x : Line} (h : LineOk x) {n : SlotId} {phase : LinePhase} (hc : x.cycle = .slotFrame n phase)
    (mode : LineMode) (survey : Timer) : LineOk (x.stopping n phase mode survey) := by
  have hwave := h.wave
  unfold Line.WaveLaw at hwave
  rw [hc] at hwave
  obtain ⟨byTray, hwave⟩ := hwave
  refine ⟨h.enabled, h.faultRun, h.cleanRun, h.faults, h.hold, rfl, byTray, ?_⟩
  simp only [Line.stopping]
  rw [hwave, List.append_assoc, List.take_append_drop]

theorem endFrame23_inv (h : Inv g s) : Inv g (endFrame23 s) := by
  unfold endFrame23
  split
  · rename_i n phase hc
    rw [judgeMode_eq]
    refine ite_inv (fun _ => h.setLine g.late g.unwatched (fun o ho => ⟨ho, fun _ _ => rfl, fun _ => rfl⟩)
      (Line.stopping_ok h.line hc .continuous _) nofun) fun hquiet =>
        h.setLine g.late g.unwatched (fun o ho => ⟨ho, fun _ _ => rfl, fun _ => rfl⟩) (Line.stopping_ok h.line hc .quiet _)
          fun _ _ => ⟨.inl rfl, fun _ hcont => absurd hcont hquiet⟩
  · exact h
  · exact h
  · exact h

/-! ### Cycle end (R136 to R139) -/

/-- The line at a cycle end (R130, R136, R138, R139). -/
def State.closedLine (s : State) (c : CycleSamples) : Line :=
  let x := s.line.count (cycleFaulted c)
  let decoded := !cycleFaulted c && x.judge (cycleFaulted c) == .ok
  { x with
    state := x.judge (cycleFaulted c)
    cycle := .idle
    wave := x.wave ++ x.cycle.stopFrameClocks ++ gapClocks x.mode
    cycleNo := (x.cycleNo + 1) % 4294967296
    attention := if decoded then s.believe c.a else x.attention
    hold := if decoded then s.believe c.b else 0
    leak := if decoded then s.leakReports (if decoded then s.believe c.a else x.attention) else x.leak
    leakHeld := !decoded }

theorem closeCycle_eq (c : CycleSamples) (s : State) : closeCycle c s = s.setLine (s.closedLine c) := rfl

/-- R138: the counts keep their bounds, and the rest of the line stays. -/
theorem Line.count_frame (x : Line) (faulted : Bool) :
    (x.count faulted).enabled = x.enabled ∧ (x.count faulted).wave = x.wave ∧ (x.count faulted).cycle = x.cycle ∧
      (x.count faulted).mode = x.mode ∧ (x.count faulted).latched = x.latched ∧ (x.count faulted).survey = x.survey ∧
      (x.count faulted).startDue = x.startDue := by
  unfold Line.count
  split <;> exact ⟨rfl, rfl, rfl, rfl, rfl, rfl, rfl⟩

theorem Line.count_bounds {x : Line} (h : LineOk x) (faulted : Bool) :
    (x.count faulted).faultRun ≤ 3 ∧ (x.count faulted).cleanRun ≤ 16 ∧ (x.count faulted).faults ≤ 65535 := by
  have := h.faultRun
  have := h.cleanRun
  have := h.faults
  unfold Line.count
  split <;> simp only <;> omega

theorem closedLine_ok (h : LineOk s.line) {clocks : Nat} (hc : s.line.cycle = .stopFrame clocks) (c : CycleSamples) :
    LineOk (s.closedLine c) := by
  obtain ⟨henabled, hwave, hcycle, hmode, hlatched, -, -⟩ := s.line.count_frame (cycleFaulted c)
  obtain ⟨hfr, hcr, hf⟩ := Line.count_bounds h (cycleFaulted c)
  refine ⟨henabled.trans h.enabled, hfr, hcr, hf, fun hst => ?_, ?_⟩
  · have hjudge : (s.line.count (cycleFaulted c)).judge (cycleFaulted c) = .failed := hst
    simp only [State.closedLine, hjudge]
    rw [if_neg (by simp)]
  · have hold := h.wave
    unfold Line.WaveLaw at hold
    rw [hc] at hold
    obtain ⟨hclocks, byTray, hold⟩ := hold
    refine .inr ⟨byTray, ?_⟩
    simp only [State.closedLine]
    rw [hwave, hcycle, hmode, hlatched, hold, hc, hclocks]
    rfl

/-- R139: the change of line state is reported. -/
theorem reportLine_inv {old : LineState}
    (h : Inv { g with late := fun o => g.late o ∨ (o = .line ∧ s.line.state ≠ old) } s) : Inv g (reportLine old s) := by
  unfold reportLine
  split
  · rename_i hsame
    exact { h with conditions := fun o ho => h.conditions o (not_or.2 ⟨ho, fun he => he.2 hsame⟩) }
  · have hlate : Inv { g with late := fun o => g.late o ∨ o = .line } s :=
      h.allow fun o ho => ho.imp_right And.left
    exact Inv.raise (Inv.report .line hlate rfl) _ _ _

theorem reportLine_line (old : LineState) (s : State) : (reportLine old s).line = s.line := by
  unfold reportLine
  split
  · rfl
  · rw [raise_line, reportCondition_line]

theorem reportAttention_inv {old : BitVec 24} {n : SlotId} (h : Inv { g with late := fun o => g.late o ∨ o = .attention n } s) :
    Inv g (reportAttention old n s) := by
  have hreport := Inv.report (.attention n) h rfl
  exact ite_inv (fun _ => hreport.raise _ _ _) fun _ => hreport

theorem reportAttentions_inv {old : BitVec 24} {l : List SlotId}
    (h : Inv { g with late := fun o => g.late o ∨ ∃ n ∈ l, o = .attention n } s) :
    Inv g (l.foldl (fun s n => reportAttention old n s) s) := by
  induction l generalizing s with
  | nil => exact { h with conditions := fun o ho => h.conditions o (not_or.2 ⟨ho, by simp⟩) }
  | cons n l ih =>
    refine ih (reportAttention_inv (g := { g with late := fun o => g.late o ∨ ∃ n ∈ l, o = .attention n }) (h.allow ?_))
    rintro o (ho | ⟨m, hm, rfl⟩)
    · exact .inl (.inl ho)
    · rcases List.mem_cons.1 hm with rfl | hm
      · exact .inr rfl
      · exact .inl (.inr ⟨m, hm, rfl⟩)

theorem cycleHolds_inv (h : Inv g s) (hg : g.loose = none) (hp : g.promoted = none) : Inv g (cycleHolds s) :=
  foldl_inv (fun _ n _ ht => judgeHold_inv ht hg hp _ n) h

theorem endCycle_inv (h : Inv g s) (hg : g.Level) (hp : g.promoted = none) {clocks : Nat}
    (hc : s.line.cycle = .stopFrame clocks) (c : CycleSamples) : Inv g (endCycle c s) := by
  obtain ⟨-, -, -, hmode, -, hsurvey, hdue⟩ := s.line.count_frame (cycleFaulted c)
  have hclose : Inv { g with
      late := fun o => (g.late o ∨ ∃ n ∈ slotIds, o = .attention n) ∨ (o = .line ∧ (closeCycle c s).line.state ≠ s.line.state),
      unwatched := true } (closeCycle c s) := by
    rw [closeCycle_eq]
    refine h.setLine _ true (fun o ho => ?_) (closedLine_ok h.line hc c) fun hm _ => ⟨?_, nofun⟩
    · simp only [not_or, not_and, not_not] at ho
      obtain ⟨⟨hlate, hattention⟩, hline⟩ := ho
      exact ⟨hlate, fun n e => absurd ⟨n, mem_slotIds n, e⟩ hattention, hline⟩
    · have hold := (h.starts (hmode.symm.trans hm) (by rw [hc]; rfl)).1
      rw [← hsurvey, ← hdue] at hold
      exact hold
  have hline := reportLine_inv (g := { g with late := fun o => g.late o ∨ ∃ n ∈ slotIds, o = .attention n, unwatched := true }) hclose
  have hattention := reportAttentions_inv (g := { g with unwatched := true }) (old := s.line.attention) hline
  exact Inv.lineWatch (cycleLeak_inv (cycleHolds_inv hattention hg.loose hp) ⟨hg.loose, hg.unjudged, hg.toLock, hg.toShed⟩)

theorem cycleEnd_inv (h : Inv g s) (hg : g.Level) (hp : g.promoted = none) (c : CycleSamples) : Inv g (cycleEnd c s) := by
  unfold cycleEnd
  split
  · exact endCycle_inv h hg hp (by assumption) c
  · exact h
  · exact h
  · exact h

end LineUnit

end Sys2Proof.Machine
end

section
/-! PROOFS. The publications, the timers and the input changes keep the laws of a running part. -/

namespace Sys2Proof.Machine

section RunningEvents

variable {g : Slack} {s : State}

/-- The slack at the start of a command: none, but for the CRITICAL slots that are up. -/
structure Slack.Fresh (g : Slack) : Prop extends g.Level where
  now : g.now = none
  leaving : g.leaving = false
  promoted : g.promoted = none

theorem onExpiry_inv {t : Timer} {f : State → State} (h : Inv g s) (hf : Inv g (f s)) : Inv g (onExpiry t f s) := by
  unfold onExpiry
  split
  · exact h
  · exact hf

/-! ### Publications -/

theorem deliverHeadroom_inv (h : Inv g s) (hg : g.loose = none) (p : Int × Int) : Inv g (deliverHeadroom p s) := by
  have hset : Inv g (s.setSeq { s.seq with lastH := p.1 }) := h.setSeq rfl rfl rfl
  exact (regulatorHeadroom_inv (seqEvent_inv hset hg) p.1).setShed _

theorem headroomPublication_inv (h : Inv g s) (hg : g.loose = none) : Inv g (headroomPublication s) :=
  foldl_inv (fun _ p _ ht => deliverHeadroom_inv ht hg p) (h.setBudget (fun _ => rfl) rfl rfl)

theorem sequencerReserve_inv (h : Inv g s) (hg : g.loose = none) (inhibit : Bool) : Inv g (sequencerReserve inhibit s) := by
  have hset : Inv g (s.setSeq { s.seq with lastInhibit := inhibit }) := h.setSeq rfl rfl rfl
  exact ite_inv (fun _ => h) fun _ => seqEvent_inv hset hg

theorem deliverReserve_inv (h : Inv g s) (hg : g.Fresh) (p : ReservePub) : Inv g (deliverReserve p s) :=
  reserveHoldup_inv (regulatorReserve_inv (sequencerReserve_inv h hg.loose _) p) hg.loose hg.now hg.leaving p

theorem reservePublication_inv (h : Inv g s) (hg : g.Fresh) : Inv g (reservePublication s) :=
  foldl_inv (fun _ p _ ht => deliverReserve_inv ht hg p) (h.tuneCharge rfl)

theorem headReport_inv (h : Inv g s) : Inv g (headReport s) :=
  foldl_inv (fun _ r _ ht => regulatorHead_inv ht r) (h.setSeq rfl rfl rfl)

/-! ### Deficit -/

/-- The deficit state moves and its condition stays. -/
theorem Inv.shiftDeficit (h : Inv g s) {x : Budget} (hpsus : x.psus = s.budget.psus) (hold : s.budget.deficit ≠ .idle)
    (hnew : x.deficit ≠ .idle) (htimer : x.timer.isSome = (x.deficit == .grace)) : Inv g (s.setBudget x) :=
  { h with
    link := h.link.of_same rfl rfl rfl
    conditions := fun o ho => by
      refine (h.conditions o ho).trans ?_
      cases o with
      | deficit => simp only [State.due, State.setBudget_budget, bne_iff_ne.2 hold, bne_iff_ne.2 hnew]
      | psu k => simp only [State.due, State.setBudget_budget, hpsus]
      | _ => rfl
    deficitTimer := htimer
    deficit := fun _ => h.deficit hold }

theorem expireDeficit_inv (h : Inv g s) : Inv g (expireDeficit s) := by
  refine ite_inv (fun hgrace => ?_) fun _ => h
  have hset : Inv g (s.setBudget { s.budget with deficit := .selecting, timer := none, selAsked := s.budget.selAsked + 1 }) :=
    h.shiftDeficit rfl (by rw [hgrace]; nofun) nofun rfl
  exact hset.raise _ _ _

theorem enterPaused_budget (v : Int) (k : Byte) (s : State) : (enterPaused v k s).budget = s.budget := by
  rw [enterPaused_eq, raise_budget, reportCondition_budget, reshare_budget]
  rfl

theorem instructRegulator_budget (s : State) : (instructRegulator s).budget = s.budget := by
  unfold instructRegulator
  split
  · exact enterPaused_budget _ _ _
  · rfl

theorem settleHeadroom_deficit (s : State) : (settleHeadroom s).budget.deficit = s.budget.deficit := by
  simp only [settleHeadroom, State.setBudget_budget]

/-- R31: a recompute leaves SELECTING. -/
theorem recompute_selecting (hd : s.budget.deficit = .selecting) : (recompute s).budget.deficit = .selecting := by
  have hsettled (t : State) (ht : t.budget.deficit = .selecting) : (settleHeadroom t).budget.deficit = .selecting := by
    rw [settleHeadroom_deficit, ht]
  rcases recompute_cases s with ⟨-, e⟩ | ⟨-, e⟩ <;> rw [e]
  · exact hsettled s hd
  · have hmid := hsettled (instructRegulator s) (by rw [instructRegulator_budget, hd])
    unfold judgeDeficit
    rw [hmid]
    exact hmid

theorem judgeAnswer_inv (h : Inv g s) (hd : s.budget.deficit = .selecting) (projected : Int) : Inv g (judgeAnswer projected s) := by
  have hne : s.budget.deficit ≠ .idle := by rw [hd]; nofun
  have htimer : s.budget.timer.isSome = false := h.deficitTimer.trans (by rw [hd]; rfl)
  refine ite_inv (fun _ => endDeficit_inv h) fun _ => ite_inv (fun _ => ?_) fun _ => enterGrace_inv h (h.deficit hne) _ _
  exact h.shiftDeficit rfl hne nofun htimer

theorem takeAnswer_inv (h : Inv g s) : Inv g (takeAnswer s) := by
  have hset (x : Nat) (a : List (Int × Nat)) : Inv g (s.setBudget { s.budget with answers := a, stale := x }) :=
    h.setBudget (fun _ => rfl) rfl rfl
  rcases takeAnswer_cases s with ⟨e, -⟩ | ⟨a, rest, -, ⟨e, -⟩ | ⟨-, hd, e⟩⟩ <;> rw [e]
  · exact h
  · exact hset (s.budget.stale - 1) rest
  · exact judgeAnswer_inv (recompute_inv (hset (s.budget.stale - 1) rest)) (recompute_selecting hd) _

theorem selectSlots_sublist (pReq : SlotId → Nat) (l : List SlotId) (h : Int) : (selectSlots pReq l h).1.Sublist l := by
  induction l generalizing h with
  | nil => exact .slnil
  | cons n l ih =>
    unfold selectSlots
    split
    · exact (ih _).cons_cons n
    · exact List.nil_sublist _

theorem mem_foldl_insertSlot {before : SlotId → SlotId → Bool} {n : SlotId} {l acc : List SlotId} :
    n ∈ l.foldl (fun acc m => insertSlot before m acc) acc ↔ n ∈ l ∨ n ∈ acc := by
  induction l generalizing acc with
  | nil => simp
  | cons m l ih =>
    rw [List.foldl_cons, ih, mem_insertSlot, List.mem_cons]
    tauto

/-- R126: who is a candidate of a class. -/
theorem mem_candidates {c : SlotClass} {n : SlotId} :
    n ∈ s.candidates c ↔ s.seq.slots[n].state = .on ∧ s.settings.slots[n].cls = c ∧ 0 < s.settings.slots[n].pReq := by
  simp only [State.candidates, List.mem_reverse, mem_foldl_insertSlot, List.mem_filter, mem_slotIds, true_and, Bool.and_eq_true,
    beq_iff_eq, decide_eq_true_eq, List.not_mem_nil, or_false]
  tauto

/-- R126: a selection spares the CRITICAL slots. -/
theorem selectDeficit_inv (h : Inv g s) (hg : g.loose = none) : Inv g (selectDeficit s) := by
  refine ite_inv (fun _ => h) fun _ => ?_
  have hset : Inv g (s.setBudget { s.budget with selAsked := s.budget.selAsked - 1 }) := h.setBudget (fun _ => rfl) rfl rfl
  generalize hs : s.setBudget { s.budget with selAsked := s.budget.selAsked - 1 } = t at hset ⊢
  simp only
  have hshed : Inv g ((selectSlots (fun n => t.settings.slots[n].pReq) (t.candidates .deferrable ++ t.candidates .essential)
      (t.shed.lastH + (t.inFlightSum : Int))).1.foldl (fun s n => shedSlot n .deficit .prompt s) t) := by
    refine shedSlots_inv hset hg fun n hn => ⟨fun hc => ?_, fun _ => .inr (.inr (.inr rfl))⟩
    rcases List.mem_append.1 ((selectSlots_sublist _ _ _).subset hn) with hm | hm <;>
      exact absurd ((mem_candidates.1 hm).2.1.symm.trans hc) nofun
  exact hshed.setBudget (fun _ => rfl) rfl rfl

/-! ### Timers of the units -/

theorem expireTest_inv (h : Inv g s) (hg : g.loose = none) : Inv g (expireTest s) :=
  ite_inv (fun _ => recomputeReserve_inv (abortTest_inv h _ _) hg) fun _ => h

theorem expireSettle_inv (h : Inv g s) (hg : g.Fresh) : Inv g (expireSettle s) :=
  ite_inv (fun _ => enterOnline_inv h hg.loose hg.now hg.leaving) fun _ => h

theorem expireBridging_inv (h : Inv g s) (hg : g.loose = none) : Inv g (expireBridging s) := by
  have hset : Inv g (s.setHoldup { s.holdup with bridging := none }) :=
    h.setHoldup (fun hk => ⟨(h.holdup hk).settle, (h.holdup hk).collapse, nofun, (h.holdup hk).event, (h.holdup hk).record⟩) rfl
  exact (shedClass_inv hset hg le_rfl (.inr (.inr (.inl rfl)))).raise _ _ _

theorem expireCollapse_inv (h : Inv g s) (hg : g.Fresh) : Inv g (expireCollapse s) :=
  ite_inv (fun hst => enterBlackout_inv h hg.loose hg.now hg.leaving (by rw [hst]; nofun)) fun _ => h

theorem expireStep_inv (h : Inv g s) : Inv g (expireStep s) := ite_inv (fun hst => stepRegulator_inv h hst) fun _ => h

theorem expireFloor_inv (h : Inv g s) : Inv g (expireFloor s) :=
  ite_inv (fun hst => pauseRegulator_inv h (h.regulatorOn (by rw [hst]; nofun)) _) fun _ => h

/-! ### Timers of the slots -/

theorem expireStagger_inv (h : Inv g s) (hg : g.loose = none) : Inv g (expireStagger s) := seqEvent_inv (h.setSeq rfl rfl rfl) hg

theorem Slack.with_loose_none (h : g.loose = none) : { g with loose := none } = g := by
  rw [← h]

theorem expireSoak_inv (h : Inv g s) (hg : g.loose = none) (n : SlotId) : Inv g (expireSoak n s) := by
  refine ite_inv (fun hst => seqEvent_inv (ite_inv (fun hpg => recompute_inv ?_) fun hpg => ?_) hg) fun _ => h
  · obtain ⟨-, hnotice, -, hwindow, hhold, hdrain, -⟩ := h.slots n
    have hnone {α : Type} {o : Option α} {b : SlotState} (ho : o.isSome = (s.seq.slots[n].state == b)) (hb : b ≠ .soak) :
        o = none := by
      rw [hst] at ho
      exact Option.isNone_iff_eq_none.1 (Option.isSome_eq_false_iff.1 (ho.trans (beq_false_of_ne hb.symm)))
    have hstill : ({ s.seq.slots[n] with soak := none } : Slot).still :=
      ⟨hnotice.trans (by rw [hst]; rfl), rfl, hnone hwindow nofun, hnone hhold nofun, hnone hdrain nofun⟩
    have hmove := h.moveSlot (n := n) (st := .on) (upd := fun x => { x with soak := none }) none g.toShed (.inl hg) (.inl rfl)
      (fun m hm => .inl hm) (h.out_of_queue (by rw [hst]; nofun)) (hstill.moved_ok (.inr ⟨rfl, hpg⟩)) nofun
      (fun hs => absurd hs (Slot.not_shut_of_powered (by rw [hst]; rfl))) (by rintro (e | e) <;> cases e)
      fun _ _ => .inl (.inl rfl)
    rwa [← hg] at hmove
  · have hfault := faultSlot_inv (n := n) h (.inl hg) (by rw [hst]; nofun)
      (fun hu => absurd hu (h.not_up (Slot.not_keptUp (.inr (.inr (.inl hst)))))) codeSoakNoPg
    rwa [Slack.with_loose_none hg] at hfault

theorem expireWindow_inv (h : Inv g s) (hg : g.Fresh) (n : SlotId) : Inv g (expireWindow n s) :=
  ite_inv (fun hst => enterDraining_inv h hg.loose (by rw [hst]; rfl) fun hu _ => h.spares_of_warned hg.promoted (.inl hst) hu)
    fun _ => h

theorem expireHold_inv (h : Inv g s) (hg : g.Fresh) (n : SlotId) : Inv g (expireHold n s) :=
  ite_inv (fun hst => enterDraining_inv h hg.loose (by rw [hst]; rfl) fun hu _ => h.spares_of_warned hg.promoted (.inr hst) hu)
    fun _ => h

/-- The slots kept up are those that were up. -/
def Slack.Anchored (g : Slack) (s : State) : Prop :=
  ∀ n, g.up n → s.seq.slots[n].state = .on ∨ s.seq.slots[n].state = .notice ∨ s.seq.slots[n].state = .held

theorem Slack.Anchored.not_up (hup : g.Anchored s) {n : SlotId} {st : SlotState} (hst : s.seq.slots[n].state = st)
    (h : st ≠ .on ∧ st ≠ .notice ∧ st ≠ .held) : ¬ g.up n := fun hu => by
  have := hup n hu
  rw [hst] at this
  tauto

theorem expireDrain_inv (h : Inv g s) (hg : g.loose = none) (hup : g.Anchored s) (n : SlotId) : Inv g (expireDrain n s) := by
  refine ite_inv (fun hst => ?_) fun _ => h
  have hfault := faultSlot_inv (n := n) h (.inl hg) (by rw [hst.1]; nofun)
    (fun hu => absurd hu (hup.not_up hst.1 ⟨nofun, nofun, nofun⟩)) codePgStuck
  rwa [Slack.with_loose_none hg] at hfault

/-! ### Inputs -/

theorem Inv.setPins (h : Inv g s) (x : Pins) : Inv g (s.setPins x) :=
  { h with
    link := h.link.of_same rfl rfl rfl
    conditions := fun o ho => by
      refine (h.conditions o ho).trans ?_
      cases o <;> rfl }

theorem psuChange_inv (h : Inv g s) (hg : g.Fresh) (k : PsuId) (pin : PsuPin) : Inv g (psuChange k pin s) := by
  have hsee : Inv g (s.setPsu k (s.budget.psus[k].see s.pins.psu[k])) := by
    refine h.setBudget (fun j => ?_) rfl rfl
    rw [get_set]
    split
    · rename_i e
      subst e
      rfl
    · rfl
  have hclass := reclassifyPsu_inv hsee k
  have hinput : Inv g (inputBudget k s) :=
    ite_inv (fun _ => ite_inv (fun _ => hclass) fun _ => recompute_inv (recomputeCapacity_inv hclass)) fun _ => hsee
  exact ite_inv (fun _ => inputHoldup_inv hinput hg.loose hg.now hg.leaving) fun _ => hinput

theorem presentChange_inv (h : Inv g s) (hg : g.loose = none) (i : BbuId) (level : Bool) : Inv g (presentChange i level s) := by
  have hlt := (h.bbu_legal i).2.2.1
  have hfit : Inv g (s.setBbu i (s.charge.bbus[i].fit s.settings.bbus[i])) :=
    h.setBbu ⟨hlt.le, Nat.zero_le _, (beq_false_of_ne hlt.ne).symm⟩
  refine ite_inv (fun _ => ite_inv (fun _ => ?_) fun _ => h) fun _ =>
    ite_inv (fun _ => h) fun _ => recomputeReserve_inv (failBbu_inv h i _) hg
  exact recomputeReserve_inv (changeBbu_inv (reportBbu_inv hfit i) i _) hg

theorem faultChange_inv (h : Inv g s) (hg : g.loose = none) (i : BbuId) (level : Bool) : Inv g (faultChange i level s) :=
  ite_inv (fun _ => h) fun _ =>
    ite_inv (fun _ => ite_inv (fun _ => h) fun _ => recomputeReserve_inv (failBbu_inv h i _) hg) fun _ =>
      ite_inv (fun _ => recomputeReserve_inv (changeBbu_inv h i _) hg) fun _ => h

theorem bbuChange_inv (h : Inv g s) (i : BbuId) {effect : State → State} (heffect : ∀ t, Inv g t → Inv g (effect t)) :
    Inv g (bbuChange i effect s) := by
  have hset : Inv g (s.setBbu i { s.charge.bbus[i] with present := s.pins.bbu[i].present, faultIn := s.pins.bbu[i].fault }) :=
    h.setBbu_same rfl rfl rfl
  exact ite_inv (fun _ => heffect _ hset) fun _ => hset

/-- PG of a slot outside the queue is being settled. -/
theorem Inv.loosen (h : Inv g s) (hg : g.loose = none) (n : SlotId) : Inv { g with loose := some n } s := by
  have horder := h.order
  simp only [hg, ne_eq, reduceCtorEq, not_false_eq_true, decide_true, List.filter_true] at horder
  exact
    { h with
      slots := fun m => by
        have hm := h.slots m
        exact ⟨hm.en, hm.notice, hm.soak, hm.window, hm.hold, hm.drain, fun hst => (hm.pg hst).imp_left (by simp [hg])⟩
      queued := fun m hm => (h.queued m hm).imp_left (by simp [hg])
      order := horder.filter _ }

/-- A new level of PG in a slot's record. -/
theorem Inv.setPg (h : Inv g s) {n : SlotId} {level : Bool}
    (hpg : level = false → s.seq.slots[n].state = .on ∨ s.seq.slots[n].state = .notice ∨ s.seq.slots[n].state = .held ∨
      s.seq.slots[n].state = .draining → g.loose = some n)
    (hup : g.up n → s.seq.slots[n].state = .faulted → level = false) :
    Inv g (s.setSlot n { s.seq.slots[n] with pg := level }) := by
  obtain ⟨hen, hnotice, hsoak, hwindow, hhold, hdrain, hold⟩ := h.slots n
  refine h.tweakSlot rfl ⟨hen, hnotice, hsoak, hwindow, hhold, hdrain, fun hst => ?_⟩ id (h.warned n) ?_
  · cases level
    · exact .inl (hpg rfl hst)
    · exact .inr rfl
  · rintro hu (hk | hk | ⟨hk, -⟩)
    · exact .inl hk
    · exact .inr (.inl hk)
    · exact .inr (.inr ⟨hk, hup hu hk⟩)

theorem pgRise_inv (h : Inv g s) (n : SlotId) : Inv g (pgRise n s) := by
  unfold pgRise
  split
  case h_4 => exact recompute_inv h
  all_goals first
    | exact h
    | exact h.raise _ _ _

/-- R105, R106, R119: PG falls. -/
theorem pgFall_inv (h : Inv g s) (hg : g.loose = none) (hup : g.Anchored s) (n : SlotId) :
    Inv g (pgFall n (s.setSlot n { s.seq.slots[n] with pg := false })) := by
  have hslot : (s.setSlot n { s.seq.slots[n] with pg := false }).seq.slots[n] = { s.seq.slots[n] with pg := false } := by
    rw [setSlot_slots, if_pos rfl]
  have hloose : Inv { g with loose := some n } (s.setSlot n { s.seq.slots[n] with pg := false }) :=
    (h.loosen hg n).setPg (fun _ _ => rfl) fun _ _ => rfl
  have hquiet (hst : s.seq.slots[n].state ≠ .on ∧ s.seq.slots[n].state ≠ .notice ∧ s.seq.slots[n].state ≠ .held ∧
      s.seq.slots[n].state ≠ .draining) : Inv g (s.setSlot n { s.seq.slots[n] with pg := false }) :=
    h.setPg (fun _ he => absurd he (by tauto)) fun _ _ => rfl
  have hfault (hne : s.seq.slots[n].state ≠ .queued) :
      Inv g (faultSlot n codePgLost (s.setSlot n { s.seq.slots[n] with pg := false })) := by
    have hdone := faultSlot_inv hloose (n := n) (.inr rfl) (by rw [hslot]; exact hne) (fun _ => by rw [hslot]) codePgLost
    rwa [← hg] at hdone
  unfold pgFall
  rw [hslot]
  simp only
  split
  case h_1 hst => exact hfault (by rw [hst]; nofun)
  case h_2 hst => exact hfault (by rw [hst]; nofun)
  case h_3 hst => exact hfault (by rw [hst]; nofun)
  case h_4 hst =>
    have hdone := completeDrain_inv hloose (n := n) (.inr rfl) (by rw [hslot]; exact hst)
      (hup.not_up hst ⟨nofun, nofun, nofun⟩) g.toShed fun m hm => .inl hm
    rwa [← hg] at hdone
  case h_5 hst => exact recompute_inv (hquiet (by rw [hst]; exact ⟨nofun, nofun, nofun, nofun⟩))
  case h_6 hst => exact hquiet (by rw [hst]; exact ⟨nofun, nofun, nofun, nofun⟩)
  case h_7 hst => exact hquiet (by rw [hst]; exact ⟨nofun, nofun, nofun, nofun⟩)
  case h_8 hst => exact hquiet (by rw [hst]; exact ⟨nofun, nofun, nofun, nofun⟩)
  case h_9 hst => exact hquiet (by rw [hst]; exact ⟨nofun, nofun, nofun, nofun⟩)

theorem pgChange_inv (h : Inv g s) (hg : g.loose = none) (hup : g.Anchored s) (n : SlotId) (level : Bool) :
    Inv g (pgChange n level s) := by
  cases level
  · exact pgFall_inv h hg hup n
  · have hset : Inv g (s.setSlot n { s.seq.slots[n] with pg := true }) :=
      h.setPg (level := true) (fun e => by cases e) fun hu hst => absurd hu (hup.not_up hst ⟨nofun, nofun, nofun⟩)
    exact pgRise_inv hset n

end RunningEvents

end Sys2Proof.Machine
end

section
/-! PROOFS. What a SET request takes lies in the ranges of its chapter (R170). -/

namespace Sys2Proof.Machine

section Ranges

theorem clampNat_bounds {lo hi : Nat} (h : lo ≤ hi) (v : Nat) : lo ≤ clampNat lo hi v ∧ clampNat lo hi v ≤ hi := by
  unfold clampNat
  omega

theorem clampInt_bounds {lo hi : Int} (h : lo ≤ hi) (v : Int) : lo ≤ clampInt lo hi v ∧ clampInt lo hi v ≤ hi := by
  unfold clampInt
  omega

theorem pointRange_le (p : PointId) : (pointRange p).1 ≤ (pointRange p).2 := by
  unfold pointRange
  split
  · decide
  · split
    · decide
    · split
      · decide
      · split <;> decide

theorem takeLimit_legal (p : AnalogId) (w : LimitW) : (takeLimit p w).legal p := by
  obtain ⟨hs, hs'⟩ := clampInt_bounds (show (-65535 : Int) ≤ 65535 by decide) w.span.toInt
  obtain ⟨ho, ho'⟩ := clampInt_bounds (show (-65535 : Int) ≤ 65535 by decide) w.offset.toInt
  obtain ⟨hh, hh'⟩ := clampInt_bounds (pointRange_le (AnalogId.point p)) (pointWord (AnalogId.point p) w.high)
  obtain ⟨hl, -⟩ := clampInt_bounds (pointRange_le (AnalogId.point p)) (pointWord (AnalogId.point p) w.low)
  exact ⟨hs, hs', ho, ho', le_min hl hh, min_le_right _ _, hh'⟩

theorem insertDerate_length (e : DerateEntry) (l : List DerateEntry) : (insertDerate e l).length = l.length + 1 := by
  induction l with
  | nil => rfl
  | cons d l ih =>
    unfold insertDerate
    split
    · simp [ih]
    · simp

theorem mem_insertDerate {e x : DerateEntry} {l : List DerateEntry} : x ∈ insertDerate e l ↔ x = e ∨ x ∈ l := by
  induction l with
  | nil => simp [insertDerate]
  | cons d l ih =>
    unfold insertDerate
    split
    · simp only [List.mem_cons, ih]
      tauto
    · simp

/-- R22: an entry inserted into an ascending table leaves it ascending. -/
theorem insertDerate_pairwise {e : DerateEntry} {l : List DerateEntry} (h : l.Pairwise fun a b => a.t ≤ b.t) :
    (insertDerate e l).Pairwise fun a b => a.t ≤ b.t := by
  induction l with
  | nil => simp [insertDerate]
  | cons d l ih =>
    obtain ⟨hd, hl⟩ := List.pairwise_cons.1 h
    unfold insertDerate
    split
    · refine List.pairwise_cons.2 ⟨fun x hx => ?_, ih hl⟩
      rcases mem_insertDerate.1 hx with rfl | hx
      · assumption
      · exact hd x hx
    · rename_i hgt
      refine List.pairwise_cons.2 ⟨fun x hx => ?_, h⟩
      rcases List.mem_cons.1 hx with rfl | hx
      · exact le_of_lt (not_le.1 hgt)
      · exact (le_of_lt (not_le.1 hgt)).trans (hd x hx)

theorem takeDerate_legal (w : DerateW) : -128 ≤ (takeDerate w).t ∧ (takeDerate w).t ≤ 127 ∧ (takeDerate w).f ≤ 256 := by
  obtain ⟨ht, ht'⟩ := clampInt_bounds (show (-128 : Int) ≤ 127 by decide) w.t.toInt
  exact ⟨ht, ht', (clampNat_bounds (by decide) _).2⟩

theorem takeBudget_legal (w : BudgetW) : (takeBudget w).legal := by
  refine ⟨(clampNat_bounds (by decide) _).2, (clampNat_bounds (by decide) _).2, (clampNat_bounds (by decide) _).2, ?_, ?_, ?_⟩
  · simp only [takeBudget, sortDerate, List.foldl_cons, List.foldl_nil, insertDerate_length, List.length_nil]
  · simp only [takeBudget, sortDerate, List.foldl_cons, List.foldl_nil]
    exact insertDerate_pairwise (insertDerate_pairwise (insertDerate_pairwise (insertDerate_pairwise .nil)))
  · simp only [takeBudget, sortDerate, List.foldl_cons, List.foldl_nil, mem_insertDerate, List.not_mem_nil, or_false]
    rintro e (rfl | rfl | rfl | rfl) <;> exact takeDerate_legal _

theorem takeCharge_legal (w : ChargeW) : (takeCharge w).legal := by
  simp only [BbuSettings.legal, takeCharge, clampNat, clampInt]
  omega

theorem takeTarget_legal (w : TargetW) : (takeTarget w).threshold ≤ 67108860 ∧ 1 ≤ (takeTarget w).minClass ∧
    (takeTarget w).minClass ≤ 2 ∧ ((takeTarget w).action = .shed → (takeTarget w).urgency ≠ .none) := by
  refine ⟨(clampNat_bounds (by decide) _).2, (clampNat_bounds (by decide) _).1, (clampNat_bounds (by decide) _).2, fun ha => ?_⟩
  simp only [takeTarget] at ha ⊢
  split
  · nofun
  · rename_i hnot
    exact fun hu => hnot ⟨ha, hu⟩

theorem takeTargets_legal (mode : ArmMode) {entries : List TargetW} (h : entries.length ≤ 16) :
    (TargetSettings.mk mode (entries.map takeTarget)).legal := by
  refine ⟨by simpa using h, fun e he => ?_⟩
  obtain ⟨w, -, rfl⟩ := List.mem_map.1 he
  exact takeTarget_legal w

theorem takeRanges_legal (w : RangesW) (k : RangeId) :
    (takeRanges w)[k].low ≤ (takeRanges w)[k].high ∧ (takeRanges w)[k].high ≤ 65535 := by
  have hone (r : RangeW) : (takeRange r).low ≤ (takeRange r).high ∧ (takeRange r).high ≤ 65535 :=
    ⟨min_le_right _ _, by have := r.high.isLt; simp only [takeRange]; omega⟩
  fin_cases k <;> exact hone _

theorem takeHoldup_legal (w : HoldupW) : (takeHoldup w).legal := by
  simp only [HoldupSettings.legal, takeHoldup, clampNat]
  omega

theorem takeRecharge_legal (w : RechargeW) : (takeRecharge w).legal := by
  simp only [RechargeSettings.legal, takeRecharge, clampNat, clampInt]
  omega

theorem takeSlot_legal (zone : Option ZoneId) (w : SlotW) : (takeSlot zone w).legal := by
  simp only [SlotSettings.legal, takeSlot, clampNat]
  omega

theorem takeStaggerUnit_legal (b : Byte) : takeStaggerUnit b = 1 ∨ takeStaggerUnit b = 10 ∨ takeStaggerUnit b = 100 := by
  unfold takeStaggerUnit
  split
  · exact .inl rfl
  · split
    · exact .inr (.inl rfl)
    · split
      · split
        · exact .inr (.inr rfl)
        · exact .inr (.inl rfl)
      · exact .inr (.inr rfl)

theorem takeSequence_legal (w : SequenceW) : (takeSequence w).legal := by
  have hunit := takeStaggerUnit_legal w.staggerUnit
  simp only [SequenceSettings.legal, takeSequence, clampNat]
  omega

theorem takeZoneSettings_legal (w : ZoneW) : (takeZoneSettings w).legal := by
  simp only [ZoneSettings.legal, takeZoneSettings, clampNat]
  omega

theorem takeLine_legal (mode : Byte) (survey : BitVec 16) :
    1 ≤ (takeLine mode survey).survey ∧ (takeLine mode survey).survey ≤ 1000 := clampNat_bounds (by decide) _

/-- One entry of a table of settings replaced. -/
theorem forall_set {α : Type} {k : Nat} {P : Fin k → α → Prop} {v : Vector α k} (h : ∀ i : Fin k, P i v[i]) {j : Fin k} {x : α}
    (hx : P j x) (i : Fin k) : P i (v.set j x)[i] := by
  rw [get_set]
  split
  · rename_i e
    subst e
    exact hx
  · exact h i

end Ranges

end Sys2Proof.Machine
end

section
/-! PROOFS. An accepted request keeps the laws of a running part; SET_SLOT follows in a section of its own. -/

namespace Sys2Proof.Machine

section Requests

variable {g : Slack} {s : State}

/-! ### What a request may answer -/

/-- The request keeps the laws when it is accepted, and is not refused BUSY. -/
def Judged.keeps (g : Slack) (j : Judged) : Prop := (∀ t ack, j = .ok (t, ack) → Inv g t) ∧ j ≠ .error .busy

theorem keeps_error {c : RefusalCode} (hc : c ≠ .busy) : Judged.keeps g (.error c) := by
  constructor
  · intro t a e
    cases e
  · intro e
    exact hc (Except.error.inj e)

theorem keeps_ok {t : State} {a : Ack} (h : Inv g t) : Judged.keeps g (.ok (t, a)) :=
  ⟨fun u b e => by cases e; exact h, nofun⟩

theorem keeps_demand {ok : Bool} {c : RefusalCode} {j : Judged} (hc : c ≠ .busy) (h : ok = true → Judged.keeps g j) :
    Judged.keeps g (demand ok c j) := by
  unfold demand
  split
  · exact h ‹_›
  · exact keeps_error hc

theorem keeps_withId {α : Type} {id : Option α} {run : α → Judged} (h : ∀ x, id = some x → Judged.keeps g (run x)) :
    Judged.keeps g (withId id run) := by
  unfold withId
  split
  · exact keeps_error nofun
  · exact h _ rfl

theorem keeps_bulk (size largest : Nat) (first count : Byte) (report : Nat → Nat → Ack) (h : Inv g s) :
    Judged.keeps g (bulk size largest first count report s) := by
  unfold bulk
  split
  · exact keeps_error nofun
  · exact keeps_ok h

theorem keeps_takeSettings {new : Settings} {effect : State → State} {ack : State → Ack}
    (h : Inv g (effect (s.adopt new))) : Judged.keeps g (takeSettings new effect ack s) :=
  keeps_demand nofun fun _ => keeps_ok h

/-! ### SET requests -/

theorem adopt_settingsLaw (h : SettingsLaw s) {new : Settings} (hnew : new.legal) : SettingsLaw (s.adopt new) :=
  ⟨hnew, h.2.1, h.2.2⟩

/-- Settings that no law but their ranges speaks of. -/
theorem adoptBudget_inv (h : Inv g s) {x : BudgetSettings} (hx : x.legal) : Inv g (s.adopt { s.settings with budget := x }) := by
  obtain ⟨hpoints, -, hrest⟩ := h.settings.1
  exact
    { h with
      link := h.link.of_same rfl rfl rfl
      conditions := fun o ho => by
        refine (h.conditions o ho).trans ?_
        cases o <;> rfl
      settings := adopt_settingsLaw h.settings ⟨hpoints, hx, hrest⟩ }

theorem adoptTargets_inv (h : Inv g s) {x : TargetSettings} (hx : x.legal) : Inv g (s.adopt { s.settings with targets := x }) := by
  obtain ⟨hpoints, hbudget, hbbus, -, hrest⟩ := h.settings.1
  exact
    { h with
      link := h.link.of_same rfl rfl rfl
      conditions := fun o ho => by
        refine (h.conditions o ho).trans ?_
        cases o <;> rfl
      settings := adopt_settingsLaw h.settings ⟨hpoints, hbudget, hbbus, hx, hrest⟩ }

theorem adoptRanges_inv (h : Inv g s) {x : Vector RangeEntry 8}
    (hx : ∀ k : RangeId, x[k].low ≤ x[k].high ∧ x[k].high ≤ 65535) : Inv g (s.adopt { s.settings with ranges := x }) := by
  obtain ⟨hpoints, hbudget, hbbus, htargets, -, hrest⟩ := h.settings.1
  exact
    { h with
      link := h.link.of_same rfl rfl rfl
      conditions := fun o ho => by
        refine (h.conditions o ho).trans ?_
        cases o <;> rfl
      settings := adopt_settingsLaw h.settings ⟨hpoints, hbudget, hbbus, htargets, hx, hrest⟩ }

theorem adoptHoldup_inv (h : Inv g s) {x : HoldupSettings} (hx : x.legal) : Inv g (s.adopt { s.settings with holdup := x }) := by
  obtain ⟨hpoints, hbudget, hbbus, htargets, hranges, -, hrest⟩ := h.settings.1
  exact
    { h with
      link := h.link.of_same rfl rfl rfl
      conditions := fun o ho => by
        refine (h.conditions o ho).trans ?_
        cases o <;> rfl
      settings := adopt_settingsLaw h.settings ⟨hpoints, hbudget, hbbus, htargets, hranges, hx, hrest⟩ }

theorem adoptSequence_inv (h : Inv g s) {x : SequenceSettings} (hx : x.legal) :
    Inv g (s.adopt { s.settings with sequence := x }) := by
  obtain ⟨hpoints, hbudget, hbbus, htargets, hranges, hholdup, hrecharge, hslots, -, hrest⟩ := h.settings.1
  exact
    { h with
      link := h.link.of_same rfl rfl rfl
      conditions := fun o ho => by
        refine (h.conditions o ho).trans ?_
        cases o <;> rfl
      settings := adopt_settingsLaw h.settings ⟨hpoints, hbudget, hbbus, htargets, hranges, hholdup, hrecharge, hslots, hx, hrest⟩ }

/-- SET_LINE: a start may have come to be due (R133, R135). -/
theorem adoptLine_inv (h : Inv g s) {x : LineSettings} (hx : 1 ≤ x.survey ∧ x.survey ≤ 1000) :
    Inv { g with unwatched := true } (s.adopt { s.settings with line := x }) := by
  obtain ⟨hpoints, hbudget, hbbus, htargets, hranges, hholdup, hrecharge, hslots, hsequence, hzones, -⟩ := h.settings.1
  exact
    { h with
      link := h.link.of_same rfl rfl rfl
      conditions := fun o ho => by
        refine (h.conditions o ho).trans ?_
        cases o <;> rfl
      settings := adopt_settingsLaw h.settings
        ⟨hpoints, hbudget, hbbus, htargets, hranges, hholdup, hrecharge, hslots, hsequence, hzones, hx⟩
      starts := fun hm hw => ⟨(h.starts hm hw).1, nofun⟩ }

/-- SET_LIMIT: an alarm under mode OFF must have ended. -/
theorem adoptPoint_inv (h : Inv g s) {p : AnalogId} {x : PointSettings} (hx : x.legal p)
    (hoff : x.mode = .off → s.sense.points[AnalogId.point p].alarm = false) :
    Inv g (s.adopt { s.settings with points := s.settings.points.set p x }) := by
  obtain ⟨hpoints, hrest⟩ := h.settings.1
  exact
    { h with
      link := h.link.of_same rfl rfl rfl
      conditions := fun o ho => by
        refine (h.conditions o ho).trans ?_
        cases o <;> rfl
      settings := adopt_settingsLaw h.settings ⟨forall_set (P := fun p (x : PointSettings) => x.legal p) hpoints hx, hrest⟩
      points := fun q => ⟨(h.points q).1, forall_set
        (P := fun q (x : PointSettings) => x.mode = .off → s.sense.points[AnalogId.point q].alarm = false)
        (fun q => (h.points q).2) hoff q⟩ }

theorem limitTaken_inv (h : Inv g s) {p : AnalogId} {x : PointSettings} (hx : x.legal p) :
    Inv g (limitTaken p (s.adopt { s.settings with points := s.settings.points.set p x })) := by
  have hmode : (s.adopt { s.settings with points := s.settings.points.set p x }).settings.points[p] = x := get_set_same _ _ _
  unfold limitTaken
  simp only
  rw [hmode]
  obtain ⟨hstale, hoff⟩ := h.points p
  generalize hy : ({ s.sense.points[AnalogId.point p] with
    alarm := s.sense.points[AnalogId.point p].alarm && x.mode != .off } : Point) = y
  have hset : Inv { g with late := fun o => g.late o ∨ o = .analog p } (s.setPoint (AnalogId.point p) y) :=
    h.setAnalog (by subst hy; exact hstale) fun he => by
      subst hy
      simp only [hoff he, Bool.false_and]
  have hadopt := adoptPoint_inv hset hx fun he => by
    rw [setPoint_points, if_pos rfl]
    subst hy
    simp only [he, bne_self_eq_false, Bool.and_false]
  subst hy
  exact Inv.report (.analog p) hadopt (by
    simp only [State.due, State.adopt, State.setStore_sense, State.setSettings_sense, setPoint_points, if_pos]
    rfl)

/-- The BBU's counter under a new Qfull (R36). -/
def Bbu.recounted (b : Bbu) (qFull : Nat) : Bbu :=
  if qFull < b.q then b.withCharge qFull qFull else { b with full := b.q == qFull }

/-- The BBU record under new parameters (R36, R45). -/
def Bbu.retaken (b : Bbu) (set : BbuSettings) : Bbu :=
  { b.recounted set.qFull with taper := if set.anchor then (b.recounted set.qFull).taper else 0 }

theorem Bbu.retaken_ok {b : Bbu} (hr : b.r ≤ 25599) (set : BbuSettings) : BbuOk set (b.retaken set) := by
  unfold Bbu.retaken Bbu.recounted
  split
  · exact ⟨le_rfl, Nat.zero_le _, rfl⟩
  · exact ⟨not_lt.1 ‹_›, hr, rfl⟩

end Requests

end Sys2Proof.Machine
end

section
/-! PROOFS. The accepted requests keep the laws of a running part, SET_SLOT apart: the parameters, then the actions. -/

namespace Sys2Proof.Machine

section Requests

variable {g : Slack} {s : State}

/-! ### SET_CHARGE_PARAMS, SET_RECHARGE and SET_ZONE -/

theorem chargeTaken_eq (i : BbuId) (s : State) :
    chargeTaken i s = recomputeReserve (s.setBbu i ((s.charge.bbus[i]).retaken s.settings.bbus[i])) := by
  unfold chargeTaken Bbu.retaken Bbu.recounted
  rfl

theorem chargeTaken_inv (h : Inv g s) (hg : g.loose = none) {i : BbuId} {set : BbuSettings} (hset : set.legal) :
    Inv g (chargeTaken i (s.adopt { s.settings with bbus := s.settings.bbus.set i set })) := by
  have hbbu : Inv g (((s.setBbuSettings i set).setStore { s.store with unstored := true }).setBbu i
      ((s.charge.bbus[i]).retaken set)) :=
    h.setBbuSettings hset (Bbu.retaken_ok (h.charge i).r set) rfl rfl
  have hread : (s.adopt { s.settings with bbus := s.settings.bbus.set i set }).settings.bbus[i] = set := get_set_same _ _ _
  rw [chargeTaken_eq, hread]
  exact recomputeReserve_inv hbbu hg

theorem clampedSetpoint_ok {x : Recharge} {old new : RechargeSettings} (h : RegulatorOk old x) (hnew : new.iFloor ≤ new.iMax)
    {i : Nat} (hcruise : x.state = .cruise → i = clampNat new.iFloor new.iMax x.iSet)
    (hfloor : x.state = .floor ∨ x.state = .thermalHold → i = new.iFloor) (hidle : x.state = .off ∨ x.state = .paused → i = x.iSet) :
    RegulatorOk new { x with iSet := i }.shared :=
  { shares := rfl
    yielded := h.yielded
    step := h.step
    floorTimer := h.floorTimer
    idle := fun hst => (hidle hst).trans (h.idle hst)
    cruise := fun hst => by
      show new.iFloor ≤ i ∧ i ≤ new.iMax
      rw [hcruise hst]
      exact clampNat_bounds hnew _
    floor := hfloor }

/-- SET_RECHARGE: the setpoint moves with the settings (R82). -/
theorem adoptRecharge_inv (h : Inv g s) {x : RechargeSettings} (hx : x.legal) {i : Nat}
    (hi : i = (s.adopt { s.settings with recharge := x }).iSetTaken) :
    Inv g ((s.adopt { s.settings with recharge := x }).setRecharge ({ s.recharge with iSet := i } : Recharge).shared) := by
  obtain ⟨hpoints, hbudget, hbbus, htargets, hranges, hholdup, -, hrest⟩ := h.settings.1
  have hbounds : x.iFloor ≤ x.iMax := by
    obtain ⟨-, -, -, -, -, -, -, hfs, hsm, -⟩ := hx
    exact hfs.trans hsm
  have hok : RegulatorOk x ({ s.recharge with iSet := i } : Recharge).shared := by
    refine clampedSetpoint_ok h.regulator hbounds (fun hst => ?_) (fun hst => ?_) fun hst => ?_
    · subst hi
      unfold State.iSetTaken
      rw [show (s.adopt { s.settings with recharge := x }).recharge = s.recharge from rfl, hst]
      rfl
    · subst hi
      unfold State.iSetTaken
      rw [show (s.adopt { s.settings with recharge := x }).recharge = s.recharge from rfl]
      rcases hst with hst | hst <;> rw [hst] <;> rfl
    · subst hi
      unfold State.iSetTaken
      rw [show (s.adopt { s.settings with recharge := x }).recharge = s.recharge from rfl]
      rcases hst with hst | hst <;> rw [hst]
  exact
    { h with
      link := h.link.of_same rfl rfl rfl
      conditions := fun o ho => by
        refine (h.conditions o ho).trans ?_
        cases o <;> rfl
      settings := adopt_settingsLaw h.settings ⟨hpoints, hbudget, hbbus, htargets, hranges, hholdup, hx, hrest⟩
      regulator := hok }

theorem rechargeTaken_inv (h : Inv g s) {x : RechargeSettings} (hx : x.legal) :
    Inv g (rechargeTaken (s.adopt { s.settings with recharge := x })) := by
  have hadopt := adoptRecharge_inv h hx rfl
  unfold rechargeTaken
  simp only
  split
  · rename_i hsame
    have hrecord : ({ s.recharge with iSet := s.recharge.iSet } : Recharge).shared = s.recharge := by
      rw [Recharge.shared, ← h.regulator.shares]
    rw [hsame, show (s.adopt { s.settings with recharge := x }).recharge = s.recharge from rfl, hrecord] at hadopt
    exact hadopt
  · refine recompute_inv ?_
    rw [reshare_setRecharge]
    exact driveBbus_inv hadopt

/-- SET_ZONE on a zone whose policy does not change while it is WET. -/
theorem adoptZone_inv (h : Inv g s) {z : ZoneId} {x : ZoneSettings} (hx : x.legal)
    (hpolicy : s.leak.zones[z].state = .wet → x.policy = s.settings.zones[z].policy) :
    Inv g (s.adopt { s.settings with zones := s.settings.zones.set z x }) := by
  obtain ⟨hpoints, hbudget, hbbus, htargets, hranges, hholdup, hrecharge, hslots, hsequence, hzones, hline⟩ := h.settings.1
  have hread (y : ZoneId) : (s.settings.zones.set z x)[y] = if z = y then x else s.settings.zones[y] := get_set _ _ _ _
  have hkept (y : ZoneId) (hwet : s.leak.zones[y].state = .wet) :
      ((s.settings.zones.set z x)[y]).policy = s.settings.zones[y].policy := by
    rw [hread]
    split
    · subst_vars
      exact hpolicy hwet
    · rfl
  have hshed (n : SlotId) (hn : (s.adopt { s.settings with zones := s.settings.zones.set z x }).slotWetShed n = true) :
      s.slotWetShed n = true := by
    unfold State.slotWetShed at hn ⊢
    simp only [State.adopt, State.setStore_settings, State.setSettings_settings, State.setStore_leak, State.setSettings_leak] at hn
    split at hn
    · cases hn
    · rename_i y hy
      rw [Bool.and_eq_true, beq_iff_eq, beq_iff_eq] at hn
      have hold := hn.2
      rw [hkept y hn.1] at hold
      rw [hy]
      exact Bool.and_eq_true_iff.2 ⟨beq_iff_eq.2 hn.1, beq_iff_eq.2 hold⟩
  exact
    { h with
      link := h.link.of_same rfl rfl rfl
      conditions := fun o ho => by
        refine (h.conditions o ho).trans ?_
        cases o <;> rfl
      settings := adopt_settingsLaw h.settings
        ⟨hpoints, hbudget, hbbus, htargets, hranges, hholdup, hrecharge, hslots, hsequence,
          forall_set (P := fun _ (x : ZoneSettings) => x.legal) hzones hx, hline⟩
      valve := fun y hwet hcloses => by
        refine h.valve y hwet ?_
        rw [← hkept y hwet]
        exact hcloses
      shut := fun n hn => h.shut n (hshed n hn) }

theorem zoneTaken_inv (h : Inv g s) (hg : g.unjudged = none) (z : ZoneId) (old : ZoneSettings) : Inv g (zoneTaken z old s) := by
  refine ite_inv (fun _ => ?_) fun _ => h
  have hopen : Inv { g with unjudged := some z } (s.setZone z { s.leak.zones[z] with trayCount := 0 }) :=
    h.tuneZone (some z) (.inl hg) (.inr rfl) rfl rfl rfl
      fun hk => ⟨(h.zones hk z).dry, (h.zones hk z).fault, fun _ => .inl rfl, (h.zones hk z).ropeCount, Nat.zero_le _⟩
  have hdone := fallBack_inv hopen (.inr rfl)
  rwa [show ({ g with unjudged := none } : Slack) = g from Slack.with_unjudged hg] at hdone

/-! ### SET_MASKS, CLEAR_CAUSE and the global hold -/

/-- What a run of mask entries has made of the state it found: masks, and an outbox that follows them (R157, R158). -/
def Masked (s t : State) : Prop :=
  ∃ masks o, t = (s.setSettings { s.settings with masks := masks }).setCauses { s.causes with outbox := o } ∧ o.Nodup ∧
    ∀ c : CauseId, c ∈ o ↔ s.causes.recs[c].pending = true ∧ masks[c].mask = false

theorem Masked.refl (hnodup : s.causes.outbox.Nodup)
    (hmem : ∀ c : CauseId, c ∈ s.causes.outbox ↔ s.causes.recs[c].pending = true ∧ s.settings.masks[c].mask = false) :
    Masked s s := ⟨s.settings.masks, s.causes.outbox, rfl, hnodup, hmem⟩

theorem Masked.takeEntry {t : State} (h : Masked s t) (e : CauseId × MaskSettings) : Masked s (takeMaskEntry e t) := by
  obtain ⟨masks, o, rfl, hnodup, hmem⟩ := h
  have hread (c : CauseId) : (masks.set e.1 e.2)[c] = if e.1 = c then e.2 else masks[c] := get_set _ _ _ _
  unfold takeMaskEntry
  simp only
  split
  · rename_i hnew
    rw [Bool.and_eq_true] at hnew
    refine ⟨masks.set e.1 e.2, o.filter (· ≠ e.1), rfl, hnodup.filter _, fun c => ?_⟩
    rw [hread]
    by_cases hc : e.1 = c
    · simp [hc, hnew.1]
    · simp [hc, hmem, Ne.symm hc]
  · rename_i hnew
    split
    · rename_i hold
      rw [Bool.and_eq_true, Bool.and_eq_true] at hold
      obtain ⟨⟨hwas, hclear⟩, hpending⟩ := hold
      have hout : e.1 ∉ o := fun hin => by
        have := ((hmem e.1).1 hin).2
        simp only [State.setCauses_settings, State.setSettings_settings] at hwas
        rw [hwas] at this
        cases this
      refine ⟨masks.set e.1 e.2, o ++ [e.1], ?_, ?_, fun c => ?_⟩
      · have hunmasked : ((masks.set e.1 e.2)[e.1]).mask = false := by
          rw [get_set_same]
          simpa using hclear
        unfold joinOutbox
        rw [if_neg]
        · rfl
        · simp only [State.setSettings_settings, State.setSettings_causes, State.setCauses_causes, State.setCauses_settings]
          rw [hunmasked, Bool.false_or, List.contains_iff_mem]
          exact hout
      · exact List.nodup_append.2 ⟨hnodup, List.nodup_singleton _, fun a ha b hb hab => hout (by simp_all)⟩
      · rw [hread, List.mem_append, List.mem_singleton, hmem]
        by_cases hc : e.1 = c
        · subst hc
          simp only [State.setCauses_causes, State.setSettings_causes] at hpending
          simp_all
        · simp [hc, Ne.symm hc]
    · rename_i hold
      refine ⟨masks.set e.1 e.2, o, rfl, hnodup, fun c => ?_⟩
      rw [hread, hmem]
      by_cases hc : e.1 = c
      · subst hc
        simp only [State.setCauses_causes, State.setSettings_causes, State.setCauses_settings, State.setSettings_settings] at hnew hold
        rw [if_pos rfl]
        cases hp : s.causes.recs[e.1].pending <;> cases hm : masks[e.1].mask <;> cases hm' : e.2.mask <;> simp_all
      · rw [if_neg hc]

theorem Masked.takeEntries {t : State} (h : Masked s t) (l : List (CauseId × MaskSettings)) :
    Masked s (l.foldl (fun s e => takeMaskEntry e s) t) := by
  induction l generalizing t with
  | nil => exact h
  | cons e l ih => exact ih (h.takeEntry e)

theorem masksTaken_inv (h : Inv g s) (hexec : g.executing = true) (alert : Bool) {t : State}
    (ht : Masked (s.adopt { s.settings with globalAlert := alert }) t) : Inv g (judgeAlert t) := by
  obtain ⟨masks, o, rfl, hnodup, hmem⟩ := ht
  obtain ⟨-, hcount, -⟩ := h.causes
  exact
    { h with
      settings := h.settings
      conditions := fun c hc => by
        refine (h.conditions c hc).trans ?_
        cases c <;> rfl
      causes := ⟨hnodup, fun c => ⟨hmem c, (hcount c).2⟩, fun _ => rfl⟩
      link :=
        { queue := h.link.queue
          busy := h.link.busy
          single := h.link.single
          prompt := fun he => by rw [hexec] at he; cases he
          ready := h.link.ready
          replies := h.link.replies
          outbox := fun he => by rw [hexec] at he; cases he } }

theorem setCausesExecuting_inv (h : Inv g s) (hexec : g.executing = true) {x : Causes} (hcauses : CauseLaw (s.setCauses x))
    (hcond : ∀ o : Owner, x.recs[o.cause].condition = s.causes.recs[o.cause].condition) : Inv g (s.setCauses x) :=
  h.setCauses hcond hcauses
    { queue := h.link.queue
      busy := h.link.busy
      single := h.link.single
      prompt := fun he => by rw [hexec] at he; cases he
      ready := h.link.ready
      replies := h.link.replies
      outbox := fun he => by rw [hexec] at he; cases he }

theorem setHold_inv (h : Inv g s) (hexec : g.executing = true) (hold : Bool) :
    Inv g (s.setCauses { s.causes with hold := hold }) := setCausesExecuting_inv h hexec h.causes fun _ => rfl

/-- R159: the record of a cleared cause. -/
def Cause.cleared (r : Cause) : Cause := { r with pending := false, count := 0, value := 0, code := 0 }

theorem clearRecord_inv (h : Inv g s) (hexec : g.executing = true) (c : CauseId) :
    Inv g (s.setCauses
      { s.causes with recs := s.causes.recs.set c s.causes.recs[c].cleared, outbox := s.causes.outbox.filter (· ≠ c) }) := by
  obtain ⟨hnodup, hmem, halert⟩ := h.causes
  have hread (d : CauseId) : (s.causes.recs.set c s.causes.recs[c].cleared)[d] =
      if c = d then s.causes.recs[c].cleared else s.causes.recs[d] := get_set _ _ _ _
  have hcond (d : CauseId) : ((s.causes.recs.set c s.causes.recs[c].cleared)[d]).condition = s.causes.recs[d].condition := by
    rw [hread]
    split
    · subst_vars
      rfl
    · rfl
  refine setCausesExecuting_inv h hexec ⟨hnodup.filter _, fun d => ?_, fun hrun => ?_⟩ fun o => hcond o.cause
  · show (d ∈ s.causes.outbox.filter (· ≠ c) ↔ ((s.causes.recs.set c s.causes.recs[c].cleared)[d]).pending = true ∧ _) ∧
      (((s.causes.recs.set c s.causes.recs[c].cleared)[d]).pending = true ↔
        0 < ((s.causes.recs.set c s.causes.recs[c].cleared)[d]).count) ∧
      ((s.causes.recs.set c s.causes.recs[c].cleared)[d]).count ≤ 255
    rw [hread]
    by_cases hc : c = d
    · subst hc
      simp [Cause.cleared]
    · obtain ⟨hin, hrest⟩ := hmem d
      rw [if_neg hc]
      exact ⟨by simpa [Ne.symm hc] using hin, hrest⟩
  · refine (halert hrun).trans (alertLevel_congr ?_ ?_)
    · rfl
    · exact fun d => (hcond d).symm

theorem clearCause_inv (h : Inv g s) (hexec : g.executing = true) (c : CauseId) : Inv g (clearCause c s) := by
  have hclear := clearRecord_inv h hexec c
  unfold clearCause
  simp only
  split
  · rename_i hevent
    exact hclear.reportFree (fun o ho => by
      rw [ho, o.cause_not_event] at hevent
      cases hevent) _
  · exact hclear

/-! ### Slots and zones -/

theorem fst_ite_inv {α : Type} {p : Prop} {_ : Decidable p} {t u : State} {a b : α} (ht : p → Inv g t) (hu : ¬ p → Inv g u) :
    Inv g (if p then (t, a) else (u, b)).1 := by
  split
  · exact ht ‹_›
  · exact hu ‹_›

theorem powerUpSlot_inv (h : Inv g s) (hg : g.loose = none) (n : SlotId) : Inv g (powerUpSlot n s).1 := by
  unfold powerUpSlot
  simp only
  split
  case h_1 hst =>
    exact fst_ite_inv (fun _ => seqEvent_inv (enterQueue_inv h hg (.inl hst) (h.not_up (Slot.not_keptUp (.inl hst)))) hg)
      fun _ => h
  case h_5 hst => exact fst_ite_inv (fun _ => withdrawSlot_inv h hg (.inl hst)) fun _ => h
  case h_6 hst => exact fst_ite_inv (fun _ => withdrawSlot_inv h hg (.inr hst)) fun _ => h
  all_goals exact h

theorem powerDownSlot_inv (h : Inv g s) (hg : g.loose = none) (u : Urgency) (n : SlotId) : Inv g (powerDownSlot u n s).1 := by
  have hfits : ShedFits s n .manager u := ⟨fun _ => .inl rfl, fun _ => .inl rfl⟩
  have hshed : Inv g (shedSlot n .manager u s) := shedSlot_inv h hg hfits g.toShed fun m hm => .inl hm
  unfold powerDownSlot
  split
  case h_8 | h_9 => exact h.retouch rfl rfl rfl rfl rfl rfl rfl rfl rfl
  all_goals exact hshed

theorem takeSlots_inv {one : SlotId → State → State × SlotResult} (hone : ∀ n t, Inv g t → Inv g (one n t).1)
    (l : List SlotId) (h : Inv g s) : Inv g (takeSlots one l s).1 := by
  induction l generalizing s with
  | nil => exact h
  | cons n l ih => exact ih (hone n s h)

theorem slotList_keeps {one : SlotId → State → State × SlotResult} (hone : ∀ n t, Inv g t → Inv g (one n t).1)
    (slots : List Byte) (h : Inv g s) : Judged.keeps g (slotList slots one s) :=
  keeps_demand nofun fun _ => keeps_withId fun ns _ => keeps_ok (takeSlots_inv hone ns h)

/-- R99: what a release clears in the record. -/
def Slot.released (x : Slot) : Slot := { x with reason := .none, urgency := .none, restore := false }

theorem releaseSlot_inv (h : Inv g s) (hg : g.loose = none) (hup : g.Anchored s) {n : SlotId} (hn : s.releasable n = true)
    (requeue : Bool) : Inv g (releaseSlot n requeue s) := by
  have hst : s.seq.slots[n].state = .faulted ∨ s.seq.slots[n].state = .locked := by
    unfold State.releasable at hn
    split at hn
    · exact .inl ‹_›
    · exact .inr ‹_›
    · cases hn
  have hnot : ¬ g.up n := by
    rcases hst with e | e <;> exact hup.not_up e (by decide)
  have hstill : (s.seq.slots[n].released).still :=
    have h1 := (h.slots n).still (.inl (by rcases hst with e | e <;> rw [e] <;> rfl))
    ⟨h1.1, h1.2, h1.3, h1.4, h1.5⟩
  have hrest (st : SlotState) (hto : st = .off ∨ st = .locked) (hwet : st = .off → s.slotWetShed n = false) :
      Inv g (moveSlot n st Slot.released s) := by
    have hmove := moveToRest_inv h (st := st) (upd := Slot.released) g.toShed (.inl hg) (fun m hm => .inl hm)
      (h.out_of_queue (by rcases hst with e | e <;> rw [e] <;> nofun)) hstill (by tauto)
      (fun _ => by
        rcases hto with e | e
        · exact .inr (hwet e)
        · exact .inl (by rw [e]; nofun))
      (fun hu => absurd hu hnot)
    rwa [show ({ g with loose := none, toShed := g.toShed } : Slack) = g from Slack.with_loose_none hg] at hmove
  unfold releaseSlot
  simp only
  refine ite_inv (fun _ => hrest .locked (.inr rfl) nofun) fun hdry => ?_
  have hoff := hrest .off (.inl rfl) fun _ => by simpa using hdry
  refine ite_inv (fun _ => hoff) fun _ => ite_inv (fun _ => ?_) fun _ => hoff
  exact seqEvent_inv (enterQueue_inv hoff hg (.inl (by rw [moveSlot_slots, if_pos rfl]; rfl)) hnot) hg

end Requests

end Sys2Proof.Machine
end

section
/-! PROOFS. The last of the actions, and every accepted request but SET_SLOT. -/

namespace Sys2Proof.Machine

section Requests

variable {g : Slack} {s : State}

/-! ### CLEAR_ZONE (R153) -/

/-- The state of a zone that is cleared. -/
def Zone.calm (x : Zone) : ZoneState := if x.ropeFault then .fault else .dry

theorem Zone.calm_not_wet (x : Zone) : x.calm ≠ .wet := by
  unfold Zone.calm
  split <;> nofun

theorem ZoneOk.calmed {p : Prop} {x y : Zone} (h : ZoneOk p x) (hstate : y.state = x.calm) (hfault : y.ropeFault = x.ropeFault)
    (hrope : y.ropeCount = 0) (htray : y.trayCount = 0) : ZoneOk False y := by
  unfold Zone.calm at hstate
  refine ⟨fun hd => ?_, fun hf => ?_, fun hs => ?_, hrope ▸ Nat.zero_le _, htray ▸ Nat.zero_le _⟩
  · rw [hfault]
    split at hstate
    · rw [hstate] at hd
      cases hd
    · exact Bool.not_eq_true _ ▸ ‹¬ x.ropeFault = true›
  · rw [hfault]
    split at hstate
    · assumption
    · rw [hstate] at hf
      cases hf
  · rw [hstate] at hs
    split at hs <;> cases hs

theorem clearZone_inv (h : Inv g s) (hg : g.Level) (z : ZoneId) : Inv g (clearZone z s) := by
  have hcalm {x : Zone} (hst : x.state = s.leak.zones[z].calm) (hfault : x.ropeFault = s.leak.zones[z].ropeFault)
      (hrope : x.ropeCount = 0) (htray : x.trayCount = 0) : Inv g (moveZone z x s) := by
    have hmove := moveZone_calm_inv h (.inl hg.unjudged) (hst ▸ Zone.calm_not_wet _) hfault fun hk => (h.zones hk z).calmed hst hfault hrope htray
    rwa [Slack.with_unjudged hg.unjudged] at hmove
  have hquiet (hst : s.leak.zones[z].state ≠ .suspect) :
      Inv g (s.setZone z { s.leak.zones[z] with ropeCount := 0, trayCount := 0 }) := by
    have hset : Inv { g with unjudged := none } (s.setZone z { s.leak.zones[z] with ropeCount := 0, trayCount := 0 }) :=
      h.tuneZone none (.inl hg.unjudged) (.inl rfl) rfl rfl rfl
        fun hk => ⟨(h.zones hk z).dry, (h.zones hk z).fault, fun hs => absurd hs hst, Nat.zero_le _, Nat.zero_le _⟩
    rwa [Slack.with_unjudged hg.unjudged] at hset
  unfold clearZone
  simp only
  split
  · exact hcalm rfl rfl rfl rfl
  · exact hcalm rfl rfl rfl rfl
  · exact hquiet (by rw [‹s.leak.zones[z].state = _›]; nofun)
  · exact hquiet (by rw [‹s.leak.zones[z].state = _›]; nofun)

theorem clearZone_dry (z : ZoneId) (s : State) : (clearZone z s).leak.zones[z].state ≠ .wet := by
  unfold clearZone
  simp only
  split
  · rw [moveZone_zones, if_pos rfl]
    exact Zone.calm_not_wet s.leak.zones[z]
  · rw [moveZone_zones, if_pos rfl]
    exact Zone.calm_not_wet s.leak.zones[z]
  · rw [setZone_zones, if_pos rfl]
    show s.leak.zones[z].state ≠ .wet
    rw [‹s.leak.zones[z].state = _›]
    nofun
  · rw [setZone_zones, if_pos rfl]
    show s.leak.zones[z].state ≠ .wet
    rw [‹s.leak.zones[z].state = _›]
    nofun

theorem moveZone_seq (z : ZoneId) (x : Zone) (s : State) : (moveZone z x s).seq = s.seq := by
  rw [moveZone_eq, lineWatch_seq, reportCondition_seq, State.setZone_seq]

theorem clearZone_seq (z : ZoneId) (s : State) : (clearZone z s).seq = s.seq := by
  unfold clearZone
  simp only
  split
  · rw [moveZone_seq]
  · rw [moveZone_seq]
  · rfl
  · rfl

theorem clearZone_settings (z : ZoneId) (s : State) : (clearZone z s).settings = s.settings := by
  unfold clearZone
  simp only
  split
  · rw [moveZone_settings]
  · rw [moveZone_settings]
  · rfl
  · rfl

theorem requeueSlot_slots {n m : SlotId} (hne : n ≠ m) (s : State) : (requeueSlot n s).seq.slots[m] = s.seq.slots[m] := by
  unfold requeueSlot
  simp only
  split
  · rw [enterQueue_slots hne, moveSlot_slots, if_neg hne]
  · rw [moveSlot_slots, if_neg hne]

theorem requeueSlot_base (n : SlotId) (s : State) : (requeueSlot n s).base = s.base := by
  unfold requeueSlot
  simp only
  split
  · rw [enterQueue_base, moveSlot_base]
  · rw [moveSlot_base]

theorem slotWetShed_congr {t : State} (h : t.base = s.base) (n : SlotId) : t.slotWetShed n = s.slotWetShed n := by
  unfold State.slotWetShed
  rw [base_settings h, base_leak h]

theorem requeueSlot_inv (h : Inv g s) (hg : g.loose = none) {n : SlotId} (hst : s.seq.slots[n].state = .locked)
    (hdry : s.slotWetShed n = false) : Inv g (requeueSlot n s) := by
  have hnot : ¬ g.up n := h.not_up (Slot.not_keptUp (.inr (.inr (.inr hst))))
  have hstill := (h.slots n).still (.inl (by rw [hst]; rfl))
  have hmove := moveToRest_inv h (st := .off) (upd := fun x => { x with reason := .none, urgency := .none }) g.toShed (.inl hg)
    (fun m hm => .inl hm) (h.out_of_queue (by rw [hst]; nofun)) ⟨hstill.1, hstill.2, hstill.3, hstill.4, hstill.5⟩ (.inl rfl)
    (fun _ => .inr hdry) (fun hu => absurd hu hnot)
  rw [show ({ g with loose := none, toShed := g.toShed } : Slack) = g from Slack.with_loose_none hg] at hmove
  unfold requeueSlot
  simp only
  split
  · exact enterQueue_inv hmove hg (.inl (by rw [moveSlot_slots, if_pos rfl]; rfl)) hnot
  · exact hmove

theorem requeueSlots_inv (h : Inv g s) (hg : g.loose = none) {l : List SlotId} (hl : l.Nodup)
    (hst : ∀ n ∈ l, s.seq.slots[n].state = .locked ∧ s.slotWetShed n = false) : Inv g (l.foldl (fun s n => requeueSlot n s) s) := by
  induction l generalizing s with
  | nil => exact h
  | cons n l ih =>
    obtain ⟨hn, hl⟩ := List.nodup_cons.1 hl
    obtain ⟨hlocked, hdry⟩ := hst n List.mem_cons_self
    refine ih (requeueSlot_inv h hg hlocked hdry) hl fun m hm => ?_
    rw [requeueSlot_slots (ne_of_mem_of_not_mem hm hn).symm, slotWetShed_congr (requeueSlot_base n s)]
    exact hst m (List.mem_cons_of_mem _ hm)

theorem mem_lockedSlots {z : ZoneId} {n : SlotId} :
    n ∈ s.lockedSlots z ↔ s.settings.slots[n].zone = some z ∧ s.seq.slots[n].state = .locked := by
  unfold State.lockedSlots
  rw [List.mem_filter, mem_zoneSlots, beq_iff_eq]

theorem lockedSlots_nodup (s : State) (z : ZoneId) : (s.lockedSlots z).Nodup :=
  ((slotIds_nodup.filter _).filter _)

theorem slotWetShed_of_dry {z : ZoneId} {n : SlotId} (hn : s.settings.slots[n].zone = some z)
    (hdry : s.leak.zones[z].state ≠ .wet) : s.slotWetShed n = false := by
  unfold State.slotWetShed
  rw [hn]
  simp only [beq_eq_false_iff_ne.2 hdry, Bool.false_and]

theorem clearZone_keeps (h : Inv g s) (hg : g.Level) (zone requeue : Byte) : Judged.keeps g (runClearZone zone requeue s) := by
  refine keeps_withId fun z _ => keeps_demand nofun fun _ => keeps_ok ?_
  have hclear := clearZone_inv h hg z
  generalize hslots : (if takeFlag requeue then s.lockedSlots z else []) = slots
  have hmem (n : SlotId) (hn : n ∈ slots) : n ∈ s.lockedSlots z := by
    rw [← hslots] at hn
    split at hn
    · exact hn
    · cases hn
  have hnodup : slots.Nodup := by
    rw [← hslots]
    split
    · exact lockedSlots_nodup s z
    · exact List.nodup_nil
  have hall := requeueSlots_inv hclear hg.loose hnodup fun n hn => by
    obtain ⟨hzone, hlocked⟩ := mem_lockedSlots.1 (hmem n hn)
    rw [clearZone_seq]
    exact ⟨hlocked, slotWetShed_of_dry (by rw [clearZone_settings]; exact hzone) (clearZone_dry z s)⟩
  exact ite_inv (fun _ => hall) fun _ => seqEvent_inv hall hg.loose

/-! ### The other actions -/

theorem clearLatch_inv (h : Inv g s) (p : AnalogId) : Inv g (clearLatch p s) :=
  ite_inv (fun _ => setPoint_inv h (h.points p).1 fun _ => rfl) fun _ => h

theorem Inv.setStore (h : Inv g s) {x : Store} (hprofile : x.nvm.profile.legal)
    (hwriting : ∀ w, x.writing = some w → w.snapshot.legal) : Inv g (s.setStore x) :=
  { h with
    link := h.link.of_same rfl rfl rfl
    conditions := fun o ho => by
      refine (h.conditions o ho).trans ?_
      cases o <;> rfl
    settings := ⟨h.settings.1, hprofile, hwriting⟩ }

theorem Store.lock_nvm (x : Store) (k : Fin 3) : (x.lock k).nvm = x.nvm ∧ (x.lock k).writing = x.writing := by
  unfold Store.lock
  split <;> exact ⟨rfl, rfl⟩

theorem setCharge_inv (h : Inv g s) (hg : g.loose = none) (i : BbuId) (v : Nat) : Inv g (setCharge i v s) := by
  have hq := (clampNat_bounds (Nat.zero_le s.settings.bbus[i].qFull) v).2
  have hset : Inv g (s.setBbu i
      { (s.charge.bbus[i]).withCharge s.settings.bbus[i].qFull (clampNat 0 s.settings.bbus[i].qFull v) with
        calibrated := true, bottomed := false }) :=
    h.setBbu ⟨hq, Nat.zero_le _, rfl⟩
  exact recomputeReserve_inv (reportBbu_inv hset i) hg

theorem startTest_inv (h : Inv g s) (hg : g.loose = none) (i : BbuId) : Inv g (startTest i s) :=
  recomputeReserve_inv (changeBbu_inv (h.tuneCharge (x := { s.charge with
    test := ⟨true, some i, s.seconds, 0, 0, 0, s.settings.bbus[i].testLimit, s.settings.bbus[i].testCurrent, .none,
      some (s.settings.bbus[i].testLimit * 1000)⟩ }) rfl) i .testing) hg

/-! ### Every request but SET_SLOT -/

theorem setLimit_keeps (h : Inv g s) (point : Byte) (w : LimitW) : Judged.keeps g (runSetLimit point w s) := by
  refine keeps_withId fun p _ => ?_
  have htaken := limitTaken_inv h (takeLimit_legal p w)
  exact keeps_takeSettings htaken

theorem setChargeParams_keeps (h : Inv g s) (hg : g.loose = none) (bbu : Byte) (w : ChargeW) :
    Judged.keeps g (runSetChargeParams bbu w s) := by
  refine keeps_withId fun i _ => ?_
  have htaken := chargeTaken_inv h hg (i := i) (takeCharge_legal w)
  exact keeps_takeSettings htaken

theorem setBudget_keeps (h : Inv g s) (w : BudgetW) : Judged.keeps g (runSetBudget w s) := by
  have htaken := recompute_inv (recomputeCapacity_inv (adoptBudget_inv h (takeBudget_legal w)))
  exact keeps_takeSettings htaken

theorem setRanges_keeps (h : Inv g s) (w : RangesW) : Judged.keeps g (runSetRanges w s) := by
  have htaken := publishReserve_inv (recomputeBand_inv (adoptRanges_inv h (takeRanges_legal w)))
  exact keeps_takeSettings htaken

theorem setHoldup_keeps (h : Inv g s) (w : HoldupW) : Judged.keeps g (runSetHoldup w s) := by
  have htaken := adoptHoldup_inv h (takeHoldup_legal w)
  exact keeps_takeSettings htaken

theorem setRecharge_keeps (h : Inv g s) (w : RechargeW) : Judged.keeps g (runSetRecharge w s) := by
  have htaken := rechargeTaken_inv h (takeRecharge_legal w)
  exact keeps_takeSettings htaken

theorem setSequence_keeps (h : Inv g s) (hg : g.loose = none) (w : SequenceW) : Judged.keeps g (runSetSequence w s) := by
  have htaken := seqEvent_inv (adoptSequence_inv h (takeSequence_legal w)) hg
  exact keeps_takeSettings htaken

theorem setLine_keeps (h : Inv g s) (mode : Byte) (survey : BitVec 16) : Judged.keeps g (runSetLine mode survey s) := by
  have htaken := (adoptLine_inv h (takeLine_legal mode survey)).lineWatch
  exact keeps_takeSettings htaken

theorem setTargets_keeps (h : Inv g s) (mode : Byte) (entries : List TargetW) : Judged.keeps g (runSetTargets mode entries s) :=
  keeps_demand nofun fun hlen => keeps_takeSettings
    ((adoptTargets_inv h (takeTargets_legal _ (of_decide_eq_true hlen))).tuneCharge
      (x := { s.charge with p := 0, armed := false }) rfl)

theorem setZone_keeps (h : Inv g s) (hg : g.unjudged = none) (zone : Byte) (w : ZoneW) : Judged.keeps g (runSetZone zone w s) := by
  refine keeps_withId fun z _ => keeps_demand nofun fun _ => keeps_demand nofun fun hpolicy => ?_
  refine keeps_takeSettings (zoneTaken_inv (adoptZone_inv h (takeZoneSettings_legal w) fun hwet => ?_) hg z _)
  rw [hwet] at hpolicy
  simpa using hpolicy

theorem setMasks_keeps (h : Inv g s) (hexec : g.executing = true) (alert : Byte) (entries : List MaskW) :
    Judged.keeps g (runSetMasks alert entries s) := by
  refine keeps_demand nofun fun _ => keeps_withId fun es _ => keeps_demand nofun fun _ => keeps_ok ?_
  have hstart : Masked (s.adopt { s.settings with globalAlert := takeFlag alert })
      (s.adopt { s.settings with globalAlert := takeFlag alert }) :=
    Masked.refl h.causes.1 fun c => (h.causes.2.1 c).1
  exact masksTaken_inv h hexec _ (hstart.takeEntries es)

theorem storeProfile_keeps (h : Inv g s) : Judged.keeps g (runStoreProfile s) := by
  have hset : Inv g (s.setStore
      { s.store with writing := some ⟨s.settings, 0⟩, unstored := false, count := s.store.count + 1 }) :=
    h.setStore h.settings.2.1 fun w hw => by
      cases hw
      exact h.settings.1
  exact keeps_demand nofun fun _ => keeps_ok hset

theorem lockProfile_keeps (h : Inv g s) (k : Byte) : Judged.keeps g (runLockProfile k s) := by
  refine keeps_withId fun k _ => keeps_ok (h.setStore ?_ ?_)
  · rw [(Store.lock_nvm s.store k).1]
    exact h.settings.2.1
  · rw [(Store.lock_nvm s.store k).2]
    exact h.settings.2.2

theorem clearTransferRecord_keeps (h : Inv g s) : Judged.keeps g (runClearTransferRecord s) := by
  have hset : Inv g (s.setHoldup { s.holdup with record := Transfer.empty }) := h.setRecord nofun nofun
  exact keeps_demand nofun fun _ => keeps_ok hset

theorem perform_keeps (h : Inv g s) (hg : g.Fresh) (hexec : g.executing = true) (hup : g.Anchored s) {i : Instr}
    (hi : ∀ tag slot w, i ≠ .setSlot tag slot w) : Judged.keeps g (perform i s) := by
  have hl := hg.loose
  cases i
  case setSlot tag slot w => exact absurd rfl (hi tag slot w)
  case setLimit tag point w => exact setLimit_keeps h point w
  case setBudget tag w => exact setBudget_keeps h w
  case setChargeParams tag bbu w => exact setChargeParams_keeps h hl bbu w
  case setTargets tag mode entries => exact setTargets_keeps h mode entries
  case setRanges tag w => exact setRanges_keeps h w
  case setHoldup tag w => exact setHoldup_keeps h w
  case setRecharge tag w => exact setRecharge_keeps h w
  case setSequence tag w => exact setSequence_keeps h hl w
  case setZone tag zone w => exact setZone_keeps h hg.unjudged zone w
  case setLine tag mode survey => exact setLine_keeps h mode survey
  case setMasks tag alert entries => exact setMasks_keeps h hexec alert entries
  case armTargets tag => exact keeps_demand nofun fun _ => keeps_ok (armTable_inv h hl)
  case powerUp tag slots => exact slotList_keeps (fun n t ht => powerUpSlot_inv ht hl n) slots h
  case powerDown tag u slots => exact slotList_keeps (fun n t ht => powerDownSlot_inv ht hl _ n) slots h
  case releaseSlot tag slot requeue =>
    exact keeps_withId fun n _ => keeps_demand nofun fun hn => keeps_ok (releaseSlot_inv h hl hup hn _)
  case clearZone tag zone requeue => exact clearZone_keeps h hg.toLevel zone requeue
  case clearLatch tag point => exact keeps_withId fun p _ => keeps_ok (clearLatch_inv h p)
  case clearCause tag causes =>
    exact keeps_demand nofun fun _ => keeps_withId fun cs _ =>
      keeps_ok (foldl_inv (fun _ c _ ht => clearCause_inv ht hexec c) h)
  case holdAll tag => exact keeps_ok (setHold_inv h hexec true)
  case releaseAll tag => exact keeps_ok (setHold_inv h hexec false)
  case setCharge tag bbu value =>
    exact keeps_withId fun i _ => keeps_demand nofun fun _ => keeps_ok (setCharge_inv h hl i _)
  case startTest tag bbu => exact keeps_withId fun i _ => keeps_demand nofun fun _ => keeps_ok (startTest_inv h hl i)
  case abortTest tag => exact keeps_demand nofun fun _ => keeps_ok (recomputeReserve_inv (abortTest_inv h _ _) hl)
  case clearTransferRecord tag => exact clearTransferRecord_keeps h
  case storeProfile tag => exact storeProfile_keeps h
  case lockProfile tag k => exact lockProfile_keeps h k
  case getSense tag first count => unfold perform runGetSense; exact keeps_bulk _ _ _ _ _ h
  case getPsu tag first count => unfold perform runGetPsu; exact keeps_bulk _ _ _ _ _ h
  case getBbu tag first count => unfold perform runGetBbu; exact keeps_bulk _ _ _ _ _ h
  case getTargets tag first count => unfold perform runGetTargets; exact keeps_bulk _ _ _ _ _ h
  case getSlots tag first count => unfold perform runGetSlots; exact keeps_bulk _ _ _ _ _ h
  case getZones tag first count => unfold perform runGetZones; exact keeps_bulk _ _ _ _ _ h
  case getCauses tag first count => unfold perform runGetCauses; exact keeps_bulk _ _ _ _ _ h
  case getStatus | getReserve | getRanges | getQueue | getTransferRecord | getTest | getProfileInfo => exact keeps_ok h
  all_goals exact keeps_error nofun

end Requests

end Sys2Proof.Machine
end

section
/-! PROOFS. SET_SLOT keeps the laws of a running part (R94): the settings are taken with the slot loose in the queue and perhaps
promoted to CRITICAL, and each effect takes one slack up. -/

namespace Sys2Proof.Machine

section SetSlot

variable {g : Slack} {s : State} {n : SlotId}

/-! ### The queue around a loose slot -/

theorem leaveQueue_loose_inv (h : Inv { g with loose := some n } s) : Inv { g with loose := some n } (leaveQueue n s) :=
  { h with
    link := h.link.of_same rfl rfl rfl
    conditions := fun o ho => by
      refine (h.conditions o ho).trans ?_
      cases o <;> rfl
    inQueue := fun m hm => h.inQueue m (mem_leaveQueue.1 hm).1
    queued := fun m hm => by
      by_cases hn : n = m
      · exact .inl (by rw [hn])
      · exact .inr (mem_leaveQueue.2
          ⟨(h.queued m hm).resolve_left fun he => hn (Option.some.inj he), fun he => hn he.symm⟩)
    order := List.Pairwise.sublist (List.Sublist.filter _ List.filter_sublist) h.order }

theorem not_mem_leaveQueue : n ∉ (leaveQueue n s).seq.queue := fun h => (mem_leaveQueue.1 h).2 rfl

theorem slotWetShed_of_not_wet (h : s.slotWet n = false) : s.slotWetShed n = false := by
  unfold State.slotWet at h
  unfold State.slotWetShed
  split at h <;> simp_all

/-- A QUEUED slot whose rank has changed moves to its place (R96). -/
theorem rejoinQueue_inv (h : Inv { g with loose := some n } s) (hst : s.seq.slots[n].state = .queued) (hlock : g.toLock = []) :
    Inv { g with loose := none } (enterQueue n (leaveQueue n s)) := by
  have hdry : s.slotWet n = false := (h.dryQueue n hst).resolve_left (by simp [hlock])
  have hnot : ¬ g.up n := h.not_up (Slot.not_keptUp (.inr (.inl hst)))
  have hleft := leaveQueue_loose_inv h
  have hstill := (h.slots n).still (.inl (by rw [hst]; rfl))
  have hstill' : ({ s.seq.slots[n] with restore := false } : Slot).still :=
    ⟨hstill.notice, hstill.soak, hstill.window, hstill.hold, hstill.drain⟩
  rcases enterQueue_cases n (leaveQueue n s) with ⟨hwet, -⟩ | ⟨-, e⟩
  · have hwet' : s.slotWet n = true := hwet
    rw [hdry] at hwet'
    cases hwet'
  · rw [e]
    have hmove := hleft.moveSlot (st := .queued) (upd := fun x => { x with restore := false }) (some n) g.toShed (.inr rfl) (.inr rfl)
      (fun m hm => .inl hm) not_mem_leaveQueue (hstill'.moved_ok (.inl rfl)) (fun _ => ⟨rfl, hdry⟩)
      (fun _ => .inr (slotWetShed_of_not_wet hdry)) (by rintro (hw | hw) <;> cases hw) (fun hu => (hnot hu).elim)
    exact joinQueue_inv (g := g) hmove (by rw [moveSlot_slots, if_pos rfl]; rfl)

/-! ### The settings taken -/

/-- A slot's settings as SET_SLOT may change them: its zone stays, or is not WET. -/
structure SlotTaken (s : State) (n : SlotId) (y : SlotSettings) : Prop where
  legal : y.legal
  zone : y.zone = s.settings.slots[n].zone ∨ ∀ z, y.zone = some z → s.leak.zones[z].state ≠ .wet

/-- The part with the slot's new settings. -/
def State.withSlot (s : State) (n : SlotId) (y : SlotSettings) : State :=
  s.adopt { s.settings with slots := s.settings.slots.set n y }

theorem withSlot_settings (m : SlotId) (y : SlotSettings) :
    (s.withSlot n y).settings.slots[m] = if n = m then y else s.settings.slots[m] := get_set _ _ _ _

theorem slotWet_withSlot {y : SlotSettings} (h : SlotTaken s n y) {m : SlotId} (hm : (s.withSlot n y).slotWet m = true) :
    s.slotWet m = true := by
  unfold State.slotWet at hm ⊢
  rw [withSlot_settings] at hm
  split_ifs at hm with he
  · subst he
    rcases h.zone with hz | hz
    · rwa [← hz]
    · split at hm
      · cases hm
      · exact absurd (beq_iff_eq.1 hm) (hz _ ‹_›)
  · exact hm

theorem slotWetShed_withSlot {y : SlotSettings} (h : SlotTaken s n y) {m : SlotId} (hm : (s.withSlot n y).slotWetShed m = true) :
    s.slotWetShed m = true := by
  unfold State.slotWetShed at hm ⊢
  rw [withSlot_settings] at hm
  split_ifs at hm with he
  · subst he
    rcases h.zone with hz | hz
    · rwa [← hz]
    · split at hm
      · cases hm
      · exact absurd (beq_iff_eq.1 (Bool.and_eq_true_iff.1 hm).1) (hz _ ‹_›)
  · exact hm

/-- The settings are taken; `l` and `p` say whether the slot is loose in the queue and whether it may have become CRITICAL. -/
theorem withSlot_inv (h : Inv g s) (hg : g.loose = none) {y : SlotSettings} (hy : SlotTaken s n y) (hup : ¬ g.up n)
    (l p : Option SlotId) (hl : l = some n ∨ (l = none ∧ (n ∉ s.seq.queue ∨ y.rank = s.settings.slots[n].rank)))
    (hp : y.cls = .critical → s.settings.slots[n].cls = .critical ∨ p = some n) (hgp : g.promoted = none) :
    Inv { g with loose := l, promoted := p } (s.withSlot n y) := by
  obtain ⟨hpoints, hbudget, hbbus, htargets, hranges, hholdup, hrecharge, hslots, hrest⟩ := h.settings.1
  have horder := h.order
  simp only [hg, ne_eq, reduceCtorEq, not_false_eq_true, decide_true, List.filter_true] at horder
  have hbefore {a b : SlotId} (ha : l ≠ some a) (hb : l ≠ some b) (hqa : a ∈ s.seq.queue) (hqb : b ∈ s.seq.queue)
      (hab : s.before a b = true) : (s.withSlot n y).before a b = true := by
    have hrank {c : SlotId} (hc : l ≠ some c) (hqc : c ∈ s.seq.queue) :
        (s.withSlot n y).settings.slots[c].rank = s.settings.slots[c].rank := by
      rw [withSlot_settings]
      split_ifs with he
      · subst he
        rcases hl with hl | ⟨-, hout | hsame⟩
        · exact absurd hl hc
        · exact absurd hqc hout
        · exact hsame
      · rfl
    unfold State.before at hab ⊢
    rwa [hrank ha hqa, hrank hb hqb]
  exact
    { h with
      link := h.link.of_same rfl rfl rfl
      conditions := fun o ho => by
        refine (h.conditions o ho).trans ?_
        cases o <;> rfl
      settings := adopt_settingsLaw h.settings
        ⟨hpoints, hbudget, hbbus, htargets, hranges, hholdup, hrecharge,
          forall_set (P := fun _ (x : SlotSettings) => x.legal) hslots hy.legal, hrest⟩
      slots := fun m => by
        have hm := h.slots m
        exact ⟨hm.en, hm.notice, hm.soak, hm.window, hm.hold, hm.drain, fun hst => (hm.pg hst).imp_left (by simp [hg])⟩
      up := fun m hm => by
        have hne : n ≠ m := fun e => hup (e ▸ hm)
        rw [withSlot_settings, if_neg hne]
        exact h.up m hm
      warned := fun m hm => by
        obtain ⟨hwarns, hcrit⟩ := h.warned m hm
        refine ⟨hwarns, fun hc => ?_⟩
        rw [withSlot_settings] at hc
        split_ifs at hc with he
        · subst he
          rcases hp hc with hold | hpromoted
          · exact .inr ((hcrit hold).resolve_left (by simp [hgp]))
          · exact .inl hpromoted
        · exact .inr ((hcrit hc).resolve_left (by simp [hgp]))
      queued := fun m hm => .inr ((h.queued m hm).resolve_left (by simp [hg]))
      order := by
        have hsub : (s.seq.queue.filter fun m => decide (l ≠ some m)).Pairwise fun a b => s.before a b = true :=
          horder.filter _
        refine hsub.imp_of_mem fun {a b} ha hb hab => ?_
        rw [List.mem_filter, decide_eq_true_eq] at ha hb
        exact hbefore ha.2 hb.2 ha.1 hb.1 hab
      dryQueue := fun m hm => (h.dryQueue m hm).imp_right fun hdry => by
        by_contra hwet
        have := slotWet_withSlot hy (Bool.not_eq_false _ ▸ hwet)
        rw [hdry] at this
        cases this
      shut := fun m hm => h.shut m (slotWetShed_withSlot hy hm) }

/-- A promotion is settled once the slot's shed has been withdrawn, if it had one (R112, R121). -/
theorem Inv.demote {p : Option SlotId} (h : Inv { g with promoted := p } s) (hp : p = none ∨ p = some n)
    (hn : s.seq.slots[n].warned → s.settings.slots[n].cls = .critical → s.seq.slots[n].reason = .manager)
    (hg : g.promoted = none) : Inv g s :=
  { h with
    warned := fun m hm => by
      obtain ⟨hwarns, hcrit⟩ := h.warned m hm
      refine ⟨hwarns, fun hc => ?_⟩
      rcases hcrit hc with he | he
      · have hpm : p = some m := he
        rcases hp with hp | hp
        · rw [hp] at hpm
          cases hpm
        · rw [hp] at hpm
          cases hpm
          exact .inr (hn hm hc)
      · exact .inr he }

/-! ### The effects one by one -/

/-- Enabled cleared. -/
def takenEnable (n : SlotId) (old new : SlotSettings) (s : State) : State :=
  if old.enabled && !new.enabled then disableSlot n s else s

/-- The slot is QUEUED under another rank. -/
def State.rankMoved (s : State) (n : SlotId) (old new : SlotSettings) : Bool :=
  s.seq.slots[n].state == .queued && old.rank != new.rank

/-- A new rank of a QUEUED slot. -/
def takenRank (n : SlotId) (old new : SlotSettings) (s : State) : State :=
  if s.rankMoved n old new then enterQueue n (leaveQueue n s) else s

/-- The slot has become CRITICAL. -/
def takenClass (n : SlotId) (old new : SlotSettings) (s : State) : State :=
  if old.cls ≠ .critical ∧ new.cls = .critical then criticalTaken n s else s

/-- A new power figure. -/
def takenPower (old new : SlotSettings) (s : State) : State :=
  if old.pReq ≠ new.pReq ∨ old.pInrush ≠ new.pInrush then recompute s else s

/-- What stands of the effects of SET_SLOT before the grant check. -/
def takenSlot (n : SlotId) (old : SlotSettings) (s : State) : State :=
  takenPower old s.settings.slots[n] (takenClass n old s.settings.slots[n] (takenRank n old s.settings.slots[n]
    (takenEnable n old s.settings.slots[n] s)))

theorem slotTaken_eq (n : SlotId) (old : SlotSettings) (need : Option Nat) (s : State) :
    slotTaken n old need s =
      if (takenEnable n old s.settings.slots[n] s).rankMoved n old s.settings.slots[n] ||
          (takenSlot n old s).seq.queue != s.seq.queue || (takenSlot n old s).headNeed != need then
        seqEvent (takenSlot n old s)
      else takenSlot n old s := rfl

theorem disableSlot_cases (n : SlotId) (s : State) :
    (s.seq.slots[n].state = .queued ∧ disableSlot n s =
      moveSlot n .off id (leaveQueue n (s.setSlot n { s.seq.slots[n] with restore := false }))) ∨
    (s.seq.slots[n].state ≠ .queued ∧ disableSlot n s = s.setSlot n { s.seq.slots[n] with restore := false }) := by
  have hst : (s.setSlot n { s.seq.slots[n] with restore := false }).seq.slots[n].state = s.seq.slots[n].state := by
    rw [setSlot_slots, if_pos rfl]
  unfold disableSlot
  simp only
  split
  · exact .inl ⟨hst ▸ ‹_›, rfl⟩
  · exact .inr ⟨hst ▸ ‹_›, rfl⟩

theorem clearRestore_inv (h : Inv g s) : Inv g (s.setSlot n { s.seq.slots[n] with restore := false }) :=
  h.retouch rfl rfl rfl rfl rfl rfl rfl rfl rfl

theorem disableQueued_inv (h : Inv { g with loose := some n } s) (hst : s.seq.slots[n].state = .queued) :
    Inv { g with loose := none } (disableSlot n s) := by
  rcases disableSlot_cases n s with ⟨-, e⟩ | ⟨hne, -⟩
  · rw [e]
    have hclear : Inv { g with loose := some n } (s.setSlot n { s.seq.slots[n] with restore := false }) := clearRestore_inv h
    have hread : (s.setSlot n { s.seq.slots[n] with restore := false }).seq.slots[n].state = .queued := by
      rw [setSlot_slots, if_pos rfl]
      exact hst
    have hleft := leaveQueue_loose_inv hclear
    exact moveToRest_inv hleft g.toShed (.inr rfl) (fun m hm => .inl hm) not_mem_leaveQueue
      ((hclear.slots n).still (.inl (by rw [hread]; rfl))) (.inl rfl)
      (fun hshut => by
        have hshut' : (s.setSlot n { s.seq.slots[n] with restore := false }).seq.slots[n].shut := hshut
        rcases hshut' with ⟨he, -⟩ | he | he <;> (rw [hread] at he; cases he))
      (fun hu => absurd hu (h.not_up (Slot.not_keptUp (.inr (.inl hst)))))
  · exact absurd hst hne

theorem disableOther_inv (h : Inv g s) (hst : s.seq.slots[n].state ≠ .queued) : Inv g (disableSlot n s) := by
  rcases disableSlot_cases n s with ⟨he, -⟩ | ⟨-, e⟩
  · exact absurd he hst
  · rw [e]
    exact clearRestore_inv h

/-- The first two effects take a QUEUED slot out of the queue, or move it to its place. -/
theorem takenRank_inv (h : Inv g s) (hg : g.Fresh) {y : SlotSettings} (hy : SlotTaken s n y) (hup : ¬ g.up n)
    {p : Option SlotId} (hp : y.cls = .critical → s.settings.slots[n].cls = .critical ∨ p = some n) :
    Inv { g with promoted := p }
      (takenRank n s.settings.slots[n] y (takenEnable n s.settings.slots[n] y (s.withSlot n y))) := by
  have hclosed (t : State) (ht : Inv { g with loose := none, promoted := p } t) : Inv { g with promoted := p } t := by
    rwa [show ({ g with loose := none, promoted := p } : Slack) = { g with promoted := p } by rw [← hg.loose]] at ht
  have hstate : (s.withSlot n y).seq.slots[n].state = s.seq.slots[n].state := rfl
  by_cases hst : s.seq.slots[n].state = .queued
  · have hloose := withSlot_inv h hg.loose hy hup (some n) p (.inl rfl) hp hg.promoted
    unfold takenEnable
    split
    · have hoff : Inv { g with promoted := p } (disableSlot n (s.withSlot n y)) :=
        hclosed _ (disableQueued_inv (g := { g with promoted := p }) hloose hst)
      have hmoved : (disableSlot n (s.withSlot n y)).rankMoved n s.settings.slots[n] y = false := by
        rcases disableSlot_cases n (s.withSlot n y) with ⟨-, e⟩ | ⟨hne, -⟩
        · rw [e, State.rankMoved, moveSlot_slots, if_pos rfl]
          rfl
        · exact absurd hst hne
      unfold takenRank
      rwa [if_neg (by rw [hmoved]; nofun)]
    · unfold takenRank
      split
      · exact hclosed _ (rejoinQueue_inv (g := { g with promoted := p }) hloose hst hg.toLock)
      · rename_i hmoved
        refine hclosed _ (withSlot_inv h hg.loose hy hup none p (.inr ⟨rfl, .inr ?_⟩) hp hg.promoted)
        by_contra hne
        unfold State.rankMoved at hmoved
        rw [hstate, hst] at hmoved
        exact hmoved (Bool.and_eq_true_iff.2 ⟨rfl, bne_iff_ne.2 (Ne.symm hne)⟩)
  · have hfirm : Inv { g with promoted := p } (s.withSlot n y) :=
      hclosed _ (withSlot_inv h hg.loose hy hup none p (.inr ⟨rfl, .inl (h.out_of_queue hst)⟩) hp hg.promoted)
    have henable : Inv { g with promoted := p } (takenEnable n s.settings.slots[n] y (s.withSlot n y)) :=
      ite_inv (fun _ => disableOther_inv hfirm hst) fun _ => hfirm
    have hstill : (takenEnable n s.settings.slots[n] y (s.withSlot n y)).seq.slots[n].state = s.seq.slots[n].state := by
      unfold takenEnable
      split
      · rcases disableSlot_cases n (s.withSlot n y) with ⟨he, -⟩ | ⟨-, e⟩
        · exact absurd he hst
        · rw [e, setSlot_slots, if_pos rfl]
          rfl
      · rfl
    unfold takenRank
    rwa [if_neg]
    unfold State.rankMoved
    rw [hstill, Bool.and_eq_true, beq_iff_eq]
    exact fun hm => hst hm.1

theorem enterPaused_seq (v : Int) (k : Byte) (s : State) : (enterPaused v k s).seq = s.seq := by
  rw [enterPaused_eq, raise_seq, reportCondition_seq, reshare_seq, State.setRecharge_seq]

theorem instructRegulator_seq (s : State) : (instructRegulator s).seq = s.seq := by
  rcases instructRegulator_cases s with ⟨e, -⟩ | ⟨-, -, e⟩ <;> rw [e]
  exact enterPaused_seq _ _ s

theorem judgeDeficit_seq (s : State) : (judgeDeficit s).seq = s.seq := by
  rcases judgeDeficit_cases s with e | ⟨-, -, e⟩ | ⟨-, -, -, e⟩ | ⟨-, -, e⟩ <;> rw [e]
  · rw [enterGrace, raise_seq, reportCondition_seq, State.setBudget_seq]
  · rw [enterGrace, raise_seq, reportCondition_seq, State.setBudget_seq]
  · rw [endDeficit, reportCondition_seq, State.setBudget_seq]

theorem settleHeadroom_seq (s : State) : (settleHeadroom s).seq = s.seq := by
  rw [settleHeadroom, State.setBudget_seq]

theorem recompute_seq (s : State) : (recompute s).seq = s.seq := by
  rcases recompute_cases s with ⟨-, e⟩ | ⟨-, e⟩ <;> rw [e]
  · exact settleHeadroom_seq s
  · rw [judgeDeficit_seq, settleHeadroom_seq, instructRegulator_seq]

theorem recompute_slots (m : SlotId) (s : State) : (recompute s).seq.slots[m] = s.seq.slots[m] := by rw [recompute_seq]

theorem shiftSlot_slots (n m : SlotId) (st : SlotState) (upd : Slot → Slot) (s : State) :
    (shiftSlot n st upd s).seq.slots[m] = if n = m then (upd s.seq.slots[n]).moved st else s.seq.slots[m] := by
  rw [shiftSlot, recompute_seq, moveSlot_slots]

theorem withdrawSlot_slots (n m : SlotId) (s : State) :
    (withdrawSlot n s).seq.slots[m] = if n = m then (s.seq.slots[n].noShed).moved .on else s.seq.slots[m] :=
  shiftSlot_slots n m .on Slot.noShed s

theorem grant_slots {m : SlotId} (hne : n ≠ m) (s : State) : (grant n s).seq.slots[m] = s.seq.slots[m] := by
  unfold grant
  simp only
  rw [shiftSlot_slots, if_neg hne, State.setSeq_seq, leaveQueue, State.setSeq_seq]

theorem grantCheck_slots (hn : n ∉ s.seq.queue) : (grantCheck s).seq.slots[n] = s.seq.slots[n] := by
  unfold grantCheck
  split
  · rfl
  · rename_i m ms hq
    split
    · show (grant m s).seq.slots[n] = _
      exact grant_slots (fun e => hn (by rw [hq, e]; exact List.mem_cons_self)) s
    · rfl

theorem seqEvent_slots (hn : n ∉ s.seq.queue) : (seqEvent s).seq.slots[n] = s.seq.slots[n] := by
  unfold seqEvent reportHead
  split
  · exact grantCheck_slots hn
  · exact grantCheck_slots hn

theorem takenClass_settle (h : Inv { g with promoted := some n } s) (hg : g.Fresh) : Inv g (criticalTaken n s) := by
  unfold criticalTaken
  simp only
  split
  · rename_i hw
    have hback := withdrawSlot_inv h hg.loose hw.1
    refine hback.demote (.inr rfl) (fun hwarned => ?_) hg.promoted
    have hon : (withdrawSlot n s).seq.slots[n].state = .on := by
      rw [withdrawSlot_slots, if_pos rfl]
      rfl
    rcases hwarned with he | he <;> rw [hon] at he <;> cases he
  · rename_i hw
    refine h.demote (.inr rfl) (fun hwarned _ => ?_) hg.promoted
    obtain ⟨hwarns, -⟩ := h.warned n hwarned
    rcases hwarns with e | e | e | e
    · exact e
    all_goals exact absurd ⟨hwarned, by rw [e]; rfl⟩ hw

theorem takenSlot_inv (h : Inv g s) (hg : g.Fresh) {y : SlotSettings} (hy : SlotTaken s n y) (hup : ¬ g.up n) :
    Inv g (takenSlot n s.settings.slots[n] (s.withSlot n y)) := by
  have hnew : (s.withSlot n y).settings.slots[n] = y := get_set_same _ _ _
  have hclass : Inv g (takenClass n s.settings.slots[n] y
      (takenRank n s.settings.slots[n] y (takenEnable n s.settings.slots[n] y (s.withSlot n y)))) := by
    unfold takenClass
    split
    · exact takenClass_settle (takenRank_inv h hg hy hup fun _ => .inr rfl) hg
    · rename_i hno
      have hsame := takenRank_inv (p := none) h hg hy hup fun hc => .inl (by
        by_contra hold
        exact hno ⟨hold, hc⟩)
      exact hsame.demote (.inl rfl) (fun hw hc => ((hsame.warned n hw).2 hc).resolve_left nofun) hg.promoted
  unfold takenSlot
  rw [hnew]
  exact ite_inv (fun _ => recompute_inv hclass) fun _ => hclass

theorem slotTaken_inv (h : Inv g s) (hg : g.Fresh) {y : SlotSettings} (hy : SlotTaken s n y) (hup : ¬ g.up n) (need : Option Nat) :
    Inv g (slotTaken n s.settings.slots[n] need (s.withSlot n y)) := by
  have htaken := takenSlot_inv h hg hy hup
  rw [slotTaken_eq]
  exact ite_inv (fun _ => seqEvent_inv htaken hg.loose) fun _ => htaken

/-! ### What SET_SLOT leaves up -/

/-- In ON, or in a warned state. -/
def Slot.isUp (x : Slot) : Prop := x.state = .on ∨ x.state = .notice ∨ x.state = .held

theorem Slot.isUp.not_queued {x : Slot} (h : x.isUp) : x.state ≠ .queued := by
  rcases h with e | e | e <;> rw [e] <;> nofun

theorem criticalTaken_isUp (h : s.seq.slots[n].isUp) : (criticalTaken n s).seq.slots[n].isUp := by
  unfold criticalTaken
  simp only
  split
  · rw [withdrawSlot_slots, if_pos rfl]
    exact .inl rfl
  · exact h

theorem takenPower_isUp {t : State} (h : t.seq.slots[n].isUp) (old new : SlotSettings) :
    (takenPower old new t).seq.slots[n].isUp := by
  unfold takenPower
  split
  · rw [recompute_slots]
    exact h
  · exact h

theorem takenSlot_isUp {y : SlotSettings} (h : s.seq.slots[n].isUp) :
    (takenSlot n s.settings.slots[n] (s.withSlot n y)).seq.slots[n].isUp := by
  have henable : (takenEnable n s.settings.slots[n] y (s.withSlot n y)).seq.slots[n].isUp := by
    unfold takenEnable
    split
    · rcases disableSlot_cases n (s.withSlot n y) with ⟨he, -⟩ | ⟨-, e⟩
      · exact absurd he h.not_queued
      · rw [e, setSlot_slots, if_pos rfl]
        exact h
    · exact h
  have hrank : (takenRank n s.settings.slots[n] y (takenEnable n s.settings.slots[n] y (s.withSlot n y))).seq.slots[n].isUp := by
    unfold takenRank
    rwa [if_neg]
    unfold State.rankMoved
    rw [Bool.and_eq_true, beq_iff_eq]
    exact fun hm => henable.not_queued hm.1
  have hclass : (takenClass n s.settings.slots[n] y (takenRank n s.settings.slots[n] y
      (takenEnable n s.settings.slots[n] y (s.withSlot n y)))).seq.slots[n].isUp := by
    unfold takenClass
    split
    · exact criticalTaken_isUp hrank
    · exact hrank
  have hnew : (s.withSlot n y).settings.slots[n] = y := get_set_same _ _ _
  unfold takenSlot
  rw [hnew]
  exact takenPower_isUp hclass _ _

theorem slotTaken_isUp (h : Inv g s) (hg : g.Fresh) {y : SlotSettings} (hy : SlotTaken s n y) (hup : ¬ g.up n) (need : Option Nat)
    (hn : s.seq.slots[n].isUp) : (slotTaken n s.settings.slots[n] need (s.withSlot n y)).seq.slots[n].isUp := by
  have htaken := takenSlot_inv h hg hy hup
  have hstays : (takenSlot n s.settings.slots[n] (s.withSlot n y)).seq.slots[n].isUp := takenSlot_isUp hn
  rw [slotTaken_eq]
  split
  · rw [seqEvent_slots (htaken.out_of_queue hstays.not_queued)]
    exact hstays
  · exact hstays

/-! ### SET_SLOT -/

/-- CRITICAL slots that were up are kept up. -/
def Slack.keepsUp (g : Slack) (t : State) : Prop := ∀ m, g.up m → t.seq.slots[m].keptUp

/-- The slack of a command whose CRITICAL slots are told apart. -/
def Slack.closed (g : Slack) : Slack := { g with up := fun _ => False }

theorem Inv.close (h : Inv g s) : Inv g.closed s := { h with up := nofun }

/-- The request keeps the laws and the CRITICAL slots when it is accepted, and is not refused BUSY. -/
def Judged.keepsAll (g : Slack) (j : Judged) : Prop :=
  (∀ t ack, j = .ok (t, ack) → Inv g.closed t ∧ g.keepsUp t) ∧ j ≠ .error .busy

theorem Judged.keeps.all {j : Judged} (h : Judged.keeps g j) : Judged.keepsAll g j :=
  ⟨fun t ack e => ⟨(h.1 t ack e).close, fun m hm => ((h.1 t ack e).up m hm).2⟩, h.2⟩

/-- SET_SLOT leaves a CRITICAL slot up, were it the slot it sets, which may be CRITICAL no more. -/
theorem slotTaken_keeps (h : Inv g s) (hg : g.Fresh) (hup : g.Anchored s) {y : SlotSettings} (hy : SlotTaken s n y)
    (need : Option Nat) :
    Inv g.closed (slotTaken n s.settings.slots[n] need (s.withSlot n y)) ∧
      g.keepsUp (slotTaken n s.settings.slots[n] need (s.withSlot n y)) := by
  have hothers : Inv { g with up := fun m => g.up m ∧ m ≠ n } s := { h with up := fun m hm => h.up m hm.1 }
  have hfresh : Slack.Fresh { g with up := fun m => g.up m ∧ m ≠ n } :=
    { loose := hg.loose, unjudged := hg.unjudged, toLock := hg.toLock, toShed := hg.toShed, now := hg.now
      leaving := hg.leaving, promoted := hg.promoted }
  have hdone := slotTaken_inv hothers hfresh hy (fun hm => hm.2 rfl) need
  refine ⟨hdone.close, fun m hm => ?_⟩
  by_cases he : m = n
  · subst he
    exact .inl (slotTaken_isUp hothers hfresh hy (fun hm => hm.2 rfl) need (hup m hm))
  · exact (hdone.up m ⟨hm, he⟩).2

theorem zone_of_not_refused {zone : Option ZoneId} (h : s.zoneRefused n zone = false) :
    zone = s.settings.slots[n].zone ∨ ∀ z, zone = some z → s.leak.zones[z].state ≠ .wet := by
  by_cases he : zone = s.settings.slots[n].zone
  · exact .inl he
  · refine .inr fun z hz hwet => ?_
    subst hz
    unfold State.zoneRefused at h
    rw [Bool.and_eq_false_iff] at h
    rcases h with h | h
    · exact he (by simpa using h)
    · simp only [hwet] at h
      cases h

theorem setSlot_keeps (h : Inv g s) (hg : g.Fresh) (hup : g.Anchored s) (slot : Byte) (w : SlotW) :
    Judged.keepsAll g (runSetSlot slot w s) := by
  unfold runSetSlot withId
  split
  · exact (keeps_error (c := .outOfRange) nofun).all
  · rename_i n _
    split
    · exact (keeps_error (c := .outOfRange) nofun).all
    · rename_i zone _
      unfold takeSettings demand
      simp only
      split
      · split
        · rename_i hzone
          have hy : SlotTaken s n (takeSlot zone w) :=
            ⟨takeSlot_legal zone w, zone_of_not_refused (zone := zone) (by simpa using hzone)⟩
          have hdone := slotTaken_keeps h hg hup hy s.headNeed
          refine ⟨fun t ack e => ?_, nofun⟩
          cases e
          exact hdone
        · exact (keeps_error (c := .wrongState) nofun).all
      · exact (keeps_error (c := .locked) nofun).all

/-- Every request keeps the laws and the CRITICAL slots (R112). -/
theorem perform_keepsAll (h : Inv g s) (hg : g.Fresh) (hexec : g.executing = true) (hup : g.Anchored s) (i : Instr) :
    Judged.keepsAll g (perform i s) := by
  by_cases hi : ∃ tag slot w, i = .setSlot tag slot w
  · obtain ⟨tag, slot, w, rfl⟩ := hi
    exact setSlot_keeps h hg hup slot w
  · exact (perform_keeps h hg hexec hup fun tag slot w e => hi ⟨tag, slot, w, e⟩).all

end SetSlot

end Sys2Proof.Machine
end

section
/-! PROOFS. The execution of a request on a running part (R167 to R169): its one reply, the request queue, the receiver and the end
of a frame on TXD. -/

namespace Sys2Proof.Machine

section Link

variable {g : Slack} {s : State}

/-! ### Replies and the link -/

theorem executionReplies_eq (s : State) :
    s.executionReplies = s.link.replies.countP (fun r => !r.isBusy) + (s.link.tx.elim 0 fun t => if t.isExecution then 1 else 0) := by
  unfold State.executionReplies
  cases s.link.tx <;> rfl

theorem canExecute_false_iff (s : State) : s.canExecute = false ↔ s.phase ≠ .running ∨ 0 < s.executionReplies := by
  rw [← Bool.not_eq_true, canExecute_iff, not_and_or, Nat.pos_iff_ne_zero]

/-- Where no reply waits while the transmitter is free, a reply joins the waiting replies or goes out at once. -/
theorem pushReply_cases (h : s.link.tx = none → s.link.replies = []) (r : Reply) :
    (s.link.tx = none ∧ pushReply r s = s.setLink { s.link with tx := some (.reply r), replies := [] }) ∨
    (s.link.tx.isSome = true ∧ pushReply r s = s.setLink { s.link with replies := s.link.replies ++ [r] }) := by
  cases htx : s.link.tx with
  | none =>
    refine .inl ⟨rfl, ?_⟩
    unfold pushReply serveTransmitter
    simp only [State.setLink_link, htx, h htx]
    rfl
  | some t =>
    refine .inr ⟨rfl, ?_⟩
    unfold pushReply serveTransmitter
    simp only [State.setLink_link, htx]

/-- The link after a reply is made ready. -/
theorem pushReply_link (h : s.link.tx = none → s.link.replies = []) (r : Reply) :
    ∃ l, pushReply r s = s.setLink l ∧ l.queue = s.link.queue ∧ l.tx.isSome = true ∧
      (s.setLink l).executionReplies = s.executionReplies + (if r.isBusy then 0 else 1) ∧
      (s.setLink l).busyWaiting ≤ s.busyWaiting + (if r.isBusy then 1 else 0) := by
  rcases pushReply_cases h r with ⟨htx, e⟩ | ⟨htx, e⟩
  · refine ⟨_, e, rfl, rfl, ?_, ?_⟩
    · simp only [executionReplies_eq, State.setLink_link, htx, h htx, Option.elim, Sending.isExecution]
      by_cases hb : r.isBusy = true <;> simp [hb]
    · simp [State.busyWaiting]
  · refine ⟨_, e, rfl, htx, ?_, ?_⟩
    · simp only [executionReplies_eq, State.setLink_link, List.countP_append, List.countP_singleton]
      by_cases hb : r.isBusy = true
      · simp [hb]
      · simp [hb]
        omega
    · simp only [State.busyWaiting, State.setLink_link, List.countP_append, List.countP_singleton]
      exact le_rfl

/-- A change of the link alone. -/
theorem Inv.setLink (h : Inv g s) (e : Bool) {l : Link} (hlink : LinkOk e (s.setLink l)) :
    Inv { g with executing := e } (s.setLink l) :=
  { h with
    conditions := fun o ho => by
      refine (h.conditions o ho).trans ?_
      cases o <;> rfl
    link := hlink }

theorem pushReply_execution {e : Bool} (h : LinkOk e s) (hcan : s.canExecute = true) {r : Reply} (hr : r.isBusy = false) :
    ∃ l, pushReply r s = s.setLink l ∧ LinkOk false (s.setLink l) ∧ (s.setLink l).canExecute = false := by
  obtain ⟨l, hpush, hqueue, htx, hexec, hbusy⟩ := pushReply_link h.replies r
  have hnone := ((canExecute_iff s).1 hcan).2
  rw [hr, if_neg nofun] at hexec hbusy
  have hone : (s.setLink l).executionReplies = 1 := by rw [hexec, hnone]
  have hstop : (s.setLink l).canExecute = false := (canExecute_false_iff _).2 (.inr (by rw [hone]; exact Nat.one_pos))
  refine ⟨l, hpush, ?_, hstop⟩
  exact
    { queue := by
        rw [State.setLink_link, hqueue]
        exact h.queue
      busy := hbusy.trans h.busy
      single := hone.le
      prompt := fun _ hc => by
        rw [hstop] at hc
        cases hc
      ready := nofun
      replies := fun ht => by
        rw [State.setLink_link] at ht
        rw [ht] at htx
        cases htx
      outbox := fun _ ht => by
        rw [State.setLink_link] at ht
        rw [ht] at htx
        cases htx }

theorem pushReply_busy (h : LinkOk false s) (hfew : s.busyWaiting < 4) {r : Reply} (hr : r.isBusy = true) :
    ∃ l, pushReply r s = s.setLink l ∧ LinkOk false (s.setLink l) ∧ (s.setLink l).canExecute = s.canExecute := by
  obtain ⟨l, hpush, hqueue, htx, hexec, hbusy⟩ := pushReply_link h.replies r
  rw [hr, if_pos rfl] at hexec hbusy
  have hsame : (s.setLink l).canExecute = s.canExecute := by
    rw [Bool.eq_iff_iff, canExecute_iff, canExecute_iff, hexec]
    rfl
  refine ⟨l, hpush, ?_, hsame⟩
  exact
    { queue := by
        rw [State.setLink_link, hqueue]
        exact h.queue
      busy := hbusy.trans hfew
      single := hexec.le.trans h.single
      prompt := fun he hc => by
        rw [State.setLink_link, hqueue]
        exact h.prompt he (hsame ▸ hc)
      ready := nofun
      replies := fun ht => by
        rw [State.setLink_link] at ht
        rw [ht] at htx
        cases htx
      outbox := fun _ ht => by
        rw [State.setLink_link] at ht
        rw [ht] at htx
        cases htx }

/-- R167: a frame is offered where no request may be executed. -/
theorem offerFrame_link (h : LinkOk false s) (hcan : s.canExecute = false) (f : Frame) :
    ∃ l, offerFrame f s = s.setLink l ∧ LinkOk false (s.setLink l) ∧ (s.setLink l).canExecute = false := by
  rcases offerFrame_cases f s with ⟨hroom, e⟩ | ⟨-, hfew, e⟩ | ⟨-, -, e⟩
  · have hsame : (s.setLink { s.link with queue := s.link.queue ++ [f] }).canExecute = false := hcan
    refine ⟨_, e, ?_, hsame⟩
    exact
      { queue := by
          rw [State.setLink_link, List.length_append]
          exact hroom
        busy := h.busy
        single := h.single
        prompt := fun _ hc => by
          rw [hsame] at hc
          cases hc
        ready := nofun
        replies := h.replies
        outbox := h.outbox }
  · obtain ⟨l, hl, hok, hsame⟩ := pushReply_busy h hfew (r := .refused f.tag .busy f.kind) rfl
    exact ⟨l, e.trans hl, hok, hsame.trans hcan⟩
  · exact ⟨s.link, e, h, hcan⟩

/-! ### One execution (R168, R169) -/

/-- After a command: the laws with no slack but the one it was given, and the CRITICAL slots kept up. -/
def Slack.Done (g : Slack) (t : State) : Prop := Inv { g.closed with executing := false } t ∧ g.keepsUp t

theorem Inv.done (h : Inv g s) (hexec : g.executing = false) : g.Done s := by
  refine ⟨?_, fun m hm => (h.up m hm).2⟩
  have hc := h.close
  rwa [show ({ g.closed with executing := false } : Slack) = g.closed by rw [Slack.closed, ← hexec]]

theorem setLink_done {t : State} (h : Inv g.closed t) (hup : g.keepsUp t) {l : Link} (hlink : LinkOk false (t.setLink l)) :
    g.Done (t.setLink l) := ⟨h.setLink false hlink, hup⟩

/-- R168: the one reply of an execution closes it. -/
theorem answer_done (h : Inv g s) (hexec : g.executing = true) {j : Judged} (hj : Judged.keepsAll g j) (tag kind : Byte) :
    g.Done (answer tag kind j s) ∧ (answer tag kind j s).canExecute = false := by
  rcases answer_cases tag kind j s with ⟨t, ack, e, hans⟩ | ⟨code, e, hans⟩
  · obtain ⟨ht, hkeep⟩ := hj.1 t ack e
    obtain ⟨l, hpush, hok, hstop⟩ := pushReply_execution ht.link (ht.link.ready hexec) (r := .ack tag kind ack) rfl
    rw [hans, hpush]
    exact ⟨setLink_done ht hkeep hok, hstop⟩
  · have hcode : (Reply.refused tag code kind).isBusy = false := by
      cases code
      case busy => exact absurd e hj.2
      all_goals rfl
    obtain ⟨l, hpush, hok, hstop⟩ := pushReply_execution h.link (h.link.ready hexec) hcode
    rw [hans, hpush]
    exact ⟨setLink_done h.close (fun m hm => (h.up m hm).2) hok, hstop⟩

theorem Slack.Fresh.execute (hg : g.Fresh) (e : Bool) : Slack.Fresh { g with executing := e } :=
  { loose := hg.loose, unjudged := hg.unjudged, toLock := hg.toLock, toShed := hg.toShed, now := hg.now
    leaving := hg.leaving, promoted := hg.promoted }

/-- R169: a frame that is judged on a part where it may be executed. -/
theorem judgeFrame_keepsAll (h : Inv g s) (hg : g.Fresh) (hexec : g.executing = true) (hup : g.Anchored s) (f : Frame) :
    Judged.keepsAll g (judgeFrame f s) := by
  unfold judgeFrame
  split
  · exact (keeps_error (c := .unknownKind) nofun).all
  · exact (keeps_error (c := .badLength) nofun).all
  · exact perform_keepsAll h hg hexec hup _

theorem executeFrame_done (h : Inv { g with executing := true } s) (hg : g.Fresh) (hup : g.Anchored s) (f : Frame) :
    g.Done (answer f.tag f.kind (judgeFrame f s) s) ∧ (answer f.tag f.kind (judgeFrame f s) s).canExecute = false := by
  have hj : Judged.keepsAll { g with executing := true } (judgeFrame f s) :=
    judgeFrame_keepsAll h (hg.execute true) rfl hup f
  exact answer_done h rfl hj f.tag f.kind

/-- A part that may execute, with no request waiting. -/
theorem Inv.execute (h : Inv g s) (hexec : g.executing = false) (hcan : s.canExecute = true) : Inv { g with executing := true } s :=
  h.setLink true (l := s.link)
    { queue := h.link.queue
      busy := h.link.busy
      single := h.link.single
      prompt := nofun
      ready := fun _ => hcan
      replies := h.link.replies
      outbox := nofun }

/-! ### Requests -/

/-- What stands between the bytes of one command: nothing has been executed yet, or nothing more can be. -/
def Slack.Pausing (g : Slack) (t : State) : Prop := (Inv g t ∧ g.Anchored t) ∨ (g.Done t ∧ t.canExecute = false)

theorem Slack.Pausing.done {t : State} (h : g.Pausing t) (hexec : g.executing = false) : g.Done t := by
  rcases h with ⟨h, -⟩ | ⟨h, -⟩
  · exact h.done hexec
  · exact h

theorem request_done (h : Inv g s) (hg : g.Fresh) (hexec : g.executing = false) (hup : g.Anchored s) {i : Instr} {run : State → Judged}
    (hrun : Judged.keepsAll { g with executing := true } (run s) ∨ s.canExecute = false) : g.Done (request i run s) := by
  have hsame := h.done hexec
  unfold request
  split
  · exact hsame
  · rename_i f _
    split
    · exact hsame
    · split
      · rename_i hnow
        rw [Bool.and_eq_true] at hnow
        rcases hrun with hrun | hno
        · exact (answer_done (h.execute hexec hnow.1) rfl hrun f.tag f.kind).1
        · rw [hno] at hnow
          cases hnow.1
      · rename_i hnow
        have hcan : s.canExecute = false := by
          by_contra hcan
          have hcan : s.canExecute = true := by simpa using hcan
          refine hnow (Bool.and_eq_true_iff.2 ⟨hcan, ?_⟩)
          have hlink : LinkOk false s := hexec ▸ h.link
          rw [hlink.prompt rfl hcan]
          rfl
        obtain ⟨l, e, hok, -⟩ := offerFrame_link (hexec ▸ h.link) hcan f
        rw [e]
        exact setLink_done h.close (fun m hm => (h.up m hm).2) hok

/-! ### Receiver -/

theorem acceptFrame_blocked (h : LinkOk false s) (hcan : s.canExecute = false) (f : Frame) :
    ∃ l, acceptFrame f s = s.setLink l ∧ LinkOk false (s.setLink l) ∧ (s.setLink l).canExecute = false := by
  obtain ⟨l, e, hok, hstop⟩ := offerFrame_link h hcan f
  refine ⟨l, ?_, hok, hstop⟩
  unfold acceptFrame executeHead
  rw [e, hstop]
  rfl

/-- A good frame on a part that may execute is executed at once: no request waits there. -/
theorem acceptFrame_now (h : LinkOk false s) (hcan : s.canExecute = true) (f : Frame) :
    acceptFrame f s = answer f.tag f.kind (judgeFrame f s) s := by
  have hqueue := h.prompt rfl hcan
  have hoffer : offerFrame f s = s.setLink { s.link with queue := [f] } := by
    unfold offerFrame
    rw [hqueue]
    rfl
  have hback : (s.setLink { s.link with queue := [f] }).setLink { s.link with queue := [] } = s := by
    rw [← hqueue]
    rfl
  have hcan' : (s.setLink { s.link with queue := [f] }).canExecute = true := hcan
  unfold acceptFrame executeHead
  rw [hoffer, hcan']
  show answer f.tag f.kind (judgeFrame f ((s.setLink { s.link with queue := [f] }).setLink { s.link with queue := [] }))
    ((s.setLink { s.link with queue := [f] }).setLink { s.link with queue := [] }) = _
  rw [hback]

theorem setRx_link {e : Bool} (h : LinkOk e s) (rx : RxState) : LinkOk e (s.setLink { s.link with rx := rx }) :=
  ⟨h.queue, h.busy, h.single, h.prompt, h.ready, h.replies, h.outbox⟩

theorem acceptFrame_pausing (h : g.Pausing s) (hg : g.Fresh) (hexec : g.executing = false) (f : Frame) :
    g.Pausing (acceptFrame f s) := by
  by_cases hcan : s.canExecute = true
  · rcases h with ⟨h, hup⟩ | ⟨-, hno⟩
    · rw [acceptFrame_now (hexec ▸ h.link) hcan]
      exact .inr (executeFrame_done (h.execute hexec hcan) hg hup f)
    · rw [hcan] at hno
      cases hno
  · have hcan : s.canExecute = false := by simpa using hcan
    obtain ⟨hinv, hkeep⟩ := h.done hexec
    obtain ⟨l, e, hok, hstop⟩ := acceptFrame_blocked hinv.link hcan f
    rw [e]
    exact .inr ⟨⟨hinv.setLink false hok, hkeep⟩, hstop⟩

theorem setRx_pausing (h : g.Pausing s) (hexec : g.executing = false) (rx : RxState) :
    g.Pausing (s.setLink { s.link with rx := rx }) := by
  rcases h with ⟨h, hup⟩ | ⟨⟨h, hkeep⟩, hcan⟩
  · have hset := h.setLink g.executing (setRx_link h.link rx)
    exact .inl ⟨hset, hup⟩
  · exact .inr ⟨⟨h.setLink false (setRx_link h.link rx), hkeep⟩, hcan⟩

theorem receiveByte_pausing (h : g.Pausing s) (hg : g.Fresh) (hexec : g.executing = false) (b : Byte) :
    g.Pausing (receiveByte b s) := by
  have hrx := setRx_pausing h hexec (rxByte b s.link.rx).1
  unfold receiveByte
  simp only
  split
  · exact hrx
  · exact acceptFrame_pausing hrx hg hexec _

theorem receiveBytes_pausing (h : g.Pausing s) (hg : g.Fresh) (hexec : g.executing = false) (bytes : List Byte) :
    g.Pausing (bytes.foldl (fun s b => receiveByte b s) s) := by
  induction bytes generalizing s with
  | nil => exact h
  | cons b bytes ih => exact ih (receiveByte_pausing h hg hexec b)

/-! ### The end of a frame on TXD -/

/-- The link once the transmitter has been served, before the request queue is looked at. -/
structure LinkServed (s : State) : Prop where
  queue : s.link.queue.length ≤ 4
  busy : s.busyWaiting ≤ 4
  single : s.executionReplies ≤ 1
  replies : s.link.tx = none → s.link.replies = []
  outbox : s.link.tx = none → s.causes.hold = true ∨ s.causes.outbox = []

theorem LinkServed.link (h : LinkServed s) (hidle : s.canExecute = true → s.link.queue = []) : LinkOk false s :=
  ⟨h.queue, h.busy, h.single, fun _ => hidle, nofun, h.replies, fun _ => h.outbox⟩

theorem serveTransmitter_served (h : LinkOk false s) :
    LinkServed (serveTransmitter (s.setLink { s.link with tx := none })) := by
  have hexec : s.link.replies.countP (fun r => !r.isBusy) ≤ 1 := by
    have := h.single
    rw [executionReplies_eq] at this
    omega
  have hbusy : s.link.replies.countP Reply.isBusy ≤ 4 := h.busy
  rcases serveTransmitter_cases (s.setLink { s.link with tx := none }) with
    ⟨-, hsome⟩ | ⟨r, rs, -, hr, e⟩ | ⟨c, cs, -, hr, -, -, e⟩ | ⟨e, -, hr, hidle⟩
  · cases hsome
  · have hr' : s.link.replies = r :: rs := hr
    rw [hr', List.countP_cons] at hexec hbusy
    rw [e]
    refine ⟨h.queue, ?_, ?_, nofun, nofun⟩
    · simp only [State.busyWaiting, State.setLink_link]
      omega
    · simp only [executionReplies_eq, State.setLink_link, Option.elim, Sending.isExecution]
      by_cases hb : r.isBusy = true <;> simp_all
  · have hr' : s.link.replies = [] := hr
    rw [e]
    refine ⟨h.queue, ?_, ?_, nofun, nofun⟩
    · exact hbusy
    · simp [executionReplies_eq, State.beginNotice, hr', Sending.isExecution]
  · rw [e]
    exact ⟨h.queue, hbusy, by simpa [executionReplies_eq] using hexec, fun _ => hr, fun _ => hidle⟩

/-- R168: the head request is executed where it may be. -/
theorem executeHead_done (hserved : LinkServed s) (hg : g.Fresh) (hup : g.Anchored s)
    (h : ∀ e, LinkOk e s → Inv { g with executing := e } s) : g.Done (executeHead s) := by
  rcases executeHead_cases s with ⟨e, hidle⟩ | ⟨f, fs, hcan, hqueue, e⟩
  · rw [e]
    have hok : LinkOk false s := hserved.link fun hc => by
      rcases hidle with hno | hempty
      · rw [hno] at hc
        cases hc
      · exact hempty
    exact (h false hok).done rfl
  · rw [e]
    have hready : LinkOk true s :=
      ⟨hserved.queue, hserved.busy, hserved.single, nofun, fun _ => hcan, hserved.replies, nofun⟩
    have hfew : fs.length ≤ 4 := by
      have := hserved.queue
      rw [hqueue, List.length_cons] at this
      omega
    have hleft : Inv { g with executing := true } (s.setLink { s.link with queue := fs }) :=
      (h true hready).setLink true
        ⟨hfew, hready.busy, hready.single, nofun, hready.ready, hready.replies, nofun⟩
    exact (executeFrame_done hleft hg hup f).1

theorem endFrame_done (h : Inv g s) (hg : g.Fresh) (hexec : g.executing = false) (hup : g.Anchored s) : g.Done (endFrame s) := by
  unfold endFrame
  split
  · exact h.done hexec
  · have hserved := serveTransmitter_served (hexec ▸ h.link)
    have hshape := serveTransmitter_eq (s.setLink { s.link with tx := none })
    have hcauses : CauseLaw (serveTransmitter (s.setLink { s.link with tx := none })) := serveTransmitter_causeLaw h.causes
    have hcond (o : Owner) := serveTransmitter_condition (s.setLink { s.link with tx := none }) o.cause
    generalize hu : serveTransmitter (s.setLink { s.link with tx := none }) = u at *
    have hseq : u.seq = s.seq := by
      rw [hshape]
      rfl
    refine executeHead_done hserved hg (fun n hn => by rw [hseq]; exact hup n hn) fun e hok => ?_
    rw [hshape] at hok hcauses ⊢
    exact
      { h with
        conditions := fun o ho => by
          refine ((hcond o).trans (h.conditions o ho)).trans ?_
          cases o <;> rfl
        causes := hcauses
        link := hok }

theorem huntAgain_done (h : Inv g s) (hexec : g.executing = false) : g.Done (huntAgain s) :=
  setLink_done h.close (fun m hm => (h.up m hm).2) (setRx_link (hexec ▸ h.link) .hunt)

end Link

end Sys2Proof.Machine
end

section
/-! PROOFS. Every command on a running part: the laws hold after it, or the part has stopped running. -/

namespace Sys2Proof.Machine

/-! ### A part that does not run -/

/-- The laws of a part that does not run: those that hold through a reset and a load, that of the link where it is kept. -/
structure Asleep (kept : Prop) (s : State) : Prop where
  asleep : s.phase ≠ .running
  settings : SettingsLaw s
  valve : ∀ z : ZoneId, s.leak.zones[z].state = .wet → s.settings.zones[z].policy.closesValve = true →
    s.leak.zones[z].valve = true
  charge : ChargeLaw s
  causes : CauseLaw s
  link : kept → LinkOk false s

theorem Asleep.of_lawful {s : State} (h : Lawful s) (hrun : ¬ s.running) : Asleep True s :=
  ⟨hrun, h.settings, h.leaks.1, h.charge, h.causes, fun _ => linkLaw_iff.1 h.link⟩

theorem Asleep.lawful {kept : Prop} {s : State} (h : Asleep kept s) : LawfulBut kept s where
  settings := h.settings
  slots hrun := absurd hrun h.asleep
  queue hrun := absurd hrun h.asleep
  leaks := ⟨h.valve, fun hrun => absurd hrun h.asleep⟩
  warnings hrun := absurd hrun h.asleep
  zones _ hrun := absurd hrun h.asleep
  points hrun := absurd hrun h.asleep
  budget hrun := absurd hrun h.asleep
  charge := h.charge
  regulator hrun := absurd hrun h.asleep
  holdup _ hrun := absurd hrun h.asleep
  line hrun := absurd hrun h.asleep
  causes := h.causes
  link hkept := linkLaw_iff.2 (h.link hkept)

/-! ### Resets -/

theorem abandonWrite_cases (s : State) :
    (s.store.writing = none ∧ abandonWrite s = s) ∨
    (∃ w, s.store.writing = some w ∧ abandonWrite s =
      (s.setStore { s.store with writing := none, nvm := { s.store.nvm with valid := false, crc := s.freshWord } }).spendFree) := by
  unfold abandonWrite
  split
  · exact .inl ⟨‹_›, rfl⟩
  · exact .inr ⟨_, ‹_›, rfl⟩

/-- R176: the profile stored is in its ranges, and no write is in flight. -/
theorem abandonWrite_settingsLaw {s : State} (h : SettingsLaw s) :
    SettingsLaw (abandonWrite s) ∧ (abandonWrite s).store.writing = none := by
  rcases abandonWrite_cases s with ⟨hnone, e⟩ | ⟨w, -, e⟩ <;> rw [e]
  · exact ⟨h, hnone⟩
  · exact ⟨⟨h.1, h.2.1, nofun⟩, rfl⟩

theorem noCause_law {s : State} (hrun : s.phase ≠ .running) (hrecs : ∀ c : CauseId, s.causes.recs[c] = Cause.init false)
    (hout : s.causes.outbox = []) : CauseLaw s := by
  refine ⟨by rw [hout]; exact List.nodup_nil, fun c => ?_, fun h => absurd h hrun⟩
  rw [hrecs, hout]
  simp [Cause.init]

theorem resetLink_ok {s : State} (hrun : s.phase ≠ .running) {straps : BitVec 2} (hlink : s.link = Link.init straps)
    (hout : s.causes.outbox = []) : LinkOk false s := by
  have hcan : s.canExecute = false := (canExecute_false_iff s).2 (.inl hrun)
  refine ⟨?_, ?_, ?_, fun _ hc => ?_, nofun, fun _ => ?_, fun _ _ => .inr hout⟩
  · rw [hlink]
    exact Nat.zero_le _
  · rw [State.busyWaiting, hlink]
    exact Nat.zero_le _
  · rw [executionReplies_eq, hlink]
    exact Nat.zero_le _
  · rw [hcan] at hc
    cases hc
  · rw [hlink]
    rfl

theorem Bbu.powerOn_ok {set : BbuSettings} (h : set.legal) (pins : BbuPins) : BbuOk set (Bbu.powerOn set pins) := by
  obtain ⟨-, -, hfloor, -⟩ := h
  refine ⟨hfloor.le, Nat.zero_le _, ?_⟩
  exact (beq_eq_false_iff_ne.2 hfloor.ne).symm

theorem chargeLaw_iff {s : State} : ChargeLaw s ↔ ∀ i : BbuId, BbuOk s.settings.bbus[i] s.charge.bbus[i] :=
  ⟨fun h i => ⟨(h i).1, (h i).2.1, (h i).2.2⟩, fun h i => ⟨(h i).q, (h i).r, (h i).full⟩⟩

theorem get_ofFn {α : Type} {k : Nat} (f : Fin k → α) (i : Fin k) : (Vector.ofFn f)[i] = f i := by simp

theorem get_replicate {α : Type} {k : Nat} (x : α) (i : Fin k) : (Vector.replicate k x)[i] = x := by simp

theorem powerOn_asleep {s : State} (h : SettingsLaw s) (straps : BitVec 2) : Asleep True (powerOn straps s) := by
  obtain ⟨⟨-, hprofile, -⟩, -⟩ := abandonWrite_settingsLaw h
  have hphase : (powerOn straps s).phase ≠ .running := nofun
  have hzone (z : ZoneId) : (powerOn straps s).leak.zones[z] = Zone.powerOn := get_replicate _ z
  have hbbu (i : BbuId) : (powerOn straps s).charge.bbus[i] =
      Bbu.powerOn defaultSettings.bbus[i] (abandonWrite s).pins.bbu[i] := get_ofFn _ i
  refine ⟨hphase, ⟨Tests.defaults_are_legal, hprofile, nofun⟩, fun z hz => ?_, chargeLaw_iff.2 fun i => ?_, ?_,
    fun _ => resetLink_ok hphase rfl rfl⟩
  · rw [hzone] at hz
    cases hz
  · rw [hbbu]
    exact Bbu.powerOn_ok (Tests.defaults_are_legal.2.2.1 i) _
  · exact noCause_law hphase (fun c => get_replicate _ c) rfl

/-- A part that RST_N holds in reset. -/
theorem assertReset_asleep {s : State} (hset : SettingsLaw s) (hcharge : ChargeLaw s)
    (hvalve : ∀ z : ZoneId, s.leak.zones[z].state = .wet → s.settings.zones[z].policy.closesValve = true →
      s.leak.zones[z].valve = true) (cold : Bool) : Asleep True (assertReset cold s) := by
  have hclosed : SettingsLaw (closeRecord .reset s) := hset
  obtain ⟨hlaw, -⟩ := abandonWrite_settingsLaw hclosed
  have hphase : (assertReset cold s).phase ≠ .running := nofun
  have hsettings : (assertReset cold s).settings = s.settings := by
    show (abandonWrite (closeRecord .reset s)).settings = _
    rcases abandonWrite_cases (closeRecord .reset s) with ⟨-, e⟩ | ⟨w, -, e⟩ <;> rw [e] <;> rfl
  have hleak : (assertReset cold s).leak = s.leak := by
    show (abandonWrite (closeRecord .reset s)).leak = _
    rcases abandonWrite_cases (closeRecord .reset s) with ⟨-, e⟩ | ⟨w, -, e⟩ <;> rw [e] <;> rfl
  have hbbu (i : BbuId) : (assertReset cold s).charge.bbus[i] = Bbu.latch s.charge.bbus[i] := by
    refine (get_ofFn _ i).trans (congrArg (fun x : Charge => Bbu.latch x.bbus[i]) ?_)
    rcases abandonWrite_cases (closeRecord .reset s) with ⟨-, e⟩ | ⟨w, -, e⟩ <;> rw [e] <;> rfl
  refine ⟨hphase, hlaw, ?_, chargeLaw_iff.2 fun i => ?_, noCause_law hphase (fun c => get_replicate _ c) rfl,
    fun _ => resetLink_ok hphase rfl rfl⟩
  · rw [hsettings, hleak]
    exact hvalve
  · rw [hbbu, hsettings]
    exact ⟨(chargeLaw_iff.1 hcharge i).q, (chargeLaw_iff.1 hcharge i).r, (chargeLaw_iff.1 hcharge i).full⟩

section Running

variable {g : Slack} {s : State}

theorem whenRunning_of_running {f : State → State} (h : s.phase = .running) : whenRunning f s = f s := by
  unfold whenRunning
  rw [h]

theorem whenRunning_of_not_running {f : State → State} (h : s.phase ≠ .running) : whenRunning f s = s := by
  unfold whenRunning
  split
  · exact absurd ‹_› h
  · rfl
  · rfl

theorem whenOut_of_running {f : State → State} (h : s.phase = .running) : whenOut f s = f s := by
  unfold whenOut
  rw [h]

/-- After a command on a running part: the laws hold, or the part no longer runs. -/
def Slack.After (g : Slack) (t : State) : Prop := g.Done t ∨ Asleep True t

theorem event_after (h : Inv g s) (hexec : g.executing = false) {f : State → State} (hf : Inv g (f s)) :
    g.After (whenRunning f s) := by
  rw [whenRunning_of_running h.running]
  exact .inl (hf.done hexec)

theorem pin_after (h : Inv g s) (hexec : g.executing = false) {p : Prop} {_ : Decidable p} {x : Pins} {f : State → State}
    (hf : Inv g (s.setPins x) → Inv g (f (s.setPins x))) : g.After (if p then s else whenRunning f (s.setPins x)) := by
  split
  · exact .inl (h.done hexec)
  · have hpins := h.setPins x
    exact event_after hpins hexec (hf hpins)

theorem Inv.spendFree (h : Inv g s) : Inv g s.spendFree :=
  { h with
    link := h.link.of_same rfl rfl rfl
    conditions := fun o ho => by
      refine (h.conditions o ho).trans ?_
      cases o <;> rfl }

theorem completeWrite_inv (h : Inv g s) {w : Writing} (hw : s.store.writing = some w) (verified : Bool) :
    Inv g (completeWrite verified w s) := by
  have hlegal := h.settings.2.2 w hw
  unfold completeWrite
  split
  · refine Inv.raise (h.setStore ?_ ?_) _ _ _
    · exact hlegal
    · exact nofun
  · refine Inv.raise (h.setStore ?_ ?_).spendFree _ _ _
    · exact hlegal
    · exact nofun

theorem Asleep.of_inv_reset (h : Inv g s) (cold : Bool) : Asleep True (assertReset cold s) :=
  assertReset_asleep h.settings (chargeLaw_iff.2 h.charge) h.valve cold

theorem pgStart_anchored {x : Pins} (hup : g.Anchored s) : g.Anchored (s.setPins x) := hup

/-- Every command on a running part. -/
theorem exec_after (h : Inv g s) (hg : g.Fresh) (hexec : g.executing = false) (hup : g.Anchored s) {c : Instr} {t : State}
    (he : exec c s = .next t) : g.After t := by
  have hl := hg.loose
  have hevent {f : State → State} (hf : Inv g (f s)) : g.After (whenRunning f s) := event_after h hexec hf
  have hout {f : State → State} (hf : g.Done (f s)) : g.After (whenOut f s) := by
    rw [whenOut_of_running h.running]
    exact .inl hf
  by_cases hreq : (encodeRequest c).isSome = true
  · rw [exec_of_request hreq s] at he
    cases he
    refine .inl (request_done h hg hexec hup ?_)
    by_cases hcan : s.canExecute = true
    · exact .inl (perform_keepsAll (h.execute hexec hcan) (hg.execute true) rfl hup c)
    · exact .inr (by simpa using hcan)
  cases c
  case powerOn straps => cases he; exact .inr (powerOn_asleep h.settings straps)
  case pinResetAssert =>
    cases he
    refine .inr ?_
    unfold pinResetAssert
    rw [h.running]
    exact .of_inv_reset h false
  case pinResetRelease straps =>
    cases he
    refine .inl ?_
    unfold pinResetRelease
    rw [h.running]
    exact h.done hexec
  case profileLoadComplete =>
    cases he
    refine .inl ?_
    rw [h.running]
    exact h.done hexec
  case sampleSet codes => cases he; exact hevent (sampleSet_inv h hg.toLevel hg.now hg.leaving codes)
  case psuInputChange k pin level => cases he; exact pin_after h hexec fun hp => psuChange_inv hp hg k pin
  case bbuPresentChange i level =>
    cases he; exact pin_after h hexec fun hp => bbuChange_inv hp i fun t ht => presentChange_inv ht hl i level
  case bbuFaultInputChange i level =>
    cases he; exact pin_after h hexec fun hp => bbuChange_inv hp i fun t ht => faultChange_inv ht hl i level
  case pgChange n level => cases he; exact pin_after h hexec fun hp => pgChange_inv hp hl (pgStart_anchored hup) n level
  case headroomPublication => cases he; exact hevent (headroomPublication_inv h hl)
  case reservePublication => cases he; exact hevent (reservePublication_inv h hg)
  case headReport => cases he; exact hevent (headReport_inv h)
  case deficitTimerExpiry => cases he; exact hevent (onExpiry_inv h (expireDeficit_inv h))
  case deficitSelection => cases he; exact hevent (selectDeficit_inv h hl)
  case deficitAnswer => cases he; exact hevent (takeAnswer_inv h)
  case testTimerExpiry => cases he; exact hevent (onExpiry_inv h (expireTest_inv h hl))
  case settleTimerExpiry => cases he; exact hevent (onExpiry_inv h (expireSettle_inv h hg))
  case bridgingTimerExpiry => cases he; exact hevent (onExpiry_inv h (expireBridging_inv h hl))
  case collapseTimerExpiry => cases he; exact hevent (onExpiry_inv h (expireCollapse_inv h hg))
  case stepTimerExpiry => cases he; exact hevent (onExpiry_inv h (expireStep_inv h))
  case floorTimerExpiry => cases he; exact hevent (onExpiry_inv h (expireFloor_inv h))
  case staggerTimerExpiry => cases he; exact hevent (onExpiry_inv h (expireStagger_inv h hl))
  case soakTimerExpiry n => cases he; exact hevent (onExpiry_inv h (expireSoak_inv h hl n))
  case noticeWindowExpiry n => cases he; exact hevent (onExpiry_inv h (expireWindow_inv h hg n))
  case holdLimitExpiry n => cases he; exact hevent (onExpiry_inv h (expireHold_inv h hg n))
  case drainTimerExpiry n => cases he; exact hevent (onExpiry_inv h (expireDrain_inv h hl hup n))
  case cycleStart byTray => cases he; exact hevent (startCycle_inv h byTray)
  case surveyTimerExpiry => cases he; exact hevent (onExpiry_inv h (expireSurvey_inv h))
  case slotFrame23End => cases he; exact hevent (endFrame23_inv h)
  case cycleEnd samples => cases he; exact hevent (cycleEnd_inv h hg.toLevel hg.promoted samples)
  case frameReceived bytes =>
    cases he
    exact hout (Slack.Pausing.done (receiveBytes_pausing (.inl ⟨h, hup⟩) hg hexec bytes) hexec)
  case rxGapTimeout => cases he; exact hout (huntAgain_done h hexec)
  case frameAbandoned => cases he; exact hout (huntAgain_done h hexec)
  case txFrameEnd => cases he; exact hout (endFrame_done h hg hexec hup)
  case storeWriteComplete verified =>
    cases he
    refine .inl ?_
    split
    · exact h.done hexec
    · exact (completeWrite_inv h ‹_› verified).done hexec
  all_goals exact absurd rfl hreq

end Running

end Sys2Proof.Machine
end

section
/-! PROOFS. The commands on a part that does not run: none but the end of a load starts it, and the load leaves the laws behind,
those of the zones and of the holdup controller apart, whose records a pin reset keeps as they are. -/

namespace Sys2Proof.Machine

section Loading

variable {s : State}

/-! ### Commands that leave the part asleep -/

theorem Asleep.setLink {kept : Prop} (h : Asleep kept s) (l : Link) : Asleep False (s.setLink l) :=
  ⟨h.asleep, h.settings, h.valve, h.charge, h.causes, nofun⟩

theorem Asleep.forget {kept : Prop} (h : Asleep kept s) : Asleep False s :=
  ⟨h.asleep, h.settings, h.valve, h.charge, h.causes, nofun⟩

theorem Asleep.setPins (h : Asleep False s) (x : Pins) : Asleep False (s.setPins x) :=
  ⟨h.asleep, h.settings, h.valve, h.charge, h.causes, nofun⟩

theorem serveTransmitter_asleep (h : Asleep False s) : Asleep False (serveTransmitter s) := by
  have hcauses := serveTransmitter_causeLaw h.causes
  rw [serveTransmitter_eq] at hcauses ⊢
  exact ⟨h.asleep, h.settings, h.valve, h.charge, hcauses, nofun⟩

theorem pushReply_asleep (h : Asleep False s) (r : Reply) : Asleep False (pushReply r s) := serveTransmitter_asleep (h.setLink _)

theorem offerFrame_asleep (h : Asleep False s) (f : Frame) : Asleep False (offerFrame f s) := by
  rcases offerFrame_cases f s with ⟨-, e⟩ | ⟨-, -, e⟩ | ⟨-, -, e⟩ <;> rw [e]
  · exact h.setLink _
  · exact pushReply_asleep h _
  · exact h

theorem Asleep.blocked {kept : Prop} (h : Asleep kept s) : s.canExecute = false := (canExecute_false_iff s).2 (.inl h.asleep)

theorem executeHead_asleep (h : Asleep False s) : executeHead s = s := by
  unfold executeHead
  rw [h.blocked]
  rfl

theorem receiveByte_asleep (h : Asleep False s) (b : Byte) : Asleep False (receiveByte b s) := by
  unfold receiveByte
  simp only
  split
  · exact h.setLink _
  · have hoffer := offerFrame_asleep (h.setLink { s.link with rx := (rxByte b s.link.rx).1 }) ‹Frame›
    unfold acceptFrame
    rwa [executeHead_asleep hoffer]

theorem receiveBytes_asleep (h : Asleep False s) (bytes : List Byte) :
    Asleep False (bytes.foldl (fun s b => receiveByte b s) s) := by
  induction bytes generalizing s with
  | nil => exact h
  | cons b bytes ih => exact ih (receiveByte_asleep h b)

theorem endFrame_asleep (h : Asleep False s) : Asleep False (endFrame s) := by
  unfold endFrame
  split
  · exact h
  · have hserve := serveTransmitter_asleep (h.setLink { s.link with tx := none })
    rwa [executeHead_asleep hserve]

theorem request_asleep (h : Asleep False s) (i : Instr) (run : State → Judged) : Asleep False (request i run s) := by
  unfold request
  split
  · exact h
  · split
    · exact h
    · rw [h.blocked]
      exact offerFrame_asleep h _

theorem whenOut_asleep (h : Asleep False s) {f : State → State} (hf : Asleep False (f s)) : Asleep False (whenOut f s) := by
  unfold whenOut
  split
  · exact h
  · exact hf
  · exact hf

theorem raise_asleep (h : Asleep False s) (c : CauseId) (v : Int) (k : Byte) : Asleep False (raise c v k s) := by
  have hcauses := raise_causeLaw h.causes c v k
  rw [raise_split] at hcauses ⊢
  exact ⟨h.asleep, h.settings, h.valve, h.charge, hcauses, nofun⟩

theorem Asleep.setStore (h : Asleep False s) {x : Store} (hprofile : x.nvm.profile.legal) (hwriting : x.writing = none) :
    Asleep False (s.setStore x) :=
  ⟨h.asleep, ⟨h.settings.1, hprofile, fun w hw => by rw [State.setStore_store, hwriting] at hw; cases hw⟩, h.valve, h.charge,
    h.causes, nofun⟩

theorem Asleep.spendFree (h : Asleep False s) : Asleep False s.spendFree :=
  ⟨h.asleep, h.settings, h.valve, h.charge, h.causes, nofun⟩

theorem completeWrite_asleep (h : Asleep False s) {w : Writing} (hw : s.store.writing = some w) (verified : Bool) :
    Asleep False (completeWrite verified w s) := by
  have hlegal := h.settings.2.2 w hw
  unfold completeWrite
  split
  · refine raise_asleep (h.setStore ?_ ?_) _ _ _
    · exact hlegal
    · rfl
  · refine raise_asleep (h.setStore ?_ ?_).spendFree _ _ _
    · exact hlegal
    · rfl

theorem pin_asleep (h : Asleep False s) {p : Prop} {_ : Decidable p} (x : Pins) (f : State → State) :
    Asleep False (if p then s else whenRunning f (s.setPins x)) := by
  split
  · exact h
  · rw [whenRunning_of_not_running (h.setPins x).asleep]
    exact h.setPins x

theorem pinResetAssert_asleep (h : Asleep False s) : Asleep False (pinResetAssert s) := by
  unfold pinResetAssert
  split
  · exact h
  · exact (assertReset_asleep h.settings h.charge h.valve _).forget
  · exact (assertReset_asleep h.settings h.charge h.valve _).forget

theorem pinResetRelease_asleep (h : Asleep False s) (straps : BitVec 2) : Asleep False (pinResetRelease straps s) := by
  unfold pinResetRelease
  split
  · exact ⟨nofun, h.settings, h.valve, h.charge, ⟨h.causes.1, h.causes.2.1, nofun⟩, nofun⟩
  · exact h
  · exact h

/-- Every command but the end of a load leaves a part that does not run asleep. -/
theorem exec_asleep (h : Asleep False s) {c : Instr} (hc : c ≠ .profileLoadComplete) {t : State} (he : exec c s = .next t) :
    Asleep False t := by
  have hevent {f : State → State} : Asleep False (whenRunning f s) := by rwa [whenRunning_of_not_running h.asleep]
  by_cases hreq : (encodeRequest c).isSome = true
  · rw [exec_of_request hreq s] at he
    cases he
    exact request_asleep h _ _
  cases c
  case profileLoadComplete => exact absurd rfl hc
  case powerOn straps => cases he; exact (powerOn_asleep h.settings straps).forget
  case pinResetAssert => cases he; exact pinResetAssert_asleep h
  case pinResetRelease straps => cases he; exact pinResetRelease_asleep h straps
  case psuInputChange | bbuPresentChange | bbuFaultInputChange | pgChange => cases he; exact pin_asleep h _ _
  case frameReceived bytes => cases he; exact whenOut_asleep h (receiveBytes_asleep h bytes)
  case rxGapTimeout | frameAbandoned => cases he; exact whenOut_asleep h (h.setLink _)
  case txFrameEnd => cases he; exact whenOut_asleep h (endFrame_asleep h)
  case storeWriteComplete verified =>
    cases he
    split
    · exact h
    · exact completeWrite_asleep h ‹_› verified
  case sampleSet | headroomPublication | deficitTimerExpiry | deficitSelection | deficitAnswer | reservePublication | testTimerExpiry
    | settleTimerExpiry | bridgingTimerExpiry | collapseTimerExpiry | stepTimerExpiry | floorTimerExpiry | headReport
    | staggerTimerExpiry | soakTimerExpiry | noticeWindowExpiry | holdLimitExpiry | drainTimerExpiry | cycleStart
    | surveyTimerExpiry | cycleEnd | slotFrame23End => cases he; exact hevent
  all_goals exact absurd rfl hreq

/-! ### The settings that a load takes (R174) -/

theorem loaded_legal (h : SettingsLaw s) : s.store.loaded.legal := by
  unfold Store.loaded
  split
  · exact h.2.1
  · exact Tests.defaults_are_legal

theorem BbuSettings.keepFull_legal {new old : BbuSettings} (hnew : new.legal) (hold : old.legal) : (new.keepFull old).legal := by
  obtain ⟨-, -, -, heta, heta', htaper, htaper', hmargin, -, hdetect⟩ := hnew
  obtain ⟨hfull, hfull', hfloor, -⟩ := hold
  exact ⟨hfull, hfull', hfloor, heta, heta', htaper, htaper', le_min hmargin hfull, min_le_right _ _, hdetect⟩

theorem bbuSettingsAfterLoad_legal (h : SettingsLaw s) (cold : Bool) (i : BbuId) : (s.bbuSettingsAfterLoad cold)[i].legal := by
  obtain ⟨-, -, hbbus, -⟩ := loaded_legal h
  obtain ⟨⟨-, -, hold, -⟩, -⟩ := h
  unfold State.bbuSettingsAfterLoad
  split
  · exact hbbus i
  · rw [get_ofFn]
    exact BbuSettings.keepFull_legal (hbbus i) (hold i)

theorem keepPolicy_legal {new : ZoneSettings} (h : new.legal) (old : ZoneSettings) (x : Zone) : (keepPolicy new old x).legal := by
  unfold keepPolicy
  split
  · exact h
  · exact h

theorem zoneSettingsAfterLoad_legal (h : SettingsLaw s) (z : ZoneId) : (s.zoneSettingsAfterLoad)[z].legal := by
  obtain ⟨-, -, -, -, -, -, -, -, -, hzones, -⟩ := loaded_legal h
  unfold State.zoneSettingsAfterLoad
  split
  · exact hzones z
  · rw [get_ofFn]
    exact keepPolicy_legal (hzones z) _ _

theorem settingsAfterLoad_legal (h : SettingsLaw s) (cold : Bool) : (s.settingsAfterLoad cold).legal := by
  obtain ⟨hpoints, hbudget, -, htargets, hranges, hholdup, hrecharge, hslots, hsequence, -, hline⟩ := loaded_legal h
  exact ⟨hpoints, hbudget, bbuSettingsAfterLoad_legal h cold, htargets, hranges, hholdup, hrecharge, hslots, hsequence,
    zoneSettingsAfterLoad_legal h, hline⟩

theorem bbusAfterLoad_ok (h : SettingsLaw s) (hcharge : ChargeLaw s) (cold : Bool) (i : BbuId) :
    BbuOk (s.settingsAfterLoad cold).bbus[i] (s.bbusAfterLoad cold (s.settingsAfterLoad cold))[i] := by
  have hlegal := bbuSettingsAfterLoad_legal h cold i
  unfold State.bbusAfterLoad
  cases cold with
  | true =>
    rw [if_pos rfl, get_ofFn]
    exact Bbu.powerOn_ok hlegal _
  | false =>
    have hkept : (s.settingsAfterLoad false).bbus[i] = (s.store.loaded.bbus[i]).keepFull s.settings.bbus[i] := get_ofFn _ i
    rw [if_neg nofun, get_ofFn, hkept]
    have hold := chargeLaw_iff.1 hcharge i
    exact ⟨hold.q, hold.r, hold.full⟩

/-- R154: a zone kept WET keeps its policy and its valve. -/
theorem zonesAfterLoad_valve (hvalve : ∀ z : ZoneId, s.leak.zones[z].state = .wet →
      s.settings.zones[z].policy.closesValve = true → s.leak.zones[z].valve = true) (cold : Bool) (z : ZoneId)
    (hwet : (s.zonesAfterLoad)[z].state = .wet) (hcloses : (s.settingsAfterLoad cold).zones[z].policy.closesValve = true) :
    (s.zonesAfterLoad)[z].valve = true := by
  unfold State.settingsAfterLoad State.zoneSettingsAfterLoad at hcloses
  unfold State.zonesAfterLoad at hwet ⊢
  cases hreset : s.lastReset with
  | powerOn =>
    simp only [hreset] at hwet
    rw [get_replicate] at hwet
    cases hwet
  | pin =>
    simp only [hreset] at hwet hcloses ⊢
    rw [get_ofFn] at hwet hcloses ⊢
    have hwas : s.leak.zones[z].state = .wet := hwet
    rw [keepPolicy, if_pos hwas] at hcloses
    exact hvalve z hwas hcloses

/-! ### The conditions rebuilt (R163) -/

theorem rebuiltCondition_owner (leak : Leak) (bbus : Vector Bbu 4) (o : Owner) :
    rebuiltCondition leak bbus o.cause =
      (decide (o.cause.val < 21) || zoneIds.any fun z => (o.cause == causeZoneWet z && leak.zones[z].state == .wet) ||
        (o.cause == causeRopeFault z && leak.zones[z].ropeFault)) := by
  have hbbu : (bbuIds.any fun i => o.cause == causeBbu i && bbus[i].bottomed) = false := by
    rw [List.any_eq_false]
    intro i _
    rw [Bool.and_eq_true, beq_iff_eq]
    exact fun he => causeBbu_free i o he.1.symm
  rw [rebuiltCondition, hbbu, Bool.or_false]

/-- The condition rebuilt for an owner, in the three ways it can be active. -/
theorem rebuiltCondition_iff (leak : Leak) (bbus : Vector Bbu 4) (o : Owner) :
    rebuiltCondition leak bbus o.cause = true ↔
      o.cause.val < 21 ∨ (∃ z, o = .wet z ∧ leak.zones[z].state = .wet) ∨ ∃ z, o = .ropeFault z ∧ leak.zones[z].ropeFault = true := by
  rw [rebuiltCondition_owner, Bool.or_eq_true, decide_eq_true_eq, List.any_eq_true, ← exists_or]
  refine or_congr_right (exists_congr fun z => ?_)
  have hwet : o.cause = causeZoneWet z ↔ o = .wet z := ⟨fun e => Owner.cause_injective (b := .wet z) e, fun e => e ▸ rfl⟩
  have hfault : o.cause = causeRopeFault z ↔ o = .ropeFault z :=
    ⟨fun e => Owner.cause_injective (b := .ropeFault z) e, fun e => e ▸ rfl⟩
  rw [Bool.or_eq_true, Bool.and_eq_true, Bool.and_eq_true, beq_iff_eq, beq_iff_eq, beq_iff_eq, hwet, hfault]
  exact and_iff_right (mem_zoneIds z)

/-! ### The slots adopted (R109, R110) -/

/-- What the end of a load makes of a slot. -/
structure Slot.Adopted (shedding : Bool) (x : Slot) : Prop where
  ok : SlotOk False x
  rest : x.state = .off ∨ x.state = .on ∨ x.state = .draining ∨ x.state = .locked
  shut : shedding = true → x.shut

theorem Slot.powerOn_adopted (pg : Bool) : (Slot.powerOn pg).Adopted false :=
  ⟨⟨rfl, rfl, rfl, rfl, rfl, rfl, by simp [Slot.powerOn]⟩, .inl rfl, nofun⟩

theorem adoptSlot_adopted (set : SlotSettings) (en pg wet : Bool) : (adoptSlot set en pg wet).Adopted wet := by
  cases en <;> cases pg <;> cases wet <;>
    exact ⟨⟨rfl, rfl, rfl, rfl, rfl, rfl, by simp [adoptSlot, adoptedState]⟩, by simp [adoptSlot, adoptedState],
      by simp [adoptSlot, adoptedState, Slot.shut]⟩

/-- The part as it stands when the slots have been adopted, before Σ and H are formed. -/
def State.adopted (s : State) : State := s.setSeq (Sequencer.init s.slotsAfterLoad)

/-- No zone is WET after a power-on. -/
theorem loaded_dry {u : State} (hleak : u.leak.zones = s.zonesAfterLoad) (h : s.lastReset = .powerOn) (n : SlotId) :
    u.slotWetShed n = false := by
  have hzone (z : ZoneId) : u.leak.zones[z].state = .dry := by
    rw [hleak]
    unfold State.zonesAfterLoad
    simp only [h]
    rw [get_replicate]
    rfl
  unfold State.slotWetShed
  split
  · rfl
  · rw [hzone]
    rfl

theorem slotsAfterLoad_adopted {u : State} (hleak : u.leak.zones = s.zonesAfterLoad) (hreset : u.lastReset = s.lastReset) (n : SlotId) :
    ((u.slotsAfterLoad)[n]).Adopted (u.slotWetShed n) := by
  unfold State.slotsAfterLoad
  cases h : s.lastReset with
  | powerOn =>
    simp only [hreset, h]
    rw [get_ofFn, loaded_dry hleak h n]
    exact Slot.powerOn_adopted _
  | pin =>
    simp only [hreset, h]
    rw [get_ofFn]
    exact adoptSlot_adopted _ _ _ _

/-! ### The part at the end of a load -/

/-- The loaded part with its causes and its link as the rest of the load has made them. -/
def State.reloaded (s : State) (cold : Bool) (x : Causes) (l : Link) : State :=
  (((s.loadedState cold).setCauses x).setLink l).adopted

theorem loadedState_condition (s : State) (cold : Bool) (c : CauseId) :
    (s.loadedState cold).causes.recs[c].condition =
      rebuiltCondition ⟨s.zonesAfterLoad⟩ (s.bbusAfterLoad cold (s.settingsAfterLoad cold)) c :=
  congrArg Cause.condition (get_ofFn (fun c => Cause.init _) c)

theorem Cause.val_lt (o : Owner) : o.cause.val < 21 ↔ ∃ p, o = .analog p := by
  cases o with
  | analog p => exact ⟨fun _ => ⟨p, rfl⟩, fun _ => p.isLt⟩
  | _ =>
    refine ⟨fun h => ?_, fun ⟨p, e⟩ => by cases e⟩
    simp only [Owner.cause, causePoint, ropePoint, causeZoneWet, causeRopeFault, causeAttention, causeSlot, causePsu, causeHoldup,
      causeDeficit, causeLine, causeRecharge] at h
    omega

end Loading

end Sys2Proof.Machine
end

section
/-! PROOFS. The end of a profile load (R174, R178): the part starts with the laws of a running part, and the request that waits is
executed on it. -/

namespace Sys2Proof.Machine

section Loading

variable {s : State}

/-- The slack of a part that has just been loaded: the laws of the zones and of the holdup controller speak of records that a pin
reset keeps (R154, R79). -/
def Slack.loaded (executing : Bool) : Slack := { unkept := true, executing := executing }

theorem Slack.loaded_fresh {e : Bool} : (Slack.loaded e).Fresh :=
  { loose := rfl, unjudged := rfl, toLock := rfl, toShed := rfl, now := rfl, leaving := rfl, promoted := rfl }

theorem loaded_due (cold : Bool) (x : Causes) (l : Link) (o : Owner) :
    (s.loadedState cold).causes.recs[o.cause].condition = (s.reloaded cold x l).due o := by
  have hslot (n : SlotId) := slotsAfterLoad_adopted (s := s) (u := ((s.loadedState cold).setCauses x).setLink l) rfl rfl n
  rw [loadedState_condition, Bool.eq_iff_iff, rebuiltCondition_iff, Cause.val_lt]
  cases o with
  | analog p =>
    have hpoint : (s.reloaded cold x l).sense.points[AnalogId.point p] = Point.init := get_replicate _ _
    simp only [State.due, hpoint]
    exact iff_of_true (.inl ⟨p, rfl⟩) rfl
  | rope z =>
    have hpoint : (s.reloaded cold x l).sense.points[ropePoint z] = Point.init := get_replicate _ _
    simp only [State.due, hpoint]
    simp [ropeRails, Point.init]
  | wet z =>
    simp only [reduceCtorEq, exists_false, false_or, Owner.wet.injEq, false_and, or_false, State.due, beq_iff_eq]
    exact ⟨fun ⟨_, e, h⟩ => e ▸ h, fun h => ⟨z, rfl, h⟩⟩
  | ropeFault z =>
    simp only [reduceCtorEq, exists_false, false_or, Owner.ropeFault.injEq, false_and, State.due]
    exact ⟨fun ⟨_, e, h⟩ => e ▸ h, fun h => ⟨z, rfl, h⟩⟩
  | attention n =>
    refine iff_of_false (by simp) ?_
    simp [State.due, State.reloaded, State.adopted, State.loadedState, judgeAlert, Line.init]
  | slot n =>
    have hread : (s.reloaded cold x l).seq.slots[n] = (((s.loadedState cold).setCauses x).setLink l).slotsAfterLoad[n] := rfl
    refine iff_of_false (by simp) ?_
    simp only [State.due, hread, beq_iff_eq]
    rcases (hslot n).rest with e | e | e | e <;> rw [e] <;> nofun
  | psu k =>
    have hpsu : (s.reloaded cold x l).budget.psus[k].state = .absent := congrArg Psu.state (get_ofFn _ k)
    simp only [State.due, hpsu]
    simp
  | holdup => exact iff_of_false (by simp) nofun
  | deficit => exact iff_of_false (by simp) nofun
  | line => exact iff_of_false (by simp) nofun
  | recharge => exact iff_of_false (by simp) nofun

theorem reloaded_inv (h : Asleep True s) (cold e : Bool) {x : Causes} {l : Link}
    (hcauses : CauseLaw ((s.loadedState cold).setCauses x))
    (hcond : ∀ o : Owner, x.recs[o.cause].condition = (s.loadedState cold).causes.recs[o.cause].condition)
    (hlink : LinkOk e (s.reloaded cold x l)) : Inv (Slack.loaded e) (s.reloaded cold x l) := by
  have hslot (n : SlotId) := slotsAfterLoad_adopted (s := s) (u := ((s.loadedState cold).setCauses x).setLink l) rfl rfl n
  have hread (n : SlotId) : (s.reloaded cold x l).seq.slots[n] = (((s.loadedState cold).setCauses x).setLink l).slotsAfterLoad[n] := rfl
  have hpoint (p : PointId) : (s.reloaded cold x l).sense.points[p] = Point.init := get_replicate _ _
  have hsettings : (s.reloaded cold x l).settings = s.settingsAfterLoad cold := rfl
  exact
    { running := rfl
      now := nofun
      settings := ⟨settingsAfterLoad_legal h.settings cold, h.settings.2.1, nofun⟩
      conditions := fun o _ => (hcond o).trans (loaded_due cold x l o)
      slots := fun n => by
        rw [hread]
        have hok := (hslot n).ok
        exact ⟨hok.en, hok.notice, hok.soak, hok.window, hok.hold, hok.drain, fun hst => (hok.pg hst).imp_left False.elim⟩
      up := nofun
      warned := fun n hw => by
        rw [hread] at hw
        rcases (hslot n).rest with e | e | e | e <;> rcases hw with hw | hw <;> rw [e] at hw <;> cases hw
      inQueue := nofun
      queued := fun n hq => by
        rw [hread] at hq
        rcases (hslot n).rest with e | e | e | e <;> rw [e] at hq <;> cases hq
      order := List.Pairwise.nil
      dryQueue := fun n hq => by
        rw [hread] at hq
        rcases (hslot n).rest with e | e | e | e <;> rw [e] at hq <;> cases hq
      valve := fun z hwet hcloses => zonesAfterLoad_valve h.valve cold z hwet hcloses
      shut := fun n hn => by
        rw [hread]
        exact .inr ((hslot n).shut hn)
      zones := nofun
      points := fun p => by
        rw [hpoint]
        exact ⟨rfl, fun _ => rfl⟩
      deficitTimer := rfl
      deficit := fun hd => absurd rfl hd
      charge := fun i => bbusAfterLoad_ok h.settings h.charge cold i
      regulator :=
        { shares := by
            refine Vector.ext fun i hi => ?_
            simp [State.reloaded, State.adopted, State.loadedState, judgeAlert, Recharge.init, sharesOf]
          yielded := nofun
          step := rfl
          floorTimer := rfl
          idle := fun _ => rfl
          cruise := nofun
          floor := by rintro (h | h) <;> cases h }
      regulatorOn := fun hne => absurd rfl hne
      regulatorCopy := rfl
      holdup := nofun
      holdupCopy := rfl
      line := ⟨rfl, Nat.zero_le _, Nat.zero_le _, Nat.zero_le _, nofun, .inl rfl⟩
      starts := nofun
      causes := hcauses
      link := hlink }

/-! ### Causes and link through the load -/

theorem loadedState_causeLaw (s : State) (cold : Bool) : CauseLaw (s.loadedState cold) := by
  refine ⟨List.nodup_nil, fun c => ?_, fun _ => rfl⟩
  have hrec : (s.loadedState cold).causes.recs[c] =
      Cause.init (rebuiltCondition ⟨s.zonesAfterLoad⟩ (s.bbusAfterLoad cold (s.settingsAfterLoad cold)) c) := get_ofFn _ c
  rw [hrec]
  refine ⟨⟨nofun, fun hp => ?_⟩, ⟨nofun, nofun⟩, Nat.zero_le _⟩
  cases hp.1

theorem loadedState_served (h : LinkOk false s) (cold : Bool) : LinkServed (s.loadedState cold) :=
  ⟨h.queue, h.busy, h.single, h.replies, fun _ => .inr rfl⟩

theorem LinkServed.of_same {t : State} (h : LinkServed s) (hlink : t.link = s.link) (hcauses : t.causes = s.causes) :
    LinkServed t := by
  have hreplies : t.executionReplies = s.executionReplies := by rw [executionReplies_eq, executionReplies_eq, hlink]
  refine ⟨hlink ▸ h.queue, ?_, hreplies ▸ h.single, hlink ▸ h.replies, ?_⟩
  · rw [State.busyWaiting, hlink]
    exact h.busy
  · rw [hlink, hcauses]
    exact h.outbox

theorem LinkServed.serve (h : LinkServed s) (x : Causes) : LinkServed (serveTransmitter (s.setCauses x)) := by
  rcases serveTransmitter_cases (s.setCauses x) with
    ⟨e, htx⟩ | ⟨r, rs, htx, hr, -⟩ | ⟨c, cs, htx, hr, -, -, e⟩ | ⟨e, -, -, hidle⟩
  · rw [e]
    exact ⟨h.queue, h.busy, h.single, h.replies, fun ht => by
      rw [ht] at htx
      cases htx⟩
  · have hr' : s.link.replies = r :: rs := hr
    rw [h.replies htx] at hr'
    cases hr'
  · have hsame : ((s.setCauses x).beginNotice c cs).executionReplies = s.executionReplies := by
      have htx' : s.link.tx = none := htx
      simp [executionReplies_eq, State.beginNotice, htx', Sending.isExecution]
    rw [e]
    exact ⟨h.queue, h.busy, hsame ▸ h.single, nofun, nofun⟩
  · rw [e]
    exact ⟨h.queue, h.busy, h.single, h.replies, fun _ => hidle⟩

theorem raise_served (h : LinkServed s) (c : CauseId) (v : Int) (k : Byte) : LinkServed (raise c v k s) := by
  rw [raise_eq, joinOutbox_eq, recordRaise_eq]
  exact h.serve _

/-- R174: the fallback's raise, as a change of the causes and the link. -/
theorem raiseFallback_shape (hs : LinkServed s) (hc : CauseLaw s) :
    ∃ x l, raiseFallback s = (s.setCauses x).setLink l ∧ LinkServed ((s.setCauses x).setLink l) ∧
      CauseLaw ((s.setCauses x).setLink l) ∧ ∀ o : Owner, x.recs[o.cause].condition = s.causes.recs[o.cause].condition := by
  unfold raiseFallback
  split
  · exact ⟨s.causes, s.link, rfl, hs, hc, fun _ => rfl⟩
  · have hsplit := raise_split causeFallback 0 codeCheckFailed s
    have hserved := raise_served hs causeFallback 0 codeCheckFailed
    have hlaw := raise_causeLaw hc causeFallback 0 codeCheckFailed
    have hcond (o : Owner) := raise_keeps_condition o.cause_not_event causeFallback 0 codeCheckFailed s
    refine ⟨_, _, hsplit, hsplit ▸ hserved, hsplit ▸ hlaw, hcond⟩

/-- The laws when the load has ended and the request waiting has been executed. -/
theorem completeLoad_done (h : Asleep True s) (cold : Bool) : (Slack.loaded false).Done (completeLoad cold s) := by
  obtain ⟨x, l, hshape, hserved, hcauses, hcond⟩ :=
    raiseFallback_shape (loadedState_served (h.link trivial) cold) (loadedState_causeLaw s cold)
  have hadopt : adoptSlots (raiseFallback (s.loadedState cold)) = settleHeadroom (s.reloaded cold x l) := by
    rw [hshape]
    unfold adoptSlots State.reloaded State.adopted
    rfl
  have hlinkSame : (settleHeadroom (s.reloaded cold x l)).link = l := by
    simp only [settleHeadroom, State.reloaded, State.adopted, State.setBudget_link, State.setSeq_link, State.setLink_link]
  have hcausesSame : (settleHeadroom (s.reloaded cold x l)).causes = x := by
    simp only [settleHeadroom, State.reloaded, State.adopted, State.setBudget_causes, State.setSeq_causes, State.setLink_causes,
      State.setCauses_causes]
  have hserved' : LinkServed (settleHeadroom (s.reloaded cold x l)) := hserved.of_same hlinkSame hcausesSame
  unfold completeLoad
  rw [hadopt]
  refine executeHead_done hserved' Slack.loaded_fresh nofun fun e hok => ?_
  have hlink : LinkOk e (s.reloaded cold x l) := hok.of_same rfl hlinkSame.symm hcausesSame.symm
  exact settleHeadroom_inv (reloaded_inv h cold e hcauses hcond hlink)

end Loading

/-! ### Every step (sections 6 to 12) -/

theorem Slack.Done.lawful {g : Slack} {t : State} (h : g.Done t) (hg : g.Fresh) (hlate : ∀ o, ¬ g.late o)
    (hwatched : g.unwatched = false) : LawfulBut (g.unkept = false) t :=
  h.1.lawful hlate hg.leaving hg.loose hg.toLock hg.toShed hg.promoted hg.unjudged hwatched rfl

/-- What a step takes: its command, on the queue's rest. -/
theorem step_command {s t : State} (h : step s = .next t) :
    t = s ∨ ∃ (c : Instr) (rest : List Instr), exec c { s with pending := rest } = .next t := by
  unfold step at h
  split at h
  · exact .inr ⟨_, _, h⟩
  · split at h
    · rename_i i _
      exact .inr ⟨i, s.pending, h⟩
    · cases h
      exact .inl rfl

theorem Lawful.but {s : State} (h : Lawful s) (kept : Prop) : LawfulBut kept s :=
  ⟨h.settings, h.slots, h.queue, h.leaks, h.warnings, fun _ => h.zones, h.points, h.budget, h.charge, h.regulator,
    fun _ => h.holdup, h.line, h.causes, fun _ => h.link⟩

/-- The queue of waiting commands is in no law. -/
theorem Lawful.withPending {s : State} (h : Lawful s) (rest : List Instr) : Lawful { s with pending := rest } :=
  ⟨h.settings, h.slots, h.queue, h.leaks, h.warnings, h.zones, h.points, h.budget, h.charge, h.regulator, h.holdup, h.line,
    h.causes, h.link⟩

theorem exec_lawful {s t : State} {c : Instr} (h : Lawful s) (he : exec c s = .next t) : LawfulBut s.running t := by
  by_cases hrun : s.running
  · have hfresh : ({} : Slack).Fresh :=
      { loose := rfl, unjudged := rfl, toLock := rfl, toShed := rfl, now := rfl, leaving := rfl, promoted := rfl }
    rcases exec_after (Inv.of_lawful h hrun) hfresh rfl nofun he with hdone | hasleep
    · have hall := hdone.lawful hfresh nofun rfl
      exact ⟨hall.settings, hall.slots, hall.queue, hall.leaks, hall.warnings, fun _ => hall.zones rfl, hall.points, hall.budget,
        hall.charge, hall.regulator, fun _ => hall.holdup rfl, hall.line, hall.causes, fun _ => hall.link rfl⟩
    · have hall := hasleep.lawful
      exact ⟨hall.settings, hall.slots, hall.queue, hall.leaks, hall.warnings, fun _ => hall.zones trivial, hall.points, hall.budget,
        hall.charge, hall.regulator, fun _ => hall.holdup trivial, hall.line, hall.causes, fun _ => hall.link trivial⟩
  · have hasleep := Asleep.of_lawful h hrun
    by_cases hc : c = .profileLoadComplete
    · subst hc
      have hstay : LawfulBut s.running s := h.but _
      cases he
      split
      · rename_i cold _
        have hall := (completeLoad_done hasleep cold).lawful Slack.loaded_fresh nofun rfl
        exact ⟨hall.settings, hall.slots, hall.queue, hall.leaks, hall.warnings, fun hr => absurd hr hrun, hall.points, hall.budget,
          hall.charge, hall.regulator, fun hr => absurd hr hrun, hall.line, hall.causes, fun hr => absurd hr hrun⟩
      · exact hstay
      · exact hstay
    · have hall := (exec_asleep hasleep.forget hc he).lawful
      exact ⟨hall.settings, hall.slots, hall.queue, hall.leaks, hall.warnings, fun hr => absurd hr hrun, hall.points, hall.budget,
        hall.charge, hall.regulator, fun hr => absurd hr hrun, hall.line, hall.causes, fun hr => absurd hr hrun⟩

/-- Every step keeps the laws, those of the zones, the holdup controller and the link on a running part. -/
theorem step_lawful {s t : State} (h : Lawful s) (he : step s = .next t) : LawfulBut s.running t := by
  rcases step_command he with rfl | ⟨c, rest, hc⟩
  · exact h.but _
  · have hdone := exec_lawful (h.withPending rest) hc
    exact hdone

end Sys2Proof.Machine
end

section
/-! PROOFS. O6 to O18 and O60: what every step of a lawful part keeps. Three of the laws are not kept by every step: the laws of the
zones, of the holdup controller and of the link leave records alone while the part is in reset or loads, which the end of the load
and the release of RST_N then take over. -/

namespace Sys2Proof.Machine

/-! ### Critical slots (R112) -/

theorem exec_keepsUp {s t : State} {c : Instr} {n : SlotId} (h : Lawful s) (he : exec c s = .next t) (hs : s.running)
    (ht : t.running) (hc : s.settings.slots[n].cls = .critical) (hn : s.seq.slots[n].isUp) : t.seq.slots[n].keptUp := by
  have hfresh : Slack.Fresh { up := fun m => m = n } :=
    { loose := rfl, unjudged := rfl, toLock := rfl, toShed := rfl, now := rfl, leaving := rfl, promoted := rfl }
  have hinv : Inv { up := fun m => m = n } s :=
    { Inv.of_lawful h hs with
      up := fun m hm => by
        subst hm
        exact ⟨hc, .inl hn⟩ }
  have hup : Slack.Anchored { up := fun m => m = n } s := fun m hm => by
    subst hm
    exact hn
  rcases exec_after hinv hfresh rfl hup he with hdone | hasleep
  · exact hdone.2 n rfl
  · exact absurd ht hasleep.asleep

theorem step_keepsUp {s t : State} {n : SlotId} (h : Lawful s) (he : step s = .next t) (hs : s.running) (ht : t.running)
    (hc : s.settings.slots[n].cls = .critical) (hn : s.seq.slots[n].isUp) : t.seq.slots[n].keptUp := by
  rcases step_command he with rfl | ⟨c, rest, hexec⟩
  · exact .inl hn
  · exact exec_keepsUp (h.withPending rest) hexec hs ht hc hn

/-! ### Records that no law speaks of -/

theorem Asleep.all {s : State} (h : Asleep True s) : Lawful s := by
  have hall := h.lawful
  exact ⟨hall.settings, hall.slots, hall.queue, hall.leaks, hall.warnings, hall.zones trivial, hall.points, hall.budget, hall.charge,
    hall.regulator, hall.holdup trivial, hall.line, hall.causes, hall.link trivial⟩

theorem poweredOn_asleep : Asleep True (powerOn 0 State.reset) := powerOn_asleep reset_is_lawful.settings 0

/-- A part that loads after a pin reset with zone records in FAULT whose fault flag is clear. -/
def faultsKept : State :=
  { powerOn 0 State.reset with
    lastReset := .pin
    leak := ⟨Vector.replicate 8 { Zone.powerOn with state := .fault }⟩
    pending := [.profileLoadComplete] }

theorem faultsKept_lawful : Lawful faultsKept := by
  have h := poweredOn_asleep
  refine Asleep.all ⟨h.asleep, h.settings, fun z hz => ?_, h.charge, ⟨h.causes.1, h.causes.2.1, nofun⟩, fun _ =>
    (h.link trivial).of_same rfl rfl rfl⟩
  have hzone : faultsKept.leak.zones[z].state = .fault := congrArg Zone.state (get_replicate _ z)
  rw [hzone] at hz
  cases hz

/-- A part that loads with a transfer record that is open. -/
def recordKept : State :=
  { powerOn 0 State.reset with
    holdup := Holdup.init 0 { Transfer.empty with isOpen := true }
    pending := [.profileLoadComplete] }

theorem recordKept_lawful : Lawful recordKept := by
  have h := poweredOn_asleep
  exact Asleep.all ⟨h.asleep, h.settings, h.valve, h.charge, ⟨h.causes.1, h.causes.2.1, nofun⟩, fun _ =>
    (h.link trivial).of_same rfl rfl rfl⟩

/-- A part in reset with a notice on TXD and a cause in the outbox. -/
def noticeCut : State :=
  { powerOn 0 State.reset with
    phase := .inReset true
    causes :=
      { (powerOn 0 State.reset).causes with
        recs := (powerOn 0 State.reset).causes.recs.set 0 { Cause.init false with pending := true, count := 1 }
        outbox := [0] }
    link := { Link.init 0 with tx := some (.notice ⟨1, 1, false, 0, 0⟩) }
    pending := [.pinResetRelease 0] }

theorem noticeCut_lawful : Lawful noticeCut := by
  have h := poweredOn_asleep
  refine Asleep.all ⟨nofun, h.settings, h.valve, h.charge, ⟨?_, ?_, nofun⟩, fun _ => linkLaw_iff.1 ?_⟩
  · decide +kernel
  · decide +kernel
  · unfold LinkLaw
    decide +kernel

end Sys2Proof.Machine

open Sys2Proof Sys2Proof.Machine

/-- Settles O6: the settings' ranges, through the invariant of every command (`step_lawful`). -/
theorem settingsStayInRange : Obligations.SettingsStayInRange := fun _ _ h he => (step_lawful h he).settings

/-- Settles O7. -/
theorem enableAndSlotTimersFollowTheState : Obligations.EnableAndSlotTimersFollowTheState := fun _ _ h he =>
  (step_lawful h he).slots

/-- Settles O8. -/
theorem queueHoldsTheQueuedSlotsInOrder : Obligations.QueueHoldsTheQueuedSlotsInOrder := fun _ _ h he => (step_lawful h he).queue

/-- Settles O9. -/
theorem wetZonesKeepValveAndSlotsShut : Obligations.WetZonesKeepValveAndSlotsShut := fun _ _ h he => (step_lawful h he).leaks

/-- Refutes O10: a lawful part that loads may hold a zone in FAULT whose fault flag is clear, for the law speaks of running parts
alone; the end of the load keeps both after a pin reset (R154). -/
theorem not_zoneStatesMatchTheirEvidence : ¬ Obligations.ZoneStatesMatchTheirEvidence := by
  intro h
  have hlaw := h faultsKept (completeLoad true { faultsKept with pending := [] }) faultsKept_lawful rfl
  have hrun : (completeLoad true { faultsKept with pending := [] }).running := by
    unfold State.running
    decide +kernel
  obtain ⟨-, -, -, hfault, -⟩ := hlaw hrun 0
  have hstate : (completeLoad true { faultsKept with pending := [] }).leak.zones[(0 : ZoneId)].state = .fault := by decide +kernel
  have hflag : (completeLoad true { faultsKept with pending := [] }).leak.zones[(0 : ZoneId)].ropeFault = false := by
    decide +kernel
  exact absurd ((hfault hstate).symm.trans hflag) nofun

/-- Settles O11. -/
theorem senseConditionsFollowThePoints : Obligations.SenseConditionsFollowThePoints := fun _ _ h he => (step_lawful h he).points

/-- Settles O12. -/
theorem deficitHandlingRunsUnderOnlineAlone : Obligations.DeficitHandlingRunsUnderOnlineAlone := fun _ _ h he =>
  (step_lawful h he).budget

/-- Settles O13. -/
theorem chargeCountersStayInBounds : Obligations.ChargeCountersStayInBounds := fun _ _ h he => (step_lawful h he).charge

/-- Settles O14. -/
theorem regulatorKeepsItsStateTable : Obligations.RegulatorKeepsItsStateTable := fun _ _ h he => (step_lawful h he).regulator

/-- Refutes O15: a lawful part that loads may hold an open transfer record, for the law speaks of running parts alone; the load
keeps the record (R79) and opens no event. -/
theorem not_holdupTimersAndRecordFollowTheState : ¬ Obligations.HoldupTimersAndRecordFollowTheState := by
  intro h
  have hlaw := h recordKept (completeLoad true { recordKept with pending := [] }) recordKept_lawful rfl
  have hrun : (completeLoad true { recordKept with pending := [] }).running := by
    unfold State.running
    decide +kernel
  obtain ⟨-, -, -, -, hrecord, -⟩ := hlaw hrun
  have hopen : (completeLoad true { recordKept with pending := [] }).holdup.record.isOpen = true := by decide +kernel
  have hevent : (completeLoad true { recordKept with pending := [] }).holdup.eventOpen = false := by decide +kernel
  exact absurd ((hrecord hopen).1.symm.trans hevent) nofun

/-- Settles O16. -/
theorem statusLineKeepsItsCountsAndStarts : Obligations.StatusLineKeepsItsCountsAndStarts := fun _ _ h he => (step_lawful h he).line

/-- Settles O17. -/
theorem outboxAndAlertFollowTheRecords : Obligations.OutboxAndAlertFollowTheRecords := fun _ _ h he => (step_lawful h he).causes

/-- Refutes O18: a lawful part in reset may have a notice on TXD and a cause in the outbox; the release of RST_N empties the link
and leaves the outbox, so that the transmitter is idle while a notice may be begun. -/
theorem not_linkHoldsOneReplyAndNeverStalls : ¬ Obligations.LinkHoldsOneReplyAndNeverStalls := by
  intro h
  obtain ⟨-, -, -, -, hserved⟩ := h noticeCut (pinResetRelease 0 { noticeCut with pending := [] }) noticeCut_lawful rfl
  rcases (hserved rfl).2 with hhold | hout
  · exact absurd hhold nofun
  · exact absurd hout nofun

/-- Settles O60: a step of a running part keeps a CRITICAL slot up, but for the four reasons (`exec_keepsUp`). -/
theorem criticalSlotsAreKeptUp : Obligations.CriticalSlotsAreKeptUp :=
  ⟨fun _ _ h he => (step_lawful h he).warnings, fun _ _ _ h he hs ht hc hn => step_keepsUp h he hs ht hc hn⟩
end

section
/-! PROOFS. O22 and O24: the one reply of a request, the requests that wait, and the refusals. The first part holds what every later
statement about a request starts from. -/

namespace Sys2Proof.Machine

/-! ### A request executed at once -/

/-- R168: a request row on a part that may execute it. -/
theorem exec_atOnce {c : Instr} {f : Frame} {s : State} (hf : encodeRequest c = some f) (h : s.atOnce = true) :
    exec c s = .next (answer f.tag f.kind (perform c s) s) := by
  rw [exec_of_request (by rw [hf]; rfl) s, request_atOnce h hf]

theorem refuses_of_error {c : Instr} {s : State} {tag kind : Byte} {body : List Byte} {code : RefusalCode}
    (hf : encodeRequest c = some ⟨kind, tag, body⟩) (h : s.atOnce = true) (hj : perform c s = .error code) :
    Refuses c s tag kind code := by
  rw [Refuses, exec_atOnce hf h, hj]
  rfl

theorem accepts_of_ok {c : Instr} {s t : State} {tag kind : Byte} {body : List Byte} {fields : Ack}
    (hf : encodeRequest c = some ⟨kind, tag, body⟩) (h : s.atOnce = true) (hj : perform c s = .ok (t, fields)) :
    Accepts c s tag kind fields t := by
  rw [Accepts, exec_atOnce hf h, hj]
  rfl

theorem answers_of_ok {c : Instr} {s t : State} {tag kind : Byte} {body : List Byte} {fields : Ack} {Q : Ack → State → Prop}
    (hf : encodeRequest c = some ⟨kind, tag, body⟩) (h : s.atOnce = true) (hj : perform c s = .ok (t, fields))
    (hq : Q fields t) : Answers c s tag kind Q :=
  ⟨fields, t, accepts_of_ok hf h hj, hq⟩

/-! ### No request is refused BUSY (R167) -/

/-- Not refused BUSY. -/
def Judged.fair (j : Judged) : Prop := j ≠ .error .busy

theorem fair_ok (r : State × Ack) : Judged.fair (.ok r) := nofun

theorem fair_demand {ok : Bool} {code : RefusalCode} {j : Judged} (hcode : code ≠ .busy) (hj : Judged.fair j) :
    Judged.fair (demand ok code j) := by
  unfold demand
  split
  · exact hj
  · exact fun e => hcode (Except.error.inj e)

theorem fair_withId {α : Type} {id : Option α} {run : α → Judged} (h : ∀ x, Judged.fair (run x)) : Judged.fair (withId id run) := by
  unfold withId
  split
  · nofun
  · exact h _

theorem fair_bulk (size largest : Nat) (first count : Byte) (report : Nat → Nat → Ack) (s : State) :
    Judged.fair (bulk size largest first count report s) := by
  unfold bulk
  split
  · nofun
  · nofun

theorem fair_takeSettings (new : Settings) (effect : State → State) (ack : State → Ack) (s : State) :
    Judged.fair (takeSettings new effect ack s) := fair_demand nofun (fair_ok _)

theorem perform_fair (c : Instr) (s : State) : Judged.fair (perform c s) := by
  cases c
  case getStatus | getReserve | getRanges | getQueue | getTransferRecord | getTest | getProfileInfo | holdAll | releaseAll =>
    exact fair_ok _
  case getSense | getPsu | getBbu | getTargets | getSlots | getZones | getCauses =>
    unfold perform
    exact fair_bulk _ _ _ _ _ _
  case setBudget w =>
    show Judged.fair (runSetBudget w s)
    unfold runSetBudget
    exact fair_takeSettings _ _ _ _
  case setRanges w =>
    show Judged.fair (runSetRanges w s)
    unfold runSetRanges
    exact fair_takeSettings _ _ _ _
  case setHoldup w =>
    show Judged.fair (runSetHoldup w s)
    unfold runSetHoldup
    exact fair_takeSettings _ _ _ _
  case setRecharge w =>
    show Judged.fair (runSetRecharge w s)
    unfold runSetRecharge
    exact fair_takeSettings _ _ _ _
  case setSequence w =>
    show Judged.fair (runSetSequence w s)
    unfold runSetSequence
    exact fair_takeSettings _ _ _ _
  case setLine mode survey =>
    show Judged.fair (runSetLine mode survey s)
    unfold runSetLine
    exact fair_takeSettings _ _ _ _
  case setLimit | setChargeParams => exact fair_withId fun _ => fair_takeSettings _ _ _ _
  case setTargets => exact fair_demand nofun (fair_takeSettings _ _ _ _)
  case setSlot =>
    exact fair_withId fun _ => fair_withId fun _ => fair_demand nofun (fair_demand nofun (fair_takeSettings _ _ _ _))
  case setZone => exact fair_withId fun _ => fair_demand nofun (fair_demand nofun (fair_takeSettings _ _ _ _))
  case setMasks => exact fair_demand nofun (fair_withId fun _ => fair_demand nofun (fair_ok _))
  case armTargets | abortTest | clearTransferRecord | storeProfile => exact fair_demand nofun (fair_ok _)
  case powerUp | powerDown | clearCause => exact fair_demand nofun (fair_withId fun _ => fair_ok _)
  case releaseSlot | clearZone | setCharge | startTest => exact fair_withId fun _ => fair_demand nofun (fair_ok _)
  case clearLatch | lockProfile => exact fair_withId fun _ => fair_ok _
  all_goals nofun

/-! ### The reply stops the next request -/

theorem serveTransmitter_replies {s : State} (h : 0 < s.executionReplies) : 0 < (serveTransmitter s).executionReplies := by
  rcases serveTransmitter_cases s with ⟨e, -⟩ | ⟨r, rs, htx, hr, e⟩ | ⟨c, cs, htx, hr, -⟩ | ⟨e, -⟩
  · rwa [e]
  · rw [e]
    rw [executionReplies_eq, htx, hr, List.countP_cons] at h
    simpa [executionReplies_eq, Sending.isExecution] using h
  · rw [executionReplies_eq, htx, hr] at h
    simp at h
  · rwa [e]

theorem pushReply_stops {r : Reply} (hr : r.isBusy = false) (s : State) : (pushReply r s).canExecute = false := by
  refine (canExecute_false_iff _).2 (.inr (serveTransmitter_replies ?_))
  simp only [executionReplies_eq, State.setLink_link, List.countP_append, List.countP_singleton, hr]
  exact Nat.add_pos_left (Nat.add_pos_right _ Nat.one_pos) _

theorem refused_not_busy {tag kind : Byte} {code : RefusalCode} (h : code ≠ .busy) : (Reply.refused tag code kind).isBusy = false := by
  cases code
  case busy => exact absurd rfl h
  all_goals rfl

/-! ### A request that waits (R167) -/

theorem request_waits {c : Instr} {f : Frame} {s : State} {run : State → Judged} (hf : encodeRequest c = some f) (h : s.atOnce = false)
    (hout : ∀ cold, s.phase ≠ .inReset cold) : request c run s = offerFrame f s := by
  have hnow : (s.canExecute && s.link.queue.isEmpty) = false := h
  unfold request
  rw [hf]
  rcases hp : s.phase with cold | _ | _
  · exact absurd hp (hout cold)
  · simp only [hnow]
    rfl
  · simp only [hnow]
    rfl

theorem exec_waits {c : Instr} {f : Frame} {s : State} (hf : encodeRequest c = some f) (h : s.atOnce = false)
    (hout : ∀ cold, s.phase ≠ .inReset cold) : exec c s = .next (offerFrame f s) := by
  rw [exec_of_request (by rw [hf]; rfl) s, request_waits hf h hout]

/-! ### Operands out of range (R170) -/

theorem takeId_none {k : Nat} {b : Byte} (h : k ≤ b.toNat) : takeId k b = none := by
  unfold takeId
  rw [dif_neg (by omega)]

theorem withId_none {α : Type} {id : Option α} {run : α → Judged} (h : id = none) : withId id run = .error .outOfRange := by
  rw [h]
  rfl

theorem withId_outOfRange {α : Type} {id : Option α} {run : α → Judged} (h : ∀ x, run x = .error .outOfRange) :
    withId id run = .error .outOfRange := by
  cases id with
  | none => rfl
  | some x => exact h x

theorem demand_false {ok : Bool} {code : RefusalCode} {j : Judged} (h : ok = false) : demand ok code j = .error code := by
  rw [h]
  rfl

theorem demand_true {ok : Bool} {code : RefusalCode} {j : Judged} (h : ok = true) : demand ok code j = j := by
  rw [h]
  rfl

theorem takeCause_none {b : Byte} (h : (29 ≤ b.toNat ∧ b.toNat ≤ 31) ∨ 137 ≤ b.toNat) : takeCause b = none := by
  rcases h with ⟨hlo, hhi⟩ | h
  · unfold takeCause takeId
    rw [dif_pos (by omega), Option.filter_some, if_neg]
    simp only [assignedCause, decide_eq_true_eq]
    omega
  · rw [takeCause, takeId_none h]
    rfl

theorem takeZone_none {b : Byte} (h : 8 ≤ b.toNat) (hno : b ≠ 255) : takeZone b = none := by
  rw [takeZone, if_neg (by exact hno), takeId_none h]
  rfl

/-- R169: one entry out of range refuses the list. -/
theorem takeIds_none {α : Type} {take : Byte → Option α} {b : Byte} (hb : take b = none) : ∀ {list : List Byte},
    b ∈ list → takeIds take list = none
  | d :: list, hmem => by
    unfold takeIds
    rcases List.mem_cons.1 hmem with rfl | hrest
    · rw [hb]
    · rw [takeIds_none hb hrest]
      cases take d <;> rfl

theorem takeMasks_none {e : MaskW} (he : takeCause e.cause = none) : ∀ {list : List MaskW}, e ∈ list → takeMasks list = none
  | d :: list, hmem => by
    unfold takeMasks
    rcases List.mem_cons.1 hmem with rfl | hrest
    · rw [takeMask, he]
      rfl
    · rw [takeMasks_none he hrest]
      cases takeMask d <;> rfl

theorem bulk_past {size largest : Nat} {first count : Byte} {report : Nat → Nat → Ack} {s : State} (h : size ≤ first.toNat) :
    bulk size largest first count report s = .error .outOfRange := by
  rw [bulk, takeBulk, if_neg (by omega)]

theorem slotList_badLength {list : List Byte} {one : SlotId → State → State × SlotResult} {s : State}
    (h : list = [] ∨ 24 < list.length) : slotList list one s = .error .badLength :=
  demand_false (decide_eq_false (by rcases h with rfl | h <;> simp <;> omega))

theorem slotList_outOfRange {list : List Byte} {one : SlotId → State → State × SlotResult} {s : State} {b : Byte}
    (hlen : list.length ≤ 24) (hmem : b ∈ list) (hb : 24 ≤ b.toNat) : slotList list one s = .error .outOfRange := by
  have hpos := List.length_pos_of_mem hmem
  rw [slotList, demand_true (decide_eq_true ⟨hpos, hlen⟩), withId_none (takeIds_none (takeId_none hb) hmem)]

end Sys2Proof.Machine

open Sys2Proof Sys2Proof.Machine

/-- Settles O22: a request that waits is one offered to the queue; one executed at once is one answered, and the reply, none of which is
BUSY, counts as an execution reply until it has been sent. -/
theorem requestsWaitOrGetOneReply : Obligations.RequestsWaitOrGetOneReply := by
  refine ⟨fun c f s hf hnow hout => ⟨fun hroom => ?_, fun hfull hbusy => ?_, fun hfull hbusy => ?_⟩, fun c f s hf hnow => ?_,
    fun r s => ⟨fun htx => ?_, fun htx hr => ?_⟩⟩
  · rw [exec_waits hf hnow hout, offerFrame, if_pos hroom]
    rfl
  · rw [exec_waits hf hnow hout, offerFrame, if_neg (by omega), if_pos hbusy]
  · rw [exec_waits hf hnow hout, offerFrame, if_neg (by omega), if_neg (by omega)]
  · rw [exec_atOnce hf hnow]
    have hfair := perform_fair c s
    generalize perform c s = j at hfair
    rcases j with code | ⟨t, fields⟩
    · have hcode : code ≠ .busy := fun e => hfair (by rw [e])
      exact .inr ⟨code, hcode, rfl, rfl, pushReply_stops (refused_not_busy hcode) s⟩
    · exact .inl ⟨fields, t, rfl, rfl, pushReply_stops rfl t⟩
  · rcases htx' : s.link.tx with _ | x
    · exact absurd htx' htx
    · simp [pushReply, serveTransmitter, htx', State.setLink]
  · simp [pushReply, serveTransmitter, htx, hr, State.setLink]

/-- Settles O24: each of these requests fails at its identifier, at one entry of its list or at its length, before anything else is
looked at. -/
theorem badRequestsAreRefused : Obligations.BadRequestsAreRefused := by
  intro s tag b h
  refine ⟨refuses_of_error rfl h rfl,
    fun hb n => refuses_of_error rfl h (show runGetSense b n s = _ from bulk_past hb), fun hb n => refuses_of_error rfl h (show runGetPsu b n s = _ from bulk_past hb),
    fun hb n => refuses_of_error rfl h (show runGetBbu b n s = _ from bulk_past hb), fun hb n => refuses_of_error rfl h (show runGetTargets b n s = _ from bulk_past hb),
    fun hb n => refuses_of_error rfl h (show runGetSlots b n s = _ from bulk_past hb), fun hb n => refuses_of_error rfl h (show runGetZones b n s = _ from bulk_past hb),
    fun hb n => refuses_of_error rfl h (show runGetCauses b n s = _ from bulk_past hb),
    fun hb w => refuses_of_error rfl h (show runSetLimit b w s = _ from withId_none (takeId_none hb)), fun hb w => refuses_of_error rfl h (show runSetChargeParams b w s = _ from withId_none (takeId_none hb)),
    fun hb w => refuses_of_error rfl h (show runSetSlot b w s = _ from withId_none (takeId_none hb)), fun hb hno n w => refuses_of_error rfl h ?_,
    fun hb w => refuses_of_error rfl h (show runSetZone b w s = _ from withId_none (takeId_none hb)), fun hb q => refuses_of_error rfl h (show runReleaseSlot b q s = _ from withId_none (takeId_none hb)),
    fun hb q => refuses_of_error rfl h (show runClearZone b q s = _ from withId_none (takeId_none hb)), fun hb => refuses_of_error rfl h (show runClearLatch b s = _ from withId_none (takeId_none hb)),
    fun hb v => refuses_of_error rfl h (show runSetCharge b v s = _ from withId_none (takeId_none hb)), fun hb => refuses_of_error rfl h (show runStartTest b s = _ from withId_none (takeId_none hb)),
    fun hb => refuses_of_error rfl h (show runLockProfile b s = _ from withId_none (takeId_none hb)), fun list => ⟨fun hlen => ?_, fun hlen => ?_, fun hlen hmem hb => ?_,
      fun hlen hmem hb => ?_⟩, fun mode list hlen => refuses_of_error rfl h (demand_false (decide_eq_false (by omega))),
    fun alert list => ⟨fun hlen => refuses_of_error rfl h (demand_false (decide_eq_false (by omega))), fun hlen ⟨e, hmem, he⟩ => ?_⟩⟩
  case refine_1 =>
    show withId (takeId 24 n) _ = _
    exact withId_outOfRange fun _ => withId_none (takeZone_none hb hno)
  case refine_2 =>
    exact ⟨refuses_of_error rfl h (slotList_badLength hlen), fun u => refuses_of_error rfl h (slotList_badLength hlen)⟩
  case refine_3 =>
    exact refuses_of_error rfl h (demand_false (decide_eq_false (by rcases hlen with rfl | hlen <;> simp <;> omega)))
  case refine_4 =>
    exact ⟨refuses_of_error rfl h (slotList_outOfRange hlen hmem hb),
      fun u => refuses_of_error rfl h (slotList_outOfRange hlen hmem hb)⟩
  case refine_5 =>
    refine refuses_of_error rfl h ?_
    show runClearCause list s = _
    rw [runClearCause, demand_true (decide_eq_true ⟨List.length_pos_of_mem hmem, hlen⟩),
      withId_none (takeIds_none (takeCause_none hb) hmem)]
  case refine_6 =>
    refine refuses_of_error rfl h ?_
    show runSetMasks alert list s = _
    rw [runSetMasks, demand_true (decide_eq_true hlen), withId_none (takeMasks_none (takeCause_none he) hmem)]
end

section
/-! PROOFS. O28: the queries that name no item. -/

namespace Sys2Proof.Machine

theorem mem_rangeIds (k : RangeId) : k ∈ rangeIds := by revert k; decide
theorem mem_bbuIds (i : BbuId) : i ∈ bbuIds := by revert i; decide

/-- R52: the band set gates power-up by one of its entries. -/
theorem gatedBy_eq (s : State) (band : Vector Bool 8) :
    s.gatedBy band = decide (∃ k : RangeId, band[k] = true ∧ s.settings.ranges[k].gate = true) := by
  rw [Bool.eq_iff_iff, State.gatedBy, List.any_eq_true, decide_eq_true_eq]
  exact ⟨fun ⟨k, _, hk⟩ => ⟨k, by simpa using hk⟩, fun ⟨k, hk⟩ => ⟨k, mem_rangeIds k, by simpa using hk⟩⟩

/-! ### The time reports (log 6) -/

theorem reportTime_whole {unit : Nat} (hunit : 0 < unit) (k : Nat) : reportTime unit (some (k * unit)) = k := by
  simp [reportTime, Nat.mul_div_cancel k hunit]

theorem seconds_in_range {s : State} (h : s.clock < 4294967296000) : s.seconds = s.clock / 1000 := by
  unfold State.seconds
  exact if_pos (by omega)

/-! ### The notice vector (R131) -/

/-- One slot's bit joins the vector. -/
def State.orNotice (s : State) (v : BitVec 24) (n : SlotId) : BitVec 24 :=
  if s.seq.slots[n].notice then v ||| (1#24 <<< n.val) else v

theorem orNotice_bit (s : State) (v : BitVec 24) (m n : SlotId) :
    (s.orNotice v m).getLsbD n.val = (v.getLsbD n.val || (s.seq.slots[m].notice && decide (m = n))) := by
  unfold State.orNotice
  by_cases hm : s.seq.slots[m].notice = true
  · rw [if_pos hm, hm, BitVec.getLsbD_or, Bool.true_and]
    congr 1
    have hn := n.isLt
    by_cases hmn : m = n
    · subst hmn
      simp
    · have hne : m.val ≠ n.val := fun e => hmn (Fin.ext e)
      simp only [BitVec.getLsbD_shiftLeft, BitVec.getLsbD_one, hmn, decide_false]
      by_cases hlt : n.val < m.val
      · simp [hlt]
      · have : n.val - m.val ≠ 0 := by omega
        simp [this]
  · rw [if_neg hm, Bool.eq_false_iff.2 hm, Bool.false_and, Bool.or_false]

theorem orNotices_bit (s : State) (n : SlotId) (ids : List SlotId) (v : BitVec 24) :
    (ids.foldl s.orNotice v).getLsbD n.val = (v.getLsbD n.val || ids.any fun m => s.seq.slots[m].notice && decide (m = n)) := by
  induction ids generalizing v with
  | nil => simp
  | cons m ids ih => rw [List.foldl_cons, ih, orNotice_bit, List.any_cons, Bool.or_assoc]

theorem noticeVector_bit (s : State) (n : SlotId) : s.noticeVector.getLsbD n.val = s.seq.slots[n].notice := by
  have h := orNotices_bit s n slotIds 0
  rw [show s.noticeVector = slotIds.foldl s.orNotice 0 from rfl, h, Bool.eq_iff_iff]
  simp only [BitVec.ofNat_eq_ofNat, BitVec.getLsbD_zero, Bool.false_or, List.any_eq_true, Bool.and_eq_true, decide_eq_true_eq]
  exact ⟨fun ⟨_, _, hm, e⟩ => e ▸ hm, fun h => ⟨n, mem_slotIds n, h, rfl⟩⟩

/-! ### The hottest member (R89) -/

/-- One BBU's temperature, if it is a member, against the highest so far. -/
def State.hotter (s : State) (acc : Option Int) (i : BbuId) : Option Int :=
  if s.recharge.members[i] then
    match acc with
    | none => some (s.pubValue (bbuTPoint i))
    | some t => some (max t (s.pubValue (bbuTPoint i)))
  else acc

/-- A result over the BBUs seen so far: none while no member was among them, else the temperature of a member that is nowhere
exceeded. -/
def State.HottestOf (s : State) (seen : List BbuId) (acc : Option Int) : Prop :=
  (acc = none → ∀ i ∈ seen, s.recharge.members[i] = false) ∧
    ∀ t, acc = some t →
      (∃ i ∈ seen, s.recharge.members[i] = true ∧ t = s.pubValue (bbuTPoint i)) ∧
        ∀ i ∈ seen, s.recharge.members[i] = true → s.pubValue (bbuTPoint i) ≤ t

theorem hotter_hottestOf {s : State} {seen : List BbuId} {acc : Option Int} (h : s.HottestOf seen acc) (i : BbuId) :
    s.HottestOf (seen ++ [i]) (s.hotter acc i) := by
  obtain ⟨hnone, hsome⟩ := h
  have hsplit : ∀ {P : BbuId → Prop}, (∀ j ∈ seen, P j) → P i → ∀ j ∈ seen ++ [i], P j := fun hs hi j hj => by
    rcases List.mem_append.1 hj with hj | hj
    · exact hs j hj
    · exact List.mem_singleton.1 hj ▸ hi
  have hold : ∀ {j}, j ∈ seen → j ∈ seen ++ [i] := fun hj => List.mem_append_left _ hj
  have hnew : i ∈ seen ++ [i] := List.mem_append_right _ (List.mem_singleton.2 rfl)
  unfold State.hotter
  by_cases hm : s.recharge.members[i] = true
  · rw [if_pos hm]
    cases acc with
    | none =>
      refine ⟨nofun, fun t ht => ?_⟩
      cases ht
      exact ⟨⟨i, hnew, hm, rfl⟩, hsplit (fun j hj hjm => absurd hjm (by simp [hnone rfl j hj])) fun _ => Int.le_refl _⟩
    | some u =>
      refine ⟨nofun, fun t ht => ?_⟩
      cases ht
      obtain ⟨⟨k, hk, hkm, hku⟩, hle⟩ := hsome u rfl
      refine ⟨?_, hsplit (fun j hj hjm => Int.le_trans (hle j hj hjm) (Int.le_max_left ..)) fun _ => Int.le_max_right ..⟩
      rcases Int.le_total u (s.pubValue (bbuTPoint i)) with hui | hui
      · exact ⟨i, hnew, hm, Int.max_eq_right hui⟩
      · exact ⟨k, hold hk, hkm, by rw [Int.max_eq_left hui, hku]⟩
  · have hoff : s.recharge.members[i] = false := by simpa using hm
    rw [if_neg hm]
    refine ⟨fun e => hsplit (hnone e) hoff, fun t ht => ?_⟩
    obtain ⟨⟨k, hk, hkm, hku⟩, hle⟩ := hsome t ht
    exact ⟨⟨k, hold hk, hkm, hku⟩, hsplit hle fun h => absurd h hm⟩

theorem foldl_hotter {s : State} (ids : List BbuId) : ∀ {seen : List BbuId} {acc : Option Int}, s.HottestOf seen acc →
    s.HottestOf (seen ++ ids) (ids.foldl s.hotter acc) := by
  induction ids with
  | nil => exact fun h => by simpa using h
  | cons i ids ih => exact fun h => by simpa using ih (hotter_hottestOf h i)

theorem hottestMember_hottestOf (s : State) : s.HottestOf bbuIds s.hottestMember :=
  foldl_hotter (s := s) bbuIds (seen := []) (acc := none) ⟨by simp, nofun⟩

theorem sourceTemp_hottest {s : State} (hsource : s.recharge.sourceInForce = .hottestBbu)
    (hsome : ∃ i : BbuId, s.recharge.members[i] = true) :
    (∃ i : BbuId, s.recharge.members[i] = true ∧ s.sourceTemp = s.pubValue (bbuTPoint i)) ∧
      ∀ i : BbuId, s.recharge.members[i] = true → s.pubValue (bbuTPoint i) ≤ s.sourceTemp := by
  obtain ⟨hnone, hmax⟩ := hottestMember_hottestOf s
  rcases hh : s.hottestMember with _ | t
  · obtain ⟨i, hi⟩ := hsome
    exact absurd hi (by simp [hnone hh i (mem_bbuIds i)])
  · have ht : s.sourceTemp = t := by
      rw [State.sourceTemp, hsource, hh]
      rfl
    obtain ⟨⟨i, _, hi, e⟩, hle⟩ := hmax t hh
    exact ⟨⟨i, hi, by rw [ht, e]⟩, fun j hj => ht ▸ hle j (mem_bbuIds j) hj⟩

theorem sourceTemp_inlet {s : State} (hsource : s.recharge.sourceInForce = .inlet) : s.sourceTemp = s.pubValue inletPoint := by
  rw [State.sourceTemp, hsource]

theorem queueReport_headNeed (s : State) :
    s.queueReport.headNeed = (s.seq.queue.head?.map fun n => s.settings.slots[n].need) := rfl

end Sys2Proof.Machine

open Sys2Proof Sys2Proof.Machine

/-- Settles O28: each of these queries answers with a report of the state it leaves as it is; what is said of the reports' fields are the
lemmas on times, notice bits and the source temperature above. -/
theorem plainQueriesReportTheRecords : Obligations.PlainQueriesReportTheRecords := by
  intro s tag h
  refine ⟨accepts_of_ok rfl h rfl, accepts_of_ok rfl h ?_, accepts_of_ok rfl h rfl, accepts_of_ok rfl h rfl, accepts_of_ok rfl h rfl,
    accepts_of_ok rfl h rfl, accepts_of_ok rfl h rfl, ?_, ?_, fun unit k hunit => ⟨rfl, reportTime_whole hunit k⟩,
    ⟨rfl, noticeVector_bit s, seconds_in_range, sourceTemp_inlet, sourceTemp_hottest⟩, rfl⟩
  · rw [← gatedBy_eq]
    rfl
  · rw [show s.queueReport.queue = s.seq.queue.map fun n => (n, s.settings.slots[n].need) from rfl, List.map_map]
    exact List.map_id _
  · rw [queueReport_headNeed]
    cases s.seq.queue <;> rfl
end

section
/-! PROOFS. O29: the bulk reads, their records and the sizes of their bodies. -/

namespace Sys2Proof.Machine

/-- R171: the number of records answered with. -/
def bulkCount (size largest : Nat) (first count : Byte) : Nat := min (max 1 count.toNat) (min largest (size - first.toNat))

theorem bulk_inside {size largest : Nat} {first count : Byte} {report : Nat → Nat → Ack} {s : State} (h : first.toNat < size) :
    bulk size largest first count report s = .ok (s, report first.toNat (bulkCount size largest first count)) := by
  rw [bulk, takeBulk, if_pos h]
  rfl

theorem slice_eq {α β : Type} (ids : List α) (f : α → β) (first n : Nat) :
    slice ids f first n = ((ids.map f).drop first).take n := by
  rw [slice, List.map_take, List.map_drop]

theorem slice_length {α β : Type} {ids : List α} {f : α → β} {size largest : Nat} {first count : Byte} (hsize : ids.length = size) :
    (slice ids f first.toNat (bulkCount size largest first count)).length = bulkCount size largest first count := by
  rw [slice, List.length_map, List.length_take, List.length_drop, hsize]
  exact Nat.min_eq_left (Nat.le_trans (Nat.min_le_right ..) (Nat.min_le_right ..))

theorem bulkCount_le (size largest : Nat) (first count : Byte) : bulkCount size largest first count ≤ largest :=
  Nat.le_trans (Nat.min_le_right ..) (Nat.min_le_left ..)

/-! ### What the records of the bulk reads hold -/

theorem analogSettings_rope {p : PointId} (h : 21 ≤ p.val) (s : State) : s.analogSettings p = none :=
  dif_neg (by omega)

theorem analogSettings_analog (q : AnalogId) (s : State) : s.analogSettings (AnalogId.point q) = some s.settings.points[q] :=
  dif_pos q.isLt

theorem senseReport_rope {p : PointId} (h : 21 ≤ p.val) (s : State) :
    (s.senseReport p).alarm = none ∧ (s.senseReport p).settings = none := by
  refine ⟨?_, analogSettings_rope h s⟩
  show (if decide (p.val < 21) = true then _ else none) = none
  exact if_neg (by simp; omega)

theorem senseReport_analog (q : AnalogId) (s : State) :
    (s.senseReport (AnalogId.point q)).alarm = some s.sense.points[AnalogId.point q].alarm ∧
      (s.senseReport (AnalogId.point q)).settings = some s.settings.points[q] := by
  refine ⟨?_, analogSettings_analog q s⟩
  show (if decide (q.val < 21) = true then _ else none) = _
  exact if_pos (decide_eq_true q.isLt)

theorem psuReport_absent {s : State} {k : PsuId} (h : s.budget.psus[k].state = .absent) :
    s.psuReport k = ⟨k, false, .absent, false, false, 0, false, false⟩ := if_pos h

theorem psuReport_present {s : State} {k : PsuId} (h : s.budget.psus[k].state ≠ .absent) :
    s.psuReport k =
      { psu := k, present := true, state := s.budget.psus[k].state, acOk := s.budget.psus[k].acOk, dcOk := s.budget.psus[k].dcOk,
        current := s.sense.pub[psuIPoint k].value, stale := s.sense.pub[psuIPoint k].stale,
        alarm := s.sense.pub[psuIPoint k].alarm } := if_neg h

/-- R59: the fields that an ABSENT BBU reports as zero, and the ones that it reports as they stand. -/
theorem bbuReport_eq (s : State) (i : BbuId) :
    let b := s.charge.bbus[i]
    let here := b.state ≠ .absent
    s.bbuReport i =
      { bbu := i, present := here, state := b.state, q := if here then b.q else 0, r := if here then b.r else 0,
        calibrated := here && b.calibrated, bottomed := here && b.bottomed, full := here && b.full, taper := b.taper,
        health := b.health, settings := s.settings.bbus[i] } := by
  unfold State.bbuReport
  generalize s.charge.bbus[i] = b
  by_cases h : b.state = .absent
  · simp [h]
  · simp [h]

theorem causeReport_eq (s : State) (c : CauseId) :
    let x := s.causes.recs[c]
    s.causeReport c =
      { cause := c, assigned := decide (c.val < 29 ∨ 32 ≤ c.val), condition := x.condition, pending := x.pending, count := x.count,
        value := x.value, code := x.code, mask := s.settings.masks[c].mask, alertEnable := s.settings.masks[c].alertEnable,
        queued := decide (c ∈ s.causes.outbox) } := by
  intro x
  have hqueued : s.causes.outbox.contains c = decide (c ∈ s.causes.outbox) := List.contains_eq_mem ..
  rw [← hqueued]
  rfl

/-! ### The sizes of the bodies (R171) -/

/-- The KIND, the first index, the count, the records and the summary fit a frame. -/
theorem bulk_sized {size largest record rest : Nat} {first count kind : Byte} {report : Nat → Nat → Ack} {s t : State} {a : Ack}
    (hfirst : first.toNat < size) (hj : bulk size largest first count report s = .ok (t, a))
    (hfits : 3 + record * largest + rest ≤ 248)
    (hlen : ((report first.toNat (bulkCount size largest first count)).fields).length =
      2 + record * bulkCount size largest first count + rest) :
    (a.body kind).length = 3 + record * bulkCount size largest first count + rest ∧ (a.body kind).length ≤ 248 := by
  rw [bulk_inside hfirst] at hj
  cases hj
  have hle := Nat.mul_le_mul_left record (bulkCount_le size largest first count)
  rw [body_length, hlen]
  omega

theorem records_length {α β : Type} {ids : List α} {f : α → β} {bytes : β → List Byte} {record size largest : Nat}
    {first count : Byte} (hrecord : ∀ x, (bytes x).length = record) (hsize : ids.length = size) :
    ((slice ids f first.toNat (bulkCount size largest first count)).flatMap bytes).length =
      record * bulkCount size largest first count := by
  rw [flatMap_length bytes record hrecord, slice_length hsize]

theorem slotRecord_length (s : State) (n : SlotId) : (s.slotRecord n).length = 22 := rfl

theorem slotRecords_length (s : State) {first count : Byte} :
    ((slice slotIds s.slotRecord first.toNat (bulkCount 24 11 first count)).flatten).length =
      22 * bulkCount 24 11 first count := by
  have hlen := slice_length (f := s.slotRecord) (largest := 11) (first := first) (count := count) (show slotIds.length = 24 from rfl)
  rw [slice, List.length_map] at hlen
  rw [slice, ← List.flatMap_def, flatMap_length _ 22 (slotRecord_length s), hlen]

theorem slots_fields_length (f m : Nat) (records : List Byte) :
    (Ack.slots ([0x17#8, byteOf f, byteOf m] ++ records)).fields.length = 2 + records.length + 0 :=
  Nat.add_comm records.length 2

theorem bulkFields_length {f m record rest : Nat} {records summary : List Byte} (hrecords : records.length = record * m)
    (hrest : summary.length = rest) : (bulkBytes f m records summary).length = 2 + record * m + rest := by
  rw [bulkBytes_length, hrecords, hrest]

end Sys2Proof.Machine

open Sys2Proof Sys2Proof.Machine

/-- Settles O29: a bulk read inside its table is `bulk_inside`; its records are read off the reports, and its size is that of so many
records of a fixed size. -/
theorem bulkReadsAreClamped : Obligations.BulkReadsAreClamped := by
  intro s tag first count h f n entry
  have hpoints : pointIds.length = 29 := rfl
  have hcauses : causeIds.length = 137 := List.length_ofFn
  refine ⟨fun hf => ?_, fun hf => ?_, fun hf => ?_, fun hf => ?_, fun hf => ?_, fun hf => ?_,
    fun p => ⟨rfl, fun hp => senseReport_rope hp s, fun q hq => hq ▸ senseReport_analog q s⟩,
    fun k => ⟨psuReport_absent, psuReport_present⟩, ⟨rfl, fun ht => ?_, fun m ht => ?_⟩, bbuReport_eq s, fun z => rfl, causeReport_eq s, rfl,
    fun hf a t hj => ?_, fun hf a t hj => ?_, fun hf a t hj => ?_, fun hf a t hj => ?_, fun hf a t hj => ?_, fun hf a t hj => ?_,
    fun hf a t hj => ?_⟩
  · rw [← slice_eq]
    exact accepts_of_ok rfl h (show runGetSense first count s = _ from bulk_inside hf)
  · rw [← slice_eq]
    exact accepts_of_ok rfl h (show runGetPsu first count s = _ from bulk_inside hf)
  · rw [← slice_eq]
    exact accepts_of_ok rfl h (show runGetBbu first count s = _ from bulk_inside hf)
  · rw [← slice_eq]
    exact accepts_of_ok rfl h (show runGetTargets first count s = _ from bulk_inside hf)
  · rw [← slice_eq]
    exact accepts_of_ok rfl h (show runGetZones first count s = _ from bulk_inside hf)
  · rw [← slice_eq]
    exact accepts_of_ok rfl h (show runGetCauses first count s = _ from bulk_inside hf)
  · show reportTime 100 s.budget.timer = 0
    rw [ht]
    rfl
  · show reportTime 100 s.budget.timer = m
    rw [ht, reportTime_whole (by decide)]
  · exact bulk_sized hf (show runGetSense first count s = _ from hj) (by decide)
      (bulkFields_length (records_length senseReport_bytes_length hpoints) rfl)
  · exact bulk_sized hf (show runGetPsu first count s = _ from hj) (by decide)
      (bulkFields_length (records_length psuReport_bytes_length rfl) (budgetSummary_bytes_length _))
  · exact bulk_sized hf (show runGetBbu first count s = _ from hj) (by decide)
      (bulkFields_length (records_length bbuReport_bytes_length rfl) rfl)
  · exact bulk_sized hf (show runGetTargets first count s = _ from hj) (by decide)
      (bulkFields_length (records_length targetEntry_bytes_length (List.length_range ..)) rfl)
  · exact bulk_sized hf (show runGetSlots first count s = _ from hj) (by decide) (by
      rw [slots_fields_length, slotRecords_length s])
  · exact bulk_sized hf (show runGetZones first count s = _ from hj) (by decide)
      (bulkFields_length (records_length zoneReport_bytes_length rfl) rfl)
  · exact bulk_sized hf (show runGetCauses first count s = _ from hj) (by decide)
      (bulkFields_length (records_length causeReport_bytes_length hcauses) (causeSummary_bytes_length _))
end

section
/-! PROOFS. O30: the slot record of R173, the outcome lists and the codes of R172. -/

namespace Sys2Proof.Machine

/-! ### Bytes and words -/

theorem le16_bytes (w : BitVec 16) : le16 (w.extractLsb' 0 8) (w.extractLsb' 8 8) = w := by
  unfold le16
  apply BitVec.eq_of_getLsbD_eq
  intro i hi
  rw [BitVec.getLsbD_append]
  by_cases h : i < 8
  · simp [h, BitVec.getLsbD_extractLsb']
  · have hi' : i - 8 < 8 := by omega
    have he : 8 + (i - 8) = i := by omega
    simp [h, BitVec.getLsbD_extractLsb', hi', he]

/-- R173: a word is read back modulo its width. -/
theorem le16_wordBytes (n : Nat) :
    (le16 ((BitVec.ofNat 16 n).extractLsb' 0 8) ((BitVec.ofNat 16 n).extractLsb' 8 8)).toNat = n % 65536 := by
  rw [le16_bytes, BitVec.toNat_ofNat]

theorem byteOf_small {n : Nat} (h : n < 256) : (byteOf n).toNat = n := by
  rw [byteOf, BitVec.toNat_ofNat, Nat.mod_eq_of_lt h]

theorem byteOf_toNat (b : Byte) : byteOf b.toNat = b := by simp [byteOf]

/-! ### The slot record -/

theorem flagBits (a b c d e f : Bool) :
    let v := byteOf ((if a then 1 else 0) + (if b then 2 else 0) + (if c then 4 else 0) + (if d then 8 else 0) + (if e then 16 else 0) +
      (if f then 32 else 0))
    v.getLsbD 0 = a ∧ v.getLsbD 1 = b ∧ v.getLsbD 2 = c ∧ v.getLsbD 3 = d ∧ v.getLsbD 4 = e ∧ v.getLsbD 5 = f ∧
      v.getLsbD 6 = false ∧ v.getLsbD 7 = false := by
  revert a b c d e f
  decide

theorem slotFlags_bits (set : SlotSettings) (x : Slot) :
    let v := byteOf (slotFlags set x)
    v.getLsbD 0 = set.enabled ∧ v.getLsbD 1 = set.autoRestore ∧ v.getLsbD 2 = (set.role == .leak) ∧ v.getLsbD 3 = x.restore ∧
      v.getLsbD 4 = x.pg ∧ v.getLsbD 5 = x.en ∧ v.getLsbD 6 = false ∧ v.getLsbD 7 = false := by
  have h := flagBits set.enabled set.autoRestore (set.role == .leak) x.restore x.pg x.en
  simp only [beq_iff_eq] at h
  exact h

theorem commitment_lt {set : SlotSettings} (h : set.legal) (x : Slot) : commitment set x < 65536 := by
  obtain ⟨-, hreq, hinrush, -⟩ := h
  unfold commitment
  split <;> (try split) <;> omega

theorem slotCode_lt (x : SlotState) : x.code < 256 := by cases x <;> decide
theorem reasonCode_lt (x : ShedReason) : x.code < 256 := by cases x <;> decide
theorem urgencyCode_lt (x : Urgency) : x.code < 256 := by cases x <;> decide
theorem classCode_lt (x : SlotClass) : x.code < 256 := by cases x <;> decide

theorem slotRecord_zone (s : State) (n : SlotId) : ((s.slotRecord n)[11]?).getD 0 = zoneByte s.settings.slots[n].zone := by
  show byteOf _ = _
  generalize s.settings.slots[n].zone = zone
  cases zone <;> rfl

theorem queuePlace_none {s : State} {n : SlotId} (h : n ∉ s.seq.queue) : s.queuePlace n = 255 := by
  rw [State.queuePlace, if_neg (by simpa using h)]

theorem queuePlace_some {s : State} {n : SlotId} (h : n ∈ s.seq.queue) : s.queuePlace n = s.seq.queue.idxOf n := by
  rw [State.queuePlace, if_pos (by simpa using h)]

/-! ### The places of the records in a body -/

theorem flatMap_getElem {α β : Type} {f : α → List β} {k : Nat} (h : ∀ a, (f a).length = k) {j : Nat} (hj : j < k) :
    ∀ (l : List α) (i : Nat), (l.flatMap f)[k * i + j]? = l[i]?.bind fun a => (f a)[j]?
  | [], i => by simp
  | a :: l, 0 => by
    rw [List.flatMap_cons, List.getElem?_append_left (by rw [h]; omega)]
    simp
  | a :: l, i + 1 => by
    rw [List.flatMap_cons, List.getElem?_append_right (by rw [h, Nat.mul_succ]; omega), h,
      show k * (i + 1) + j - k = k * i + j by rw [Nat.mul_succ]; omega, flatMap_getElem h hj l i]
    rfl

theorem slotIds_getElem (k : SlotId) : slotIds[k.val]? = some k := by revert k; decide

/-- The record of slot `k` among those of a read that reaches it. -/
theorem slotRecords_getElem (s : State) {f m j : Nat} {k : SlotId} (hj : j < 22) (hlo : f ≤ k.val) (hhi : k.val < f + m) :
    ((slice slotIds s.slotRecord f m).flatten)[22 * (k.val - f) + j]? = (s.slotRecord k)[j]? := by
  rw [slice, ← List.flatMap_def, flatMap_getElem (slotRecord_length s) hj, List.getElem?_take_of_lt (by omega), List.getElem?_drop,
    show f + (k.val - f) = k.val by omega, slotIds_getElem]
  rfl

/-- R172: the three bytes of an outcome. -/
def SlotOutcome.bytes (e : SlotOutcome) : List Byte := [byteOf e.slot.val, byteOf e.result.code, byteOf e.state.code]

theorem slotList_body (kind : Byte) (es : List SlotOutcome) : (Ack.slotList es).body kind = kind :: es.flatMap SlotOutcome.bytes := rfl

theorem outcome_getElem {i : Nat} (hi : i < 3) (kind : Byte) (es : List SlotOutcome) (j : Nat) :
    ((Ack.slotList es).body kind)[1 + i + 3 * j]? = es[j]?.bind fun e => e.bytes[i]? := by
  rw [slotList_body, show 1 + i + 3 * j = 3 * j + i + 1 by omega, List.getElem?_cons_succ,
    flatMap_getElem (f := SlotOutcome.bytes) (fun _ => rfl) hi]

end Sys2Proof.Machine

open Sys2Proof Sys2Proof.Machine

/-- Settles O30: each byte of the record is read off its definition, and the places in a list of records of one size are those of
`flatMap_getElem`. -/
theorem slotRecordsHaveTheirLayout : Obligations.SlotRecordsHaveTheirLayout := by
  intro s
  refine ⟨fun tag first count h hfirst => ?_, fun n hlegal => ?_, fun kind es j => ?_, ?_⟩
  · refine ⟨_, accepts_of_ok rfl h (show runGetSlots first count s = _ from bulk_inside hfirst), ?_, ?_, ?_, fun k j hj hlo hhi => ?_⟩
    · rw [List.length_append, slotRecords_length]
      rfl
    · rw [List.length_append, slotRecords_length]
      have := bulkCount_le 24 11 first count
      simp only [List.length_cons, List.length_nil]
      omega
    · rw [byteOf_toNat]
      rfl
    · rw [show 3 + 22 * (k.val - first.toNat) + j = 22 * (k.val - first.toNat) + j + 3 by omega]
      exact slotRecords_getElem s hj hlo hhi
  · intro set x r byte word
    obtain ⟨he, ha, hrole, hrest, hpg, hen, h6, h7⟩ := slotFlags_bits set x
    have hword : ∀ k, k < 65536 → k % 65536 = k := fun k => Nat.mod_eq_of_lt
    have hcommit := commitment_lt hlegal x
    obtain ⟨hrank, hreq, hinrush, -, hsoak, -, hdrain⟩ := hlegal
    refine ⟨rfl, rfl, he, ha, hrole, hrest, hpg, hen, h6, h7, byteOf_small (classCode_lt _), byteOf_small (Nat.lt_succ_of_le hrank),
      (le16_wordBytes _).trans (hword _ ?_), (le16_wordBytes _).trans (hword _ ?_), (le16_wordBytes _).trans (hword _ ?_),
      byteOf_small ?_, fun hz => ?_, fun z hz => ?_, byteOf_small (slotCode_lt _), byteOf_small (reasonCode_lt _),
      byteOf_small (urgencyCode_lt _), fun hn => ?_, fun hn hlen => ?_, le16_wordBytes _, le16_wordBytes _,
      (le16_wordBytes _).trans (hword _ hcommit)⟩
    · omega
    · omega
    · omega
    · omega
    · exact (slotRecord_zone s n).trans (congrArg zoneByte hz)
    · exact (congrArg BitVec.toNat ((slotRecord_zone s n).trans (congrArg zoneByte hz))).trans (byteOf_small (by omega))
    · show byteOf (s.queuePlace n) = _
      rw [queuePlace_none hn]
      rfl
    · show (byteOf (s.queuePlace n)).toNat = _
      rw [queuePlace_some hn]
      exact byteOf_small (Nat.lt_trans (Nat.lt_of_lt_of_le (List.idxOf_lt_length_of_mem hn) hlen) (by decide))
  · refine ⟨?_, rfl, ?_, ?_, ?_⟩
    · rw [slotList_body, List.length_cons, flatMap_length SlotOutcome.bytes 3 fun _ => rfl]
      omega
    · exact (outcome_getElem (by decide : 0 < 3) kind es j).trans (by cases es[j]? <;> rfl)
    · exact (outcome_getElem (by decide : 1 < 3) kind es j).trans (by cases es[j]? <;> rfl)
    · exact (outcome_getElem (by decide : 2 < 3) kind es j).trans (by cases es[j]? <;> rfl)
  · decide
end

section
/-! PROOFS. O19: each request is read back from its own frame. -/

namespace Sys2Proof

open Sys2Proof.Machine

theorem le32_bytes (w : BitVec 32) :
    le32 (w.extractLsb' 0 8) (w.extractLsb' 8 8) (w.extractLsb' 16 8) (w.extractLsb' 24 8) = w := by
  unfold le32
  apply BitVec.eq_of_getLsbD_eq
  intro i hi
  simp only [BitVec.getLsbD_append, BitVec.getLsbD_extractLsb']
  by_cases h0 : i < 8
  · simp [h0]
  by_cases h1 : i < 16
  · have e : 8 + (i - 8) = i := by omega
    have hlt : i - 8 < 8 := by omega
    simp [h0, hlt, e]
  by_cases h2 : i < 24
  · have e : 16 + (i - 8 - 8) = i := by omega
    have hge : ¬ i - 8 < 8 := by omega
    have hlt : i - 8 - 8 < 8 := by omega
    simp [h0, hge, hlt, e]
  · have e : 24 + (i - 8 - 8 - 8) = i := by omega
    have hge : ¬ i - 8 < 8 := by omega
    have hge' : ¬ i - 8 - 8 < 8 := by omega
    have hlt : i - 8 - 8 - 8 < 8 := by omega
    simp [h0, hge, hge', hlt, e]

/-! ### The bodies of the SET requests -/

theorem limit_ofBytes (w : LimitW) : LimitW.ofBytes w.bytes = some w := by
  simp only [LimitW.bytes, bytes32, bytes16, List.cons_append, List.nil_append, LimitW.ofBytes, le32_bytes, le16_bytes]

theorem charge_ofBytes (w : ChargeW) : ChargeW.ofBytes w.bytes = some w := by
  simp only [ChargeW.bytes, bytes32, bytes16, List.cons_append, List.nil_append, ChargeW.ofBytes, le32_bytes, le16_bytes]

theorem holdup_ofBytes (w : HoldupW) : HoldupW.ofBytes w.bytes = some w := by
  simp only [HoldupW.bytes, bytes16, List.cons_append, List.nil_append, HoldupW.ofBytes, le16_bytes]

theorem recharge_ofBytes (w : RechargeW) : RechargeW.ofBytes w.bytes = some w := by
  simp only [RechargeW.bytes, bytes16, List.cons_append, List.nil_append, RechargeW.ofBytes, le16_bytes]

theorem slot_ofBytes (w : SlotW) : SlotW.ofBytes w.bytes = some w := by
  simp only [SlotW.bytes, bytes16, List.cons_append, List.nil_append, SlotW.ofBytes, le16_bytes]

theorem sequence_ofBytes (w : SequenceW) : SequenceW.ofBytes w.bytes = some w := by
  simp only [SequenceW.bytes, bytes16, List.cons_append, List.nil_append, SequenceW.ofBytes, le16_bytes]

theorem zone_ofBytes (w : ZoneW) : ZoneW.ofBytes w.bytes = some w := by
  simp only [ZoneW.bytes, bytes16, List.cons_append, List.nil_append, ZoneW.ofBytes, le16_bytes]

theorem budget_ofBytes (w : BudgetW) : BudgetW.ofBytes w.bytes = some w := by
  simp only [BudgetW.bytes, DerateW.bytes, bytes16, List.cons_append, List.nil_append, BudgetW.ofBytes, le16_bytes]

theorem ranges_ofBytes (w : RangesW) : RangesW.ofBytes w.bytes = some w := by
  simp only [RangesW.bytes, RangeW.bytes, bytes16, List.cons_append, List.nil_append, RangesW.ofBytes, le16_bytes]

theorem decodeTargets_bytes : ∀ entries : List TargetW, decodeTargets (entries.flatMap TargetW.bytes) = some entries
  | [] => rfl
  | e :: entries => by
    simp only [List.flatMap_cons, TargetW.bytes, bytes32, List.cons_append, List.nil_append, decodeTargets,
      decodeTargets_bytes entries, le32_bytes, Option.map_some]

theorem decodeMasks_bytes : ∀ entries : List MaskW, decodeMasks (entries.flatMap MaskW.bytes) = some entries
  | [] => rfl
  | e :: entries => by
    simp only [List.flatMap_cons, MaskW.bytes, List.cons_append, List.nil_append, decodeMasks, decodeMasks_bytes entries,
      Option.map_some]

/-! ### Whole frames -/

theorem decodeFrame_of_kind {f : Frame} {k : Kind} {c : Instr} (hof : Kind.ofByte f.kind = some k)
    (hbody : decodeBody k f.tag f.body = some c) : Kind.ofByte f.kind ≠ none ∧ decodeFrame f = .ok c := by
  refine ⟨hof ▸ nofun, ?_⟩
  rw [decodeFrame, hof]
  simp only [hbody]

/-- A request is read back, or its KIND is not of the catalogue. -/
theorem request_readBack {c : Instr} {f : Frame} (hwf : c.kindIsUnknown = true) (hf : encodeRequest c = some f) :
    (Kind.ofByte f.kind = none ∧ c = .unknownKind f.tag f.kind) ∨ (Kind.ofByte f.kind ≠ none ∧ decodeFrame f = .ok c) := by
  cases c
  case unknownKind tag kind =>
    cases hf
    exact .inl ⟨Option.isNone_iff_eq_none.1 hwf, rfl⟩
  case getStatus | getSense | getPsu | getBbu | getReserve | getTargets | getRanges | getSlots | getQueue | getZones | getCauses
    | getTransferRecord | getTest | getProfileInfo | armTargets | powerUp | powerDown | releaseSlot | clearZone | clearLatch
    | clearCause | holdAll | releaseAll | startTest | abortTest | clearTransferRecord | storeProfile | lockProfile =>
    cases hf
    exact .inr (decodeFrame_of_kind rfl rfl)
  case setLimit tag point w =>
    cases hf
    exact .inr (decodeFrame_of_kind rfl (congrArg (Option.map (Instr.setLimit tag point)) (limit_ofBytes w)))
  case setBudget tag w =>
    cases hf
    exact .inr (decodeFrame_of_kind rfl (congrArg (Option.map (Instr.setBudget tag)) (budget_ofBytes w)))
  case setChargeParams tag bbu w =>
    cases hf
    exact .inr (decodeFrame_of_kind rfl (congrArg (Option.map (Instr.setChargeParams tag bbu)) (charge_ofBytes w)))
  case setTargets tag mode entries =>
    cases hf
    exact .inr (decodeFrame_of_kind rfl (congrArg (Option.map (Instr.setTargets tag mode)) (decodeTargets_bytes entries)))
  case setRanges tag w =>
    cases hf
    exact .inr (decodeFrame_of_kind rfl (congrArg (Option.map (Instr.setRanges tag)) (ranges_ofBytes w)))
  case setHoldup tag w =>
    cases hf
    exact .inr (decodeFrame_of_kind rfl (congrArg (Option.map (Instr.setHoldup tag)) (holdup_ofBytes w)))
  case setRecharge tag w =>
    cases hf
    exact .inr (decodeFrame_of_kind rfl (congrArg (Option.map (Instr.setRecharge tag)) (recharge_ofBytes w)))
  case setSlot tag slot w =>
    cases hf
    exact .inr (decodeFrame_of_kind rfl (congrArg (Option.map (Instr.setSlot tag slot)) (slot_ofBytes w)))
  case setSequence tag w =>
    cases hf
    exact .inr (decodeFrame_of_kind rfl (congrArg (Option.map (Instr.setSequence tag)) (sequence_ofBytes w)))
  case setZone tag zone w =>
    cases hf
    exact .inr (decodeFrame_of_kind rfl (congrArg (Option.map (Instr.setZone tag zone)) (zone_ofBytes w)))
  case setLine tag mode survey =>
    cases hf
    exact .inr (decodeFrame_of_kind rfl (congrArg (fun v => some (Instr.setLine tag mode v)) (le16_bytes survey)))
  case setMasks tag alert entries =>
    cases hf
    exact .inr (decodeFrame_of_kind rfl (congrArg (Option.map (Instr.setMasks tag alert)) (decodeMasks_bytes entries)))
  case setCharge tag bbu value =>
    cases hf
    exact .inr (decodeFrame_of_kind rfl (congrArg (fun v => some (Instr.setCharge tag bbu v)) (le32_bytes value)))
  all_goals cases hf

theorem frame_length (f : Frame) : f.bytes.length = 6 + f.body.length := by
  simp only [Frame.bytes, Frame.covered, bytes16, List.length_cons, List.length_append, List.length_nil]
  omega

end Sys2Proof

open Sys2Proof Sys2Proof.Machine

/-- Settles O19, by the round trip of each field width, each body and the repeated entries. -/
theorem requestsSurviveTheirFrames : Obligations.RequestsSurviveTheirFrames := by
  intro c f hwf hf
  rw [Instr.wf, Bool.and_eq_true, Bool.and_eq_true] at hwf
  obtain ⟨⟨hfits, hkind⟩, -⟩ := hwf
  have hbody : f.body.length ≤ 248 := by
    rw [Instr.fitsFrame, hf] at hfits
    simpa using hfits
  refine ⟨frame_length f, frame_length f ▸ by omega, ?_⟩
  rcases request_readBack hkind hf with ⟨hnone, -⟩ | ⟨hsome, hdecode⟩
  · rw [if_pos hnone, decodeFrame, hnone]
  · rw [if_neg hsome, hdecode]
end

section
/-! PROOFS. O20 and O21: the receiver, byte by byte, and the frame it offers. -/

namespace Sys2Proof.Machine

/-- The part with its receiver in another state. -/
def State.hearing (s : State) (rx : RxState) : State := s.setLink { s.link with rx := rx }

theorem hearing_self {s : State} {rx : RxState} (h : s.link.rx = rx) : s.hearing rx = s := by
  rw [← h]
  rfl

theorem receiveByte_hearing (b : Byte) (s : State) (rx : RxState) :
    receiveByte b (s.hearing rx) =
      ((rxByte b rx).2.elim (s.hearing (rxByte b rx).1) fun f => acceptFrame f (s.hearing (rxByte b rx).1)) := by
  show receiveByte b (s.hearing rx) = _
  unfold receiveByte
  simp only [State.hearing, State.setLink_link]
  cases (rxByte b rx).2 <;> rfl

/-- A byte after which nothing comes out yet. -/
theorem receiveByte_silent {b : Byte} {rx next : RxState} (h : rxByte b rx = (next, none)) (s : State) :
    receiveByte b (s.hearing rx) = s.hearing next := by
  rw [receiveByte_hearing, h]
  rfl

/-- What the receiver makes of bytes, one after another. -/
def receiveBytes (bytes : List Byte) (s : State) : State := bytes.foldl (fun s b => receiveByte b s) s

theorem receiveBytes_cons (b : Byte) (bytes : List Byte) (s : State) :
    receiveBytes (b :: bytes) s = receiveBytes bytes (receiveByte b s) := rfl

theorem receiveBytes_append (as bs : List Byte) (s : State) : receiveBytes (as ++ bs) s = receiveBytes bs (receiveBytes as s) :=
  List.foldl_append

theorem exec_frameReceived {s : State} (hout : ∀ cold, s.phase ≠ .inReset cold) (bytes : List Byte) :
    exec (.frameReceived bytes) s = .next (receiveBytes bytes s) := by
  show Host.Outcome.next (whenOut (receiveBytes bytes) s) = _
  congr 1
  unfold whenOut
  split
  · exact absurd ‹_› (hout _)
  · rfl
  · rfl

theorem frameLen_append {bytes : List Byte} (h : bytes ≠ []) (b : Byte) : frameLen (bytes ++ [b]) = frameLen bytes := by
  cases bytes with
  | nil => exact absurd rfl h
  | cons len rest => rfl

/-- The body up to its last byte. -/
theorem receive_body (s : State) : ∀ (rest bytes : List Byte), bytes ≠ [] → rest ≠ [] →
    bytes.length + rest.length = 3 + frameLen bytes → receiveBytes rest (s.hearing (.body bytes)) = s.hearing (.check (bytes ++ rest))
  | [], _, _, hrest, _ => absurd rfl hrest
  | [b], bytes, hbytes, _, hlen => by
    refine receiveByte_silent ?_ s
    simp only [rxByte, List.length_append, List.length_singleton, frameLen_append hbytes]
    rw [if_neg (by simp at hlen; omega)]
  | b :: c :: rest, bytes, hbytes, _, hlen => by
    have hmore : rxByte b (.body bytes) = (.body (bytes ++ [b]), none) := by
      simp only [rxByte, List.length_append, List.length_singleton, frameLen_append hbytes]
      rw [if_pos (by simp at hlen; omega)]
    rw [receiveBytes_cons, receiveByte_silent hmore,
      receive_body s (c :: rest) (bytes ++ [b]) (by simp) (by simp) (by rw [frameLen_append hbytes]; simp at hlen ⊢; omega)]
    simp

theorem body_ofNat {n : Nat} (h : n ≤ 248) : (BitVec.ofNat 8 n).toNat = n := by
  rw [BitVec.toNat_ofNat]
  omega

/-- SOF, LEN, KIND, TAG and body bring the receiver to CHECK. -/
theorem receive_covered {s : State} {f : Frame} (h : s.link.rx = .hunt) (hlen : f.body.length ≤ 248) :
    receiveBytes (0xA5#8 :: f.covered) s = s.hearing (.check f.covered) := by
  have hn := body_ofNat hlen
  have hfirst : rxByte (BitVec.ofNat 8 f.body.length) .length = (.header [BitVec.ofNat 8 f.body.length], none) := by
    simp only [rxByte, hn, hlen, if_true]
  have hsof : receiveByte 0xA5#8 (s.hearing .hunt) = s.hearing .length := receiveByte_silent rfl s
  have hkind : rxByte f.kind (.header [BitVec.ofNat 8 f.body.length]) = (.header [BitVec.ofNat 8 f.body.length, f.kind], none) := rfl
  rw [← hearing_self h]
  show receiveBytes f.body (receiveByte f.tag (receiveByte f.kind (receiveByte _ (receiveByte _ (s.hearing .hunt))))) = _
  rw [hsof, receiveByte_silent hfirst, receiveByte_silent hkind]
  by_cases hempty : f.body = []
  · have htag : rxByte f.tag (.header [BitVec.ofNat 8 f.body.length, f.kind]) = (.check f.covered, none) := by
      simp [rxByte, frameLen, Frame.covered, hempty]
    rw [receiveByte_silent htag, hempty]
    rfl
  · have hpos : f.body.length ≠ 0 := fun e => hempty (List.length_eq_zero_iff.1 e)
    have htag : rxByte f.tag (.header [BitVec.ofNat 8 f.body.length, f.kind]) =
        (.body [BitVec.ofNat 8 f.body.length, f.kind, f.tag], none) := by
      simp only [rxByte, frameLen, List.length_append, List.length_cons, List.length_nil, hn, List.cons_append, List.nil_append]
      rw [if_neg (by omega), if_neg hpos]
    rw [receiveByte_silent htag, receive_body s f.body _ (by simp) hempty]
    · rfl
    · simp only [frameLen, hn, List.length_cons, List.length_nil]

/-- R166: at CHECK the frame is the one whose CRC is the one computed. -/
theorem checkFrame_covered {f : Frame} (hlen : f.body.length ≤ 248) (c0 c1 : Byte) :
    checkFrame (f.covered ++ [c0, c1]) = if le16 c0 c1 = crc16 f.covered then some f else none := by
  have hn : frameLen (f.covered ++ [c0, c1]) = f.body.length := body_ofNat hlen
  have hcovered : 3 + f.body.length = f.covered.length := by
    simp only [Frame.covered, List.length_cons]
    omega
  unfold checkFrame
  rw [hn, hcovered, List.take_left, List.drop_left]
  rfl

theorem receive_whole {s : State} {f : Frame} (h : s.link.rx = .hunt) (hlen : f.body.length ≤ 248) (c0 c1 : Byte) :
    receiveBytes (0xA5#8 :: (f.covered ++ [c0, c1])) s = if le16 c0 c1 = crc16 f.covered then acceptFrame f s else s := by
  have hcovered : f.covered.length = 3 + f.body.length := by
    simp only [Frame.covered, List.length_cons]
    omega
  have hlong : ∀ b, frameLen (f.covered ++ [b]) = f.body.length := fun b => body_ofNat hlen
  have hlonger : frameLen (f.covered ++ [c0, c1]) = f.body.length := body_ofNat hlen
  have hfirst : rxByte c0 (.check f.covered) = (.check (f.covered ++ [c0]), none) := by
    simp only [rxByte, hlong, List.length_append, List.length_singleton, hcovered]
    rw [if_pos (by omega)]
  have hlast : rxByte c1 (.check (f.covered ++ [c0])) = (.hunt, checkFrame (f.covered ++ [c0, c1])) := by
    simp only [rxByte, List.append_assoc, List.cons_append, List.nil_append, hlonger, List.length_append, List.length_cons,
      List.length_nil, hcovered]
    rw [if_neg (by omega)]
  rw [show 0xA5#8 :: (f.covered ++ [c0, c1]) = (0xA5#8 :: f.covered) ++ [c0, c1] from rfl, receiveBytes_append,
    receive_covered h hlen, receiveBytes_cons, receiveByte_silent hfirst, receiveBytes_cons, receiveByte_hearing, hlast,
    checkFrame_covered hlen, hearing_self h]
  by_cases hcrc : le16 c0 c1 = crc16 f.covered
  · rw [if_pos hcrc, if_pos hcrc]
    rfl
  · rw [if_neg hcrc, if_neg hcrc]
    rfl

theorem receive_frame {s : State} {f : Frame} (h : s.link.rx = .hunt) (hlen : f.body.length ≤ 248) :
    receiveBytes f.bytes s = acceptFrame f s := by
  show receiveBytes (0xA5#8 :: (f.covered ++ [_, _])) s = _
  rw [receive_whole h hlen, if_pos (le16_bytes _)]

theorem receive_noSof {s : State} {b : Byte} (h : s.link.rx = .hunt) (hb : b ≠ 0xA5#8) : receiveBytes [b] s = s := by
  have hsilent : rxByte b .hunt = (.hunt, none) := by
    simp only [rxByte]
    rw [if_neg (by exact hb)]
  have := receiveByte_silent hsilent s
  rwa [hearing_self h] at this

theorem receive_overLong {s : State} {len : Byte} (h : s.link.rx = .hunt) (hlen : 248 < len.toNat) :
    receiveBytes [0xA5#8, len] s = s := by
  have hsilent : rxByte len .length = (.hunt, none) := by
    simp only [rxByte]
    rw [if_neg (by omega)]
  have hsof : receiveByte 0xA5#8 (s.hearing .hunt) = s.hearing .length := receiveByte_silent rfl s
  have hnext := receiveByte_silent hsilent s
  rw [← hsof, hearing_self h] at hnext
  exact hnext

/-! ### The frame of a request is the request -/

theorem judgeFrame_request {c : Instr} {f : Frame} (hwf : c.kindIsUnknown = true) (hf : encodeRequest c = some f) (s : State) :
    judgeFrame f s = perform c s := by
  rcases request_readBack hwf hf with ⟨hnone, hc⟩ | ⟨-, hdecode⟩
  · rw [hc, judgeFrame, decodeFrame, hnone]
    rfl
  · rw [judgeFrame, hdecode]

theorem acceptFrame_alone {s : State} (hqueue : s.link.queue = []) (hcan : s.canExecute = true) (f : Frame) :
    acceptFrame f s = answer f.tag f.kind (judgeFrame f s) s := by
  have hoffer : offerFrame f s = s.setLink { s.link with queue := [f] } := by
    rw [offerFrame, hqueue]
    rfl
  have hback : (s.setLink { s.link with queue := [f] }).setLink { s.link with queue := [] } = s := by
    rw [← hqueue]
    rfl
  have hcan' : (s.setLink { s.link with queue := [f] }).canExecute = true := hcan
  unfold acceptFrame executeHead
  rw [hoffer, hcan']
  show answer f.tag f.kind (judgeFrame f ((s.setLink { s.link with queue := [f] }).setLink { s.link with queue := [] }))
    ((s.setLink { s.link with queue := [f] }).setLink { s.link with queue := [] }) = _
  rw [hback]

theorem serveTransmitter_phase (s : State) : (serveTransmitter s).phase = s.phase := base_phase (serveTransmitter_base s)

/-- An execution reply that waits or goes out is not done away with by the arrival of a frame. -/
theorem offerFrame_stops {s : State} (h : s.canExecute = false) (f : Frame) : (offerFrame f s).canExecute = false := by
  unfold offerFrame
  split
  · exact h
  · split
    · rcases (canExecute_false_iff s).1 h with hphase | hreplies
      · refine (canExecute_false_iff _).2 (.inl ?_)
        rw [pushReply, serveTransmitter_phase]
        exact hphase
      · refine (canExecute_false_iff _).2 (.inr (serveTransmitter_replies ?_))
        rw [executionReplies_eq] at hreplies ⊢
        simp only [State.setLink_link, List.countP_append]
        omega
    · exact h

theorem acceptFrame_waits {s : State} (h : s.canExecute = false) (f : Frame) : acceptFrame f s = offerFrame f s := by
  unfold acceptFrame executeHead
  rw [offerFrame_stops h f]
  rfl

end Sys2Proof.Machine

open Sys2Proof Sys2Proof.Machine

/-- Settles O20: the bytes bring the frame, which spells the request, and R168 finds it alone in the queue or leaves it there. -/
theorem receivedFrameRunsItsRequest : Obligations.ReceivedFrameRunsItsRequest := by
  intro c f s hwf hf hrx hqueue
  rw [Instr.wf, Bool.and_eq_true, Bool.and_eq_true] at hwf
  obtain ⟨⟨hfits, hkind⟩, -⟩ := hwf
  have hbody : f.body.length ≤ 248 := by
    rw [Instr.fitsFrame, hf] at hfits
    simpa using hfits
  by_cases hreset : ∃ cold, s.phase = .inReset cold
  · obtain ⟨cold, hcold⟩ := hreset
    have hrequest : exec c s = .next s := by
      rw [exec_of_request (c := c) (by rw [hf]; rfl) s, request, hf]
      simp only [hcold]
    rw [hrequest]
    show Host.Outcome.next (whenOut _ s) = _
    rw [whenOut, hcold]
  · have hout : ∀ cold, s.phase ≠ .inReset cold := fun cold e => hreset ⟨cold, e⟩
    rw [exec_frameReceived hout, receive_frame hrx hbody]
    by_cases hcan : s.canExecute = true
    · have honce : s.atOnce = true := by rw [State.atOnce, hcan, hqueue hcan]; rfl
      rw [exec_atOnce hf honce, acceptFrame_alone (hqueue hcan) hcan, judgeFrame_request hkind hf]
    · have hno : s.canExecute = false := Bool.eq_false_iff.2 hcan
      have honce : s.atOnce = false := by rw [State.atOnce, hno]; rfl
      rw [exec_waits hf honce hout, acceptFrame_waits hno]

/-- Settles O21, by the receiver's state after each byte of a frame. -/
theorem receiverOffersGoodFramesAlone : Obligations.ReceiverOffersGoodFramesAlone := by
  intro s hout
  have hhunt : whenOut huntAgain s = { s with link := { s.link with rx := .hunt } } := by
    unfold whenOut
    split
    · exact absurd ‹_› (hout _)
    · rfl
    · rfl
  refine ⟨congrArg Host.Outcome.next hhunt, congrArg Host.Outcome.next hhunt, fun hrx => ⟨fun f hlen => ?_, fun f c0 c1 hlen hcrc => ?_,
    fun b hb => ?_, fun len hlen => ?_⟩⟩
  · rw [exec_frameReceived hout, receive_frame hrx hlen]
  · rw [exec_frameReceived hout, receive_whole hrx hlen, if_neg hcrc]
  · rw [exec_frameReceived hout, receive_noSof hrx hb]
  · rw [exec_frameReceived hout, receive_overLong hrx hlen]
end

section
/-! PROOFS. O23: the end of a frame on TXD, the head of the request queue, and the bytes, bits and rate of the line. -/

namespace Sys2Proof.Machine

/-! ### The end of a frame -/

theorem exec_txFrameEnd_idle {s : State} (h : s.link.tx = none) : exec .txFrameEnd s = .next s := by
  have hend : endFrame s = s := by
    unfold endFrame
    rw [h]
  show Host.Outcome.next (whenOut endFrame s) = _
  congr 1
  unfold whenOut
  split
  · rfl
  · exact hend
  · exact hend

theorem exec_txFrameEnd {s : State} (hout : ∀ cold, s.phase ≠ .inReset cold) (h : s.link.tx ≠ none) :
    exec .txFrameEnd s = .next (executeHead (serveTransmitter (s.setLink { s.link with tx := none }))) := by
  obtain ⟨x, hx⟩ := Option.ne_none_iff_exists'.1 h
  have hend : endFrame s = executeHead (serveTransmitter (s.setLink { s.link with tx := none })) := by
    unfold endFrame
    rw [hx]
  show Host.Outcome.next (whenOut endFrame s) = _
  rw [← hend]
  congr 1
  unfold whenOut
  split
  · exact absurd ‹_› (hout _)
  · rfl
  · rfl

theorem serveTransmitter_reply {s : State} {r : Reply} {rest : List Reply} (htx : s.link.tx = none) (hr : s.link.replies = r :: rest) :
    serveTransmitter s = s.setLink { s.link with tx := some (.reply r), replies := rest } := by
  unfold serveTransmitter
  rw [htx]
  simp only
  rw [hr]

theorem serveTransmitter_rests {s : State} (htx : s.link.tx = none) (hr : s.link.replies = [])
    (hout : s.causes.hold = true ∨ s.causes.outbox = []) : serveTransmitter s = s := by
  unfold serveTransmitter
  rw [htx]
  simp only
  rw [hr]
  simp only
  split
  · rfl
  · rcases hout with hhold | hempty
    · exact absurd hhold ‹_›
    · rw [hempty]

theorem serveTransmitter_notice {s : State} {c : CauseId} {rest : List CauseId} (htx : s.link.tx = none) (hr : s.link.replies = [])
    (hhold : s.causes.hold = false) (hhead : s.causes.outbox = c :: rest) : serveTransmitter s = s.beginNotice c rest := by
  unfold serveTransmitter
  rw [htx]
  simp only
  rw [hr]
  simp only
  rw [hhold, hhead]
  rfl

/-! ### The head of the request queue (R168) -/

theorem executeHead_stays {u : State} (h : u.canExecute = false ∨ u.link.queue = []) : executeHead u = u := by
  unfold executeHead
  split
  · rcases h with hcan | hqueue
    · cases hcan.symm.trans ‹u.canExecute = true›
    · rw [hqueue]
  · rfl

theorem executeHead_head {u : State} {f : Frame} {rest : List Frame} (hcan : u.canExecute = true) (hqueue : u.link.queue = f :: rest) :
    executeHead u =
      answer f.tag f.kind (judgeFrame f (u.setLink { u.link with queue := rest })) (u.setLink { u.link with queue := rest }) := by
  unfold executeHead
  rw [if_pos hcan, hqueue]

/-! ### Bits of the line (R165) -/

theorem uartBits_getElem (b : Byte) {j : Nat} (hj : j < 10) :
    (uartBits b)[j]? = some (if j = 0 then false else if j = 9 then true else b.getLsbD (j - 1)) := by
  interval_cases j <;> rfl

theorem txdLevel_eq (u : State) (k : Nat) :
    u.txdLevel k = (u.txd[k / 10]?.elim true fun b => if k % 10 = 0 then false else if k % 10 = 9 then true else b.getLsbD (k % 10 - 1)) := by
  have hplace := flatMap_getElem uartBits_length (Nat.mod_lt k (by decide : 0 < 10)) u.txd (k / 10)
  rw [Nat.div_add_mod] at hplace
  rw [State.txdLevel, State.txdBits, hplace]
  cases u.txd[k / 10]? with
  | none => rfl
  | some b => simp only [Option.bind_some, uartBits_getElem b (Nat.mod_lt k (by decide : 0 < 10)), Option.getD_some, Option.elim_some]

theorem packedBits (b0 b1 b2 b3 b4 b5 b6 b7 : Bool) :
    let v := byteOf (packFlags [b0, b1, b2, b3, b4, b5, b6, b7])
    v.getLsbD 0 = b0 ∧ v.getLsbD 1 = b1 ∧ v.getLsbD 2 = b2 ∧ v.getLsbD 3 = b3 ∧ v.getLsbD 4 = b4 ∧ v.getLsbD 5 = b5 ∧
      v.getLsbD 6 = b6 ∧ v.getLsbD 7 = b7 := by
  revert b0 b1 b2 b3 b4 b5 b6 b7
  decide

theorem packed_byte (b : Byte) :
    byteOf (packFlags [b.getLsbD 0, b.getLsbD 1, b.getLsbD 2, b.getLsbD 3, b.getLsbD 4, b.getLsbD 5, b.getLsbD 6, b.getLsbD 7]) = b := by
  obtain ⟨h0, h1, h2, h3, h4, h5, h6, h7⟩ := packedBits (b.getLsbD 0) (b.getLsbD 1) (b.getLsbD 2) (b.getLsbD 3) (b.getLsbD 4)
    (b.getLsbD 5) (b.getLsbD 6) (b.getLsbD 7)
  apply BitVec.eq_of_getLsbD_eq
  intro i hi
  interval_cases i
  · exact h0
  · exact h1
  · exact h2
  · exact h3
  · exact h4
  · exact h5
  · exact h6
  · exact h7

theorem uartByte_iff (bits : List Bool) (b : Byte) :
    uartByte bits = some b ↔
      bits =
        [false, b.getLsbD 0, b.getLsbD 1, b.getLsbD 2, b.getLsbD 3, b.getLsbD 4, b.getLsbD 5, b.getLsbD 6, b.getLsbD 7, true] := by
  constructor
  · intro h
    unfold uartByte at h
    split at h
    · next b0 b1 b2 b3 b4 b5 b6 b7 =>
      obtain ⟨h0, h1, h2, h3, h4, h5, h6, h7⟩ := packedBits b0 b1 b2 b3 b4 b5 b6 b7
      rw [← Option.some.inj h, h0, h1, h2, h3, h4, h5, h6, h7]
    · cases h
  · intro h
    rw [h]
    exact congrArg some (packed_byte b)

end Sys2Proof.Machine

open Sys2Proof Sys2Proof.Machine

/-- Settles O23: the transmitter takes the oldest reply, else a notice, else nothing, and the request queue is looked at after it; the
line is read off the frames' bytes. -/
theorem transmitRule : Obligations.TransmitRule := by
  refine ⟨fun s => exec_txFrameEnd_idle, fun s hout htx => ⟨fun r rest hr => ?_, fun hr hnone => ?_, fun c rest hr hhold hhead => ?_⟩,
    fun u => ⟨executeHead_stays, fun f rest hcan hqueue => ⟨fun c hc => ?_, fun hc => ?_, fun hc => ?_⟩⟩,
    fun u => ⟨fun h => ?_, fun n h => ?_, fun tag kind code h => ?_, fun tag kind fields h => ?_, fun k => ?_, uartByte_iff, fun h => ?_,
      fun h => ?_, fun h => ?_⟩⟩
  · rw [exec_txFrameEnd hout htx, serveTransmitter_reply (s := s.setLink { s.link with tx := none }) rfl hr]
    rfl
  · rw [exec_txFrameEnd hout htx, serveTransmitter_rests (s := s.setLink { s.link with tx := none }) rfl hr hnone]
    rfl
  · rw [exec_txFrameEnd hout htx, serveTransmitter_notice (s := s.setLink { s.link with tx := none }) rfl hr hhold hhead]
    rfl
  · rw [executeHead_head hcan hqueue, judgeFrame, hc]
    rfl
  · rw [executeHead_head hcan hqueue, judgeFrame, hc]
    rfl
  · rw [executeHead_head hcan hqueue, judgeFrame, hc]
    rfl
  · rw [State.txd, h]
  · rw [State.txd, h]
    rfl
  · rw [State.txd, h]
    rfl
  · rw [State.txd, h]
    rfl
  · rw [txdLevel_eq]
    cases u.txd[k / 10]? <;> rfl
  · rcases h with h | h <;> rw [Link.rate, h] <;> rfl
  · rw [Link.rate, h]
    rfl
  · rw [Link.rate, h]
    rfl
end

section
/-! PROOFS. O27: SET_MASKS, CLEAR_CAUSE and the global hold. -/

namespace Sys2Proof.Machine

/-! ### The lock on masks and the global alert-enable (R177) -/

theorem set_eq_self_iff {α : Type} {k : Nat} (v : Vector α k) (i : Fin k) (x : α) : v.set i x = v ↔ v[i] = x := by
  constructor
  · intro h
    rw [← h, get_set_same]
  · rintro rfl
    exact Vector.set_getElem_self _

theorem lockAllows_masks (s : State) (alert : Bool) (masks : Vector MaskSettings 137) :
    s.lockAllows { s.settings with globalAlert := alert, masks := masks } = true ↔
      (s.store.lockGeneral = true → alert = s.settings.globalAlert ∧ masks = s.settings.masks) := by
  have hgeneral : s.settings.general = Settings.general { s.settings with globalAlert := alert, masks := masks } ↔
      alert = s.settings.globalAlert ∧ masks = s.settings.masks := by
    constructor
    · intro h
      exact ⟨(congrArg GeneralView.globalAlert h).symm, (congrArg GeneralView.masks h).symm⟩
    · rintro ⟨rfl, rfl⟩
      rfl
  rw [← hgeneral]
  have hsafety : Settings.safety { s.settings with globalAlert := alert, masks := masks } = s.settings.safety := rfl
  have horder : Settings.order { s.settings with globalAlert := alert, masks := masks } = s.settings.order := rfl
  unfold State.lockAllows
  rw [hsafety, horder]
  cases s.store.lockGeneral <;> simp

theorem lockAllows_alert (s : State) (alert : Bool) :
    s.lockAllows { s.settings with globalAlert := alert } = true ↔ (s.store.lockGeneral = true → alert = s.settings.globalAlert) := by
  have h := lockAllows_masks s alert s.settings.masks
  simp only [and_true] at h
  exact h

theorem lockAllows_mask (s : State) (c : CauseId) (x : MaskSettings) :
    s.lockAllows { s.settings with masks := s.settings.masks.set c x } = true ↔
      (s.store.lockGeneral = true → s.settings.masks[c] = x) := by
  have h := lockAllows_masks s s.settings.globalAlert (s.settings.masks.set c x)
  simp only [true_and, set_eq_self_iff] at h
  exact h

/-- A list is allowed when no entry of it would change a locked field. -/
theorem masksAllowed_iff (s : State) (alert : Bool) (es : List (CauseId × MaskSettings)) :
    s.masksAllowed alert es = true ↔
      (s.store.lockGeneral = true → alert = s.settings.globalAlert ∧ ∀ e ∈ es, s.settings.masks[e.1] = e.2) := by
  simp only [State.masksAllowed, Bool.and_eq_true, List.all_eq_true, lockAllows_alert, lockAllows_mask]
  exact ⟨fun ⟨ha, he⟩ hl => ⟨ha hl, fun e h => he e h hl⟩, fun h => ⟨fun hl => (h hl).1, fun e he hl => (h hl).2 e he⟩⟩

/-- The lock judges one entry as it judges the settings that it gives. -/
theorem masksAllowed_single (s : State) (alert : Bool) (c : CauseId) (x : MaskSettings) :
    s.masksAllowed alert [(c, x)] = s.lockAllows { s.settings with globalAlert := alert, masks := s.settings.masks.set c x } := by
  rw [Bool.eq_iff_iff, masksAllowed_iff, lockAllows_masks, set_eq_self_iff]
  simp

/-! ### The entries of SET_MASKS -/

/-- Other masks and another outbox. -/
def State.withMasks (s : State) (masks : Vector MaskSettings 137) (outbox : List CauseId) : State :=
  (s.setSettings { s.settings with masks := masks }).setCauses { s.causes with outbox := outbox }

/-- R158: what one entry does to the outbox. -/
def maskedOutbox (s : State) (c : CauseId) (mask : Bool) : List CauseId :=
  if mask && !s.settings.masks[c].mask then s.causes.outbox.filter (· ≠ c)
  else if s.settings.masks[c].mask && !mask && s.causes.recs[c].pending && !s.causes.outbox.contains c then s.causes.outbox ++ [c]
  else s.causes.outbox

theorem joinOutbox_unmasked {s : State} {c : CauseId} (h : s.settings.masks[c].mask = false) :
    joinOutbox c s = s.setCauses { s.causes with outbox := if s.causes.outbox.contains c then s.causes.outbox else s.causes.outbox ++ [c] } := by
  unfold joinOutbox
  rw [h, Bool.false_or]
  split <;> rfl

theorem takeMaskEntry_eq (s : State) (c : CauseId) (x : MaskSettings) :
    takeMaskEntry (c, x) s = s.withMasks (s.settings.masks.set c x) (maskedOutbox s c x.mask) := by
  unfold takeMaskEntry maskedOutbox
  by_cases hmask : (x.mask && !s.settings.masks[c].mask) = true
  · simp only [hmask, if_true]
    rfl
  · simp only [hmask, Bool.false_eq_true, if_false, State.setSettings_causes]
    by_cases hopen : (s.settings.masks[c].mask && !x.mask && s.causes.recs[c].pending) = true
    · have hclear : x.mask = false := by
        cases hx : x.mask
        · rfl
        · simp [hx] at hopen
      simp only [hopen, if_true, Bool.true_and]
      rw [joinOutbox_unmasked (by rw [State.setSettings_settings, get_set_same, hclear])]
      simp only [State.setSettings_causes]
      by_cases hc : s.causes.outbox.contains c = true
      · simp only [hc]
        rfl
      · simp only [hc]
        rfl
    · simp only [hopen, Bool.false_and, Bool.false_eq_true, if_false]
      rfl

/-- The masks after a list of entries. -/
def masksAfter (es : List (CauseId × MaskSettings)) (masks : Vector MaskSettings 137) : Vector MaskSettings 137 :=
  es.foldl (fun ms e => ms.set e.1 e.2) masks

theorem takeMaskEntries_withMasks (es : List (CauseId × MaskSettings)) (s : State) : ∀ (masks : Vector MaskSettings 137) (out : List CauseId),
    ∃ out', es.foldl (fun s e => takeMaskEntry e s) (s.withMasks masks out) = s.withMasks (masksAfter es masks) out' := by
  induction es with
  | nil => exact fun masks out => ⟨out, rfl⟩
  | cons e es ih =>
    intro masks out
    obtain ⟨out', h⟩ := ih (masks.set e.1 e.2) (maskedOutbox (s.withMasks masks out) e.1 e.2.mask)
    refine ⟨out', ?_⟩
    rw [List.foldl_cons, takeMaskEntry_eq]
    exact h

/-- R158: of several entries for a cause the last stands. -/
theorem masksAfter_get (es : List (CauseId × MaskSettings)) (masks : Vector MaskSettings 137) (c : CauseId) :
    (masksAfter es masks)[c] = (es.reverse.find? fun e => e.1 == c).elim masks[c] fun e => e.2 := by
  induction es using List.reverseRecOn with
  | nil => rfl
  | append_singleton es e ih =>
    have hlast : masksAfter (es ++ [e]) masks = (masksAfter es masks).set e.1 e.2 := List.foldl_append
    rw [hlast, get_set, List.reverse_append, List.reverse_singleton, List.singleton_append, List.find?_cons]
    by_cases h : e.1 = c
    · rw [if_pos h, beq_iff_eq.2 h]
      rfl
    · rw [if_neg h, beq_eq_false_iff_ne.2 h]
      exact ih

theorem runSetMasks_eq {alert : Byte} {list : List MaskW} {es : List (CauseId × MaskSettings)} (s : State) (hlen : list.length ≤ 82)
    (hes : takeMasks list = some es) :
    runSetMasks alert list s =
      demand (s.masksAllowed (takeFlag alert) es) .locked
        (.ok (judgeAlert (es.foldl (fun s e => takeMaskEntry e s) (s.adopt { s.settings with globalAlert := takeFlag alert })),
          .masks (judgeAlert (es.foldl (fun s e => takeMaskEntry e s)
            (s.adopt { s.settings with globalAlert := takeFlag alert }))).settings.globalAlert es)) := by
  rw [runSetMasks, demand_true (decide_eq_true hlen), hes]
  rfl

/-! ### CLEAR_CAUSE (R159) -/

/-- The record of a cleared cause. -/
def clearedRecord (r : Cause) (event : Bool) : Cause := ⟨r.condition && !event, false, 0, 0, 0⟩

theorem clearCause_recs (c : CauseId) (s : State) :
    (clearCause c s).causes.recs = s.causes.recs.set c (clearedRecord s.causes.recs[c] (eventSource c)) := by
  unfold clearCause
  by_cases he : eventSource c = true
  · simp only [he, if_true]
    rw [reportCondition_recs, State.setCauses_causes, get_set_same, Vector.set_set]
    simp [clearedRecord]
  · simp [he, clearedRecord]

theorem clearCause_frame (c : CauseId) (s : State) :
    clearCause c s =
      { s with
        causes :=
          { s.causes with
            recs := (clearCause c s).causes.recs, alert := (clearCause c s).causes.alert,
            outbox := s.causes.outbox.filter (· ≠ c) } } := by
  unfold clearCause
  by_cases he : eventSource c = true
  · simp only [he, if_true]
    rw [reportCondition_frame]
    rfl
  · simp only [he, Bool.false_eq_true, if_false]
    rfl

theorem reportCondition_keepsAlert {c : CauseId} {active : Bool} {s : State} (h : s.causes.alert = s.alertLevel) :
    (reportCondition c active s).causes.alert = (reportCondition c active s).alertLevel := by
  by_cases hsame : s.causes.recs[c].condition = active
  · rw [reportCondition, if_pos hsame, h]
  · exact reportCondition_alert_of_changed c active s hsame

theorem clearCause_alert {c : CauseId} {s : State} (h : s.causes.alert = s.alertLevel) :
    (clearCause c s).causes.alert = (clearCause c s).alertLevel := by
  have hcleared : ∀ x : Causes, x.recs = s.causes.recs.set c { s.causes.recs[c] with pending := false, count := 0, value := 0, code := 0 } →
      x.alert = s.causes.alert → (s.setCauses x).causes.alert = (s.setCauses x).alertLevel := fun x hrecs halert => by
    have hlevel : (s.setCauses x).alertLevel = s.alertLevel := alertLevel_congr rfl fun d => by
      rw [State.setCauses_causes, hrecs, get_set]
      split
      · next e => rw [e]
      · rfl
    rw [hlevel, ← h, ← halert]
    rfl
  unfold clearCause
  by_cases he : eventSource c = true
  · simp only [he, if_true]
    exact reportCondition_keepsAlert (hcleared _ rfl rfl)
  · simp only [he, Bool.false_eq_true, if_false]
    exact hcleared _ rfl rfl

/-- What a list of clears leaves: the records of its causes cleared, and none of them in the outbox. -/
structure Cleared (cs : List CauseId) (s t : State) : Prop where
  frame : t = { s with causes := t.causes }
  hold : t.causes.hold = s.causes.hold
  outbox : t.causes.outbox = s.causes.outbox.filter (· ∉ cs)
  recs : ∀ c : CauseId, t.causes.recs[c] = if c ∈ cs then clearedRecord s.causes.recs[c] (eventSource c) else s.causes.recs[c]
  alert : s.causes.alert = s.alertLevel → t.causes.alert = t.alertLevel

theorem cleared_cons {c : CauseId} {cs : List CauseId} {s t : State} (h : Cleared cs (clearCause c s) t) : Cleared (c :: cs) s t := by
  have hframe := clearCause_frame c s
  refine ⟨?_, ?_, ?_, fun d => ?_, fun ha => h.alert (clearCause_alert ha)⟩
  · rw [h.frame, hframe]
  · rw [h.hold, hframe]
  · rw [h.outbox, hframe, List.filter_filter]
    refine List.filter_congr fun d _ => ?_
    simp [Bool.and_comm]
  · rw [h.recs d, clearCause_recs, get_set]
    by_cases hd : c = d
    · subst hd
      simp [clearedRecord, Bool.and_assoc]
    · have hd' : d ≠ c := fun e => hd e.symm
      simp [hd, hd']

theorem clearCauses_cleared (cs : List CauseId) : ∀ s : State, Cleared cs s (cs.foldl (fun s c => clearCause c s) s) := by
  induction cs with
  | nil => exact fun s => ⟨rfl, rfl, by simp, fun c => by simp, id⟩
  | cons c cs ih => exact fun s => cleared_cons (ih (clearCause c s))

end Sys2Proof.Machine

open Sys2Proof Sys2Proof.Machine

/-- Settles O27: each entry of SET_MASKS moves the masks and the outbox alone, after which ALERT is judged, and each entry of CLEAR_CAUSE
clears one record. -/
theorem masksClearsAndTheHold : Obligations.MasksClearsAndTheHold := by
  intro s tag h
  refine ⟨fun alert b m a c hc => ?_, fun alert list es hlen hes => ?_, fun list hpos hlen hnone => ?_, fun list cs hpos hlen hcs => ?_,
    accepts_of_ok rfl h rfl, accepts_of_ok rfl h rfl⟩
  · intro mask on new out old
    have hes : takeMasks [⟨b, m, a⟩] = some [(c, on)] := by
      simp only [takeMasks, takeMask, hc]
      rfl
    have hrun := runSetMasks_eq (alert := alert) s (show [(⟨b, m, a⟩ : MaskW)].length ≤ 82 from Nat.le_add_left 1 81) hes
    rw [masksAllowed_single] at hrun
    refine ⟨fun hlock => refuses_of_error rfl h (hrun.trans (demand_false hlock)), fun hlock => ?_⟩
    refine answers_of_ok rfl h (hrun.trans (demand_true hlock)) ?_
    rw [List.foldl_cons, List.foldl_nil, takeMaskEntry_eq]
    exact ⟨rfl, rfl, rfl⟩
  · intro changes
    have hrun := runSetMasks_eq (alert := alert) s hlen hes
    have hallowed : s.masksAllowed (takeFlag alert) es = true ↔ (s.store.lockGeneral = true → ¬ changes) := by
      rw [masksAllowed_iff]
      simp only [changes, not_or, not_exists, not_and, Decidable.not_not]
      rfl
    refine ⟨fun hlock hchanges => refuses_of_error rfl h (hrun.trans (demand_false ?_)), fun hok => ?_⟩
    · exact Bool.eq_false_iff.2 fun e => hallowed.1 e hlock hchanges
    · have hallow := hallowed.2 fun hlock => hok.resolve_left (by simp [hlock])
      refine answers_of_ok rfl h (hrun.trans (demand_true hallow)) ?_
      obtain ⟨out, hout⟩ := takeMaskEntries_withMasks es (s.adopt { s.settings with globalAlert := takeFlag alert })
        s.settings.masks s.causes.outbox
      have hstart : (s.adopt { s.settings with globalAlert := takeFlag alert }).withMasks s.settings.masks s.causes.outbox =
          s.adopt { s.settings with globalAlert := takeFlag alert } := rfl
      rw [hstart] at hout
      rw [hout]
      refine ⟨rfl, rfl, fun c => ?_⟩
      refine (masksAfter_get es s.settings.masks c).trans ?_
      cases es.reverse.find? fun e => e.1 == c <;> rfl
  · refine refuses_of_error rfl h ?_
    show runClearCause list s = _
    rw [runClearCause, demand_true (decide_eq_true ⟨hpos, hlen⟩), withId_none hnone]
  · have hrun : runClearCause list s = .ok (cs.foldl (fun s c => clearCause c s) s,
        .conditions (cs.map fun c => (c, (cs.foldl (fun s c => clearCause c s) s).causes.recs[c].condition))) := by
      rw [runClearCause, demand_true (decide_eq_true ⟨hpos, hlen⟩), hcs]
      rfl
    have hclear := clearCauses_cleared cs s
    exact answers_of_ok rfl h hrun ⟨hclear.frame, hclear.hold, hclear.outbox, rfl, hclear.recs, hclear.alert⟩
end

section
/-! PROOFS. What the budget unit, the sequencer and the shed controller bring with them elsewhere (`Ripple`), and what one recompute comes
to (O35). -/

namespace Sys2Proof.Machine

namespace Ripple
variable {s t u : State} {n : SlotId} {st : SlotState} {upd : Slot → Slot} {reason : ShedReason} {urgency : Urgency} {v : Int}
  {code : Byte}

theorem refl (s : State) : Ripple s s := ⟨rfl, rfl, rfl, fun _ => rfl, rfl, rfl, rfl, rfl⟩

theorem trans (h : Ripple s t) (k : Ripple t u) : Ripple s u where
  base := k.base.trans h.base
  holdup := k.holdup.trans h.holdup
  charge := by rw [k.charge, h.charge]
  bbus := fun i => by rw [k.bbus i, h.bbus i]
  budget := by rw [k.budget, h.budget]
  recharge := by rw [k.recharge, h.recharge]
  line := by rw [k.line, h.line]
  link := by rw [k.link, h.link]

/-! ### Single updates -/

theorem setSeq (h : Ripple s t) (x : Sequencer) : Ripple s (t.setSeq x) :=
  h.trans ⟨rfl, rfl, rfl, fun _ => rfl, rfl, rfl, rfl, rfl⟩

theorem setSlot (h : Ripple s t) (x : Slot) : Ripple s (t.setSlot n x) := h.setSeq _

theorem setCauses (h : Ripple s t) (x : Causes) : Ripple s (t.setCauses x) :=
  h.trans ⟨rfl, rfl, rfl, fun _ => rfl, rfl, rfl, rfl, rfl⟩

theorem setDeficit (h : Ripple s t) (d : DeficitState) (timer : Timer) :
    Ripple s (t.setBudget { t.budget with deficit := d, timer := timer }) :=
  h.trans ⟨rfl, rfl, rfl, fun _ => rfl, rfl, rfl, rfl, rfl⟩

theorem setFigures (h : Ripple s t) (sigma pChg : Nat) (hh hp : Int) (pubs : List (Int × Int)) :
    Ripple s (t.setBudget { t.budget with sigma := sigma, pChg := pChg, h := hh, hp := hp, pubs := pubs }) :=
  h.trans ⟨rfl, rfl, rfl, fun _ => rfl, rfl, rfl, rfl, rfl⟩

theorem settleHeadroom (h : Ripple s t) : Ripple s (settleHeadroom t) := h.setFigures _ _ _ _ _

theorem setSetpoint (h : Ripple s t) (x : Recharge)
    (hx : x = { t.recharge with state := x.state, iSet := x.iSet, shares := x.shares, step := x.step, floorTimer := x.floorTimer, yielded := x.yielded }) :
    Ripple s (t.setRecharge x) :=
  h.trans ⟨rfl, rfl, rfl, fun _ => rfl, rfl, hx, rfl, rfl⟩

theorem setOut (h : Ripple s t) (i : BbuId) (o : BbuOut) : Ripple s (t.setBbu i { t.charge.bbus[i] with out := o }) :=
  h.trans ⟨rfl, rfl, rfl, fun j => by
    rw [State.setBbu_charge]
    simp only [get_set]
    split
    · next e => rw [e]
    · rfl, rfl, rfl, rfl, rfl⟩

theorem setDue (h : Ripple s t) (due : Bool) (survey : Timer) :
    Ripple s (t.setLine { t.line with startDue := due, survey := survey }) :=
  h.trans ⟨rfl, rfl, rfl, fun _ => rfl, rfl, rfl, rfl, rfl⟩

theorem setSending (h : Ripple s t) (replies : List Reply) (tx : Option Sending) :
    Ripple s (t.setLink { t.link with replies := replies, tx := tx }) :=
  h.trans ⟨rfl, rfl, rfl, fun _ => rfl, rfl, rfl, rfl, rfl⟩

/-! ### Causes -/

theorem serveTransmitter (h : Ripple s t) : Ripple s (serveTransmitter t) := by
  rcases serveTransmitter_cases t with ⟨e, -⟩ | ⟨_, rest, -, -, e⟩ | ⟨_, _, -, -, -, -, e⟩ | ⟨e, -⟩ <;> rw [e]
  · exact h
  · exact h.setSending _ _
  · exact (h.setCauses _).setSending _ _
  · exact h

theorem judgeAlert (h : Ripple s t) : Ripple s (judgeAlert t) := h.setCauses _

theorem reportCondition (h : Ripple s t) (c : CauseId) (active : Bool) : Ripple s (reportCondition c active t) :=
  ite_keeps h ((h.setCauses _).setCauses _)

theorem joinOutbox (h : Ripple s t) (c : CauseId) : Ripple s (joinOutbox c t) := ite_keeps h (h.setCauses _)

theorem raise (h : Ripple s t) (c : CauseId) (v : Int) (code : Byte) : Ripple s (raise c v code t) :=
  (joinOutbox (ite_keeps (h.setCauses _).judgeAlert (h.setCauses _)) c).serveTransmitter

/-! ### Budget unit and the regulator's pause -/

theorem driveBbu (h : Ripple s t) (i : BbuId) : Ripple s (driveBbu i t) := ite_keeps (h.setOut i _) h

theorem driveBbus (h : Ripple s t) : Ripple s (driveBbus t) :=
  List.foldlRecOn bbuIds (fun s i => Machine.driveBbu i s) h fun _ hu i _ => hu.driveBbu i

theorem reshare (h : Ripple s t) : Ripple s (reshare t) := (h.setSetpoint _ rfl).driveBbus

theorem enterPaused (h : Ripple s t) : Ripple s (enterPaused v code t) :=
  ((h.setSetpoint _ rfl).reshare.reportCondition _ _).raise _ _ _

theorem enterGrace (h : Ripple s t) : Ripple s (enterGrace v code t) := ((h.setDeficit _ _).reportCondition _ _).raise _ _ _

theorem endDeficit (h : Ripple s t) : Ripple s (endDeficit t) := (h.setDeficit _ _).reportCondition _ _

theorem judgeDeficit (h : Ripple s t) : Ripple s (judgeDeficit t) := by
  rcases judgeDeficit_cases t with e | ⟨-, -, e⟩ | ⟨-, -, -, e⟩ | ⟨-, -, e⟩ <;> rw [e]
  · exact h
  · exact h.enterGrace
  · exact h.enterGrace
  · exact h.endDeficit

theorem instructRegulator (h : Ripple s t) : Ripple s (instructRegulator t) := ite_keeps h.enterPaused h

theorem recompute (h : Ripple s t) : Ripple s (recompute t) :=
  ite_keeps h.instructRegulator.settleHeadroom.judgeDeficit h.settleHeadroom

/-! ### Slots -/

theorem lineWatch (h : Ripple s t) : Ripple s (lineWatch t) := ite_keeps (h.setDue _ _) h

theorem moveSlot (h : Ripple s t) : Ripple s (moveSlot n st upd t) := ((h.setSeq _).reportCondition _ _).lineWatch

theorem shiftSlot (h : Ripple s t) : Ripple s (shiftSlot n st upd t) := h.moveSlot.recompute

theorem enterQueue (h : Ripple s t) : Ripple s (enterQueue n t) := ite_keeps h.moveSlot (h.moveSlot.setSeq _)

theorem leaveQueue (h : Ripple s t) : Ripple s (leaveQueue n t) := h.setSeq _

theorem grant (h : Ripple s t) : Ripple s (grant n t) := shiftSlot ((h.setSeq _).setSeq _)

theorem grantCheck (h : Ripple s t) : Ripple s (grantCheck t) := by
  rcases grantCheck_cases t with ⟨e, -⟩ | ⟨_, _, -, -, e⟩ <;> rw [e]
  · exact h
  · exact h.grant.setSeq _

theorem reportHead (h : Ripple s t) : Ripple s (reportHead t) := ite_keeps h (h.setSeq _)

theorem seqEvent (h : Ripple s t) : Ripple s (seqEvent t) := h.grantCheck.reportHead

theorem restoreSlot (h : Ripple s t) : Ripple s (restoreSlot n t) := ite_keeps (ite_keeps h.enterQueue (h.setSeq _)) h

theorem handOver (h : Ripple s t) : Ripple s (handOver n t) := ite_keeps h.restoreSlot.seqEvent h

theorem completeDrain (h : Ripple s t) : Ripple s (completeDrain n t) := by
  simp only [Machine.completeDrain]
  split
  · exact h.shiftSlot
  · exact h.shiftSlot.handOver

theorem settleDrain (h : Ripple s t) : Ripple s (settleDrain n t) := ite_keeps h.recompute h.completeDrain

theorem enterDraining (h : Ripple s t) : Ripple s (enterDraining n t) := h.moveSlot.settleDrain

theorem faultSlot (h : Ripple s t) : Ripple s (faultSlot n code t) := (h.moveSlot.raise _ _ _).recompute

theorem withdrawSlot (h : Ripple s t) : Ripple s (withdrawSlot n t) := h.shiftSlot

/-! ### Sheds -/

theorem unpowerSlot (h : Ripple s t) : Ripple s (unpowerSlot n reason t) := by
  unfold Machine.unpowerSlot
  split
  · exact h.moveSlot
  · exact h.moveSlot
  · exact h.moveSlot

theorem shedUnpowered (h : Ripple s t) : Ripple s (shedUnpowered n reason t) := by
  have unpowered : Ripple s (Machine.unpowerSlot n reason (Machine.leaveQueue n t)) := h.leaveQueue.unpowerSlot
  have settled : Ripple s (seqEventIf (t.seq.slots[n].state == .queued) _) := ite_keeps unpowered.seqEvent unpowered
  exact ite_keeps settled.handOver settled

theorem shedSoak (h : Ripple s t) : Ripple s (shedSoak n reason urgency t) := seqEvent (enterDraining (h.setSeq _))

theorem shedOn (h : Ripple s t) : Ripple s (shedOn n reason urgency t) := ite_keeps (enterDraining (h.setSeq _)) h.shiftSlot

theorem escalate (h : Ripple s t) : Ripple s (escalate n urgency t) := by
  unfold Machine.escalate
  split
  · exact h.enterDraining
  · exact h.enterDraining
  · exact h.enterDraining
  · exact h

theorem shedInFlight (h : Ripple s t) : Ripple s (shedInFlight n reason urgency t) := by
  rcases shedInFlight_cases n reason urgency t with e | ⟨-, -, e⟩ | ⟨-, -, -, e⟩ <;> rw [e]
  · exact h
  · exact escalate (h.setSeq _)
  · exact h.setSeq _

theorem shedSlot (h : Ripple s t) : Ripple s (shedSlot n reason urgency t) := by
  unfold Machine.shedSlot
  cases t.seq.slots[n].state with
  | off | queued => exact h.shedUnpowered
  | soak => exact h.shedSoak
  | on => exact h.shedOn
  | notice | held | draining => exact h.shedInFlight
  | faulted | locked => exact ite_keeps (h.setSeq _) h

theorem shedAll (h : Ripple s t) : Ripple s (shedAll t) := List.foldlRecOn slotIds _ h fun _ hu _ _ => hu.shedSlot

end Ripple

/-! ### What a ripple keeps -/

theorem Ripple.settings {s t : State} (h : Ripple s t) : t.settings = s.settings := base_settings h.base
theorem Ripple.sense {s t : State} (h : Ripple s t) : t.sense = s.sense := base_sense h.base
theorem Ripple.online {s t : State} (h : Ripple s t) : t.online = s.online := by rw [State.online, h.holdup]; rfl
theorem Ripple.busV {s t : State} (h : Ripple s t) : t.busV = s.busV := by rw [State.busV, State.pubValue, h.sense]; rfl
theorem Ripple.cap {s t : State} (h : Ripple s t) : t.budget.cap = s.budget.cap := by rw [h.budget]

theorem commitmentSum_congr {s t : State} (hset : t.settings = s.settings) (hseq : t.seq.slots = s.seq.slots) :
    t.commitmentSum = s.commitmentSum := by rw [State.commitmentSum, State.commitmentSum, hset, hseq]

theorem inFlightSum_congr {s t : State} (hset : t.settings = s.settings) (hseq : t.seq.slots = s.seq.slots) :
    t.inFlightSum = s.inFlightSum := by rw [State.inFlightSum, State.inFlightSum, hset, hseq]

theorem chargePower_eq (x busV : Nat) : chargePower x busV = (x * busV + 999) / 1000 := rfl

theorem chargePower_zero (busV : Nat) : chargePower 0 busV = 0 := by
  rw [chargePower_eq, Nat.zero_mul]

/-! ### One recompute -/

/-- R27, R88: under ONLINE, a negative headroom for the setpoint as it stands, while it draws power. -/
def State.mustPause (s : State) : Prop := s.online = true ∧ s.headroomNow < 0 ∧ 0 < chargePower s.recharge.iSet s.busV

/-- The state that the pair is reckoned in. -/
def State.instructed (s : State) : State := if s.online then instructRegulator s else s

theorem enterPaused_recharge (v : Int) (code : Byte) (s : State) : (enterPaused v code s).recharge = (s.recharge.stopped .paused).shared := by
  rw [enterPaused_eq, raise_recharge, reportCondition_recharge, reshare_recharge, State.setRecharge_recharge]

theorem instructed_of_pause {s : State} (h : s.mustPause) : s.instructed = enterPaused s.budget.h codeNegativeH s := by
  rw [State.instructed, if_pos h.1, instructRegulator, if_pos h.2]

theorem instructed_of_not {s : State} (h : ¬ s.mustPause) : s.instructed = s := by
  unfold State.instructed
  split
  · next hon => exact if_neg fun hneg => h ⟨hon, hneg⟩
  · rfl

theorem instructed_ripple (s : State) : Ripple s s.instructed := ite_keeps (Ripple.refl s).instructRegulator (Ripple.refl s)

theorem instructed_seq (s : State) : s.instructed.seq = s.seq := by
  unfold State.instructed
  split
  · exact instructRegulator_seq s
  · rfl

theorem instructed_budget (s : State) : s.instructed.budget = s.budget := by
  unfold State.instructed
  split
  · exact instructRegulator_budget s
  · rfl

theorem recompute_online {s : State} (h : s.online = true) : recompute s = judgeDeficit (settleHeadroom s.instructed) := by
  rw [recompute, if_pos h, State.instructed, if_pos h]

theorem recompute_offline {s : State} (h : s.online = false) : recompute s = settleHeadroom s.instructed := by
  rw [recompute, State.instructed, if_neg (by simp [h]), if_neg (by simp [h])]

theorem enterGrace_budget (v : Int) (code : Byte) (s : State) :
    (enterGrace v code s).budget = { s.budget with deficit := .grace, timer := some (s.settings.budget.grace * 100) } := by
  rw [enterGrace, raise_budget, reportCondition_budget, State.setBudget_budget]

theorem judgeDeficit_budget (s : State) :
    (judgeDeficit s).budget = { s.budget with deficit := (judgeDeficit s).budget.deficit, timer := (judgeDeficit s).budget.timer } := by
  rcases judgeDeficit_cases s with e | ⟨-, -, e⟩ | ⟨-, -, -, e⟩ | ⟨-, -, e⟩ <;> rw [e]
  · rw [enterGrace_budget]
  · rw [enterGrace_budget]
  · rw [endDeficit_budget]

theorem judgeDeficit_recharge (s : State) : (judgeDeficit s).recharge = s.recharge := by
  rcases judgeDeficit_cases s with e | ⟨-, -, e⟩ | ⟨-, -, -, e⟩ | ⟨-, -, e⟩ <;> rw [e]
  · rw [enterGrace, raise_recharge, reportCondition_recharge, State.setBudget_recharge]
  · rw [enterGrace, raise_recharge, reportCondition_recharge, State.setBudget_recharge]
  · exact endDeficit_recharge s

/-- R26: the published pairs after the pair of a recompute. -/
def State.settledPubs (s : State) : List (Int × Int) :=
  if s.headroomNow ≠ s.budget.h ∨ s.headroomNow + (s.inFlightSum : Int) ≠ s.budget.hp then
    s.budget.pubs ++ [(s.headroomNow, s.headroomNow + (s.inFlightSum : Int))]
  else s.budget.pubs

/-- R26: the budget record of the settled pair. -/
def State.settled (s : State) : Budget :=
  { s.budget with
    sigma := s.commitmentSum
    pChg := chargePower s.recharge.iSet s.busV
    h := s.headroomNow
    hp := s.headroomNow + (s.inFlightSum : Int)
    pubs := s.settledPubs }

theorem settleHeadroom_eq (s : State) : settleHeadroom s = s.setBudget s.settled := rfl

theorem settleHeadroom_recharge (s : State) : (settleHeadroom s).recharge = s.recharge := by
  rw [settleHeadroom_eq, State.setBudget_recharge]

theorem settleHeadroom_budget (s : State) : (settleHeadroom s).budget = s.settled := by
  rw [settleHeadroom_eq, State.setBudget_budget]

theorem recompute_recharge (s : State) : (recompute s).recharge = s.instructed.recharge := by
  rcases Bool.eq_false_or_eq_true s.online with h | h
  · rw [recompute_online h, judgeDeficit_recharge, settleHeadroom_recharge]
  · rw [recompute_offline h, settleHeadroom_recharge]

theorem recompute_recharge_pause {s : State} (h : s.mustPause) : (recompute s).recharge = (s.recharge.stopped .paused).shared := by
  rw [recompute_recharge, instructed_of_pause h, enterPaused_recharge]

theorem recompute_recharge_same {s : State} (h : ¬ s.mustPause) : (recompute s).recharge = s.recharge := by
  rw [recompute_recharge, instructed_of_not h]

/-- R26: the figures of a recompute, the deficit state apart. -/
theorem recompute_budget (s : State) :
    (recompute s).budget =
      { s.instructed.settled with
        deficit := (recompute s).budget.deficit, timer := (recompute s).budget.timer } := by
  rcases Bool.eq_false_or_eq_true s.online with h | h
  · rw [recompute_online h, ← settleHeadroom_budget]
    exact judgeDeficit_budget _
  · rw [recompute_offline h, ← settleHeadroom_budget]

theorem recompute_sigma (s : State) : (recompute s).budget.sigma = s.commitmentSum := by
  rw [recompute_budget, ← commitmentSum_congr (instructed_ripple s).settings (congrArg Sequencer.slots (instructed_seq s))]
  rfl

theorem recompute_pChg (s : State) : (recompute s).budget.pChg = chargePower (recompute s).recharge.iSet s.busV := by
  rw [recompute_budget, recompute_recharge, ← (instructed_ripple s).busV]
  rfl

theorem recompute_h (s : State) :
    (recompute s).budget.h =
      (s.budget.cap : Int) - (s.commitmentSum : Int) - (chargePower (recompute s).recharge.iSet s.busV : Int) := by
  rw [recompute_budget, recompute_recharge, ← (instructed_ripple s).busV, ← (instructed_ripple s).cap,
    ← commitmentSum_congr (instructed_ripple s).settings (congrArg Sequencer.slots (instructed_seq s))]
  rfl

theorem recompute_hp (s : State) : (recompute s).budget.hp = (recompute s).budget.h + (s.inFlightSum : Int) := by
  rw [recompute_budget, ← inFlightSum_congr (instructed_ripple s).settings (congrArg Sequencer.slots (instructed_seq s))]
  rfl

/-- R26: a pair joins the published ones when it differs from the last. -/
theorem published_iff (h hp h0 hp0 : Int) (pubs : List (Int × Int)) :
    (if h ≠ h0 ∨ hp ≠ hp0 then pubs ++ [(h, hp)] else pubs) = if h = h0 ∧ hp = hp0 then pubs else pubs ++ [(h, hp)] := by
  by_cases hsame : h = h0 ∧ hp = hp0
  · rw [if_pos hsame, if_neg (by simp [hsame.1, hsame.2])]
  · rw [if_neg hsame, if_pos (not_and_or.1 hsame)]

theorem settled_pubs (s : State) :
    s.settled.pubs =
      if s.settled.h = s.budget.h ∧ s.settled.hp = s.budget.hp then s.budget.pubs else s.budget.pubs ++ [(s.settled.h, s.settled.hp)] := by
  have hh : s.settled.h = s.headroomNow := by rw [State.settled]
  have hhp : s.settled.hp = s.headroomNow + (s.inFlightSum : Int) := by rw [State.settled]
  have hpubs : s.settled.pubs = s.settledPubs := by rw [State.settled]
  rw [hpubs, State.settledPubs, published_iff, hh, hhp]

theorem recompute_pubs (s : State) :
    (recompute s).budget.pubs =
      if (recompute s).budget.h = s.budget.h ∧ (recompute s).budget.hp = s.budget.hp then s.budget.pubs
      else s.budget.pubs ++ [((recompute s).budget.h, (recompute s).budget.hp)] := by
  have hh : (recompute s).budget.h = s.instructed.settled.h := by rw [recompute_budget]
  have hhp : (recompute s).budget.hp = s.instructed.settled.hp := by rw [recompute_budget]
  have hpubs : (recompute s).budget.pubs = s.instructed.settled.pubs := by rw [recompute_budget]
  rw [hpubs, hh, hhp, settled_pubs, instructed_budget]

/-! ### The status line -/

@[simp] theorem driveBbu_line (i : BbuId) (s : State) : (driveBbu i s).line = s.line := by unfold driveBbu; split <;> rfl
@[simp] theorem driveBbus_line (s : State) : (driveBbus s).line = s.line :=
  foldl_keeps State.line _ (fun s i => driveBbu_line i s) _ s
@[simp] theorem reshare_line (s : State) : (reshare s).line = s.line := by simp [reshare]

theorem enterPaused_line (v : Int) (code : Byte) (s : State) : (enterPaused v code s).line = s.line := by
  rw [enterPaused_eq, raise_line, reportCondition_line, reshare_line, State.setRecharge_line]

theorem instructed_line (s : State) : s.instructed.line = s.line := by
  by_cases h : s.mustPause
  · rw [instructed_of_pause h, enterPaused_line]
  · rw [instructed_of_not h]

theorem judgeDeficit_line (s : State) : (judgeDeficit s).line = s.line := by
  rcases judgeDeficit_cases s with e | ⟨-, -, e⟩ | ⟨-, -, -, e⟩ | ⟨-, -, e⟩ <;> rw [e]
  · rw [enterGrace, raise_line, reportCondition_line, State.setBudget_line]
  · rw [enterGrace, raise_line, reportCondition_line, State.setBudget_line]
  · rw [endDeficit, reportCondition_line, State.setBudget_line]

theorem recompute_line (s : State) : (recompute s).line = s.line := by
  rcases Bool.eq_false_or_eq_true s.online with h | h
  · rw [recompute_online h, judgeDeficit_line, settleHeadroom_eq, State.setBudget_line, instructed_line]
  · rw [recompute_offline h, settleHeadroom_eq, State.setBudget_line, instructed_line]

/-! ### Causes that are left alone -/

/-- Only causes of `P` are raised or reported. -/
def Touches (P : CauseId → Prop) (s t : State) : Prop := ∀ c, ¬ P c → Quiet c s t

namespace Touches
variable {P Q : CauseId → Prop} {s t u : State}

theorem refl (P : CauseId → Prop) (s : State) : Touches P s s := fun c _ => Quiet.refl c s

theorem trans (h : Touches P s t) (k : Touches P t u) : Touches P s u := fun c hc => (h c hc).trans (k c hc)

theorem mono (h : Touches P s t) (hPQ : ∀ c, P c → Q c) : Touches Q s t := fun c hc => h c fun hp => hc (hPQ c hp)

/-- A step on another block. -/
theorem of_same (hcauses : t.causes = s.causes) (hlink : t.link = s.link) : Touches P s t :=
  fun _ _ => .of_eq (by rw [hcauses]) (by rw [hlink])

theorem setBudget (h : Touches P s t) (x : Budget) : Touches P s (t.setBudget x) := h.trans (of_same rfl rfl)
theorem setCharge (h : Touches P s t) (x : Charge) : Touches P s (t.setCharge x) := h.trans (of_same rfl rfl)
theorem setHoldup (h : Touches P s t) (x : Holdup) : Touches P s (t.setHoldup x) := h.trans (of_same rfl rfl)
theorem setRecharge (h : Touches P s t) (x : Recharge) : Touches P s (t.setRecharge x) := h.trans (of_same rfl rfl)
theorem setSeq (h : Touches P s t) (x : Sequencer) : Touches P s (t.setSeq x) := h.trans (of_same rfl rfl)
theorem setLine (h : Touches P s t) (x : Line) : Touches P s (t.setLine x) := h.trans (of_same rfl rfl)

theorem report {c : CauseId} (h : Touches P s t) (hc : P c) (active : Bool) : Touches P s (Machine.reportCondition c active t) :=
  h.trans fun d hd => reportCondition_quiet (c := d) (d := c) (fun e => hd (by rw [← e]; exact hc)) active t

theorem raise {c : CauseId} (h : Touches P s t) (hc : P c) (v : Int) (code : Byte) : Touches P s (Machine.raise c v code t) :=
  h.trans fun d hd => raise_quiet (c := d) (d := c) (fun e => hd (by rw [← e]; exact hc)) v code t

theorem driveBbu (h : Touches P s t) (i : BbuId) : Touches P s (Machine.driveBbu i t) :=
  ite_keeps (h.trans (of_same rfl rfl)) h

theorem reshare (h : Touches P s t) : Touches P s (Machine.reshare t) :=
  List.foldlRecOn bbuIds (fun s i => Machine.driveBbu i s) (h.setRecharge _) fun _ hu i _ => hu.driveBbu i

/-- A raise is seen over the steps before it and after it, where these raise other causes. -/
theorem raised {c : CauseId} {v : Int} {code : Byte} (h : Touches P s t) (hr : RaisedFrom t u c v code) (hsend : KeepsSending t u)
    (hc : ¬ P c) : RaisedFrom s u c v code := hr.widen hsend (h c hc).toUnraised (Quiet.refl c u).toUnraised

end Touches

theorem enterPaused_touches (v : Int) (code : Byte) (s : State) : Touches (· = causeRecharge) s (enterPaused v code s) := by
  rw [enterPaused_eq]
  exact (((Touches.refl (· = causeRecharge) s).setRecharge _).reshare.report rfl true).raise rfl v code

theorem KeepsSending.of_touches {P : CauseId → Prop} {s t : State} {c : CauseId} (h : Touches P s t) (hc : ¬ P c) : KeepsSending s t :=
  (h c hc).sending

/-- A cause reported and then raised, after steps on other blocks. -/
theorem reported_raised {s t : State} (c : CauseId) (active : Bool) (v : Int) (code : Byte) (h : Touches (fun _ => False) s t) :
    RaisedFrom s (raise c v code (reportCondition c active t)) c v code :=
  (raise_raisedFrom c v code _).widen (raise_sending c v code _)
    ((h c id).toUnraised.trans (reportCondition_unraised c c active t)) (Quiet.refl c _).toUnraised

theorem enterPaused_raised (v : Int) (code : Byte) (s : State) : RaisedFrom s (enterPaused v code s) causeRecharge v code := by
  rw [enterPaused_eq]
  exact reported_raised causeRecharge true v code ((Touches.refl _ s).setRecharge _).reshare

theorem enterGrace_eq (v : Int) (code : Byte) (s : State) :
    enterGrace v code s =
      raise causeDeficit v code (reportCondition causeDeficit true
        (s.setBudget { s.budget with deficit := .grace, timer := some (s.settings.budget.grace * 100) })) := rfl

theorem enterGrace_touches (v : Int) (code : Byte) (s : State) : Touches (· = causeDeficit) s (enterGrace v code s) := by
  rw [enterGrace_eq]
  exact ((Touches.refl (· = causeDeficit) s).setBudget _ |>.report rfl true).raise rfl v code

theorem enterGrace_raised (v : Int) (code : Byte) (s : State) : RaisedFrom s (enterGrace v code s) causeDeficit v code := by
  rw [enterGrace_eq]
  exact reported_raised causeDeficit true v code ((Touches.refl _ s).setBudget _)

theorem endDeficit_touches (s : State) : Touches (· = causeDeficit) s (endDeficit s) := by
  unfold endDeficit
  exact ((Touches.refl (· = causeDeficit) s).setBudget _).report rfl false

theorem judgeDeficit_touches (s : State) : Touches (· = causeDeficit) s (judgeDeficit s) := by
  rcases judgeDeficit_cases s with e | ⟨-, -, e⟩ | ⟨-, -, -, e⟩ | ⟨-, -, e⟩ <;> rw [e]
  · exact .refl _ s
  · exact enterGrace_touches _ _ s
  · exact enterGrace_touches _ _ s
  · exact endDeficit_touches s

theorem settleHeadroom_touches (P : CauseId → Prop) (s : State) : Touches P s (settleHeadroom s) := by
  rw [settleHeadroom_eq]
  exact (Touches.refl P s).setBudget _

theorem instructed_touches (s : State) : Touches (· = causeRecharge) s s.instructed := by
  by_cases h : s.mustPause
  · rw [instructed_of_pause h]
    exact enterPaused_touches _ _ s
  · rw [instructed_of_not h]
    exact .refl _ s

/-- The causes of a recompute (R27, R28). -/
def BudgetCause (c : CauseId) : Prop := c = causeDeficit ∨ c = causeRecharge

theorem recompute_touches (s : State) : Touches BudgetCause s (recompute s) := by
  have hsettled : Touches BudgetCause s (settleHeadroom s.instructed) :=
    ((instructed_touches s).mono fun _ => Or.inr).trans (settleHeadroom_touches _ _)
  rcases Bool.eq_false_or_eq_true s.online with h | h
  · rw [recompute_online h]
    exact hsettled.trans ((judgeDeficit_touches _).mono fun _ => Or.inl)
  · rw [recompute_offline h]
    exact hsettled

theorem causeRecharge_ne_deficit : causeRecharge ≠ causeDeficit := by decide
theorem causeDeficit_ne_recharge : causeDeficit ≠ causeRecharge := by decide

/-- R88: the pause of a recompute is told with H as last published. -/
theorem recompute_raises_pause {s : State} (h : s.mustPause) : RaisedFrom s (recompute s) causeRecharge s.budget.h codeNegativeH := by
  rw [recompute_online h.1, instructed_of_pause h]
  generalize hu : enterPaused s.budget.h codeNegativeH s = u
  have hraised : RaisedFrom s u causeRecharge s.budget.h codeNegativeH := hu ▸ enterPaused_raised _ _ s
  have htouches : Touches (· = causeRecharge) s u := hu ▸ enterPaused_touches _ _ s
  have hafter : Touches (· = causeDeficit) u (judgeDeficit (settleHeadroom u)) :=
    (settleHeadroom_touches _ u).trans (judgeDeficit_touches _)
  exact hraised.widen (htouches _ causeDeficit_ne_recharge).sending (Quiet.refl _ s).toUnraised
    (hafter _ causeRecharge_ne_deficit).toUnraised

/-! ### The deficit state of a recompute -/

/-- A grace that a recompute begins. -/
theorem recompute_grace {s : State} {v : Int} {code : Byte} (he : recompute s = enterGrace v code (settleHeadroom s.instructed)) :
    (recompute s).budget.deficit = .grace ∧ (recompute s).budget.timer = some (s.settings.budget.grace * 100) ∧
      RaisedFrom s (recompute s) causeDeficit v code := by
  have hset : (settleHeadroom s.instructed).settings = s.settings := (instructed_ripple s).settleHeadroom.settings
  have hbefore : Touches (· = causeRecharge) s (settleHeadroom s.instructed) :=
    (instructed_touches s).trans (settleHeadroom_touches _ _)
  rw [he]
  generalize settleHeadroom s.instructed = u at hset hbefore
  rw [enterGrace_budget, hset]
  exact ⟨rfl, rfl, hbefore.raised (enterGrace_raised v code u) ((enterGrace_touches v code u) _ causeRecharge_ne_deficit).sending
    causeDeficit_ne_recharge⟩

/-- What a recompute under ONLINE makes of the deficit state, by the state it finds and the pair it settles. -/
theorem recompute_judges {s : State} (h : s.online = true) :
    ∃ u, recompute s = judgeDeficit u ∧ u = settleHeadroom s.instructed ∧ u.budget.deficit = s.budget.deficit ∧
      u.budget.timer = s.budget.timer ∧ u.budget.h = (recompute s).budget.h ∧ u.budget.hp = (recompute s).budget.hp := by
  refine ⟨_, recompute_online h, rfl, ?_, ?_, ?_, ?_⟩
  · rw [settleHeadroom_deficit, instructed_budget]
  · rw [settleHeadroom_budget, State.settled, instructed_budget]
  · rw [recompute_budget, settleHeadroom_budget]
  · rw [recompute_budget, settleHeadroom_budget]

end Sys2Proof.Machine

open Sys2Proof Sys2Proof.Machine

/-- Settles O35: the figures are those of the settled pair, the instruction comes before it and the deficit state after it. -/
theorem headroomIsCapacityLessPromises : Obligations.HeadroomIsCapacityLessPromises := by
  intro s t power sum flight short pause d
  have hflight : s.inFlightSum = flight := by
    refine congrArg List.sum (List.map_congr_left fun n _ => ?_)
    cases s.seq.slots[n].state <;> rfl
  have hpause : pause ↔ s.mustPause := Iff.rfl
  refine ⟨(Ripple.refl s).recompute, recompute_seq s, recompute_line s, recompute_sigma s, recompute_pChg s,
    (recompute_h s).trans (by rw [← recompute_pChg]; rfl), (recompute_hp s).trans (by rw [hflight]), recompute_pubs s, fun h => ?_, fun h => recompute_recharge_same fun hp => h (hpause.2 hp),
    fun hon => ?_, fun hoff => ?_, fun hon => ?_⟩
  · have hrec := recompute_recharge_pause (hpause.1 h)
    refine ⟨?_, ?_, ?_, ?_, ?_, recompute_raises_pause (hpause.1 h)⟩ <;> rw [hrec] <;> rfl
  · by_cases hp : s.mustPause
    · refine .inr ((recompute_pChg s).trans ?_)
      rw [recompute_recharge_pause hp]
      exact chargePower_zero _
    · have hh := recompute_h s
      have hc := recompute_pChg s
      rw [recompute_recharge_same hp] at hh hc
      have hnot : ¬ (s.headroomNow < 0 ∧ 0 < chargePower s.recharge.iSet s.busV) := fun e => hp ⟨hon, e⟩
      have hnow : s.headroomNow = (recompute s).budget.h := hh.symm
      show 0 ≤ (recompute s).budget.h ∨ (recompute s).budget.pChg = 0
      omega
  · have e : (recompute s).budget = s.instructed.settled := by rw [recompute_offline hoff, settleHeadroom_budget]
    show (recompute s).budget.deficit = s.budget.deficit ∧ (recompute s).budget.timer = s.budget.timer
    rw [e, State.settled, instructed_budget]
    exact ⟨rfl, rfl⟩
  · obtain ⟨u, he, hu, hd, htimer, hh, hhp⟩ := recompute_judges hon
    have hjudge := he
    unfold judgeDeficit at hjudge
    rw [hd, hh, hhp] at hjudge
    refine ⟨fun hidle hneg => ?_, fun hstate hpos => ?_, fun hgrace hneg => ?_, fun hsel => recompute_selecting hsel,
      fun hcov hneg hcover => ?_, fun hcov hneg hshort => ?_⟩
    · rw [show s.budget.deficit = .idle from hidle] at hjudge
      simp only at hjudge
      rw [if_pos hneg, hu] at hjudge
      exact recompute_grace hjudge
    · have hpos' : ¬ (recompute s).budget.h < 0 := Int.not_lt.2 hpos
      rcases hstate with hstate | hstate | hstate
      · rw [show s.budget.deficit = .idle from hstate] at hjudge
        simp only at hjudge
        rw [if_neg hpos'] at hjudge
        exact (congrArg (fun x : State => x.budget.deficit) hjudge).trans (hd.trans hstate)
      · rw [show s.budget.deficit = .grace from hstate] at hjudge
        simp only at hjudge
        rw [if_pos hpos] at hjudge
        exact (congrArg (fun x : State => x.budget.deficit) hjudge).trans (by rw [endDeficit_budget])
      · rw [show s.budget.deficit = .covered from hstate] at hjudge
        simp only at hjudge
        rw [if_pos hpos] at hjudge
        exact (congrArg (fun x : State => x.budget.deficit) hjudge).trans (by rw [endDeficit_budget])
    · rw [show s.budget.deficit = .grace from hgrace] at hjudge
      simp only at hjudge
      rw [if_neg (Int.not_le.2 hneg)] at hjudge
      exact ⟨(congrArg (fun x : State => x.budget.deficit) hjudge).trans (hd.trans hgrace),
        (congrArg (fun x : State => x.budget.timer) hjudge).trans htimer⟩
    · rw [show s.budget.deficit = .covered from hcov] at hjudge
      simp only at hjudge
      rw [if_neg (Int.not_le.2 hneg), if_neg (Int.not_lt.2 hcover)] at hjudge
      exact (congrArg (fun x : State => x.budget.deficit) hjudge).trans (hd.trans hcov)
    · rw [show s.budget.deficit = .covered from hcov] at hjudge
      simp only at hjudge
      rw [if_neg (Int.not_le.2 hneg), if_pos hshort, hu] at hjudge
      obtain ⟨hdef, -, hraised⟩ := recompute_grace hjudge
      exact ⟨hdef, hraised⟩
end

section
/-! PROOFS. O36: SET_LIMIT and SET_BUDGET. -/

namespace Sys2Proof.Machine

/-! ### A SET whose identifiers are in range (R177) -/

theorem takeSettings_locked {s : State} {new : Settings} {effect : State → State} {ack : State → Ack}
    (h : s.lockAllows new = false) : takeSettings new effect ack s = .error .locked := demand_false h

theorem takeSettings_taken {s : State} {new : Settings} {effect : State → State} {ack : State → Ack}
    (h : s.lockAllows new = true) :
    takeSettings new effect ack s = .ok (effect (s.adopt new), ack (effect (s.adopt new))) := demand_true h

theorem withId_some {α : Type} {id : Option α} {x : α} {run : α → Judged} (h : id = some x) : withId id run = run x := by
  rw [h]
  rfl

/-! ### Clamps (R170) -/

theorem clampInt_eq (lo hi v : Int) : clampInt lo hi v = max lo (min hi v) := by rw [clampInt, Int.min_comm]

theorem clampNat_eq (lo hi v : Nat) : clampNat lo hi v = max lo (min hi v) := by rw [clampNat, Nat.min_comm]

theorem clampNat_zero (hi v : Nat) : clampNat 0 hi v = min hi v := by rw [clampNat_eq, Nat.zero_max]

theorem takeAlarmMode_latch {b : Byte} (h : 3 ≤ b.toNat) : takeAlarmMode b = .latch := by
  unfold takeAlarmMode
  split
  · omega
  · omega
  · omega
  · rfl

theorem takeDirection_below {b : Byte} (h : b ≠ 0) : takeDirection b = .below := by
  unfold takeDirection
  split
  · next e => exact absurd (BitVec.eq_of_toNat_eq e) h
  · rfl

/-! ### The derate table (R22, R23) -/

/-- The order in which equal temperatures stay as they stand. -/
def DerateEntry.le (a b : DerateEntry) : Bool := decide (a.t ≤ b.t)

theorem insertDerate_eq_merge (e : DerateEntry) : ∀ l : List DerateEntry, insertDerate e l = List.merge l [e] DerateEntry.le
  | [] => by simp [insertDerate]
  | d :: l => by
    rw [insertDerate, List.cons_merge_cons, insertDerate_eq_merge e l]
    simp [DerateEntry.le]

/-- Two insertions one after the other are the insertion of both, in their order. -/
theorem merge_merge_singleton (c d : DerateEntry) : ∀ l : List DerateEntry,
    List.merge (List.merge l [c] DerateEntry.le) [d] DerateEntry.le =
      List.merge l (List.merge [c] [d] DerateEntry.le) DerateEntry.le
  | [] => by simp
  | x :: l => by
    have ih := merge_merge_singleton c d l
    by_cases hxc : x.t ≤ c.t <;> by_cases hcd : c.t ≤ d.t
    · have hxd : x.t ≤ d.t := Int.le_trans hxc hcd
      simp_all [List.cons_merge_cons, DerateEntry.le]
    · by_cases hxd : x.t ≤ d.t <;> simp_all [List.cons_merge_cons, DerateEntry.le]
    · simp_all [List.cons_merge_cons, DerateEntry.le]
    · have hxd : ¬ x.t ≤ d.t := by omega
      simp_all [List.cons_merge_cons, DerateEntry.le]

theorem sortDerate_eq_mergeSort (a b c d : DerateEntry) : sortDerate [a, b, c, d] = [a, b, c, d].mergeSort DerateEntry.le := by
  have hsort : [a, b, c, d].mergeSort DerateEntry.le =
      List.merge (List.merge [a] [b] DerateEntry.le) (List.merge [c] [d] DerateEntry.le) DerateEntry.le := by
    simp [List.mergeSort, List.MergeSort.Internal.splitInTwo]
  rw [hsort, ← merge_merge_singleton, ← insertDerate_eq_merge, ← insertDerate_eq_merge, ← insertDerate_eq_merge]
  rfl

theorem derateFactor_eq (table : List DerateEntry) (t : Int) :
    derateFactor table t = (table.filter fun e => decide (e.t ≤ t)).getLast?.elim 256 fun e => e.f := by
  induction table using List.reverseRecOn with
  | nil => rfl
  | append_singleton l e ih =>
    rw [derateFactor, List.foldl_append, List.filter_append]
    by_cases h : e.t ≤ t
    · simp [h]
    · rw [derateFactor] at ih
      simpa [h] using ih

/-! ### SET_LIMIT -/

theorem limitTaken_eq (p : AnalogId) (s : State) :
    limitTaken p s =
      reportCondition (causePoint (AnalogId.point p))
        ((s.sense.points[AnalogId.point p].alarm && s.settings.points[p].mode != .off) || s.sense.points[AnalogId.point p].stale)
        (s.setPoint (AnalogId.point p)
          { s.sense.points[AnalogId.point p] with
            alarm := s.sense.points[AnalogId.point p].alarm && s.settings.points[p].mode != .off }) := rfl

/-! ### SET_BUDGET -/

theorem recomputeCapacity_cap (s : State) :
    (recomputeCapacity s).budget.cap =
      (s.goodPsus - s.settings.budget.nRed) * s.settings.budget.pRate *
        derateFactor s.settings.budget.derate (s.pubValue inletPoint) / 256 := rfl

theorem takeDerate_eq (w : DerateW) : takeDerate w = ⟨w.t.toInt, min 256 w.f.toNat⟩ := by
  have hlo := BitVec.le_toInt w.t
  have hhi := BitVec.toInt_lt (x := w.t)
  have ht : clampInt (-128) 127 w.t.toInt = w.t.toInt := by
    rw [clampInt_eq]
    omega
  rw [takeDerate, ht, clampNat_zero]

/-- What an accepted SET_BUDGET leaves: the capacity reckoned, then one recompute. -/
theorem recompute_capacity_budget (s : State) :
    let u := recomputeCapacity s
    let t := recompute u
    t.budget.nGood = s.goodPsus ∧ t.budget.f = derateFactor s.settings.budget.derate (s.pubValue inletPoint) ∧
      t.budget.cap = u.budget.cap ∧ t.budget.sigma = s.commitmentSum ∧ t.budget.pChg = chargePower t.recharge.iSet s.busV ∧
      t.budget.h = (t.budget.cap : Int) - (s.commitmentSum : Int) - (t.budget.pChg : Int) ∧
      t.budget.hp = t.budget.h + (s.inFlightSum : Int) := by
  intro u t
  have hripple : Ripple u t := (Ripple.refl u).recompute
  have hcap : t.budget.cap = u.budget.cap := hripple.cap
  refine ⟨?_, ?_, hcap, recompute_sigma u, recompute_pChg u, ?_, recompute_hp u⟩
  · rw [hripple.budget]
    rfl
  · rw [hripple.budget]
    rfl
  · rw [hcap]
    exact (recompute_h u).trans (by rw [← recompute_pChg u]; rfl)

end Sys2Proof.Machine

open Sys2Proof Sys2Proof.Machine

/-- Settles O36: SET_LIMIT reports one condition over the point's new settings; SET_BUDGET is the capacity and then one recompute. -/
theorem setsOfPointsAndBudget : Obligations.SetsOfPointsAndBudget := by
  intro s tag h
  refine ⟨fun b p w hp => ?_, fun w => ?_⟩
  · intro set q lo hi value new x a
    have hrun : runSetLimit b w s =
        takeSettings new (limitTaken p) (fun t => .limit t.settings.points[p] t.sense.points[AnalogId.point p].alarm) s := withId_some hp
    refine ⟨clampInt_eq _ _ _, clampInt_eq _ _ _, clampInt_eq _ _ _, ?_, ?_, ?_, ?_, takeAlarmMode_latch, ?_, takeDirection_below,
      fun hlock => refuses_of_error rfl h (hrun.trans (takeSettings_locked hlock)),
      fun hlock => answers_of_ok rfl h (hrun.trans (takeSettings_taken hlock)) ?_⟩
    · exact congrArg₂ min (clampInt_eq _ _ _) rfl
    · intro e
      show takeAlarmMode w.mode = _
      rw [e]
      rfl
    · intro e
      show takeAlarmMode w.mode = _
      rw [e]
      rfl
    · intro e
      show takeAlarmMode w.mode = _
      rw [e]
      rfl
    · intro e
      show takeDirection w.direction = _
      rw [e]
      rfl
    · have hset : (s.adopt new).settings.points[p] = set := get_set_same _ _ _
      have htaken : limitTaken p (s.adopt new) =
          reportCondition (causePoint q) (a || x.stale) ((s.adopt new).setPoint q { x with alarm := a }) := by
        rw [limitTaken_eq, hset]
        rfl
      rw [htaken]
      have hframe := reportCondition_frame (causePoint q) (a || x.stale) ((s.adopt new).setPoint q { x with alarm := a })
      have hrecs := reportCondition_recs (causePoint q) (a || x.stale) ((s.adopt new).setPoint q { x with alarm := a })
      have hbase := reportCondition_base (causePoint q) (a || x.stale) ((s.adopt new).setPoint q { x with alarm := a })
      refine ⟨?_, ?_, ?_⟩
      · rw [base_settings hbase, base_sense hbase]
        exact congrArg₂ Ack.limit hset (congrArg Point.alarm (get_set_same _ _ _))
      · exact hframe.trans (congrArg (fun c => { (s.adopt new).setPoint q { x with alarm := a } with causes := c })
          (congrArg State.causes hframe).symm)
      · exact (congrArg State.causes hframe).trans
          (congrArg (fun r => { s.causes with
            recs := r
            alert := (reportCondition (causePoint q) (a || x.stale) ((s.adopt new).setPoint q { x with alarm := a })).causes.alert })
            hrecs)
  · intro set entry new reached
    have hrun : runSetBudget w s =
        takeSettings new (fun t => recompute (recomputeCapacity t)) (fun t => .budget t.settings.budget t.budget.cap t.budget.h) s := rfl
    refine ⟨clampNat_zero _ _, clampNat_zero _ _, clampNat_zero _ _, ?_,
      fun hlock => refuses_of_error rfl h (hrun.trans (takeSettings_locked hlock)),
      fun hlock => answers_of_ok rfl h (hrun.trans (takeSettings_taken hlock)) ?_⟩
    · show sortDerate [takeDerate w.e0, takeDerate w.e1, takeDerate w.e2, takeDerate w.e3] = _
      rw [sortDerate_eq_mergeSort, takeDerate_eq, takeDerate_eq, takeDerate_eq, takeDerate_eq]
      rfl
    · obtain ⟨hgood, hf, hcap, hsigma, hpow, hh, hhp⟩ := recompute_capacity_budget (s.adopt new)
      have hripple : Ripple (recomputeCapacity (s.adopt new)) (recompute (recomputeCapacity (s.adopt new))) := (Ripple.refl _).recompute
      refine ⟨?_, hripple.settings, hgood, ?_, ?_, hsigma, hpow, hh, hhp, ?_, hripple, recompute_seq _⟩
      · rw [hripple.settings]
        rfl
      · rw [hf, derateFactor_eq]
        show reached.getLast?.elim 256 _ = _
        cases reached.getLast? <;> rfl
      · rw [hcap, recomputeCapacity_cap, hgood, hf]
        rfl
      · intro power short
        have hpause : short ↔ (recomputeCapacity (s.adopt new)).mustPause := by
          show (_ ∧ ((recompute (recomputeCapacity (s.adopt new))).budget.cap : Int) - _ - _ < 0 ∧ _) ↔ _
          rw [hcap]
          rfl
        refine ⟨fun e => ?_, fun e => recompute_recharge_same fun hp => e (hpause.2 hp)⟩
        rw [recompute_recharge_pause (hpause.1 e)]
        exact ⟨rfl, rfl⟩
end

section
/-! PROOFS. O37: SET_CHARGE_PARAMS, SET_TARGETS and SET_RANGES. -/

namespace Sys2Proof.Machine

/-! ### Steps on the causes alone -/

/-- Nothing moves but the causes and what the link sends. -/
def Tells (s t : State) : Prop :=
  t = { s with causes := t.causes, link := { s.link with replies := t.link.replies, tx := t.link.tx } }

namespace Tells
variable {s t u : State}

theorem refl (s : State) : Tells s s := rfl

theorem trans (h : Tells s t) (k : Tells t u) : Tells s u := by
  unfold Tells at h k ⊢
  rw [h] at k
  exact k

theorem setCauses (s : State) (x : Causes) : Tells s (s.setCauses x) := rfl

theorem report (h : Tells s t) (c : CauseId) (active : Bool) : Tells s (reportCondition c active t) := by
  refine h.trans ?_
  rcases reportCondition_cases c active t with ⟨-, e⟩ | ⟨-, e⟩ <;> rw [e]
  · exact refl t
  · exact rfl

theorem serve (h : Tells s t) : Tells s (serveTransmitter t) := by
  refine h.trans ?_
  rcases serveTransmitter_cases t with ⟨e, -⟩ | ⟨_, _, -, -, e⟩ | ⟨_, _, -, -, -, -, e⟩ | ⟨e, -⟩ <;> rw [e]
  · exact refl t
  · exact rfl
  · exact rfl
  · exact refl t

theorem raise (h : Tells s t) (c : CauseId) (v : Int) (code : Byte) : Tells s (raise c v code t) := by
  unfold Machine.raise
  refine serve ?_
  refine h.trans ?_
  have hrecord : Tells t (t.setCause c (raised t.causes.recs[c] (eventSource c) v code)) := rfl
  have halert : Tells t
      (if eventSource c then judgeAlert (t.setCause c (raised t.causes.recs[c] (eventSource c) v code))
        else t.setCause c (raised t.causes.recs[c] (eventSource c) v code)) :=
    ite_keeps (hrecord.trans rfl) hrecord
  refine halert.trans ?_
  generalize (if eventSource c then _ else _ : State) = u
  rcases joinOutbox_cases c u with ⟨e, -⟩ | ⟨-, -, e⟩ <;> rw [e]
  · exact refl u
  · exact rfl

end Tells

theorem RaisedFrom.congr {s t s' t' : State} {c : CauseId} {v : Int} {code : Byte} (h : RaisedFrom s t c v code)
    (hstart : s'.link = s.link) (hcauses : t'.causes = t.causes) (hlink : t'.link = t.link) : RaisedFrom s' t' c v code := by
  unfold RaisedFrom at h ⊢
  rwa [hstart, hcauses, hlink]

/-- In a fold of steps that each touch a cause of their own, the steps around that of `a` leave its cause alone. -/
theorem foldl_visits_cause {α : Type} {cause : α → CauseId} {f : State → α → State} {l : List α} {a : α} (ha : a ∈ l) (hl : l.Nodup)
    (hf : ∀ (b : α) (s : State), Touches (· = cause b) s (f s b)) (hinj : ∀ b, b ≠ a → cause a ≠ cause b) (s : State) :
    ∃ u, Quiet (cause a) s u ∧ Quiet (cause a) (f u a) (l.foldl f s) := by
  obtain ⟨before, after, rfl⟩ := List.append_of_mem ha
  rw [List.nodup_middle, List.nodup_cons, List.mem_append, not_or] at hl
  obtain ⟨⟨hbefore, hafter⟩, -⟩ := hl
  have hquiet : ∀ (l : List α), a ∉ l → ∀ s, Quiet (cause a) s (l.foldl f s) := by
    intro l
    induction l with
    | nil => exact fun _ s => .refl _ s
    | cons b l ih =>
      intro hb s
      have hne : b ≠ a := fun e => hb (e ▸ List.mem_cons_self)
      exact (hf b s _ (hinj b hne)).trans (ih (fun h => hb (List.mem_cons_of_mem b h)) (f s b))
  refine ⟨before.foldl f s, hquiet before hbefore s, ?_⟩
  rw [List.foldl_append, List.foldl_cons]
  exact hquiet after hafter _

/-! ### The band set (R53) -/

theorem causeRange_injective {j k : RangeId} (h : causeRange j = causeRange k) : j = k := by
  have hval : 112 + j.val = 112 + k.val := congrArg Fin.val h
  exact Fin.ext (by omega)

theorem causeRange_not_event (k : RangeId) : eventSource (causeRange k) = false := by revert k; decide

section Range
variable (old new : Vector Bool 8) (t : Nat) (k : RangeId) (s : State)

theorem judgeRange_touches : Touches (· = causeRange k) s (judgeRange old new t k s) := by
  have hreport := (Touches.refl (· = causeRange k) s).report rfl new[k]
  exact ite_keeps (hreport.raise rfl _ _) hreport

theorem judgeRange_tells : Tells s (judgeRange old new t k s) := by
  have hreport := (Tells.refl s).report (causeRange k) new[k]
  exact ite_keeps (hreport.raise _ _ _) hreport

theorem judgeRange_condition : (judgeRange old new t k s).causes.recs[causeRange k].condition = new[k] := by
  have hreport := reportCondition_condition (causeRange k) new[k] s
  refine ite_keeps (P := fun u => u.causes.recs[causeRange k].condition = new[k]) ?_ hreport
  rw [raise_condition (causeRange_not_event k), hreport]

theorem judgeRange_raised (hnew : new[k] = true) (hold : old[k] = false) :
    RaisedFrom s (judgeRange old new t k s) (causeRange k) t codeEntered := by
  have he : judgeRange old new t k s = raise (causeRange k) t codeEntered (reportCondition (causeRange k) new[k] s) :=
    if_pos (by simp only [hnew, hold]; rfl)
  rw [he]
  exact reported_raised (causeRange k) _ _ _ (Touches.refl _ s)

end Range

theorem recomputeBand_tells (s : State) : Tells (s.setCharge { s.charge with band := s.bandAt s.charge.tEst }) (recomputeBand s) := by
  unfold recomputeBand
  simp only
  exact List.foldlRecOn (motive := Tells (s.setCharge { s.charge with band := s.bandAt s.charge.tEst })) rangeIds _ (Tells.refl _)
    fun u hu k _ => hu.trans (judgeRange_tells _ _ _ k u)

theorem rangeIds_nodup : rangeIds.Nodup := by decide

theorem recomputeBand_visits (s : State) (k : RangeId) : ∃ u, Quiet (causeRange k) s u ∧
    Quiet (causeRange k) (judgeRange s.charge.band (s.bandAt s.charge.tEst) s.charge.tEst k u) (recomputeBand s) := by
  obtain ⟨u, hbefore, hafter⟩ := foldl_visits_cause (cause := causeRange)
    (f := fun s' k => judgeRange s.charge.band (s.bandAt s.charge.tEst) s.charge.tEst k s') (mem_rangeIds k) rangeIds_nodup
    (fun j u => judgeRange_touches _ _ _ j u) (fun j hj e => hj (causeRange_injective e).symm)
    (s.setCharge { s.charge with band := s.bandAt s.charge.tEst })
  have hset : Quiet (causeRange k) s (s.setCharge { s.charge with band := s.bandAt s.charge.tEst }) := .of_eq rfl rfl
  exact ⟨u, hset.trans hbefore, hafter⟩

theorem recomputeBand_condition (s : State) (k : RangeId) :
    (recomputeBand s).causes.recs[causeRange k].condition = (s.bandAt s.charge.tEst)[k] := by
  obtain ⟨u, -, hafter⟩ := recomputeBand_visits s k
  rw [hafter.condition, judgeRange_condition]

theorem recomputeBand_raised {s : State} {k : RangeId} (hnew : (s.bandAt s.charge.tEst)[k] = true) (hold : s.charge.band[k] = false) :
    RaisedFrom s (recomputeBand s) (causeRange k) s.charge.tEst codeEntered := by
  obtain ⟨u, hbefore, hafter⟩ := recomputeBand_visits s k
  refine (judgeRange_raised _ _ _ k u hnew hold).widen ?_ hbefore.toUnraised hafter.toUnraised
  have hother : ∃ c : CauseId, c ≠ causeRange k := ⟨causeDeficit, by
    intro e
    have hval : 131 = 112 + k.val := congrArg Fin.val e
    omega⟩
  obtain ⟨c, hc⟩ := hother
  exact (judgeRange_touches _ _ _ k u c hc).sending

theorem bandAt_get (s : State) (t : Nat) (k : RangeId) : (s.bandAt t)[k] = inBand s.settings.ranges[k] t := get_ofFn _ k

theorem inBand_eq (e : RangeEntry) (t : Nat) :
    inBand e t = decide (¬ (e.low = 0 ∧ e.high = 0 ∧ e.gate = false) ∧ e.low ≤ t ∧ t ≤ e.high) := by
  rw [Bool.eq_iff_iff, inBand]
  simp [and_assoc, or_assoc]

theorem publishReserve_charge (s : State) :
    (publishReserve s).charge =
      { s.charge with
        pubs :=
          s.charge.pubs ++ [⟨s.charge.r, s.charge.tEst, s.charge.band, s.gatedBy s.charge.band, s.countedBbus, s.sense.seen⟩] } := rfl

theorem publishReserve_causes (s : State) : (publishReserve s).causes = s.causes := rfl
theorem publishReserve_link (s : State) : (publishReserve s).link = s.link := rfl

/-- R53: what SET_RANGES makes of the charge accounting unit. -/
theorem publishBand_charge (s : State) :
    let t := publishReserve (recomputeBand s)
    t.charge =
      { s.charge with
        band := s.bandAt s.charge.tEst
        pubs :=
          s.charge.pubs ++
            [⟨s.charge.r, s.charge.tEst, s.bandAt s.charge.tEst, s.gatedBy (s.bandAt s.charge.tEst), s.countedBbus, s.sense.seen⟩] } := by
  have hcharge := recomputeBand_charge s
  have hset := base_settings (recomputeBand_base s)
  have hsense := base_sense (recomputeBand_base s)
  have hcount : (recomputeBand s).countedBbus = s.countedBbus := by rw [State.countedBbus, hcharge, State.countedBbus]
  intro t
  have ht : t.charge = _ := publishReserve_charge (recomputeBand s)
  rw [ht, hcount, hcharge, hsense, State.gatedBy, hset]
  rfl

theorem publishReserve_tells {s t : State} (h : Tells s t) :
    publishReserve t = { s with
      charge := (publishReserve t).charge
      causes := (publishReserve t).causes
      link := { s.link with replies := (publishReserve t).link.replies, tx := (publishReserve t).link.tx } } :=
  congrArg (fun u : State => { u with charge := (publishReserve t).charge }) h

/-! ### The settings as taken -/

theorem Bbu.retaken_fields (b : Bbu) (set : BbuSettings) :
    (b.retaken set).q = min b.q set.qFull ∧ (b.retaken set).r = (if set.qFull < b.q then 0 else b.r) ∧
      (b.retaken set).full = ((b.retaken set).q == set.qFull) ∧ (b.retaken set).state = b.state ∧
      (b.retaken set).taper = (if set.anchor = true then b.taper else 0) ∧ (b.retaken set).critInForce = b.critInForce ∧
      (b.retaken set).detectInForce = b.detectInForce ∧ (b.retaken set).calibrated = b.calibrated ∧
      (b.retaken set).bottomed = b.bottomed ∧ (b.retaken set).health = b.health := by
  unfold Bbu.retaken Bbu.recounted
  by_cases h : set.qFull < b.q
  · simp [h, Bbu.withCharge, Nat.min_eq_right (Nat.le_of_lt h)]
  · simp [h, Nat.min_eq_left (Nat.not_lt.1 h)]

theorem takeTarget_urgency {w : TargetW} :
    let e := takeTarget w
    (e.action = .shed → w.urgency = 0 → e.urgency = .orderly) ∧ (e.action ≠ .shed → w.urgency = 0 → e.urgency = .none) ∧
      (w.urgency = 1 → e.urgency = .orderly) ∧ (w.urgency = 2 → e.urgency = .prompt) ∧
      (3 ≤ w.urgency.toNat → e.urgency = .immediate) := by
  intro e
  have hnot : takeUrgency w.urgency ≠ .none → e.urgency = takeUrgency w.urgency := fun hno => if_neg fun hboth => hno hboth.2
  refine ⟨fun hshed h0 => ?_, fun hshed h0 => ?_, fun h1 => ?_, fun h2 => ?_, fun h3 => ?_⟩
  · exact if_pos ⟨hshed, by rw [h0]; rfl⟩
  · exact (if_neg fun hboth => hshed hboth.1).trans (by rw [h0]; rfl)
  · rw [hnot (by rw [h1]; nofun), h1]
    rfl
  · rw [hnot (by rw [h2]; nofun), h2]
    rfl
  · have himm : takeUrgency w.urgency = .immediate := by
      unfold takeUrgency
      split
      · omega
      · omega
      · omega
      · rfl
    rw [hnot (by rw [himm]; nofun), himm]

theorem takeTargetDirection_eq (b : Byte) : takeTargetDirection b = if b = 0 then .falling else .rising := by
  by_cases h : b = 0
  · rw [if_pos h, h]
    rfl
  · rw [if_neg h, takeTargetDirection]
    split
    · next e => exact absurd (BitVec.eq_of_toNat_eq e) h
    · rfl

theorem takeArmMode_eq (b : Byte) : takeArmMode b = if b = 0 then .manual else .onBridge := by
  by_cases h : b = 0
  · rw [if_pos h, h]
    rfl
  · rw [if_neg h, takeArmMode]
    split
    · next e => exact absurd (BitVec.eq_of_toNat_eq e) h
    · rfl

theorem takeTargetAction_eq (b : Byte) :
    takeTargetAction b =
      if b = 0 then .noticeOnly else if b = 1 then .shed else if b = 2 then .inhibitPowerup else .releasePowerup := by
  revert b
  decide

end Sys2Proof.Machine

open Sys2Proof Sys2Proof.Machine

/-- Settles O37: SET_CHARGE_PARAMS rewrites one BBU and reckons, SET_TARGETS takes the table, and SET_RANGES forms and publishes the band
set. -/
theorem setsOfChargeTargetsAndRanges : Obligations.SetsOfChargeTargetsAndRanges := by
  intro s tag h
  refine ⟨fun b i w hi => ?_, fun mode list hlen => ?_, fun w => ?_⟩
  · intro set new old
    have hrun : runSetChargeParams b w s = takeSettings new (chargeTaken i) (fun t => .chargeParams t.settings.bbus[i]) s := withId_some hi
    have hvFloat := w.vFloat.isLt
    have hvCutoff := w.vCutoff.isLt
    have hreserve := w.testReserve.isLt
    have hlo := BitVec.le_toInt w.tCrit
    have hhi := BitVec.toInt_lt (x := w.tCrit)
    refine ⟨clampNat_eq _ _ _, clampNat_zero _ _, clampNat_eq _ _ _, ?_, clampNat_zero _ _, clampNat_eq _ _ _, rfl, clampNat_eq _ _ _, ?_,
      clampNat_eq _ _ _, ?_, clampNat_eq _ _ _, clampNat_eq _ _ _, clampNat_eq _ _ _, ?_,
      fun hlock => refuses_of_error rfl h (hrun.trans (takeSettings_locked hlock)),
      fun hlock => answers_of_ok rfl h (hrun.trans (takeSettings_taken hlock)) ?_⟩
    · exact (clampNat_zero _ _).trans (Nat.min_eq_right (by omega))
    · exact (clampNat_zero _ _).trans (Nat.min_eq_right (by omega))
    · refine (clampInt_eq _ _ _).trans ?_
      omega
    · exact (clampNat_zero _ _).trans (Nat.min_eq_right (by omega))
    · have hset : (s.adopt new).settings.bbus[i] = set := get_set_same _ _ _
      rw [chargeTaken_eq, hset]
      generalize hu : (s.adopt new).setBbu i ((s.adopt new).charge.bbus[i].retaken set) = u
      have hbbu : u.charge.bbus[i] = old.retaken set := hu ▸ get_set_same _ _ _
      have hsettings : u.settings = new := hu ▸ rfl
      have hstore : u.store.unstored = true := hu ▸ rfl
      have hx := recomputeReserve_bbu u i
      rw [hbbu] at hx
      have hbase := recomputeReserve_base u
      rw [base_settings hbase, base_store hbase, hsettings, hx]
      obtain ⟨hq, hr, hfull, hstate, htaper, hcrit, hdetect, hcal, hbottom, hhealth⟩ := Bbu.retaken_fields old set
      exact ⟨congrArg Ack.chargeParams (get_set_same _ _ _), rfl, hstore, hq, hr, hfull, hstate, htaper, hcrit, hdetect, hcal, hbottom,
        hhealth, recomputeReserve_reserveReckoned u⟩
  · intro table new
    have hrun : runSetTargets mode list s =
        takeSettings { s.settings with targets := ⟨takeArmMode mode, list.map takeTarget⟩ }
          (fun t => t.setCharge { t.charge with p := 0, armed := false }) (fun t => .targetTable t.settings.targets) s :=
      demand_true (decide_eq_true hlen)
    have hmode : (⟨takeArmMode mode, list.map takeTarget⟩ : TargetSettings) = table := by rw [takeArmMode_eq]
    rw [hmode] at hrun
    refine ⟨fun w => ?_, fun hlock => refuses_of_error rfl h (hrun.trans (takeSettings_locked hlock)),
      fun hlock => accepts_of_ok rfl h (hrun.trans (takeSettings_taken hlock))⟩
    exact ⟨clampNat_zero _ _, clampNat_eq _ _ _, takeTargetDirection_eq _, takeTargetAction_eq _, takeTarget_urgency⟩
  · intro new tEst taken
    have hrun : runSetRanges w s =
        takeSettings new (fun t => publishReserve (recomputeBand t)) (fun t => .ranges t.settings.ranges t.charge.band) s := rfl
    refine ⟨rfl, fun hlock => refuses_of_error rfl h (hrun.trans (takeSettings_locked hlock)),
      fun hlock => answers_of_ok rfl h (hrun.trans (takeSettings_taken hlock)) ?_⟩
    have hcharge := publishBand_charge (s.adopt new)
    have hbase := recomputeBand_base (s.adopt new)
    have hsettings : (publishReserve (recomputeBand (s.adopt new))).settings = new := base_settings hbase
    have hband : (publishReserve (recomputeBand (s.adopt new))).charge.band = (s.adopt new).bandAt tEst := congrArg Charge.band hcharge
    have hframe := publishReserve_tells (recomputeBand_tells (s.adopt new))
    refine ⟨?_, fun k => ?_, fun k hnew hold => ?_, fun k => ?_, ?_, hframe⟩
    · rw [hsettings]
    · have hranges : (s.adopt new).settings.ranges = takeRanges w := rfl
      rw [hband, bandAt_get, inBand_eq, hranges]
    · rw [hband] at hnew
      exact (recomputeBand_raised (s := s.adopt new) hnew hold).congr rfl (publishReserve_causes _) (publishReserve_link _)
    · rw [hband, publishReserve_causes]
      exact recomputeBand_condition (s.adopt new) k
    · rw [hband, State.gatedBy, hsettings]
      exact hcharge
end

section
/-! PROOFS. The sequencer as it stands after each of its operations (R95, R96, R100 to R102): the slots, the queue, the stagger timer
and the head reports. -/

namespace Sys2Proof.Machine

/-! ### Moves -/

theorem moveSlot_seq (n : SlotId) (st : SlotState) (upd : Slot → Slot) (s : State) :
    (moveSlot n st upd s).seq = { s.seq with slots := s.seq.slots.set n ((upd s.seq.slots[n]).moved st) } := by
  rw [moveSlot_eq, lineWatch_seq, reportCondition_seq]
  rfl

theorem shiftSlot_seq (n : SlotId) (st : SlotState) (upd : Slot → Slot) (s : State) :
    (shiftSlot n st upd s).seq = { s.seq with slots := s.seq.slots.set n ((upd s.seq.slots[n]).moved st) } := by
  rw [shiftSlot, recompute_seq, moveSlot_seq]

theorem leaveQueue_seq (n : SlotId) (s : State) : (leaveQueue n s).seq = { s.seq with queue := s.seq.queue.filter (· ≠ n) } := rfl

theorem moveSlot_settings (n : SlotId) (st : SlotState) (upd : Slot → Slot) (s : State) :
    (moveSlot n st upd s).settings = s.settings := (Ripple.refl s).moveSlot.settings

/-! ### The head of the queue (R96, R100, R102) -/

theorem before_congr {s t : State} (hset : t.settings = s.settings) : t.before = s.before := by
  funext a b
  rw [State.before, State.before, hset]

theorem headNow_congr {s t : State} (hset : t.settings = s.settings) (hseq : t.seq.queue = s.seq.queue) : t.headNow = s.headNow := by
  rw [State.headNow, State.headNow, hset, hseq]

/-- What a head report says. -/
theorem blockedHead_eq (s : State) :
    s.blockedHead =
      s.seq.queue.head?.bind fun n =>
        if s.grantable = true ∧ s.seq.lastH < (s.settings.slots[n].need : Int) then some s.settings.slots[n].need else none := by
  unfold State.blockedHead
  split
  · next h => rw [h]; rfl
  · next n _ h =>
    rw [h]
    simp only [List.head?_cons, Option.bind_some, Bool.and_eq_true, decide_eq_true_eq]

theorem grantable_false {s : State} (h : s.seq.stagger.isSome = true) : s.grantable = false := by
  rw [State.grantable]
  cases hst : s.seq.stagger
  · rw [hst] at h
    cases h
  · simp

theorem grantsHead_false {s : State} (h : s.seq.stagger.isSome = true) (n : SlotId) : s.grantsHead n = false := by
  rw [State.grantsHead, grantable_false h, Bool.false_and]

theorem blockedHead_stagger {s : State} (h : s.seq.stagger.isSome = true) : s.blockedHead = none := by
  rw [blockedHead_eq, grantable_false h]
  cases s.seq.queue.head? <;> rfl

/-- Every condition of R100. -/
theorem grantable_iff {s : State} :
    s.grantable = true ↔
      s.seq.lastHoldup = .online ∧ s.seq.stagger = none ∧ s.seq.targetInhibit = false ∧ s.seq.lastInhibit = false ∧
        s.soakCount < s.settings.sequence.maxSoak := by
  simp only [State.grantable, Bool.and_eq_true, beq_iff_eq, decide_eq_true_eq, Option.isNone_iff_eq_none, Bool.not_eq_true']
  tauto

theorem grantsHead_iff {s : State} {n : SlotId} :
    s.grantsHead n = true ↔ s.grantable = true ∧ (s.settings.slots[n].need : Int) ≤ s.seq.lastH := by
  simp only [State.grantsHead, Bool.and_eq_true, decide_eq_true_eq]

/-! ### Grants and reports (R101, R102) -/

/-- The sequencer after a grant of slot `n`, before the head report. -/
def State.granted (s : State) (n : SlotId) : Sequencer :=
  { s.seq with
    queue := s.seq.queue.filter (· ≠ n)
    stagger := some (s.settings.sequence.staggerCount * s.settings.sequence.staggerUnit)
    slots := s.seq.slots.set n
      (({ s.seq.slots[n] with soak := some (s.settings.slots[n].soak * 100) } : Slot).moved .soak) }

theorem grant_seq (n : SlotId) (s : State) : (grant n s).seq = s.granted n := shiftSlot_seq n .soak _ _

theorem sendReport_seq (s : State) :
    (sendReport s).seq =
      { s.seq with headSeen := s.headNow, lastReport := s.blockedHead, reports := s.seq.reports ++ [s.blockedHead] } := rfl

theorem blockedHead_setSeq {s : State} {x : Sequencer} (h : x = { s.seq with
    headSeen := x.headSeen, lastReport := x.lastReport, reports := x.reports }) : (s.setSeq x).blockedHead = s.blockedHead := by
  rw [h]
  rfl

/-- What has just been reported is not reported again. -/
theorem reportHead_sendReport (s : State) : reportHead (sendReport s) = sendReport s := by
  unfold reportHead
  exact if_pos ⟨rfl, blockedHead_setSeq (s := s) (x := (sendReport s).seq) rfl⟩

/-- R102: after an event the head, its need and the report are remembered, and a report is sent when one of them has changed. -/
theorem reportHead_seq (s : State) :
    (reportHead s).seq =
      { s.seq with
        headSeen := s.headNow
        lastReport := s.blockedHead
        reports :=
          if s.headNow = s.seq.headSeen ∧ s.blockedHead = s.seq.lastReport then s.seq.reports
          else s.seq.reports ++ [s.blockedHead] } := by
  unfold reportHead
  split
  · next h => rw [h.1, h.2]
  · rfl

theorem seqEvent_settings (s : State) : (seqEvent s).settings = s.settings := (Ripple.refl s).seqEvent.settings

/-- R101: the head is granted. -/
theorem seqEvent_granted {s : State} {n : SlotId} {rest : List SlotId} (hq : s.seq.queue = n :: rest) (hg : s.grantsHead n = true) :
    seqEvent s = sendReport (grant n s) := by
  have hcheck : grantCheck s = sendReport (grant n s) := by
    unfold grantCheck
    rw [hq]
    exact if_pos hg
  rw [seqEvent, hcheck, reportHead_sendReport]

theorem grant_blockedHead (n : SlotId) (s : State) : (grant n s).blockedHead = none :=
  blockedHead_stagger (by rw [grant_seq]; rfl)

theorem seqEvent_granted_seq {s : State} {n : SlotId} {rest : List SlotId} (hq : s.seq.queue = n :: rest) (hg : s.grantsHead n = true) :
    (seqEvent s).seq =
      { s.granted n with headSeen := (grant n s).headNow, lastReport := none, reports := s.seq.reports ++ [none] } := by
  rw [seqEvent_granted hq hg, sendReport_seq, grant_blockedHead, grant_seq]
  rfl

/-- No head is granted. -/
theorem seqEvent_ungranted {s : State} (h : ∀ n ∈ s.seq.queue.head?, s.grantsHead n = false) : seqEvent s = reportHead s := by
  rcases grantCheck_cases s with ⟨e, -⟩ | ⟨n, ns, hq, hg, -⟩
  · rw [seqEvent, e]
  · have hno := h n (by rw [hq]; rfl)
    rw [hg] at hno
    cases hno

/-- The queue, the slots and the stagger timer are as they were. -/
structure Sequencer.Same (x y : Sequencer) : Prop where
  slots : y.slots = x.slots
  queue : y.queue = x.queue
  stagger : y.stagger = x.stagger

theorem seqEvent_same {s : State} (h : ∀ n ∈ s.seq.queue.head?, s.grantsHead n = false) : s.seq.Same (seqEvent s).seq := by
  rw [seqEvent_ungranted h, reportHead_seq]
  exact ⟨rfl, rfl, rfl⟩

/-- While the stagger timer runs no head is granted. -/
theorem seqEvent_staggered {s : State} (h : s.seq.stagger.isSome = true) : s.seq.Same (seqEvent s).seq :=
  seqEvent_same fun n _ => grantsHead_false h n

theorem filter_head {n : SlotId} {rest : List SlotId} (hn : n ∉ rest) : (n :: rest).filter (fun m => decide (m ≠ n)) = rest := by
  rw [List.filter_cons_of_neg (by simp)]
  exact List.filter_eq_self.2 fun m hm => decide_eq_true fun e => hn (e ▸ hm)

theorem granted_queue {s : State} {n : SlotId} {rest : List SlotId} (hq : s.seq.queue = n :: rest) (hn : n ∉ rest) :
    (s.granted n).queue = rest := by
  show s.seq.queue.filter _ = _
  rw [hq]
  exact filter_head hn

/-- An event of the sequencer grants the head or leaves the slots, the queue and the stagger timer. -/
theorem seqEvent_seq_cases (s : State) :
    s.seq.Same (seqEvent s).seq ∨
      ∃ n rest, s.seq.queue = n :: rest ∧ s.grantsHead n = true ∧
        (seqEvent s).seq =
          { s.granted n with headSeen := (grant n s).headNow, lastReport := none, reports := s.seq.reports ++ [none] } := by
  rcases grantCheck_cases s with ⟨-, h⟩ | ⟨n, ns, hq, hg, -⟩
  · exact .inl (seqEvent_same h)
  · exact .inr ⟨n, ns, hq, hg, seqEvent_granted_seq hq hg⟩

/-! ### The queue as a list (R96) -/

/-- A slot takes its place before the first that it stands before. -/
theorem insertSlot_eq (before : SlotId → SlotId → Bool) (n : SlotId) : ∀ l : List SlotId,
    insertSlot before n l = (l.takeWhile fun m => !before n m) ++ n :: l.dropWhile fun m => !before n m
  | [] => rfl
  | m :: l => by
    rw [insertSlot]
    by_cases h : before n m = true
    · rw [if_pos h, List.takeWhile_cons_of_neg (by simp [h]), List.dropWhile_cons_of_neg (by simp [h])]
      rfl
    · rw [if_neg h, List.takeWhile_cons_of_pos (by simpa using h), List.dropWhile_cons_of_pos (by simpa using h),
        insertSlot_eq before n l]
      rfl

theorem joinQueue_seq (n : SlotId) (s : State) :
    (joinQueue n s).seq = { s.seq with queue := insertSlot s.before n (s.seq.queue.filter (· ≠ n)) } := rfl

/-- A dry slot takes its place in the queue. -/
theorem enterQueue_seq {n : SlotId} {s : State} (h : s.slotWet n = false) :
    (enterQueue n s).seq =
      { s.seq with
        slots := s.seq.slots.set n (({ s.seq.slots[n] with restore := false } : Slot).moved .queued)
        queue := insertSlot s.before n (s.seq.queue.filter (· ≠ n)) } := by
  rcases enterQueue_cases n s with ⟨hwet, -⟩ | ⟨-, e⟩
  · rw [h] at hwet
    cases hwet
  · rw [e, joinQueue_seq, before_congr (moveSlot_settings n .queued _ s), moveSlot_seq]

end Sys2Proof.Machine
end

section
/-! PROOFS. O40: SET_HOLDUP, SET_RECHARGE, SET_SEQUENCE and SET_LINE; O39: SET_ZONE. -/

namespace Sys2Proof.Machine

/-! ### Fields of two or three values -/

theorem takeTempSource_inlet {b : Byte} (h : b = 0) : takeTempSource b = .inlet := by
  rw [h]
  rfl

theorem takeTempSource_bbu {b : Byte} (h : b ≠ 0) : takeTempSource b = .hottestBbu := by
  unfold takeTempSource
  split
  · next e => exact absurd (BitVec.eq_of_toNat_eq e) h
  · rfl

theorem takeLineSetting_eq (b : Byte) : takeLineSetting b = if b = 0 then .adaptive else .alwaysContinuous := by
  unfold takeLineSetting
  split
  · next e => rw [if_pos (BitVec.eq_of_toNat_eq e)]
  · next h => rw [if_neg fun e => h (by rw [e]; rfl)]

theorem takePolicy_shed {b : Byte} (h : 2 ≤ b.toNat) : takePolicy b = .valveAndShed := by
  unfold takePolicy
  split
  · omega
  · omega
  · rfl

theorem takeLine_eq (mode : Byte) (survey : BitVec 16) :
    takeLine mode survey = ⟨if mode = 0 then .adaptive else .alwaysContinuous, max 1 (min 1000 survey.toNat)⟩ := by
  rw [takeLine, takeLineSetting_eq, clampNat_eq]

theorem takeStaggerUnit_cases (b : Byte) :
    (b.toNat ≤ 5 → takeStaggerUnit b = 1) ∧ (6 ≤ b.toNat → b.toNat ≤ 54 → takeStaggerUnit b = 10) ∧
      (b.toNat = 55 → takeStaggerUnit b = 10 ∨ takeStaggerUnit b = 100) ∧ (56 ≤ b.toNat → takeStaggerUnit b = 100) := by
  unfold takeStaggerUnit
  refine ⟨fun h => if_pos h, fun h k => ?_, fun h => ?_, fun h => ?_⟩
  · rw [if_neg (by omega), if_pos (by omega)]
  · rw [if_neg (by omega), if_neg (by omega), if_pos h]
    cases Config.staggerTieUp
    · exact .inl rfl
    · exact .inr rfl
  · rw [if_neg (by omega), if_neg (by omega), if_neg (by omega)]

/-! ### The setpoint under new settings (R82) -/

theorem iSetTaken_eq (s : State) :
    s.iSetTaken =
      if s.recharge.state = .cruise then max s.settings.recharge.iFloor (min s.settings.recharge.iMax s.recharge.iSet)
      else if s.recharge.state = .floor ∨ s.recharge.state = .thermalHold then s.settings.recharge.iFloor else s.recharge.iSet := by
  unfold State.iSetTaken
  cases s.recharge.state <;> simp [clampNat_eq]

/-- The part with another setpoint, before the recompute. -/
def State.withSetpoint (s : State) (i : Nat) : State := reshare (s.setRecharge { s.recharge with iSet := i })

theorem withSetpoint_ripple (s : State) (i : Nat) : Ripple s (s.withSetpoint i) := ((Ripple.refl s).setSetpoint _ rfl).reshare

theorem withSetpoint_recharge (s : State) (i : Nat) :
    (s.withSetpoint i).recharge = { s.recharge with iSet := i, shares := sharesOf s.recharge.members i } :=
  reshare_recharge _

theorem withSetpoint_seq (s : State) (i : Nat) : (s.withSetpoint i).seq = s.seq := reshare_seq _

theorem withSetpoint_line (s : State) (i : Nat) : (s.withSetpoint i).line = s.line := reshare_line _

/-- The headroom does not bear a setpoint (R88). -/
def State.shortOf (s : State) (power : Nat) : Prop :=
  s.online = true ∧ (s.budget.cap : Int) - s.commitmentSum - power < 0 ∧ 0 < power

theorem mustPause_iff (s : State) : s.mustPause ↔ s.shortOf (chargePower s.recharge.iSet s.busV) := Iff.rfl

theorem withSetpoint_mustPause (s : State) (i : Nat) : (s.withSetpoint i).mustPause ↔ s.shortOf (chargePower i s.busV) := by
  have h := withSetpoint_ripple s i
  rw [mustPause_iff, State.shortOf, State.shortOf, h.online, h.cap, h.busV, withSetpoint_recharge,
    commitmentSum_congr h.settings (congrArg Sequencer.slots (withSetpoint_seq s i))]

/-- R27, R82: what a setpoint moved at once leaves, with its recompute. -/
theorem recompute_withSetpoint (s : State) (i : Nat) :
    let t := recompute (s.withSetpoint i)
    Ripple s t ∧ t.seq = s.seq ∧ t.line = s.line ∧
      (¬ s.shortOf (chargePower i s.busV) →
        t.recharge = { s.recharge with iSet := i, shares := sharesOf s.recharge.members i } ∧ t.budget.pChg = chargePower i s.busV) ∧
      (s.shortOf (chargePower i s.busV) → t.recharge.state = .paused ∧ t.recharge.iSet = 0) := by
  intro t
  refine ⟨(withSetpoint_ripple s i).recompute, (recompute_seq _).trans (withSetpoint_seq s i),
    (recompute_line _).trans (withSetpoint_line s i), fun h => ?_, fun h => ?_⟩
  · have hrec : t.recharge = _ := (recompute_recharge_same fun hp => h ((withSetpoint_mustPause s i).1 hp)).trans (withSetpoint_recharge s i)
    refine ⟨hrec, (recompute_pChg _).trans ?_⟩
    show chargePower t.recharge.iSet _ = _
    rw [hrec, (withSetpoint_ripple s i).busV]
  · have hrec : t.recharge = _ := recompute_recharge_pause ((withSetpoint_mustPause s i).2 h)
    rw [hrec]
    exact ⟨rfl, rfl⟩

theorem rechargeTaken_eq (s : State) :
    rechargeTaken s = if s.iSetTaken = s.recharge.iSet then s else recompute (s.withSetpoint s.iSetTaken) := rfl

/-! ### A start that comes due (R133, R135) -/

theorem lineWatch_eq (s : State) :
    lineWatch s = s.setLine { s.line with startDue := (lineWatch s).line.startDue, survey := (lineWatch s).line.survey } := by
  rcases lineWatch_cases s with e | ⟨-, -, -, e⟩
  · rw [e]
    rfl
  · rw [e]
    rfl

theorem lineWatch_continuous {s : State} (h : s.line.mode = .continuous) : lineWatch s = s := by
  rcases lineWatch_cases s with e | ⟨hmode, -⟩
  · exact e
  · rw [h] at hmode
    cases hmode

theorem lineWatch_due {s : State} (he : s.line.enabled = true) (hm : s.line.mode = .quiet) (hw : s.line.cycle.waiting = true)
    (hc : s.continuousCondition = true) : (lineWatch s).line.startDue = true := by
  unfold lineWatch
  rw [he, hm, hw, hc]
  cases hd : s.line.startDue
  · rfl
  · exact hd

theorem continuousCondition_always {s : State} (h : s.settings.line.mode = .alwaysContinuous) : s.continuousCondition = true := by
  rw [State.continuousCondition, h]
  exact Bool.or_true _

/-! ### A zone whose tray reports are no longer accepted (R143, R150) -/

theorem zoneTaken_same {z : ZoneId} {old : ZoneSettings} {s : State}
    (h : ¬ (old.acceptTray = true ∧ s.settings.zones[z].acceptTray = false)) : zoneTaken z old s = s :=
  if_neg (by simpa using h)

/-- The zone's tray counter emptied. -/
def State.trayEmptied (s : State) (z : ZoneId) : State := s.setZone z { s.leak.zones[z] with trayCount := 0 }

theorem zoneTaken_cleared {z : ZoneId} {old : ZoneSettings} {s : State}
    (h : old.acceptTray = true ∧ s.settings.zones[z].acceptTray = false) : zoneTaken z old s = fallBack z (s.trayEmptied z) :=
  if_pos (by simpa using h)

theorem trayEmptied_zone (s : State) (z : ZoneId) : (s.trayEmptied z).leak.zones[z] = { s.leak.zones[z] with trayCount := 0 } :=
  get_set_same _ _ _

/-- R150: the zone as its fallback leaves it. -/
theorem fallBack_zone (z : ZoneId) (s : State) :
    (fallBack z s).leak.zones[z] =
      if s.leak.zones[z].state = .suspect ∧ s.leak.zones[z].ropeCount = 0 ∧ s.leak.zones[z].trayCount = 0 ∧
          s.leak.zones[z].awaitSet = false ∧ s.leak.zones[z].awaitCycle = false then
        { s.leak.zones[z] with state := if s.leak.zones[z].ropeFault then .fault else .dry, awaitSet := false, awaitCycle := false }
      else s.leak.zones[z] := by
  unfold fallBack
  simp only
  split
  · next h =>
    rw [moveZone_zones, if_pos rfl]
    obtain ⟨-, -, -, hset, hcycle⟩ := h
    rw [Zone.entered]
    simp only [hset, hcycle, Bool.false_and]
  · rfl

/-- What a zone's new record brings with it: its condition and perhaps a start that comes due. -/
structure ZoneFrame (z : ZoneId) (s t : State) : Prop where
  all : t =
    { s with
      leak := { zones := s.leak.zones.set z t.leak.zones[z] }
      causes := t.causes
      line := { s.line with startDue := t.line.startDue, survey := t.line.survey } }

theorem ZoneFrame.refl (z : ZoneId) (s : State) : ZoneFrame z s s := ⟨by
  rw [Fin.getElem_fin, Vector.set_getElem_self]⟩

theorem moveZone_frame (z : ZoneId) (x : Zone) (s : State) : ZoneFrame z s (moveZone z x s) := ⟨by
  have hzone : (moveZone z x s).leak.zones[z] = x.entered := by rw [moveZone_zones, if_pos rfl]
  rw [hzone]
  have hmoved := moveZone_eq z x s
  have hreported := reportCondition_frame (causeZoneWet z) (x.state == .wet) (s.setZone z x.entered)
  generalize moveZone z x s = t at hmoved ⊢
  generalize reportCondition (causeZoneWet z) (x.state == .wet) (s.setZone z x.entered) = u at hmoved hreported
  rw [hmoved, lineWatch_eq, hreported]
  rfl⟩

theorem fallBack_frame (z : ZoneId) (s : State) : ZoneFrame z s (fallBack z s) := by
  rcases fallBack_cases z s with e | ⟨-, -, -, e⟩
  · rw [e]
    exact .refl z s
  · rw [e]
    exact moveZone_frame z _ s

end Sys2Proof.Machine

open Sys2Proof Sys2Proof.Machine

/-- Settles O40: the settings taken, then one setpoint, one sequencer event or one judgement of the line. -/
theorem setsOfHoldupRechargeSequenceAndLine : Obligations.SetsOfHoldupRechargeSequenceAndLine := by
  intro s tag h
  refine ⟨⟨fun w => ?_, fun w => ?_⟩, fun w => ?_, fun mode survey => ?_⟩
  · intro set new
    have hrun : runSetHoldup w s = takeSettings new id (fun t => .holdup t.settings.holdup t.holdup.state) s := rfl
    have hreturn := w.vReturn.isLt
    refine ⟨clampNat_eq _ _ _, clampNat_zero _ _, ?_, clampNat_zero _ _, clampNat_eq _ _ _, clampNat_eq _ _ _, clampNat_zero _ _,
      fun hlock => refuses_of_error rfl h (hrun.trans (takeSettings_locked hlock)),
      fun hlock => accepts_of_ok rfl h (hrun.trans (takeSettings_taken hlock))⟩
    have hv : set.vReturn = max (set.vBridge + 50) (min 65535 w.vReturn.toNat) := clampNat_eq _ _ _
    omega
  · intro set new x iSet power short
    have hrun : runSetRecharge w s =
        takeSettings new rechargeTaken (fun t => .recharge t.settings.recharge t.recharge.state t.recharge.iSet) s := rfl
    refine ⟨clampNat_zero _ _, clampNat_zero _ _, clampNat_eq _ _ _, clampNat_eq _ _ _, clampNat_eq _ _ _, clampNat_eq _ _ _,
      clampNat_eq _ _ _, clampNat_eq _ _ _, ?_, takeTempSource_inlet, takeTempSource_bbu,
      fun hlock => refuses_of_error rfl h (hrun.trans (takeSettings_locked hlock)),
      fun hlock => answers_of_ok rfl h (hrun.trans (takeSettings_taken hlock)) ?_⟩
    · have hlo := BitVec.le_toInt w.tChgLim
      have hhi := BitVec.toInt_lt (x := w.tChgLim)
      show clampInt (-128) 127 w.tChgLim.toInt = _
      rw [clampInt_eq]
      omega
    · have hiSet : (s.adopt new).iSetTaken = iSet := iSetTaken_eq _
      rw [rechargeTaken_eq, hiSet]
      by_cases hsame : iSet = x.iSet
      · rw [if_pos (show iSet = (s.adopt new).recharge.iSet from hsame)]
        exact ⟨rfl, rfl, .refl _, rfl, rfl, fun _ => rfl, fun hne => absurd hsame hne, fun hne => absurd hsame hne⟩
      · rw [if_neg (show ¬ iSet = (s.adopt new).recharge.iSet from hsame)]
        obtain ⟨hripple, hseq, hline, hbears, hshort⟩ := recompute_withSetpoint (s.adopt new) iSet
        refine ⟨?_, hripple.settings, hripple, hseq, hline, fun e => absurd e hsame, fun _ => hbears, fun _ => hshort⟩
        rw [hripple.settings]
        rfl
  · intro set new
    have hrun : runSetSequence w s = takeSettings new seqEvent (fun t => .sequence t.settings.sequence) s := rfl
    obtain ⟨hlow, hmid, htie, hhigh⟩ := takeStaggerUnit_cases w.staggerUnit
    refine ⟨clampNat_eq _ _ _, hlow, hmid, htie, hhigh, clampNat_eq _ _ _, rfl, clampNat_eq _ _ _, clampNat_zero _ _,
      clampNat_zero _ _, clampNat_zero _ _, fun hlock => refuses_of_error rfl h (hrun.trans (takeSettings_locked hlock)),
      fun hlock => answers_of_ok rfl h (hrun.trans (takeSettings_taken hlock)) ?_⟩
    refine ⟨?_, seqEvent_settings _, (Ripple.refl _).seqEvent, fun hst => ?_, fun n rest hq hn hg => ?_⟩
    · rw [seqEvent_settings]
      rfl
    · have hsame := seqEvent_staggered (s := s.adopt new) hst
      exact ⟨hsame.slots, hsame.stagger⟩
    · rw [seqEvent_granted_seq (s := s.adopt new) hq hg]
      refine ⟨granted_queue (s := s.adopt new) hq hn, rfl, ?_⟩
      show ((s.adopt new).granted n).slots[n].state = .soak
      rw [State.granted, get_set_same]
      rfl
  · intro set new
    have hset : takeLine mode survey = set := takeLine_eq mode survey
    have hrun : runSetLine mode survey s = takeSettings new lineWatch (fun t => .line t.settings.line t.line.state t.line.mode) s := by
      rw [runSetLine, hset]
    refine ⟨fun hlock => refuses_of_error rfl h (hrun.trans (takeSettings_locked hlock)),
      fun hlock => answers_of_ok rfl h (hrun.trans (takeSettings_taken hlock)) ⟨?_, ?_, fun he hm hc hall => ?_, fun hm => ?_⟩⟩
    · rw [lineWatch_eq]
      rfl
    · exact lineWatch_eq _
    · exact lineWatch_due (s := s.adopt new) he hm (by rw [show (s.adopt new).line.cycle = .idle from hc]; rfl)
        (continuousCondition_always hall)
    · rw [lineWatch_continuous (s := s.adopt new) hm]
      rfl

/-- Settles O39: a cleared accept flag empties the counter, and the zone is then judged for fallback. -/
theorem setZoneActsAtAcceptance : Obligations.SetZoneActsAtAcceptance := by
  intro s tag b z w h hid set old new x cleared bare
  have hrun : runSetZone b w s =
      demand (s.lockAllows new) .locked
        (demand (!(x.state == .wet && set.policy != old.policy)) .wrongState
          (takeSettings new (zoneTaken z old) (fun t => .zone t.settings.zones[z] t.leak.zones[z].state) s)) := withId_some hid
  refine ⟨clampNat_zero _ _, clampNat_eq _ _ _, clampNat_eq _ _ _, clampNat_eq _ _ _, ?_, ?_, rfl, takePolicy_shed,
    fun hlock => refuses_of_error rfl h (hrun.trans (demand_false hlock)), fun hlock hwet hpolicy => ?_, fun hlock hpolicy => ?_⟩
  · have hk := w.kRope.isLt
    have he : set.kRope = max 1 (min 255 w.kRope.toNat) := clampNat_eq _ _ _
    omega
  · have hk := w.kTray.isLt
    have he : set.kTray = max 1 (min 255 w.kTray.toNat) := clampNat_eq _ _ _
    omega
  · refine refuses_of_error rfl h (hrun.trans ((demand_true hlock).trans (demand_false ?_)))
    rw [hwet, bne_iff_ne.2 hpolicy]
    rfl
  · have hmay : (!(x.state == .wet && set.policy != old.policy)) = true := by
      rw [Bool.not_eq_true', Bool.and_eq_false_iff]
      by_cases hw : x.state = .wet
      · exact .inr (by simp [hpolicy hw])
      · exact .inl (by simpa using hw)
    refine answers_of_ok rfl h (hrun.trans ((demand_true hlock).trans ((demand_true hmay).trans (takeSettings_taken hlock)))) ?_
    have hset : (s.adopt new).settings.zones[z] = set := get_set_same _ _ _
    have hsettings : (zoneTaken z old (s.adopt new)).settings = new := by
      unfold zoneTaken
      split
      · rw [(fallBack_frame z _).all]
        rfl
      · rfl
    refine ⟨by rw [hsettings, get_set_same], ?_, fun hno => ?_, fun hc hno => ?_, fun hc hyes => ?_⟩
    · by_cases hc : cleared
      · rw [zoneTaken_cleared (by rw [hset]; exact hc)]
        have hframe := (fallBack_frame z ((s.adopt new).trayEmptied z)).all
        refine hframe.trans ?_
        generalize fallBack z ((s.adopt new).trayEmptied z) = u
        simp only [State.trayEmptied, State.setZone, State.setLeak, Vector.set_set]
        rfl
      · rw [zoneTaken_same (by rw [hset]; exact hc)]
        exact (ZoneFrame.refl z (s.adopt new)).all
    · rw [zoneTaken_same (by rw [hset]; exact hno)]
      exact ⟨rfl, rfl, rfl⟩
    · rw [zoneTaken_cleared (by rw [hset]; exact hc), fallBack_zone, trayEmptied_zone]
      exact if_neg fun hb => hno ⟨hb.1, hb.2.1, hb.2.2.2⟩
    · obtain ⟨hst, hrope, hwait, hwaitCycle⟩ := hyes
      rw [zoneTaken_cleared (by rw [hset]; exact hc), fallBack_zone, trayEmptied_zone]
      rw [if_pos ⟨hst, hrope, rfl, hwait, hwaitCycle⟩]
      exact ⟨rfl, rfl⟩
end

section
/-! PROOFS. The reserve recompute and the moves of a BBU, as properties that each of their steps keeps; O43: START_TEST and
ABORT_TEST. -/

namespace Sys2Proof.Machine

/-! ### What the steps of a reserve recompute keep (R47 to R53) -/

/-- Every elementary step of a recompute of the reserve keeps `P`. -/
structure ReserveInvariant (P : State → Prop) : Prop where
  targetAction : ∀ {t : State} {e : TargetEntry}, P t → P (targetAction e t)
  setMatched : ∀ {t : State} {m : List Nat}, P t → t.holdup.record.isOpen = true →
    P (t.setHoldup { t.holdup with record := { t.holdup.record with matched := m } })
  reckon : ∀ {t : State} {r tEst p : Nat} {band : Vector Bool 8} {armed halted : Bool} {pubs : List ReservePub},
    P t → P (t.setCharge { t.charge with r := r, tEst := tEst, band := band, p := p, armed := armed, halted := halted, pubs := pubs })
  raiseTarget : ∀ {t : State} {p : Fin 16} {v : Int} {code : Byte}, P t → P (raise (causeTarget p) v code t)
  reportRange : ∀ {t : State} {k : RangeId} {a : Bool}, P t → P (reportCondition (causeRange k) a t)
  raiseRange : ∀ {t : State} {k : RangeId} {v : Int} {code : Byte}, P t → P (raise (causeRange k) v code t)

namespace ReserveInvariant
variable {P : State → Prop} {t : State}

theorem listMatch (inv : ReserveInvariant P) (h : P t) (p : Nat) : P (listMatch p t) := by
  unfold Machine.listMatch
  simp only [Bool.and_eq_true]
  split
  · next hopen => exact inv.setMatched h hopen.1
  · exact h

theorem matchEntry (inv : ReserveInvariant P) (h : P t) (e : TargetEntry) : P (matchEntry e t) :=
  inv.reckon (inv.raiseTarget (inv.listMatch (inv.targetAction h) _))

theorem compareFrom (inv : ReserveInvariant P) (h : P t) (fuel : Nat) : P (compareFrom fuel t) := by
  induction fuel generalizing t with
  | zero => exact h
  | succ fuel ih =>
    unfold Machine.compareFrom
    split
    · exact h
    · exact ite_keeps (ih (inv.matchEntry h _)) h

theorem compareTargets (inv : ReserveInvariant P) (h : P t) : P (compareTargets t) := ite_keeps (inv.compareFrom h _) h

theorem armTable (inv : ReserveInvariant P) (h : P t) : P (armTable t) := inv.compareTargets (inv.reckon h)

theorem recomputeBand (inv : ReserveInvariant P) (h : P t) : P (recomputeBand t) := by
  have hband : P (t.setCharge { t.charge with band := t.bandAt t.charge.tEst }) := inv.reckon h
  simp only [Machine.recomputeBand]
  refine List.foldlRecOn (motive := P) rangeIds _ hband fun u hu k _ => ?_
  have reported := inv.reportRange (k := k) (a := (t.bandAt t.charge.tEst)[k]) hu
  exact ite_keeps (inv.raiseRange reported) reported

theorem publishReserve (inv : ReserveInvariant P) (h : P t) : P (publishReserve t) := inv.reckon h

theorem recomputeReserve (inv : ReserveInvariant P) (h : P t) : P (recomputeReserve t) := by
  have hreserve : P (t.setCharge { t.charge with r := t.reserveSum, tEst := projectedTime t.reserveSum t.sense.iAvg }) := inv.reckon h
  exact inv.publishReserve (inv.compareTargets (inv.recomputeBand hreserve))

end ReserveInvariant

/-- The causes that a recompute of the reserve may report or raise. -/
def ReserveCause (c : CauseId) : Prop := ShedCause c ∨ (∃ p, c = causeTarget p) ∨ ∃ k, c = causeRange k

theorem Touches.shedInvariant {Q : CauseId → Prop} (hQ : ∀ c, ShedCause c → Q c) (s : State) : ShedInvariant (Touches Q s) where
  setBudget h := h.setBudget _
  setRecharge h := h.setRecharge _
  setSeq h := h.setSeq _
  setLine h := h.setLine _
  driveBbu h := h.driveBbu _
  reportCondition hc h := h.report (hQ _ hc) _
  raise hc h := h.raise (hQ _ hc) _ _

theorem Touches.reserveInvariant {Q : CauseId → Prop} (hQ : ∀ c, ReserveCause c → Q c) (s : State) : ReserveInvariant (Touches Q s) where
  targetAction h := (Touches.shedInvariant (fun c hc => hQ c (.inl hc)) s).targetAction h
  setMatched h _ := h.setHoldup _
  reckon h := h.setCharge _
  raiseTarget h := h.raise (hQ _ (.inr (.inl ⟨_, rfl⟩))) _ _
  reportRange h := h.report (hQ _ (.inr (.inr ⟨_, rfl⟩))) _
  raiseRange h := h.raise (hQ _ (.inr (.inr ⟨_, rfl⟩))) _ _

theorem recomputeReserve_touches (s : State) : Touches ReserveCause s (recomputeReserve s) :=
  (Touches.reserveInvariant (fun _ => id) s).recomputeReserve (.refl _ s)

theorem ReserveCause.ne_bbu {c : CauseId} (h : ReserveCause c) (i : BbuId) : c ≠ causeBbu i := by
  rcases h with h | ⟨p, rfl⟩ | ⟨k, rfl⟩
  · exact h.ne_bbu i
  · exact causeTarget_ne_bbu p i
  · exact causeRange_ne_bbu k i

/-- A cause above the BBUs' that is neither the deficit's nor the regulator's. -/
theorem ReserveCause.low {c : CauseId} (h : ReserveCause c) : c.val < 120 ∨ c = causeDeficit ∨ c = causeRecharge := by
  rcases h with (rfl | rfl | ⟨n, rfl⟩) | ⟨p, rfl⟩ | ⟨k, rfl⟩
  · exact .inr (.inl rfl)
  · exact .inr (.inr rfl)
  · exact .inl (show 72 + n.val < 120 by omega)
  · exact .inl (show 96 + p.val < 120 by omega)
  · exact .inl (show 112 + k.val < 120 by omega)

theorem not_reserveCause_test : ¬ ReserveCause causeTest := fun h => by
  rcases h.low with h | h | h
  · exact absurd h (by decide)
  · exact absurd h (by decide)
  · exact absurd h (by decide)

theorem not_reserveCause_holdup : ¬ ReserveCause causeHoldup := fun h => by
  rcases h.low with h | h | h
  · exact absurd h (by decide)
  · exact absurd h (by decide)
  · exact absurd h (by decide)

/-! ### Moves of a BBU (R41, R42) -/

theorem driveBbu_bbus (i j : BbuId) (s : State) :
    (driveBbu i s).charge.bbus[j] = { s.charge.bbus[j] with out := (driveBbu i s).charge.bbus[j].out } := by
  unfold driveBbu
  split
  · simp only [State.setBbu_charge, get_set]
    split
    · next e => rw [← e]
    · rfl
  · rfl

theorem moveBbu_eq (i : BbuId) (st : BbuState) (s : State) :
    moveBbu i st s = reportBbu i (driveBbu i (s.setBbu i { s.charge.bbus[i] with state := st, taper := 0 })) := rfl

theorem setBbu_bbus (s : State) (i j : BbuId) (b : Bbu) : (s.setBbu i b).charge.bbus[j] = if i = j then b else s.charge.bbus[j] :=
  get_set _ _ _ _

theorem moveBbu_bbus (i j : BbuId) (st : BbuState) (s : State) :
    (moveBbu i st s).charge.bbus[j] =
      { (if i = j then { s.charge.bbus[i] with state := st, taper := 0 } else s.charge.bbus[j] : Bbu) with
        out := (moveBbu i st s).charge.bbus[j].out } := by
  rw [moveBbu_eq, reportBbu_charge, driveBbu_bbus, setBbu_bbus]

theorem driveBbu_charge (i : BbuId) (s : State) : (driveBbu i s).charge = { s.charge with bbus := (driveBbu i s).charge.bbus } := by
  unfold driveBbu
  split <;> rfl

theorem moveBbu_charge (i : BbuId) (st : BbuState) (s : State) :
    (moveBbu i st s).charge = { s.charge with bbus := (moveBbu i st s).charge.bbus } := by
  have h : (moveBbu i st s).charge = (driveBbu i (s.setBbu i { s.charge.bbus[i] with state := st, taper := 0 })).charge := by
    rw [moveBbu_eq, reportBbu_charge]
  rw [h]
  exact driveBbu_charge i _

theorem changeBbu_of_same {i : BbuId} {st : BbuState} {s : State} (h : s.charge.bbus[i].state = st) : changeBbu i st s = s := if_pos h

theorem changeBbu_of_ne {i : BbuId} {st : BbuState} {s : State} (h : s.charge.bbus[i].state ≠ st) :
    changeBbu i st s = raise (causeBbu i) s.charge.bbus[i].q (stateCode st.code) (moveBbu i st s) := if_neg h

theorem changeBbu_charge (i : BbuId) (st : BbuState) (s : State) :
    (changeBbu i st s).charge = { s.charge with bbus := (changeBbu i st s).charge.bbus } := by
  by_cases h : s.charge.bbus[i].state = st
  · rw [changeBbu_of_same h]
  · rw [changeBbu_of_ne h, raise_charge]
    exact moveBbu_charge i st s

theorem changeBbu_state (i j : BbuId) (st : BbuState) (s : State) :
    (changeBbu i st s).charge.bbus[j].state = if i = j then st else s.charge.bbus[j].state := by
  by_cases h : s.charge.bbus[i].state = st
  · rw [changeBbu_of_same h]
    split
    · next e => rw [← e, h]
    · rfl
  · rw [changeBbu_of_ne h, raise_charge, moveBbu_bbus]
    split <;> rfl

/-- A change of state leaves the counters of every BBU. -/
theorem changeBbu_q (i j : BbuId) (st : BbuState) (s : State) : (changeBbu i st s).charge.bbus[j].q = s.charge.bbus[j].q := by
  by_cases h : s.charge.bbus[i].state = st
  · rw [changeBbu_of_same h]
  · rw [changeBbu_of_ne h, raise_charge, moveBbu_bbus]
    split
    · next e => rw [← e]
    · rfl

theorem moveBbu_touches (i : BbuId) (st : BbuState) (s : State) : Touches (· = causeBbu i) s (moveBbu i st s) := by
  rw [moveBbu_eq]
  exact ((Touches.of_same (P := (· = causeBbu i)) (s := s) (t := s.setBbu i { s.charge.bbus[i] with state := st, taper := 0 })
    rfl rfl).driveBbu i).report rfl _

theorem changeBbu_touches (i : BbuId) (st : BbuState) (s : State) : Touches (· = causeBbu i) s (changeBbu i st s) :=
  ite_keeps (.refl _ s) ((moveBbu_touches i st s).raise rfl _ _)

theorem moveBbu_frame (i : BbuId) (st : BbuState) (s : State) :
    Touches (fun _ => False) s (driveBbu i (s.setBbu i { s.charge.bbus[i] with state := st, taper := 0 })) :=
  (Touches.of_same (s := s) (t := s.setBbu i { s.charge.bbus[i] with state := st, taper := 0 }) rfl rfl).driveBbu i

theorem changeBbu_raised {i : BbuId} {st : BbuState} {s : State} (h : s.charge.bbus[i].state ≠ st) :
    RaisedFrom s (changeBbu i st s) (causeBbu i) s.charge.bbus[i].q (stateCode st.code) := by
  rw [changeBbu_of_ne h, moveBbu_eq]
  exact reported_raised (causeBbu i) _ _ _ (moveBbu_frame i st s)

theorem causeBbu_ne_test (i : BbuId) : causeBbu i ≠ causeTest := fun h => by
  have := congrArg Fin.val h
  simp only [causeBbu, causeTest] at this
  have hi := i.isLt
  change 120 + i.val = 133 at this
  omega

/-! ### Outputs that no share moves (R41) -/

/-- A state whose outputs do not depend on the BBU's share. -/
def BbuState.unshared : BbuState → Bool
  | .charging => false
  | _ => true

theorem outputsOf_unshared {st : BbuState} (h : st.unshared = true) (share c : Nat) : outputsOf st share c = outputsOf st 0 c := by
  cases st with
  | charging => cases h
  | _ => rfl

/-- BBU `i` stands in `st` after a set has been seen, and its outputs are those of the state. -/
structure DrivenAt (i : BbuId) (st : BbuState) (c : Nat) (s : State) : Prop where
  seen : s.sense.seen = true
  state : s.charge.bbus[i].state = st
  current : s.charge.test.current = c
  out : s.charge.bbus[i].out = outputsOf st 0 c

namespace DrivenAt
variable {i : BbuId} {st : BbuState} {c : Nat} {s t : State}

theorem of_same (h : DrivenAt i st c s) (hsense : t.sense = s.sense) (hcharge : t.charge.bbus = s.charge.bbus)
    (htest : t.charge.test = s.charge.test) : DrivenAt i st c t :=
  ⟨by rw [hsense]; exact h.seen, by rw [hcharge]; exact h.state, by rw [htest]; exact h.current, by rw [hcharge]; exact h.out⟩

theorem driveBbu (h : DrivenAt i st c s) (hst : st.unshared = true) (j : BbuId) : DrivenAt i st c (Machine.driveBbu j s) := by
  unfold Machine.driveBbu
  rw [if_pos h.seen]
  refine ⟨h.seen, ?_, h.current, ?_⟩
  · rw [setBbu_bbus]
    split
    · next e => rw [e, h.state]
    · exact h.state
  · rw [setBbu_bbus]
    split
    · next e =>
      subst e
      show outputsOf s.charge.bbus[j].state _ s.charge.test.current = _
      rw [h.state, h.current, outputsOf_unshared hst]
    · exact h.out

theorem shedInvariant (hst : st.unshared = true) : ShedInvariant (DrivenAt i st c) where
  setBudget h := h.of_same rfl rfl rfl
  setRecharge h := h.of_same rfl rfl rfl
  setSeq h := h.of_same rfl rfl rfl
  setLine h := h.of_same rfl rfl rfl
  driveBbu h := h.driveBbu hst _
  reportCondition _ h := h.of_same (by rw [reportCondition_sense]) (by rw [reportCondition_charge]) (by rw [reportCondition_charge])
  raise _ h := h.of_same (by rw [raise_sense]) (by rw [raise_charge]) (by rw [raise_charge])

theorem reserveInvariant (hst : st.unshared = true) : ReserveInvariant (DrivenAt i st c) where
  targetAction h := (shedInvariant hst).targetAction h
  setMatched h _ := h.of_same rfl rfl rfl
  reckon h := h.of_same rfl rfl rfl
  raiseTarget h := h.of_same (by rw [raise_sense]) (by rw [raise_charge]) (by rw [raise_charge])
  reportRange h := h.of_same (by rw [reportCondition_sense]) (by rw [reportCondition_charge]) (by rw [reportCondition_charge])
  raiseRange h := h.of_same (by rw [raise_sense]) (by rw [raise_charge]) (by rw [raise_charge])

/-- A change of state drives the outputs of the new state. -/
theorem of_change (hseen : s.sense.seen = true) (hne : s.charge.bbus[i].state ≠ st) (hst : st.unshared = true) :
    DrivenAt i st s.charge.test.current (changeBbu i st s) := by
  have hmoved : DrivenAt i st s.charge.test.current (moveBbu i st s) := by
    rw [moveBbu_eq]
    unfold reportBbu
    refine (shedless ?_)
    unfold Machine.driveBbu
    rw [if_pos (show (s.setBbu i { s.charge.bbus[i] with state := st, taper := 0 }).sense.seen = true from hseen)]
    refine ⟨hseen, ?_, rfl, ?_⟩
    · simp only [setBbu_bbus, if_true]
    · simp only [setBbu_bbus, if_true]
      exact outputsOf_unshared hst _ _
  rw [changeBbu_of_ne hne]
  exact hmoved.of_same (by rw [raise_sense]) (by rw [raise_charge]) (by rw [raise_charge])
where
  shedless {u : State} {c : CauseId} {a : Bool} (h : DrivenAt i st s.charge.test.current u) :
      DrivenAt i st s.charge.test.current (Machine.reportCondition c a u) :=
    h.of_same (by rw [reportCondition_sense]) (by rw [reportCondition_charge]) (by rw [reportCondition_charge])

end DrivenAt

/-! ### The end of a test (R57) -/

/-- The part with the running test closed, before its cause is raised. -/
def State.testClosed (s : State) (result : TestResult) : State :=
  s.setCharge
    { s.charge with
      test :=
        { s.charge.test with
          running := false
          timer := none
          result := result
          d := if Config.keepsDiscardedCharge then s.charge.test.d else 0
          residue := if Config.keepsDiscardedCharge then s.charge.test.residue else 0 } }

/-- The part with the test closed and its cause raised. -/
def State.testTold (s : State) (result : TestResult) : State :=
  raise causeTest 0 (BitVec.ofNat 8 result.code) (s.testClosed result)

theorem abortTest_eq {s : State} {i : BbuId} (h : s.charge.test.bbu = some i) (result : TestResult) (st : BbuId → State → BbuState) :
    abortTest result st s = changeBbu i (st i (s.testTold result)) (s.testTold result) := by
  unfold abortTest
  simp only
  split
  · next e => rw [e] at h; cases h
  · next j e =>
    rw [e] at h
    cases h
    rfl

theorem testTold_charge (s : State) (result : TestResult) : (s.testTold result).charge = (s.testClosed result).charge := raise_charge _ _ _ _

theorem testTold_raised (s : State) (result : TestResult) : RaisedFrom s (s.testTold result) causeTest 0 (BitVec.ofNat 8 result.code) :=
  (raise_raisedFrom causeTest 0 _ (s.testClosed result)).congr rfl rfl rfl

/-- R57: an early end of a test, with the recompute of the reserve that follows. -/
theorem abortTest_closes {s t : State} {i : BbuId} {result : TestResult} {st : BbuId → State → BbuState}
    (h : s.charge.test.bbu = some i) (ht : t = recomputeReserve (abortTest result st s)) :
    t.charge.test.running = false ∧ t.charge.test.result = result ∧ t.charge.test.timer = none ∧
      t.charge.bbus[i].state = st i (s.testTold result) ∧ t.charge.bbus[i].q = s.charge.bbus[i].q ∧
      RaisedFrom s t causeTest 0 (BitVec.ofNat 8 result.code) ∧ t.reserveReckoned := by
  rw [abortTest_eq h] at ht
  have htest : t.charge.test = (s.testClosed result).charge.test := by
    rw [ht, recomputeReserve_test, changeBbu_charge, testTold_charge]
  refine ⟨congrArg TestRecord.running htest, congrArg TestRecord.result htest, congrArg TestRecord.timer htest, ?_, ?_, ?_, ?_⟩
  · rw [ht, recomputeReserve_bbu_state, changeBbu_state, if_pos rfl]
  · rw [ht, recomputeReserve_bbu_q, changeBbu_q, testTold_charge]
    rfl
  · rw [ht]
    have hraised := testTold_raised s result
    have hsend : KeepsSending s (s.testTold result) := raise_sending causeTest 0 _ (s.testClosed result)
    generalize s.testTold result = u at hraised hsend
    have hchange : Quiet causeTest u (changeBbu i (st i u) u) := changeBbu_touches i _ u causeTest (causeBbu_ne_test i).symm
    exact hraised.widen hsend (Quiet.refl _ s).toUnraised
      (hchange.trans (recomputeReserve_touches _ causeTest not_reserveCause_test)).toUnraised
  · rw [ht]
    exact recomputeReserve_reserveReckoned _

theorem restOf_testTold (s : State) (i : BbuId) (result : TestResult) :
    (s.testTold result).restOf i =
      if s.settings.bbus[i].qFull - s.settings.bbus[i].margin < s.charge.bbus[i].q then .standby else .charging := by
  have hset : (s.testTold result).settings = s.settings := base_settings (raise_base _ _ _ _)
  rw [State.restOf, hset, testTold_charge]
  rfl

/-! ### The start of a test (R54) -/

/-- The part with the test opened. -/
def State.testOpened (s : State) (i : BbuId) : State :=
  s.setCharge
    { s.charge with
      test := ⟨true, some i, s.seconds, 0, 0, 0, s.settings.bbus[i].testLimit, s.settings.bbus[i].testCurrent, .none,
        some (s.settings.bbus[i].testLimit * 1000)⟩ }

theorem startTest_eq (i : BbuId) (s : State) : startTest i s = recomputeReserve (changeBbu i .testing (s.testOpened i)) := rfl

theorem testable_iff {s : State} {i : BbuId} :
    s.testable i = true ↔
      s.holdup.state = .online ∧ s.charge.bbus[i].state = .standby ∧ s.charge.bbus[i].calibrated = true ∧
        s.charge.test.running = false ∧ s.settings.bbus[i].testReserve ≤ s.timeWithout i := by
  simp only [State.testable, State.online, Bool.and_eq_true, beq_iff_eq, decide_eq_true_eq, Bool.not_eq_true']
  tauto

end Sys2Proof.Machine

open Sys2Proof Sys2Proof.Machine

/-- Settles O43: a test opens and ends with one change of its BBU's state and one recompute of the reserve. -/
theorem testsStartAndAbort : Obligations.TestsStartAndAbort := by
  intro s tag h
  refine ⟨fun b i hi => ?_, fun hno => ?_, fun i hrun hbbu hst => ?_⟩
  · intro set old rest time allowed
    have hrun : runStartTest b s = demand (s.testable i) .wrongState (.ok (startTest i s, .plain)) := withId_some hi
    have hallowed : s.testable i = true ↔ allowed := testable_iff
    refine ⟨fun hno => refuses_of_error rfl h (hrun.trans (demand_false (Bool.eq_false_iff.2 fun e => hno (hallowed.1 e)))),
      fun hyes => answers_of_ok rfl h (hrun.trans (demand_true (hallowed.2 hyes))) ?_⟩
    have hne : (s.testOpened i).charge.bbus[i].state ≠ .testing := by
      rw [show (s.testOpened i).charge.bbus[i].state = .standby from hyes.2.1]
      nofun
    rw [startTest_eq]
    refine ⟨rfl, ?_, fun hseen => ?_, ?_, ?_, recomputeReserve_reserveReckoned _⟩
    · rw [recomputeReserve_bbu, changeBbu_of_ne hne, raise_charge, moveBbu_bbus, if_pos rfl]
      rfl
    · exact ((DrivenAt.reserveInvariant rfl).recomputeReserve
        (DrivenAt.of_change (s := s.testOpened i) hseen hne rfl)).out
    · rw [recomputeReserve_test, changeBbu_charge]
      rfl
    · have hraised : RaisedFrom s (changeBbu i .testing (s.testOpened i)) (causeBbu i) old.q 21 :=
        (changeBbu_raised (s := s.testOpened i) hne).congr rfl rfl rfl
      have hsend : KeepsSending s (changeBbu i .testing (s.testOpened i)) :=
        ((changeBbu_touches i .testing (s.testOpened i)) causeTest (causeBbu_ne_test i).symm).sending
      exact hraised.widen hsend (Quiet.refl _ s).toUnraised (recomputeReserve_quiet _ i).toUnraised
  · have hrun : runAbortTest s = demand s.charge.test.running .wrongState
        (.ok (recomputeReserve (abortTest .abortedManager (fun i t => t.restOf i) s), .plain)) := rfl
    exact refuses_of_error rfl h (hrun.trans (demand_false hno))
  · intro set
    have hrun' : runAbortTest s = demand s.charge.test.running .wrongState
        (.ok (recomputeReserve (abortTest .abortedManager (fun i t => t.restOf i) s), .plain)) := rfl
    obtain ⟨hoff, hresult, htimer, hstate, hq, hraised, hreckoned⟩ :=
      abortTest_closes (result := .abortedManager) (st := fun i t => t.restOf i) hbbu rfl
    refine answers_of_ok rfl h (hrun'.trans (demand_true hrun))
      ⟨rfl, hoff, hresult, htimer, hstate.trans (restOf_testTold s i _), hq, hraised, hreckoned⟩
end

section
/-! PROOFS. O48: CLEAR_LATCH, CLEAR_TRANSFER_RECORD, STORE_PROFILE, LOCK_PROFILE and the end of a write. -/

namespace Sys2Proof.Machine

theorem clearLatch_clears {p : AnalogId} {s : State}
    (h : s.settings.points[p].mode = .latch ∧ s.sense.points[AnalogId.point p].alarm = true ∧
      overLimit s.settings.points[p] s.sense.points[AnalogId.point p].value = false) :
    clearLatch p s =
      reportCondition (causePoint (AnalogId.point p)) s.sense.points[AnalogId.point p].stale
        (s.setPoint (AnalogId.point p) { s.sense.points[AnalogId.point p] with alarm := false }) := by
  unfold clearLatch
  simp only
  rw [if_pos h]
  rfl

theorem clearLatch_stays {p : AnalogId} {s : State}
    (h : ¬ (s.settings.points[p].mode = .latch ∧ s.sense.points[AnalogId.point p].alarm = true ∧
      overLimit s.settings.points[p] s.sense.points[AnalogId.point p].value = false)) : clearLatch p s = s := if_neg h

/-- The store after a completed write, before the raise (R176). -/
def State.written (s : State) (verified : Bool) (w : Writing) : State :=
  if verified then
    s.setStore
      { s.store with nvm := ⟨w.snapshot, true, Config.profileCrc w.snapshot⟩, writing := none, lastResult := .ok }
  else
    (s.setStore
      { s.store with
        nvm := ⟨w.snapshot, false, s.freshWord⟩
        writing := none
        lastResult := .verifyFailed
        unstored := true }).spendFree

theorem completeWrite_eq (verified : Bool) (w : Writing) (s : State) :
    completeWrite verified w s =
      raise causeStore (s.store.count : Nat) (if verified then 1 else 2) (s.written verified w) := by
  cases verified <;> rfl

theorem exec_storeWriteComplete_none {s : State} (h : s.store.writing = none) (verified : Bool) :
    exec (.storeWriteComplete verified) s = .next s := by
  unfold exec execStoreWriteComplete
  rw [h]

theorem exec_storeWriteComplete_some {s : State} {w : Writing} (h : s.store.writing = some w) (verified : Bool) :
    exec (.storeWriteComplete verified) s = .next (completeWrite verified w s) := by
  unfold exec execStoreWriteComplete
  rw [h]

end Sys2Proof.Machine

open Sys2Proof Sys2Proof.Machine

/-- Settles O48: each of the four requests writes one block, and the end of a write one block and then raises its cause. -/
theorem latchRecordStoreAndLocks : Obligations.LatchRecordStoreAndLocks := by
  refine ⟨fun s tag h => ⟨fun b p hp => ?_, fun hopen => ?_, fun hclosed => ?_, fun hwriting => ?_, fun hidle => ?_, ?_, ?_, ?_⟩,
    fun s verified => ⟨fun hidle => exec_storeWriteComplete_none hidle verified, fun w hw => ?_⟩⟩
  · intro q set x holds clears
    have hrun : runClearLatch b s =
        .ok (clearLatch p s, .latch (clearLatch p s).settings.points[p].mode (clearLatch p s).sense.points[q].alarm) := withId_some hp
    have hclears : clears ↔ set.mode = .latch ∧ x.alarm = true ∧ overLimit set x.value = false := by
      rw [← Bool.not_eq_true, overLimit_eq, decide_eq_true_eq]
    refine ⟨fun hno => ?_, fun hyes => ?_⟩
    · have hstays : clearLatch p s = s := clearLatch_stays fun e => hno (hclears.2 e)
      rw [hstays] at hrun
      exact accepts_of_ok rfl h hrun
    · have hcleared := clearLatch_clears (hclears.1 hyes)
      have hframe := reportCondition_frame (causePoint q) x.stale (s.setPoint q { x with alarm := false })
      have hrecs := reportCondition_recs (causePoint q) x.stale (s.setPoint q { x with alarm := false })
      have hbase := reportCondition_base (causePoint q) x.stale (s.setPoint q { x with alarm := false })
      rw [hcleared] at hrun
      refine answers_of_ok rfl h hrun ⟨?_, ?_, ?_⟩
      · rw [base_settings hbase, base_sense hbase]
        exact congrArg₂ Ack.latch hyes.1 (congrArg Point.alarm (get_set_same _ _ _))
      · exact hframe.trans (congrArg (fun c => { s.setPoint q { x with alarm := false } with causes := c })
          (congrArg State.causes hframe).symm)
      · exact (congrArg State.causes hframe).trans
          (congrArg (fun r => { s.causes with
            recs := r
            alert := (reportCondition (causePoint q) x.stale (s.setPoint q { x with alarm := false })).causes.alert }) hrecs)
  · have hrun : runClearTransferRecord s = .error .wrongState := demand_false (by rw [hopen]; rfl)
    exact refuses_of_error rfl h hrun
  · have hrun : runClearTransferRecord s = .ok (s.setHoldup { s.holdup with record := Transfer.empty }, .plain) :=
      demand_true (by rw [hclosed]; rfl)
    exact accepts_of_ok rfl h hrun
  · have hrun : runStoreProfile s = .error .storeBusy :=
      demand_false (by rw [Option.isNone_eq_false_iff, Option.isSome_iff_ne_none]; exact hwriting)
    exact refuses_of_error rfl h hrun
  · have hrun : runStoreProfile s = .ok (s.setStore
        { s.store with writing := some ⟨s.settings, 0⟩, unstored := false, count := s.store.count + 1 }, .plain) :=
      demand_true (by rw [hidle]; rfl)
    exact accepts_of_ok rfl h hrun
  · exact accepts_of_ok rfl h (c := .lockProfile tag 0) rfl
  · exact accepts_of_ok rfl h (c := .lockProfile tag 1) rfl
  · exact accepts_of_ok rfl h (c := .lockProfile tag 2) rfl
  · refine ⟨completeWrite verified w s, exec_storeWriteComplete_some hw verified, ?_⟩
    rw [completeWrite_eq]
    have htells := (Tells.refl (s.written verified w)).raise causeStore (s.store.count : Nat) (if verified then 1 else 2)
    have hraised := raise_raisedFrom causeStore (s.store.count : Nat) (if verified then 1 else 2) (s.written verified w)
    generalize raise causeStore (s.store.count : Nat) (if verified then 1 else 2) (s.written verified w) = t at htells hraised
    have hstore : t.store = (s.written verified w).store := by rw [htells]
    refine ⟨?_, ?_, ?_, ?_, ?_⟩
    · rw [htells]
      cases verified <;> rfl
    · cases verified
      · exact hraised.congr rfl rfl rfl
      · exact hraised.congr rfl rfl rfl
    · rw [hstore]
      cases verified <;> rfl
    · rw [hstore]
      cases verified <;> rfl
    · rw [hstore]
      cases verified
      · simp [State.written, State.setStore, State.spendFree]
      · simp [State.written, State.setStore]
end

section
/-! PROOFS. A slot that joins the queue and the grant check that follows (R96 to R102); O46: RELEASE_SLOT; O44: POWER_UP. -/

namespace Sys2Proof.Machine

/-! ### Slots in SOAK (R100) -/

/-- No slot has entered or left SOAK. -/
theorem soakCount_congr {s t : State} (h : ∀ m : SlotId, (t.seq.slots[m].state == .soak) = (s.seq.slots[m].state == .soak)) :
    t.soakCount = s.soakCount :=
  List.countP_congr fun m _ => by rw [h m]

/-- R100 looks at the settings, the slots in SOAK and the sequencer's own fields. -/
theorem grantable_of_same {s t : State} (hset : t.settings = s.settings) (hcount : t.soakCount = s.soakCount)
    (hholdup : t.seq.lastHoldup = s.seq.lastHoldup) (hstagger : t.seq.stagger = s.seq.stagger)
    (htarget : t.seq.targetInhibit = s.seq.targetInhibit) (hinhibit : t.seq.lastInhibit = s.seq.lastInhibit) :
    t.grantable = s.grantable := by
  rw [State.grantable, State.grantable, hset, hcount, hholdup, hstagger, htarget, hinhibit]

/-! ### A dry slot outside the queue joins it -/

/-- The record of a slot as it joins the queue (R97, R122). -/
def Slot.queuedUp (x : Slot) : Slot := ({ x with restore := false } : Slot).moved .queued

/-- The record of a slot as it is granted (R101). -/
def Slot.soaking (x : Slot) (soak : Nat) : Slot := ({ x with soak := some (soak * 100) } : Slot).moved .soak

theorem granted_slots (s : State) (n m : SlotId) :
    (s.granted n).slots[m] = if n = m then s.seq.slots[n].soaking s.settings.slots[n].soak else s.seq.slots[m] := get_set _ _ _ _

theorem filter_of_not_mem {n : SlotId} {l : List SlotId} (h : n ∉ l) : l.filter (fun m => decide (m ≠ n)) = l :=
  List.filter_eq_self.2 fun m hm => decide_eq_true fun e => h (e ▸ hm)

section Join
variable {s : State} {n : SlotId}

theorem enterQueue_settings (n : SlotId) (s : State) : (enterQueue n s).settings = s.settings := (Ripple.refl s).enterQueue.settings

/-- A dry slot outside the queue takes its place in it, and the rest of the sequencer stays. -/
theorem enterQueue_outside (hdry : s.slotWet n = false) (hn : n ∉ s.seq.queue) :
    (enterQueue n s).seq =
      { s.seq with
        slots := s.seq.slots.set n s.seq.slots[n].queuedUp
        queue := insertSlot s.before n s.seq.queue } := by
  rw [enterQueue_seq hdry, filter_of_not_mem hn]
  rfl

theorem enterQueue_slots_outside (hdry : s.slotWet n = false) (hn : n ∉ s.seq.queue) (m : SlotId) :
    (enterQueue n s).seq.slots[m] = if n = m then s.seq.slots[n].queuedUp else s.seq.slots[m] := by
  rw [enterQueue_outside hdry hn]
  exact get_set _ _ _ _

theorem enterQueue_grantable (hdry : s.slotWet n = false) (hn : n ∉ s.seq.queue) (hst : s.seq.slots[n].state ≠ .soak) :
    (enterQueue n s).grantable = s.grantable := by
  have hseq := enterQueue_outside hdry hn
  refine grantable_of_same (enterQueue_settings n s) (soakCount_congr fun m => ?_) ?_ ?_ ?_ ?_
  · rw [enterQueue_slots_outside hdry hn]
    split
    · next e =>
      subst e
      exact (beq_eq_false_iff_ne.2 hst).symm
    · rfl
  all_goals rw [hseq]

theorem enterQueue_grantsHead (hdry : s.slotWet n = false) (hn : n ∉ s.seq.queue) (hst : s.seq.slots[n].state ≠ .soak) (m : SlotId) :
    (enterQueue n s).grantsHead m = s.grantsHead m := by
  have hlast : (enterQueue n s).seq.lastH = s.seq.lastH := by rw [enterQueue_outside hdry hn]
  rw [State.grantsHead, State.grantsHead, enterQueue_grantable hdry hn hst, enterQueue_settings, hlast]

/-- R101: what an event of the sequencer makes of a slot that has just joined the queue: it waits, with the head granted or not, or
it heads the queue and is granted. -/
theorem seqEvent_enterQueue (hdry : s.slotWet n = false) (hn : n ∉ s.seq.queue) (hst : s.seq.slots[n].state ≠ .soak) :
    let t := seqEvent (enterQueue n s)
    let y := t.seq.slots[n]
    (y = s.seq.slots[n].queuedUp ∧ n ∈ t.seq.queue ∧
        ∀ rest, insertSlot s.before n s.seq.queue = n :: rest → s.grantsHead n = false) ∨
      (y = s.seq.slots[n].queuedUp.soaking s.settings.slots[n].soak ∧ t.seq.queue = s.seq.queue ∧ s.grantsHead n = true ∧
        t.seq.reports = s.seq.reports ++ [none] ∧ ∃ rest, insertSlot s.before n s.seq.queue = n :: rest) := by
  intro t y
  have hseq := enterQueue_outside hdry hn
  have hgrants := enterQueue_grantsHead hdry hn hst
  have hslot : (enterQueue n s).seq.slots[n] = s.seq.slots[n].queuedUp := by
    rw [enterQueue_slots_outside hdry hn, if_pos rfl]
  have hqueue : (enterQueue n s).seq.queue = insertSlot s.before n s.seq.queue := by rw [hseq]
  have hin : n ∈ (enterQueue n s).seq.queue := by
    rw [hqueue]
    exact mem_insertSlot.2 (.inl rfl)
  rcases grantCheck_cases (enterQueue n s) with ⟨-, hno⟩ | ⟨m, rest, hq, hg, -⟩
  · have hsame := seqEvent_same hno
    refine .inl ⟨?_, ?_, fun rest hq => ?_⟩
    · rw [← hslot]
      exact congrArg (fun v : Vector Slot 24 => v[n]) hsame.slots
    · show n ∈ (seqEvent _).seq.queue
      rw [hsame.queue]
      exact hin
    · rw [← hgrants]
      exact hno n (by rw [hqueue, hq]; rfl)
  · have ht := seqEvent_granted_seq hq hg
    have hset := enterQueue_settings n s
    by_cases hm : m = n
    · subst hm
      refine .inr ⟨?_, ?_, by rw [← hgrants, hg], ?_, rest, by rw [← hqueue, hq]⟩
      · show (seqEvent _).seq.slots[m] = _
        rw [ht]
        show ((enterQueue m s).granted m).slots[m] = _
        rw [granted_slots, if_pos rfl, hslot, hset]
      · show (seqEvent _).seq.queue = _
        rw [ht]
        show (enterQueue m s).seq.queue.filter _ = _
        rw [hqueue, insertSlot_eq, List.filter_append, List.filter_cons_of_neg (by simp), ← List.filter_append,
          List.takeWhile_append_dropWhile, filter_of_not_mem hn]
      · show (seqEvent _).seq.reports = _
        rw [ht, hseq]
    · refine .inl ⟨?_, ?_, fun rest' hq' => ?_⟩
      · show (seqEvent _).seq.slots[n] = _
        rw [ht]
        show ((enterQueue n s).granted m).slots[n] = _
        rw [granted_slots, if_neg hm, hslot]
      · show n ∈ (seqEvent _).seq.queue
        rw [ht]
        exact List.mem_filter.2 ⟨hin, decide_eq_true fun e => hm e.symm⟩
      · rw [hqueue, hq'] at hq
        exact absurd (List.cons.inj hq).1.symm hm

/-- A slot that stays outside the queue is left alone. -/
theorem seqEvent_enterQueue_others (hdry : s.slotWet n = false) (hn : n ∉ s.seq.queue) {m : SlotId} (hne : m ≠ n)
    (hm : m ∉ s.seq.queue) : (seqEvent (enterQueue n s)).seq.slots[m] = s.seq.slots[m] := by
  have hout : m ∉ (enterQueue n s).seq.queue := by
    rw [enterQueue_outside hdry hn]
    show m ∉ insertSlot s.before n s.seq.queue
    rw [mem_insertSlot]
    exact fun h => h.elim hne hm
  rw [seqEvent_slots hout, enterQueue_slots_outside hdry hn, if_neg hne.symm]

end Join

/-! ### The conditions of the slots (R107) -/

theorem seqEvent_touches (s : State) : Touches ShedCause s (seqEvent s) :=
  (Touches.shedInvariant (fun _ => id) s).seqEvent (.refl _ s)

theorem lineWatch_touches (P : CauseId → Prop) (s : State) : Touches P s (lineWatch s) := ite_keeps (.of_same rfl rfl) (.refl P s)

theorem moveSlot_condition (n : SlotId) (st : SlotState) (upd : Slot → Slot) (s : State) :
    (moveSlot n st upd s).causes.recs[causeSlot n].condition = (st == .faulted) := by
  rw [moveSlot_eq]
  exact ((lineWatch_touches (fun _ => False) _) (causeSlot n) id).condition.trans (reportCondition_condition _ _ _)

theorem causeSlot_injective {n m : SlotId} (h : causeSlot n = causeSlot m) : n = m := by
  have := congrArg Fin.val h
  simp only [causeSlot] at this
  exact Fin.ext (by omega)

theorem moveSlot_touches (n : SlotId) (st : SlotState) (upd : Slot → Slot) (s : State) :
    Touches (· = causeSlot n) s (moveSlot n st upd s) := by
  rw [moveSlot_eq]
  exact ((Touches.of_same (P := (· = causeSlot n)) (s := s) (t := s.setSlot n ((upd s.seq.slots[n]).moved st)) rfl rfl).report
    rfl _).trans (lineWatch_touches _ _)

theorem causeSlot_not_budget (n : SlotId) : ¬ BudgetCause (causeSlot n) := by
  have hn := n.isLt
  rintro (h | h)
  · have := congrArg Fin.val h
    change 72 + n.val = 131 at this
    omega
  · have := congrArg Fin.val h
    change 72 + n.val = 136 at this
    omega

/-- A slot that is not FAULTED and has no condition has none after an event of the sequencer. -/
theorem seqEvent_condition {s : State} {n : SlotId} (h : s.causes.recs[causeSlot n].condition = false) :
    (seqEvent s).causes.recs[causeSlot n].condition = false := by
  have hreport (u : State) : (reportHead u).causes = u.causes := by unfold reportHead; split <;> rfl
  rw [seqEvent, hreport]
  rcases grantCheck_cases s with ⟨e, -⟩ | ⟨m, rest, -, -, e⟩
  · rw [e]
    exact h
  · rw [e]
    show (grant m s).causes.recs[causeSlot n].condition = false
    have hquiet (u : State) : (recompute u).causes.recs[causeSlot n].condition = u.causes.recs[causeSlot n].condition :=
      (recompute_touches u (causeSlot n) (causeSlot_not_budget n)).condition
    unfold grant shiftSlot
    simp only
    rw [hquiet]
    by_cases hm : m = n
    · subst hm
      exact moveSlot_condition _ _ _ _
    · exact ((moveSlot_touches m .soak _ _) (causeSlot n) fun e => hm (causeSlot_injective e).symm).condition.trans h

theorem joinQueue_causes (n : SlotId) (s : State) : (joinQueue n s).causes = s.causes := rfl

theorem enterQueue_condition (n : SlotId) (s : State) : (enterQueue n s).causes.recs[causeSlot n].condition = false := by
  rcases enterQueue_cases n s with ⟨-, e⟩ | ⟨-, e⟩
  · rw [e]
    exact moveSlot_condition _ _ _ _
  · rw [e]
    rw [joinQueue_causes]
    exact moveSlot_condition _ _ _ _

/-! ### Leak zones of a slot (R97, R99) -/

theorem slotWet_iff {s : State} {n : SlotId} :
    s.slotWet n = true ↔ ∃ z : ZoneId, s.settings.slots[n].zone = some z ∧ s.leak.zones[z].state = .wet := by
  unfold State.slotWet
  split
  · next h => exact ⟨nofun, fun ⟨z, hz, _⟩ => by rw [h] at hz; cases hz⟩
  · next z h =>
    rw [beq_iff_eq]
    exact ⟨fun e => ⟨z, h, e⟩, fun ⟨w, hw, e⟩ => by
      rw [h] at hw
      cases hw
      exact e⟩

theorem slotWetShed_iff {s : State} {n : SlotId} :
    s.slotWetShed n = true ↔
      ∃ z : ZoneId, s.settings.slots[n].zone = some z ∧ s.leak.zones[z].state = .wet ∧ s.settings.zones[z].policy = .valveAndShed := by
  unfold State.slotWetShed
  split
  · next h => exact ⟨nofun, fun ⟨z, hz, _⟩ => by rw [h] at hz; cases hz⟩
  · next z h =>
    rw [Bool.and_eq_true, beq_iff_eq, beq_iff_eq]
    exact ⟨fun e => ⟨z, h, e⟩, fun ⟨w, hw, e⟩ => by
      rw [h] at hw
      cases hw
      exact e⟩

theorem slotWet_congr {s t : State} (hset : t.settings = s.settings) (hleak : t.leak = s.leak) (n : SlotId) : t.slotWet n = s.slotWet n := by
  unfold State.slotWet
  rw [hset, hleak]

theorem slotWet_of_shed {s : State} {n : SlotId} (h : s.slotWetShed n = true) : s.slotWet n = true := by
  obtain ⟨z, hz, hw, -⟩ := slotWetShed_iff.1 h
  exact slotWet_iff.2 ⟨z, hz, hw⟩

theorem moveSlot_slotWet (n m : SlotId) (st : SlotState) (upd : Slot → Slot) (s : State) :
    (moveSlot n st upd s).slotWet m = s.slotWet m :=
  slotWet_congr (moveSlot_settings n st upd s) (base_leak (Ripple.refl s).moveSlot.base) m

/-! ### RELEASE_SLOT (R99) -/

theorem releaseSlot_wetShed {s : State} {n : SlotId} {requeue : Bool} (h : s.slotWetShed n = true) :
    releaseSlot n requeue s = moveSlot n .locked Slot.released s := if_pos h

theorem releaseSlot_wet {s : State} {n : SlotId} {requeue : Bool} (h : s.slotWetShed n = false) (hw : s.slotWet n = true) :
    releaseSlot n requeue s = moveSlot n .off Slot.released s := by
  unfold releaseSlot
  simp only
  rw [if_neg (by simp [h]), if_pos hw]
  rfl

theorem not_wetShed {s : State} {n : SlotId} (hw : s.slotWet n = false) : s.slotWetShed n = false :=
  Bool.eq_false_iff.2 fun h => by
    rw [slotWet_of_shed h] at hw
    cases hw

theorem releaseSlot_requeues {s : State} {n : SlotId} (hw : s.slotWet n = false) (he : s.settings.slots[n].enabled = true) :
    releaseSlot n true s = seqEvent (enterQueue n (moveSlot n .off Slot.released s)) := by
  unfold releaseSlot
  simp only
  rw [if_neg (by rw [not_wetShed hw]; nofun), if_neg (by rw [hw]; nofun), if_pos (by rw [he]; rfl)]
  rfl

theorem releaseSlot_rests {s : State} {n : SlotId} {requeue : Bool} (hw : s.slotWet n = false)
    (he : requeue = false ∨ s.settings.slots[n].enabled = false) : releaseSlot n requeue s = moveSlot n .off Slot.released s := by
  unfold releaseSlot
  simp only
  rw [if_neg (by rw [not_wetShed hw]; nofun), if_neg (by rw [hw]; nofun),
    if_neg (by rcases he with e | e <;> rw [e] <;> simp)]
  rfl

theorem releasable_iff {s : State} {n : SlotId} :
    s.releasable n = true ↔
      (s.seq.slots[n].state = .faulted ∧ s.seq.slots[n].pg = false) ∨ (s.seq.slots[n].state = .locked ∧ s.slotWet n = false) := by
  unfold State.releasable
  cases s.seq.slots[n].state <;> simp

theorem takeFlag_iff {b : Byte} : takeFlag b = true ↔ b ≠ 0 := bne_iff_ne

end Sys2Proof.Machine

open Sys2Proof Sys2Proof.Machine

/-- Settles O46: the slot moves once, and joins the queue with one grant check. -/
theorem releaseSlotByItsTable : Obligations.ReleaseSlotByItsTable := by
  intro s tag b q n h hid x set wet shed may
  have hrun : runReleaseSlot b q s =
      demand (s.releasable n) .wrongState
        (.ok (releaseSlot n (takeFlag q) s, .released (releaseSlot n (takeFlag q) s).seq.slots[n].state)) := withId_some hid
  have hwet : s.slotWet n = true ↔ wet := slotWet_iff
  have hshed : s.slotWetShed n = true ↔ shed := slotWetShed_iff
  have hmay : s.releasable n = true ↔ may := by
    rw [releasable_iff, ← Bool.not_eq_true (s.slotWet n), hwet]
  refine ⟨fun hno => refuses_of_error rfl h (hrun.trans (demand_false (Bool.eq_false_iff.2 fun e => hno (hmay.1 e)))),
    fun hyes hn => answers_of_ok rfl h (hrun.trans (demand_true (hmay.2 hyes))) ?_⟩
  have hsoak : x.state ≠ .soak := by
    rcases hyes with ⟨e, -⟩ | ⟨e, -⟩ <;> rw [e] <;> nofun
  by_cases hws : s.slotWetShed n = true
  · rw [releaseSlot_wetShed hws]
    have hslot : (moveSlot n .locked Slot.released s).seq.slots[n] = x.released.moved .locked := by rw [moveSlot_slots, if_pos rfl]
    rw [hslot]
    exact ⟨rfl, rfl, rfl, rfl, moveSlot_condition _ _ _ _, fun _ => rfl, fun hno => absurd (hshed.1 hws) hno,
      fun hno => absurd (hwet.1 (slotWet_of_shed hws)) hno, fun m hm _ => by rw [moveSlot_slots, if_neg hm.symm]⟩
  have hno : s.slotWetShed n = false := Bool.eq_false_iff.2 hws
  by_cases hw : s.slotWet n = true
  · rw [releaseSlot_wet hno hw]
    have hslot : (moveSlot n .off Slot.released s).seq.slots[n] = x.released.moved .off := by rw [moveSlot_slots, if_pos rfl]
    rw [hslot]
    exact ⟨rfl, rfl, rfl, rfl, moveSlot_condition _ _ _ _, fun hs => absurd (hshed.2 hs) hws, fun _ _ => rfl,
      fun hdry => absurd (hwet.1 hw) hdry, fun m hm _ => by rw [moveSlot_slots, if_neg hm.symm]⟩
  have hdry : s.slotWet n = false := Bool.eq_false_iff.2 hw
  by_cases hq : takeFlag q = true ∧ set.enabled = true
  · rw [hq.1, releaseSlot_requeues hdry hq.2]
    generalize hu : moveSlot n .off Slot.released s = u
    have hslot : u.seq.slots[n] = x.released.moved .off := by rw [← hu, moveSlot_slots, if_pos rfl]
    have hqueue : u.seq.queue = s.seq.queue := by rw [← hu, moveSlot_queue]
    have hother (m : SlotId) (hm : m ≠ n) : u.seq.slots[m] = s.seq.slots[m] := by rw [← hu, moveSlot_slots, if_neg hm.symm]
    have hudry : u.slotWet n = false := by rw [← hu, moveSlot_slotWet, hdry]
    have hun : n ∉ u.seq.queue := by rw [hqueue]; exact hn
    have husoak : u.seq.slots[n].state ≠ .soak := by rw [hslot]; nofun
    have hgrantable : u.grantable = s.grantable := by
      refine grantable_of_same (by rw [← hu, moveSlot_settings]) (soakCount_congr fun m => ?_) ?_ ?_ ?_ ?_
      · by_cases hm : m = n
        · rw [hm, hslot]
          exact (beq_eq_false_iff_ne.2 hsoak).symm
        · rw [hother m hm]
      all_goals rw [← hu, moveSlot_seq]
    have hcond : (seqEvent (enterQueue n u)).causes.recs[causeSlot n].condition = false :=
      seqEvent_condition (enterQueue_condition n u)
    have hothers (m : SlotId) (hm : m ≠ n) (hmq : m ∉ s.seq.queue) : (seqEvent (enterQueue n u)).seq.slots[m] = s.seq.slots[m] :=
      (seqEvent_enterQueue_others hudry hun hm (by rw [hqueue]; exact hmq)).trans (hother m hm)
    have hnoshed : ¬ shed := fun hs => hws (hshed.2 hs)
    have hstays : ¬ (wet ∨ q = 0 ∨ set.enabled = false) := by
      rintro (hwet' | he | he)
      · exact hw (hwet.2 hwet')
      · exact takeFlag_iff.1 hq.1 he
      · rw [hq.2] at he
        cases he
    rcases seqEvent_enterQueue hudry hun husoak with ⟨hy, hin, -⟩ | ⟨hy, -, hg, -⟩
    · rw [hslot] at hy
      rw [hy]
      exact ⟨rfl, rfl, rfl, rfl, hcond, fun hs => absurd hs hnoshed, fun _ hr => absurd hr hstays,
        fun _ _ _ => .inl ⟨rfl, hin⟩, hothers⟩
    · rw [hslot] at hy
      rw [hy]
      have hg' : s.grantable = true := by rw [← hgrantable]; exact (grantsHead_iff.1 hg).1
      exact ⟨rfl, rfl, rfl, rfl, hcond, fun hs => absurd hs hnoshed, fun _ hr => absurd hr hstays,
        fun _ _ _ => .inr ⟨rfl, hg'⟩, hothers⟩
  · have hrest : takeFlag q = false ∨ s.settings.slots[n].enabled = false := by
      by_cases hf : takeFlag q = true
      · exact .inr (Bool.eq_false_iff.2 fun e => hq ⟨hf, e⟩)
      · exact .inl (Bool.eq_false_iff.2 hf)
    rw [releaseSlot_rests hdry hrest]
    have hslot : (moveSlot n .off Slot.released s).seq.slots[n] = x.released.moved .off := by rw [moveSlot_slots, if_pos rfl]
    rw [hslot]
    exact ⟨rfl, rfl, rfl, rfl, moveSlot_condition _ _ _ _, fun hs => absurd (hshed.2 hs) hws, fun _ _ => rfl,
      fun _ hf he => absurd ⟨takeFlag_iff.2 hf, he⟩ hq, fun m hm _ => by rw [moveSlot_slots, if_neg hm.symm]⟩
end

section
/-! PROOFS. O44: POWER_UP. -/

namespace Sys2Proof.Machine

/-- A slot that takes a state other than OFF is no longer one adopted OFF. -/
theorem Slot.moved_eq (x : Slot) {st : SlotState} (h : st ≠ .off) :
    x.moved st = { x with state := st, en := st.powered, adoptedOff := false } := by
  have hoff : (st == .off) = false := beq_eq_false_iff_ne.2 h
  rw [Slot.moved, hoff, Bool.and_false]

/-! ### Lists of slots (R98, R125, R172) -/

theorem takeIds_cons {α : Type} {take : Byte → Option α} {b : Byte} {bs : List Byte} {x : α} {xs : List α} (hb : take b = some x)
    (hbs : takeIds take bs = some xs) : takeIds take (b :: bs) = some (x :: xs) := by
  unfold takeIds
  rw [hb, hbs]

theorem takeIds_cons_some {α : Type} {take : Byte → Option α} {b : Byte} {bs : List Byte} {l : List α}
    (h : takeIds take (b :: bs) = some l) : ∃ x xs, take b = some x ∧ takeIds take bs = some xs ∧ l = x :: xs := by
  unfold takeIds at h
  split at h
  · next x xs hx hxs => exact ⟨x, xs, hx, hxs, (Option.some.inj h).symm⟩
  · cases h

theorem takeIds_length {α : Type} {take : Byte → Option α} : ∀ {bs : List Byte} {l : List α}, takeIds take bs = some l →
    l.length = bs.length
  | [], l, h => by
    cases Option.some.inj h
    rfl
  | b :: bs, l, h => by
    obtain ⟨x, xs, -, hxs, rfl⟩ := takeIds_cons_some h
    rw [List.length_cons, List.length_cons, takeIds_length hxs]

section Lists
variable {one : SlotId → State → State × SlotResult} {s : State}

/-- The outcomes of a list, with the states after the whole request. -/
def slotOutcomes (t : State) (results : List (SlotId × SlotResult)) : List SlotOutcome :=
  results.map fun e => ⟨e.1, e.2, t.seq.slots[e.1].state⟩

theorem slotList_taken {slots : List Byte} {ns : List SlotId} (hlen : 1 ≤ slots.length ∧ slots.length ≤ 24)
    (hns : takeIds (takeId 24) slots = some ns) :
    slotList slots one s =
      .ok ((takeSlots one ns s).1, .slotList (slotOutcomes (takeSlots one ns s).1 (takeSlots one ns s).2)) :=
  (demand_true (decide_eq_true hlen)).trans (withId_some hns)

theorem slotList_single {b : Byte} {n : SlotId} (hb : takeId 24 b = some n) :
    slotList [b] one s = .ok ((one n s).1, .slotList [⟨n, (one n s).2, (one n s).1.seq.slots[n].state⟩]) :=
  slotList_taken (slots := [b]) ⟨Nat.le_refl 1, Nat.le_add_left 1 23⟩ (takeIds_cons hb rfl)

theorem slotList_ok {slots : List Byte} {t : State} {fields : Ack} (h : slotList slots one s = .ok (t, fields)) :
    ∃ ns, (1 ≤ slots.length ∧ slots.length ≤ 24) ∧ takeIds (takeId 24) slots = some ns ∧ t = (takeSlots one ns s).1 ∧
      fields = .slotList (slotOutcomes t (takeSlots one ns s).2) := by
  by_cases hlen : 1 ≤ slots.length ∧ slots.length ≤ 24
  · cases hns : takeIds (takeId 24) slots with
    | none =>
      have herr : slotList slots one s = .error .outOfRange := (demand_true (decide_eq_true hlen)).trans (withId_none hns)
      rw [herr] at h
      cases h
    | some ns =>
      rw [slotList_taken hlen hns] at h
      cases h
      exact ⟨ns, hlen, rfl, rfl, rfl⟩
  · have herr : slotList slots one s = .error .badLength := demand_false (decide_eq_false hlen)
    rw [herr] at h
    cases h

/-- R98, R125: a list is its first entry and then the rest, the states reported after the whole request. -/
theorem slotList_cons {c d : Byte} {list : List Byte} {u t : State} {r : SlotOutcome} {rs : List SlotOutcome} (hlen : list.length ≤ 22)
    (hfirst : slotList [c] one s = .ok (u, .slotList [r])) (hrest : slotList (d :: list) one u = .ok (t, .slotList rs)) :
    slotList (c :: d :: list) one s = .ok (t, .slotList (⟨r.slot, r.result, t.seq.slots[r.slot].state⟩ :: rs)) := by
  obtain ⟨ns, -, hns, hu, hr⟩ := slotList_ok hfirst
  obtain ⟨x, xs, hx, hxs, rfl⟩ := takeIds_cons_some hns
  cases Option.some.inj hxs
  obtain ⟨ms, -, hms, ht, hrs⟩ := slotList_ok hrest
  have hr' := (List.cons.inj (Ack.slotList.inj hr)).1
  have hrs' := Ack.slotList.inj hrs
  have hall := slotList_taken (one := one) (s := s) (slots := c :: d :: list)
    ⟨by rw [List.length_cons]; omega, by rw [List.length_cons, List.length_cons]; omega⟩ (takeIds_cons hx hms)
  have hu' : u = (one x s).1 := hu
  have htake : takeSlots one (x :: ms) s = (t, (x, (one x s).2) :: (takeSlots one ms u).2) := by
    rw [ht, hu']
    rfl
  rw [hall, htake, hr', hrs']
  rfl

end Lists

/-! ### One slot of POWER_UP (R98) -/

section PowerUp
variable {n : SlotId} {s : State}

theorem powerUpSlot_queues (hst : s.seq.slots[n].state = .off) (he : s.settings.slots[n].enabled = true) (hdry : s.slotWet n = false) :
    powerUpSlot n s = (seqEvent (enterQueue n s), .queued) := by
  unfold powerUpSlot
  simp only [hst]
  rw [if_pos (by rw [he, hdry]; rfl)]

theorem powerUpSlot_withdraws (hst : s.seq.slots[n].state = .notice ∨ s.seq.slots[n].state = .held)
    (hr : s.seq.slots[n].reason = .manager) (hdry : s.slotWet n = false) : powerUpSlot n s = (withdrawSlot n s, .withdrawn) := by
  unfold powerUpSlot
  rcases hst with hst | hst
  · simp only [hst]
    rw [if_pos (by rw [hr, hdry]; rfl)]
  · simp only [hst]
    rw [if_pos (by rw [hr, hdry]; rfl)]

theorem powerUpSlot_stays (hst : s.seq.slots[n].state = .queued ∨ s.seq.slots[n].state = .soak ∨ s.seq.slots[n].state = .on) :
    powerUpSlot n s = (s, .noChange) := by
  unfold powerUpSlot
  rcases hst with hst | hst | hst <;> simp only [hst]

theorem powerUpSlot_refused
    (hq : ¬ (s.seq.slots[n].state = .off ∧ s.settings.slots[n].enabled = true ∧ s.slotWet n = false))
    (hw : ¬ ((s.seq.slots[n].state = .notice ∨ s.seq.slots[n].state = .held) ∧ s.seq.slots[n].reason = .manager ∧ s.slotWet n = false))
    (hs : ¬ (s.seq.slots[n].state = .queued ∨ s.seq.slots[n].state = .soak ∨ s.seq.slots[n].state = .on)) :
    powerUpSlot n s = (s, .refusedWrongState) := by
  unfold powerUpSlot
  cases hst : s.seq.slots[n].state with
  | off =>
    simp only [hst]
    exact if_neg fun h => hq ⟨hst, by simpa using h⟩
  | notice =>
    simp only [hst]
    exact if_neg fun h => hw ⟨.inl hst, by simpa using h⟩
  | held =>
    simp only [hst]
    exact if_neg fun h => hw ⟨.inr hst, by simpa using h⟩
  | queued => exact absurd (.inl hst) hs
  | soak => exact absurd (.inr (.inl hst)) hs
  | on => exact absurd (.inr (.inr hst)) hs
  | draining | faulted | locked => simp only [hst]

end PowerUp

/-- R96: the slot stands before the head of the queue, if there is one. -/
def State.headsQueue (s : State) (n : SlotId) : Prop :=
  ∀ m, s.seq.queue.head? = some m →
    s.settings.slots[n].rank < s.settings.slots[m].rank ∨ (s.settings.slots[n].rank = s.settings.slots[m].rank ∧ n < m)

theorem before_iff {s : State} {n m : SlotId} :
    s.before n m = true ↔
      s.settings.slots[n].rank < s.settings.slots[m].rank ∨ (s.settings.slots[n].rank = s.settings.slots[m].rank ∧ n < m) := decide_eq_true_iff

/-- A slot outside the queue heads it after joining it when it stands before its head. -/
theorem insertSlot_heads_iff {s : State} {n : SlotId} (hn : n ∉ s.seq.queue) :
    (∃ rest, insertSlot s.before n s.seq.queue = n :: rest) ↔ s.headsQueue n := by
  constructor
  · rintro ⟨rest, hq⟩ m hm
    obtain ⟨ms, hms⟩ := List.head?_eq_some_iff.1 hm
    rw [hms, insertSlot] at hq
    split at hq
    · next hb => exact before_iff.1 hb
    · exact absurd (hms ▸ List.mem_cons_self) ((List.cons.inj hq).1 ▸ hn)
  · intro hall
    cases hq : s.seq.queue with
    | nil => exact ⟨[], rfl⟩
    | cons m ms => exact ⟨m :: ms, by rw [insertSlot, if_pos (before_iff.2 (hall m (by rw [hq]; rfl)))]⟩

end Sys2Proof.Machine

open Sys2Proof Sys2Proof.Machine

/-- Settles O44: one entry by the slot's state, the grant check of a joining slot, and the list as its entries one by one. -/
theorem powerUpTakesSlotsByState : Obligations.PowerUpTakesSlotsByState := by
  intro s tag b n h hid x set wet queues withdraws stays
  have hrun (t : State) (r : SlotResult) (he : powerUpSlot n s = (t, r)) :
      runPowerUp [b] s = .ok (t, .slotList [⟨n, r, t.seq.slots[n].state⟩]) := by
    rw [runPowerUp, slotList_single hid, he]
  refine ⟨fun hq hn => answers_of_ok rfl h (hrun _ _ (powerUpSlot_queues hq.1 hq.2.1 hq.2.2)) ?_,
    fun hw => answers_of_ok rfl h (hrun _ _ (powerUpSlot_withdraws hw.1 hw.2.1 hw.2.2)) ?_,
    fun hs => accepts_of_ok rfl h (hrun _ _ (powerUpSlot_stays hs)),
    fun hq hw hs => accepts_of_ok rfl h (hrun _ _ (powerUpSlot_refused hq hw hs)),
    fun c d list u t r rs hlen hfirst hrest => slotList_cons hlen hfirst hrest⟩
  · obtain ⟨hst, -, hdry⟩ := hq
    have hsoak : s.seq.slots[n].state ≠ .soak := by
      rw [show s.seq.slots[n].state = .off from hst]
      nofun
    have hheads := insertSlot_heads_iff hn
    have hroom : s.grantsHead n = true ↔ s.grantable = true ∧ (set.pReq + set.pInrush : Int) ≤ s.seq.lastH := by
      rw [grantsHead_iff]
      rfl
    have hothers (m : SlotId) (hm : m ≠ n) (hmq : m ∉ s.seq.queue) : (seqEvent (enterQueue n s)).seq.slots[m] = s.seq.slots[m] :=
      seqEvent_enterQueue_others hdry hn hm hmq
    have hother (m : SlotId) (rest : List SlotId) (hq : s.seq.queue = m :: rest) (hno : ¬ s.headsQueue n)
        (hg : s.grantsHead m = true) :
        (seqEvent (enterQueue n s)).seq.slots[m].state = .soak ∧ m ∉ (seqEvent (enterQueue n s)).seq.queue ∧
          (seqEvent (enterQueue n s)).seq.reports = s.seq.reports ++ [none] := by
      have hbefore : s.before n m ≠ true := fun hb => hno fun k hk => by
        rw [hq] at hk
        cases hk
        exact before_iff.1 hb
      have hqueue : (enterQueue n s).seq.queue = m :: insertSlot s.before n rest := by
        rw [enterQueue_outside hdry hn]
        show insertSlot s.before n s.seq.queue = _
        rw [hq, insertSlot, if_neg hbefore]
      have hg' : (enterQueue n s).grantsHead m = true := by rw [enterQueue_grantsHead hdry hn hsoak, hg]
      rw [seqEvent_granted_seq hqueue hg']
      refine ⟨?_, fun hm => ?_, ?_⟩
      · show ((enterQueue n s).granted m).slots[m].state = .soak
        rw [granted_slots, if_pos rfl]
        rfl
      · exact of_decide_eq_true (List.mem_filter.1 hm).2 rfl
      · rw [enterQueue_outside hdry hn]
    refine ⟨rfl, (Ripple.refl s).enterQueue.seqEvent, ?_, ?_, hothers⟩
    · rcases seqEvent_enterQueue hdry hn hsoak with ⟨hy, hin, -⟩ | ⟨hy, hqueue, hg, -⟩
      · refine .inl ⟨hy.trans ?_, hin⟩
        rw [Slot.queuedUp, Slot.moved_eq _ (st := .queued) nofun]
        rfl
      · refine .inr ⟨hy.trans ?_, hqueue, (hroom.1 hg).1, (hroom.1 hg).2⟩
        rw [Slot.soaking, Slot.moved_eq _ (st := .soak) nofun]
        rfl
    · intro heads room
      refine ⟨?_, ?_, hother⟩
      · rcases seqEvent_enterQueue hdry hn hsoak with ⟨hy, -, hno⟩ | ⟨hy, -, hg, -, hhead⟩
        · rw [hy]
          refine ⟨nofun, fun ⟨hh, hr⟩ => ?_⟩
          obtain ⟨rest, hq⟩ := hheads.2 hh
          have := hno rest hq
          rw [hroom.2 hr] at this
          cases this
        · rw [hy]
          exact ⟨fun _ => ⟨hheads.1 hhead, hroom.1 hg⟩, fun _ => rfl⟩
      · rcases seqEvent_enterQueue hdry hn hsoak with ⟨hy, -, -⟩ | ⟨-, -, -, hreports, -⟩
        · rw [hy]
          nofun
        · exact fun _ => hreports
  · refine ⟨?_, (Ripple.refl s).withdrawSlot, ?_⟩
    · rw [withdrawSlot_slots, if_pos rfl]
      rfl
    · rw [withdrawSlot, shiftSlot_seq, Slot.moved_eq _ (st := .on) nofun]
      rfl
end

section
/-! PROOFS. What a shed makes of a slot, and that it spares the others (R112 to R122). -/

namespace Sys2Proof.Machine

/-! ### Slots that an operation on another slot spares -/

/-- Slot `m` has `P`; while it stands in the queue, a grant keeps `P` too. -/
def Spared (m : SlotId) (P : Slot → Prop) (t : State) : Prop :=
  P t.seq.slots[m] ∧ (m ∈ t.seq.queue → ∀ (k : Nat) (x : Slot), P x → P (x.soaking k))

namespace Spared
variable {m n : SlotId} {P : Slot → Prop} {t u : State} {st : SlotState} {upd : Slot → Slot} {reason : ShedReason} {urgency : Urgency}

/-- A slot outside the queue keeps its record. -/
theorem same {s : State} (h : m ∉ s.seq.queue) : Spared m (· = s.seq.slots[m]) s := ⟨rfl, fun hm => absurd hm h⟩

theorem of_seq (h : Spared m P t) (hslot : u.seq.slots[m] = t.seq.slots[m]) (hqueue : m ∈ u.seq.queue → m ∈ t.seq.queue) :
    Spared m P u := ⟨by rw [hslot]; exact h.1, fun hm => h.2 (hqueue hm)⟩

theorem setSlot (h : Spared m P t) (hne : n ≠ m) (x : Slot) : Spared m P (t.setSlot n x) :=
  h.of_seq (by rw [setSlot_slots, if_neg hne]) id

theorem recompute (h : Spared m P t) : Spared m P (recompute t) := h.of_seq (by rw [recompute_seq]) (by rw [recompute_seq]; exact id)

theorem moveSlot (h : Spared m P t) (hne : n ≠ m) : Spared m P (moveSlot n st upd t) :=
  h.of_seq (by rw [moveSlot_slots, if_neg hne]) (by rw [moveSlot_queue]; exact id)

theorem shiftSlot (h : Spared m P t) (hne : n ≠ m) : Spared m P (shiftSlot n st upd t) := (h.moveSlot hne).recompute

theorem leaveQueue (h : Spared m P t) : Spared m P (leaveQueue n t) := h.of_seq rfl fun hm => (mem_leaveQueue.1 hm).1

theorem joinQueue (h : Spared m P t) (hne : n ≠ m) : Spared m P (joinQueue n t) :=
  h.of_seq rfl fun hm => by
    rw [joinQueue_seq] at hm
    exact ((mem_insertSlot.1 hm).resolve_left hne.symm |> List.mem_filter.1).1

theorem enterQueue (h : Spared m P t) (hne : n ≠ m) : Spared m P (enterQueue n t) :=
  ite_keeps (h.moveSlot hne) ((h.moveSlot hne).joinQueue hne)

theorem grant (h : Spared m P t) (hn : n ∈ t.seq.queue) : Spared m P (grant n t) := by
  refine ⟨?_, fun hm => ?_⟩
  · rw [grant_seq, granted_slots]
    split
    · next e =>
      subst e
      exact h.2 hn _ _ h.1
    · exact h.1
  · rw [grant_seq] at hm
    exact h.2 (List.mem_filter.1 hm).1

theorem seqEvent (h : Spared m P t) : Spared m P (seqEvent t) := by
  rcases grantCheck_cases t with ⟨-, hno⟩ | ⟨n, rest, hq, hg, -⟩
  · have hsame := seqEvent_same hno
    exact h.of_seq (congrArg (fun v : Vector Slot 24 => v[m]) hsame.slots) (by rw [hsame.queue]; exact id)
  · rw [seqEvent_granted hq hg]
    exact (h.grant (by rw [hq]; exact List.mem_cons_self)).of_seq rfl id

theorem seqEventIf (h : Spared m P t) (b : Bool) : Spared m P (seqEventIf b t) := ite_keeps h.seqEvent h

theorem restoreSlot (h : Spared m P t) (hne : n ≠ m) : Spared m P (restoreSlot n t) :=
  ite_keeps (ite_keeps (h.enterQueue hne) (h.setSlot hne _)) h

theorem handOver (h : Spared m P t) (hne : n ≠ m) : Spared m P (handOver n t) := ite_keeps (h.restoreSlot hne).seqEvent h

theorem completeDrain (h : Spared m P t) (hne : n ≠ m) : Spared m P (completeDrain n t) := by
  rcases completeDrain_cases n t with ⟨-, e⟩ | ⟨-, restore, e⟩
  · rw [e]
    exact h.shiftSlot hne
  · rw [e]
    exact (h.shiftSlot hne).handOver hne

theorem settleDrain (h : Spared m P t) (hne : n ≠ m) : Spared m P (settleDrain n t) := ite_keeps h.recompute (h.completeDrain hne)

theorem enterDraining (h : Spared m P t) (hne : n ≠ m) : Spared m P (enterDraining n t) := (h.moveSlot hne).settleDrain hne

theorem unpowerSlot (h : Spared m P t) (hne : n ≠ m) : Spared m P (unpowerSlot n reason t) := by
  unfold Machine.unpowerSlot
  split
  · exact h.moveSlot hne
  · exact h.moveSlot hne
  · exact h.moveSlot hne

theorem shedUnpowered (h : Spared m P t) (hne : n ≠ m) : Spared m P (shedUnpowered n reason t) := by
  unfold Machine.shedUnpowered handOverFor
  exact ite_keeps ((h.leaveQueue.unpowerSlot hne).seqEventIf _ |>.handOver hne) ((h.leaveQueue.unpowerSlot hne).seqEventIf _)

theorem shedSoak (h : Spared m P t) (hne : n ≠ m) : Spared m P (shedSoak n reason urgency t) :=
  ((h.setSlot hne _).enterDraining hne).seqEvent

theorem shedOn (h : Spared m P t) (hne : n ≠ m) : Spared m P (shedOn n reason urgency t) :=
  ite_keeps ((h.setSlot hne _).enterDraining hne) (h.shiftSlot hne)

theorem escalate (h : Spared m P t) (hne : n ≠ m) : Spared m P (escalate n urgency t) := by
  unfold Machine.escalate
  split
  · exact h.enterDraining hne
  · exact h.enterDraining hne
  · exact h.enterDraining hne
  · exact h

theorem shedInFlight (h : Spared m P t) (hne : n ≠ m) : Spared m P (shedInFlight n reason urgency t) := by
  rcases shedInFlight_cases n reason urgency t with e | ⟨-, -, e⟩ | ⟨-, -, -, e⟩ <;> rw [e]
  · exact h
  · exact (h.setSlot hne _).escalate hne
  · exact h.setSlot hne _

theorem shedSlot (h : Spared m P t) (hne : n ≠ m) : Spared m P (shedSlot n reason urgency t) := by
  unfold Machine.shedSlot
  cases t.seq.slots[n].state with
  | off | queued => exact h.shedUnpowered hne
  | soak => exact h.shedSoak hne
  | on => exact h.shedOn hne
  | notice | held | draining => exact h.shedInFlight hne
  | faulted | locked => exact ite_keeps (h.setSlot hne _) h

end Spared

/-- A slot outside the queue keeps its record through a shed of another slot. -/
theorem shedSlot_slots {n m : SlotId} {reason : ShedReason} {urgency : Urgency} {s : State} (hne : m ≠ n) (hm : m ∉ s.seq.queue) :
    (shedSlot n reason urgency s).seq.slots[m] = s.seq.slots[m] := ((Spared.same hm).shedSlot hne.symm).1

/-- Waiting in the queue or granted, with no restore pending. -/
def Slot.waits (x : Slot) : Prop := x.restore = false ∧ (x.state = .queued ∨ x.state = .soak)

theorem Slot.waits_soaking (k : Nat) (x : Slot) (h : x.waits) : (x.soaking k).waits := ⟨h.1, .inr rfl⟩

/-! ### A list of slots taken one by one -/

section Fold
variable {f : State → SlotId → State} {s : State} {m : SlotId} {P : Slot → Prop}

theorem foldl_spared (hf : ∀ (u : State) (n : SlotId), n ≠ m → Spared m P u → Spared m P (f u n)) :
    ∀ (l : List SlotId) (u : State), m ∉ l → Spared m P u → Spared m P (l.foldl f u)
  | [], _, _, h => h
  | n :: l, u, hm, h => by
    rw [List.mem_cons, not_or] at hm
    exact foldl_spared hf l (f u n) hm.2 (hf u n (fun e => hm.1 e.symm) h)

/-- A slot whose record is known to stay stands outside the queue. -/
theorem Spared.out {x : Slot} {u : State} (h : Spared m (· = x) u) : m ∉ u.seq.queue := fun hm => by
  have h0 : x.soaking 0 = x := h.2 hm 0 x rfl
  have h1 : x.soaking 1 = x := h.2 hm 1 x rfl
  have hsoak : (x.soaking 0).soak = (x.soaking 1).soak := by rw [h0, h1]
  exact absurd (show some 0 = some 100 from hsoak) (by decide)

/-- The step that takes slot `m` itself finds its record as it was. -/
theorem foldl_takes {R : State → State → Prop} (hrefl : ∀ u, R u u) (hR : ∀ t u n, R t u → R t (f u n))
    (hf : ∀ (P : Slot → Prop) (u : State) (n : SlotId), n ≠ m → Spared m P u → Spared m P (f u n)) {l : List SlotId} (hl : l.Nodup)
    (hm : m ∈ l) (hq : m ∉ s.seq.queue) :
    ∃ u, R s u ∧ u.seq.slots[m] = s.seq.slots[m] ∧ m ∉ u.seq.queue ∧
      ∀ P : Slot → Prop, Spared m P (f u m) → Spared m P (l.foldl f s) := by
  obtain ⟨pre, post, rfl⟩ := List.append_of_mem hm
  rw [List.nodup_middle, List.nodup_cons, List.mem_append, not_or] at hl
  obtain ⟨⟨hpre, hpost⟩, -⟩ := hl
  have hbefore := foldl_spared (hf (· = s.seq.slots[m])) pre s hpre (.same hq)
  refine ⟨pre.foldl f s, ?_, hbefore.1, hbefore.out, fun P h => ?_⟩
  · exact List.foldlRecOn (motive := R s) pre f (hrefl s) fun u hu n _ => hR s u n hu
  · rw [List.foldl_append, List.foldl_cons]
    exact foldl_spared (hf P) post _ hpost h

end Fold

end Sys2Proof.Machine
end

section
/-! PROOFS. The drain of a slot and the sheds by the slot's state (R113 to R119, R122); O45: POWER_DOWN. -/

namespace Sys2Proof.Machine

section Drain
variable {s : State} {n : SlotId}

/-- The record of a slot that drains (R118). -/
def Slot.drainedBy (x : Slot) (limit : Nat) : Slot :=
  { x with
    state := .draining, en := false, adoptedOff := false, notice := false, window := none, hold := none, soak := none,
    drain := some (limit * 1000) }

/-- The part with slot `n` in DRAINING, before its drain is settled. -/
def State.drainOpened (s : State) (n : SlotId) : State :=
  moveSlot n .draining (fun x => { x.quit with soak := none, drain := some (s.settings.slots[n].drainLimit * 1000) }) s

theorem enterDraining_eq (n : SlotId) (s : State) : enterDraining n s = settleDrain n (s.drainOpened n) := rfl

theorem drainOpened_seq (s : State) (n : SlotId) :
    (s.drainOpened n).seq =
      { s.seq with slots := s.seq.slots.set n (s.seq.slots[n].drainedBy s.settings.slots[n].drainLimit) } := by
  rw [State.drainOpened, moveSlot_seq, Slot.moved_eq _ (st := .draining) nofun]
  rfl

theorem drainOpened_slot (s : State) (n : SlotId) :
    (s.drainOpened n).seq.slots[n] = s.seq.slots[n].drainedBy s.settings.slots[n].drainLimit := by
  rw [drainOpened_seq]
  exact get_set_same _ _ _

theorem drainOpened_ripple (s : State) (n : SlotId) : Ripple s (s.drainOpened n) := (Ripple.refl s).moveSlot

/-- R118: with PG high the slot stays in DRAINING. -/
theorem enterDraining_seq (h : s.seq.slots[n].pg = true) :
    (enterDraining n s).seq =
      { s.seq with slots := s.seq.slots.set n (s.seq.slots[n].drainedBy s.settings.slots[n].drainLimit) } := by
  rw [enterDraining_eq]
  rcases settleDrain_cases n (s.drainOpened n) with ⟨-, e⟩ | ⟨hlow, -⟩
  · rw [e, recompute_seq, drainOpened_seq]
  · rw [drainOpened_slot] at hlow
    exact absurd (h.symm.trans hlow) nofun

/-- R118: with PG low the drain completes in the same event. -/
theorem enterDraining_low (h : s.seq.slots[n].pg = false) : enterDraining n s = completeDrain n (s.drainOpened n) := by
  rw [enterDraining_eq]
  rcases settleDrain_cases n (s.drainOpened n) with ⟨hhigh, -⟩ | ⟨-, e⟩
  · rw [drainOpened_slot] at hhigh
    exact absurd (h.symm.trans hhigh) nofun
  · exact e

/-- The record of a slot whose drain has ended in OFF (R119). -/
def Slot.drainedOff (x : Slot) (restore : Bool) : Slot := ({ x.noShed with restore := restore } : Slot).moved .off

/-- The restore-pending flag that the end of a drain leaves (R119). -/
def Slot.restoreAfter (x : Slot) (set : SlotSettings) : Bool :=
  if x.reason.restores then (set.autoRestore || x.restore) else if x.reason = .manager then false else x.restore

/-- The part with the drain of slot `n` ended in OFF, before the hand-over. -/
def State.drainEnded (s : State) (n : SlotId) : State :=
  shiftSlot n .off (fun x => { x.noShed with restore := s.seq.slots[n].restoreAfter s.settings.slots[n] }) s

theorem completeDrain_leak (h : s.seq.slots[n].reason = .leak) :
    completeDrain n s =
      shiftSlot n .locked (fun x => { x.quit with reason := .leak, urgency := .immediate, restore := false }) s := by
  rcases completeDrain_cases n s with ⟨-, e⟩ | ⟨hne, -⟩
  · exact e
  · exact absurd h hne

theorem completeDrain_eq (h : s.seq.slots[n].reason ≠ .leak) : completeDrain n s = handOver n (s.drainEnded n) := by
  rw [State.drainEnded, Slot.restoreAfter]
  unfold completeDrain
  simp only

theorem drainEnded_seq (s : State) (n : SlotId) :
    (s.drainEnded n).seq =
      { s.seq with
        slots := s.seq.slots.set n (s.seq.slots[n].drainedOff (s.seq.slots[n].restoreAfter s.settings.slots[n])) } := by
  rw [State.drainEnded, shiftSlot_seq]
  rfl

theorem drainEnded_slot (s : State) (n : SlotId) :
    (s.drainEnded n).seq.slots[n] = s.seq.slots[n].drainedOff (s.seq.slots[n].restoreAfter s.settings.slots[n]) := by
  rw [drainEnded_seq]
  exact get_set_same _ _ _

theorem drainEnded_ripple (s : State) (n : SlotId) : Ripple s (s.drainEnded n) := (Ripple.refl s).shiftSlot

theorem handOver_stays (h : ¬ (s.online = true ∧ s.seq.slots[n].restore = true ∧ s.seq.slots[n].state = .off)) : handOver n s = s := by
  unfold handOver
  rw [if_neg]
  rw [Bool.and_eq_true, Bool.and_eq_true, beq_iff_eq]
  exact fun e => h ⟨e.1.1, e.1.2, e.2⟩

/-- R122: the slot is queued in the event of its hand-over. -/
theorem handOver_queues (hon : s.online = true) (hr : s.seq.slots[n].restore = true) (hst : s.seq.slots[n].state = .off)
    (he : s.settings.slots[n].enabled = true) : handOver n s = seqEvent (enterQueue n s) := by
  have hoff : (s.seq.slots[n].restore && s.seq.slots[n].state == .off) = true := by rw [hr, hst]; rfl
  unfold handOver
  rw [if_pos (by rw [hon, hr, hst]; rfl), restoreSlot, if_pos hoff, if_pos he]

/-- A drain that ends without a restore leaves the slot in OFF. -/
theorem completeDrain_rests (h : s.seq.slots[n].reason ≠ .leak)
    (hno : s.seq.slots[n].restoreAfter s.settings.slots[n] = false ∨ s.online = false) : completeDrain n s = s.drainEnded n := by
  rw [completeDrain_eq h]
  refine handOver_stays fun e => ?_
  obtain ⟨hon, hr, -⟩ := e
  rw [(drainEnded_ripple s n).online] at hon
  rw [drainEnded_slot] at hr
  rcases hno with e | e
  · exact absurd (e.symm.trans hr) nofun
  · rw [hon] at e
    cases e

/-- A slot that a queue event may grant, and no more, waits. -/
theorem enterQueue_waits (hdry : s.slotWet n = false) : Spared n Slot.waits (enterQueue n s) :=
  ⟨by
    rw [enterQueue_seq hdry]
    show (s.seq.slots.set n _)[n].waits
    rw [get_set_same]
    exact ⟨rfl, .inl rfl⟩, fun _ => Slot.waits_soaking⟩

/-- R119, R122: a drain that restores under ONLINE queues its slot. -/
theorem completeDrain_waits (h : s.seq.slots[n].reason.restores = true) (hon : s.online = true)
    (hauto : s.settings.slots[n].autoRestore = true) (he : s.settings.slots[n].enabled = true) (hdry : s.slotWet n = false) :
    Spared n Slot.waits (completeDrain n s) := by
  have hleak : s.seq.slots[n].reason ≠ .leak := fun e => by
    rw [e] at h
    cases h
  have hrip := drainEnded_ripple s n
  have hslot := drainEnded_slot s n
  have hrestore : s.seq.slots[n].restoreAfter s.settings.slots[n] = true := by
    rw [Slot.restoreAfter, if_pos h, hauto]
    rfl
  rw [hrestore] at hslot
  rw [completeDrain_eq hleak, handOver_queues (by rw [hrip.online, hon]) (by rw [hslot]; rfl) (by rw [hslot]; rfl)
    (by rw [hrip.settings, he])]
  exact (enterQueue_waits (by rw [slotWet_congr hrip.settings (base_leak hrip.base), hdry])).seqEvent

end Drain

/-! ### A shed by the slot's state (R113 to R115) -/

section Sheds
variable {s : State} {n : SlotId} {reason : ShedReason} {urgency : Urgency}

/-- The part with the shed's reason and urgency on the slot. -/
def State.shedNamed (s : State) (n : SlotId) (reason : ShedReason) (urgency : Urgency) : State :=
  s.setSlot n (s.seq.slots[n].shedFor reason urgency)

theorem shedNamed_slot (s : State) (n : SlotId) (reason : ShedReason) (urgency : Urgency) :
    (s.shedNamed n reason urgency).seq.slots[n] = s.seq.slots[n].shedFor reason urgency := get_set_same _ _ _

theorem shedNamed_drains (hpg : s.seq.slots[n].pg = true) (reason : ShedReason) (urgency : Urgency) :
    (enterDraining n (s.shedNamed n reason urgency)).seq =
      { s.seq with
        slots :=
          s.seq.slots.set n ((s.seq.slots[n].shedFor reason urgency).drainedBy s.settings.slots[n].drainLimit) } := by
  rw [enterDraining_seq (by rw [shedNamed_slot]; exact hpg), shedNamed_slot]
  simp only [State.shedNamed, State.setSlot, State.setSeq, Vector.set_set]

theorem shedSlot_unpowered (h : s.seq.slots[n].state = .off ∨ s.seq.slots[n].state = .queued) :
    shedSlot n reason urgency s = shedUnpowered n reason s := by
  unfold shedSlot
  rcases h with h | h <;> rw [h]

theorem shedSlot_soak (h : s.seq.slots[n].state = .soak) :
    shedSlot n reason urgency s = seqEvent (enterDraining n (s.shedNamed n reason urgency)) := by
  unfold shedSlot
  rw [h]
  rfl

theorem shedSlot_on (h : s.seq.slots[n].state = .on) : shedSlot n reason urgency s = shedOn n reason urgency s := by
  unfold shedSlot
  rw [h]

theorem shedSlot_flying (h : s.seq.slots[n].state = .notice ∨ s.seq.slots[n].state = .held ∨ s.seq.slots[n].state = .draining) :
    shedSlot n reason urgency s = shedInFlight n reason urgency s := by
  unfold shedSlot
  rcases h with h | h | h <;> rw [h]

theorem shedSlot_down (h : s.seq.slots[n].state = .faulted ∨ s.seq.slots[n].state = .locked) (hr : reason ≠ .leak) :
    shedSlot n reason urgency s = s := by
  unfold shedSlot
  rcases h with h | h <;> (rw [h]; exact if_neg hr)

/-- R114: SOAK drains at once; with PG high it stays in DRAINING. -/
theorem shedSlot_soak_slot (h : s.seq.slots[n].state = .soak) (hpg : s.seq.slots[n].pg = true) (hn : n ∉ s.seq.queue) :
    (shedSlot n reason urgency s).seq.slots[n] =
      (s.seq.slots[n].shedFor reason urgency).drainedBy s.settings.slots[n].drainLimit := by
  have hseq := shedNamed_drains hpg reason urgency
  rw [shedSlot_soak h, seqEvent_slots (by rw [hseq]; exact hn), hseq]
  exact get_set_same _ _ _

/-- R114, R118, R119: with PG low the drain of a SOAK slot completes; without a restore it rests in OFF. -/
theorem shedSlot_soak_off (h : s.seq.slots[n].state = .soak) (hpg : s.seq.slots[n].pg = false) (hn : n ∉ s.seq.queue)
    (hleak : reason ≠ .leak) {restore : Bool}
    (hrestore : (s.seq.slots[n].shedFor reason urgency).restoreAfter s.settings.slots[n] = restore)
    (hno : restore = false ∨ s.online = false) :
    (shedSlot n reason urgency s).seq.slots[n] =
      ((s.seq.slots[n].shedFor reason urgency).drainedBy s.settings.slots[n].drainLimit).drainedOff restore := by
  have hslot : ((s.shedNamed n reason urgency).drainOpened n).seq.slots[n] =
      (s.seq.slots[n].shedFor reason urgency).drainedBy s.settings.slots[n].drainLimit := by
    rw [drainOpened_slot, shedNamed_slot]
    rfl
  have hrip := drainOpened_ripple (s.shedNamed n reason urgency) n
  have hset : ((s.shedNamed n reason urgency).drainOpened n).settings = s.settings := hrip.settings
  have hafter : ((s.shedNamed n reason urgency).drainOpened n).seq.slots[n].restoreAfter
      ((s.shedNamed n reason urgency).drainOpened n).settings.slots[n] = restore := by
    rw [hslot, hset, ← hrestore]
    rfl
  rw [shedSlot_soak h, enterDraining_low (by rw [shedNamed_slot]; exact hpg), completeDrain_rests (by rw [hslot]; exact hleak)
    (by rw [hafter, hrip.online]; exact hno), seqEvent_slots, drainEnded_slot, hafter, hslot]
  rw [drainEnded_seq, drainOpened_seq]
  exact hn

/-- R114, R122: a restoring shed queues the SOAK slot whose PG is low. -/
theorem shedSlot_soak_waits (h : s.seq.slots[n].state = .soak) (hpg : s.seq.slots[n].pg = false) (hr : reason.restores = true)
    (hon : s.online = true) (hauto : s.settings.slots[n].autoRestore = true) (he : s.settings.slots[n].enabled = true)
    (hdry : s.slotWet n = false) : Spared n Slot.waits (shedSlot n reason urgency s) := by
  have hrip := drainOpened_ripple (s.shedNamed n reason urgency) n
  have hset : ((s.shedNamed n reason urgency).drainOpened n).settings = s.settings := hrip.settings
  have hleak : ((s.shedNamed n reason urgency).drainOpened n).leak = s.leak := base_leak hrip.base
  rw [shedSlot_soak h, enterDraining_low (by rw [shedNamed_slot]; exact hpg)]
  refine (completeDrain_waits ?_ ?_ ?_ ?_ ?_).seqEvent
  · rw [drainOpened_slot, shedNamed_slot]
    exact hr
  · rw [hrip.online]
    exact hon
  · rw [hset, hauto]
  · rw [hset, he]
  · rw [slotWet_congr hset hleak, hdry]

/-- The record of a slot that has been warned (R114). -/
def Slot.warnedFor (x : Slot) (reason : ShedReason) (urgency : Urgency) (window : Nat) : Slot :=
  { x with
    state := .notice, en := true, adoptedOff := false, reason := reason, urgency := urgency, notice := true,
    window := some (window * 10) }

/-- R114: ON is warned. -/
theorem shedSlot_on_seq (h : s.seq.slots[n].state = .on) (hu : urgency ≠ .immediate) :
    (shedSlot n reason urgency s).seq =
      { s.seq with
        slots := s.seq.slots.set n (s.seq.slots[n].warnedFor reason urgency s.settings.sequence.noticeWindow) } := by
  rw [shedSlot_on h, shedOn, if_neg hu, shiftSlot_seq, Slot.moved_eq _ (st := .notice) nofun]
  rfl

/-- R114: ON drains at IMMEDIATE. -/
theorem shedSlot_on_immediate (h : s.seq.slots[n].state = .on) :
    shedSlot n reason .immediate s = enterDraining n (s.shedNamed n reason .immediate) := by
  rw [shedSlot_on h, shedOn, if_pos rfl]
  rfl

theorem shedSlot_leak_stands (h : s.seq.slots[n].state = .notice ∨ s.seq.slots[n].state = .held ∨ s.seq.slots[n].state = .draining)
    (hr : s.seq.slots[n].reason = .leak) : shedSlot n reason urgency s = s := by
  rw [shedSlot_flying h]
  unfold shedInFlight
  exact if_pos hr

/-- R115: a shed no less urgent takes over. -/
theorem shedSlot_takes_over (h : s.seq.slots[n].state = .notice ∨ s.seq.slots[n].state = .held ∨ s.seq.slots[n].state = .draining)
    (hr : s.seq.slots[n].reason ≠ .leak) (hu : s.seq.slots[n].urgency.level ≤ urgency.level) :
    shedSlot n reason urgency s = escalate n urgency (s.shedNamed n reason urgency) := by
  rw [shedSlot_flying h]
  unfold shedInFlight
  simp only
  rw [if_neg hr, if_pos hu]
  rfl

/-- R115: a less urgent shed changes the reason of a POWER_DOWN at most. -/
theorem shedSlot_less_urgent (h : s.seq.slots[n].state = .notice ∨ s.seq.slots[n].state = .held ∨ s.seq.slots[n].state = .draining)
    (hr : s.seq.slots[n].reason ≠ .leak) (hu : urgency.level < s.seq.slots[n].urgency.level) :
    shedSlot n reason urgency s =
      if reason = .manager ∧ (s.seq.slots[n].reason = .reserve ∨ s.seq.slots[n].reason = .limit ∨
          s.seq.slots[n].reason = .deficit ∨ s.seq.slots[n].reason = .reset) then
        s.setSlot n { s.seq.slots[n] with reason := .manager }
      else s := by
  rw [shedSlot_flying h]
  unfold shedInFlight
  simp only
  rw [if_neg hr, if_neg (Nat.not_le.2 hu)]

theorem escalate_drains (h : (s.seq.slots[n].state = .notice ∧ urgency = .immediate) ∨
      (s.seq.slots[n].state = .held ∧ (urgency = .prompt ∨ urgency = .immediate))) :
    escalate n urgency s = enterDraining n s := by
  unfold escalate
  rcases h with ⟨hst, hu⟩ | ⟨hst, hu | hu⟩ <;> rw [hst, hu]

theorem escalate_stays (h : ¬ ((s.seq.slots[n].state = .notice ∧ urgency = .immediate) ∨
      (s.seq.slots[n].state = .held ∧ (urgency = .prompt ∨ urgency = .immediate)))) : escalate n urgency s = s := by
  unfold escalate
  split
  · next hst => exact absurd (.inl ⟨hst, rfl⟩) h
  · next hst => exact absurd (.inr ⟨hst, .inl rfl⟩) h
  · next hst => exact absurd (.inr ⟨hst, .inr rfl⟩) h
  · rfl

end Sheds

/-! ### POWER_DOWN (R113, R125) -/

section PowerDown
variable {s : State} {n : SlotId} {urgency : Urgency}

/-- The part with the slot taken to OFF by the manager, out of the queue (R113). -/
def State.poweredOff (s : State) (n : SlotId) : State := moveSlot n .off (fun x => { x with restore := false }) (leaveQueue n s)

theorem shedUnpowered_manager (n : SlotId) (s : State) :
    shedUnpowered n .manager s = seqEventIf (s.seq.slots[n].state == .queued) (s.poweredOff n) := rfl

theorem poweredOff_slot (s : State) (n : SlotId) :
    (s.poweredOff n).seq.slots[n] = ({ s.seq.slots[n] with restore := false } : Slot).moved .off := by
  rw [State.poweredOff, moveSlot_slots, if_pos rfl]
  rfl

theorem poweredOff_out (s : State) (n : SlotId) : n ∉ (s.poweredOff n).seq.queue := by
  rw [State.poweredOff, moveSlot_queue]
  exact not_mem_leaveQueue

/-- R113: a POWER_DOWN of a slot without power leaves it in OFF, out of the queue. -/
theorem shedUnpowered_manager_slot (n : SlotId) (s : State) :
    (shedUnpowered n .manager s).seq.slots[n] = ({ s.seq.slots[n] with restore := false } : Slot).moved .off ∧
      n ∉ (shedUnpowered n .manager s).seq.queue := by
  have hspared : Spared n (· = ({ s.seq.slots[n] with restore := false } : Slot).moved .off) (shedUnpowered n .manager s) := by
    rw [shedUnpowered_manager]
    exact Spared.seqEventIf ⟨poweredOff_slot s n, fun hm => absurd hm (poweredOff_out s n)⟩ _
  exact ⟨hspared.1, hspared.out⟩

end PowerDown

end Sys2Proof.Machine

open Sys2Proof Sys2Proof.Machine

/-- Settles O45: one entry is one shed of reason MANAGER, taken by the slot's state, and a list is its entries one by one. -/
theorem powerDownTakesSlotsByState : Obligations.PowerDownTakesSlotsByState := by
  intro s tag b u n h hid x urgency drained restoring flying
  have hurgency : takePowerDownUrgency u = urgency := by
    unfold takePowerDownUrgency
    split
    · next e => exact (if_pos (Nat.le_of_eq e |>.trans (Nat.zero_le 1))).symm
    · next e => exact (if_pos (Nat.le_of_eq e)).symm
    · next h0 h1 => exact (if_neg fun e => (Nat.le_one_iff_eq_zero_or_eq_one.1 e).elim h0 h1).symm
  have hrun (t : State) (r : SlotResult) (he : powerDownSlot urgency n s = (t, r)) :
      runPowerDown u [b] s = .ok (t, .slotList [⟨n, r, t.seq.slots[n].state⟩]) := by
    rw [runPowerDown, slotList_single hid, hurgency, he]
  have himmediate : urgency ≠ .immediate := by
    show (if u.toNat ≤ 1 then Urgency.orderly else .prompt) ≠ _
    split <;> nofun
  refine ⟨fun hst => ?_, fun hst hpg hn => ?_, fun hst hpg hn => ?_, fun hst => ?_, fun hst hr => ?_, fun hst hr hpg => ?_,
    fun c d list v t r rs hlen hfirst hrest => slotList_cons hlen hfirst hrest⟩
  · by_cases hunpowered : s.seq.slots[n].state = .off ∨ s.seq.slots[n].state = .queued
    · have hshed : shedSlot n .manager urgency s = shedUnpowered n .manager s := shedSlot_unpowered hunpowered
      have htaken : powerDownSlot urgency n s = (shedUnpowered n .manager s, if x.state = .queued then .off else .noChange) := by
        unfold powerDownSlot
        rcases hunpowered with e | e
        · simp only [e, hshed]
          rw [if_neg (by rw [show x.state = .off from e]; nofun)]
        · simp only [e, hshed]
          rw [if_pos (show x.state = .queued from e)]
      obtain ⟨hslot, hout⟩ := shedUnpowered_manager_slot n s
      refine answers_of_ok rfl h (hrun _ _ htaken) ⟨rfl, ?_, ?_, ?_, ?_, fun _ => hout, fun m hm hq => ?_⟩
      · rw [hslot]
        rcases hunpowered with e | e
        · rw [if_neg (by rw [show x.state = .off from e]; nofun)]
          exact e.symm
        · rw [if_pos (show x.state = .queued from e)]
          rfl
      · rw [hslot]
        rfl
      · rw [hslot]
        rfl
      · rw [hslot]
        rfl
      · rw [← hshed]
        exact shedSlot_slots hm hq
    · have hdown : s.seq.slots[n].state = .faulted ∨ s.seq.slots[n].state = .locked := by
        rcases hst with e | e | e | e
        · exact absurd (.inl e) hunpowered
        · exact absurd (.inr e) hunpowered
        · exact .inl e
        · exact .inr e
      have hnq : x.state ≠ .queued := by
        rcases hdown with e | e <;> rw [show x.state = _ from e] <;> nofun
      have htaken : powerDownSlot urgency n s = (s.setSlot n { s.seq.slots[n] with restore := false }, .noChange) := by
        unfold powerDownSlot
        rcases hdown with e | e <;> simp only [e]
      refine answers_of_ok rfl h (hrun _ _ htaken) ?_
      rw [if_neg hnq, if_neg hnq, setSlot_slots, if_pos rfl]
      exact ⟨rfl, rfl, rfl, rfl, rfl, fun e => absurd e hunpowered, fun m hm _ => by rw [setSlot_slots, if_neg hm.symm]⟩
  · have htaken : powerDownSlot urgency n s = (shedSlot n .manager urgency s, .draining) := by
      unfold powerDownSlot
      simp only [show s.seq.slots[n].state = .soak from hst]
    have hslot := shedSlot_soak_slot (reason := .manager) (urgency := urgency) hst hpg hn
    refine answers_of_ok rfl h (hrun _ _ htaken) ?_
    rw [hslot]
    exact ⟨rfl, rfl⟩
  · have htaken : powerDownSlot urgency n s = (shedSlot n .manager urgency s, .draining) := by
      unfold powerDownSlot
      simp only [show s.seq.slots[n].state = .soak from hst]
    have hslot := shedSlot_soak_off (reason := .manager) (urgency := urgency) hst hpg hn nofun (restore := false) rfl (.inl rfl)
    refine answers_of_ok rfl h (hrun _ _ htaken) ?_
    rw [hslot]
    exact ⟨rfl, rfl, rfl, rfl, rfl, rfl, rfl, rfl⟩
  · have htaken : powerDownSlot urgency n s = (shedSlot n .manager urgency s, .notice) := by
      unfold powerDownSlot
      simp only [show s.seq.slots[n].state = .on from hst]
    have hseq := shedSlot_on_seq (reason := .manager) hst himmediate
    refine answers_of_ok rfl h (hrun _ _ htaken) ⟨?_, (Ripple.refl s).shedSlot, hseq⟩
    rw [hseq]
    show Ack.slotList [⟨n, .notice, (s.seq.slots.set n _)[n].state⟩] = _
    rw [get_set_same]
    rfl
  · have hstands : shedSlot n .manager urgency s = s := shedSlot_leak_stands hst hr
    have htaken : powerDownSlot urgency n s = (s, x.state.result) := by
      unfold powerDownSlot
      rcases hst with e | e | e <;>
        (simp only [show s.seq.slots[n].state = _ from e, hstands, x])
    exact answers_of_ok rfl h (hrun _ _ htaken) ⟨rfl, rfl⟩
  · have htaken : powerDownSlot urgency n s =
        (shedSlot n .manager urgency s, (shedSlot n .manager urgency s).seq.slots[n].state.result) := by
      unfold powerDownSlot
      rcases hst with e | e | e <;> simp only [show s.seq.slots[n].state = _ from e]
    have hset (y : Slot) (v : Vector Slot 24) (hv : v = s.seq.slots.set n y) : v = s.seq.slots.set n v[n] := by
      rw [hv, get_set_same]
    refine answers_of_ok rfl h (hrun _ _ htaken) ⟨rfl, ?_⟩
    by_cases hlevel : x.urgency.level ≤ urgency.level
    · have hover := shedSlot_takes_over (reason := .manager) hst hr hlevel
      by_cases hdrains : x.state = .held ∧ urgency = .prompt
      · have hesc : shedSlot n .manager urgency s = enterDraining n (s.shedNamed n .manager urgency) := by
          rw [hover]
          refine escalate_drains (.inr ⟨?_, .inl hdrains.2⟩)
          rw [shedNamed_slot]
          exact hdrains.1
        have hseq := shedNamed_drains hpg .manager urgency
        rw [hesc, hseq]
        refine ⟨?_, fun _ _ _ => get_set_same _ _ _, fun _ hno => absurd hdrains hno, fun hlt => absurd hlevel (Nat.not_le.2 hlt),
          fun hlt => absurd hlevel (Nat.not_le.2 hlt)⟩
        rw [get_set_same]
      · have hesc : shedSlot n .manager urgency s = s.shedNamed n .manager urgency := by
          rw [hover]
          refine escalate_stays ?_
          rw [shedNamed_slot]
          rintro (⟨-, e⟩ | ⟨e, e' | e'⟩)
          · exact himmediate e
          · exact hdrains ⟨e, e'⟩
          · exact himmediate e'
        rw [hesc]
        refine ⟨?_, fun _ e e' => absurd ⟨e, e'⟩ hdrains, fun _ _ => shedNamed_slot s n _ _, fun hlt => absurd hlevel (Nat.not_le.2 hlt),
          fun hlt => absurd hlevel (Nat.not_le.2 hlt)⟩
        rw [shedNamed_slot]
        rfl
    · have hlt : urgency.level < x.urgency.level := Nat.not_le.1 hlevel
      have hless := shedSlot_less_urgent (reason := .manager) hst hr hlt
      by_cases hrestoring : restoring
      · rw [if_pos ⟨rfl, hrestoring⟩] at hless
        rw [hless, setSlot_slots, if_pos rfl]
        exact ⟨rfl, fun e => absurd e hlevel, fun e => absurd e hlevel, fun _ _ => rfl, fun _ e => absurd hrestoring e⟩
      · rw [if_neg fun e => hrestoring e.2] at hless
        rw [hless]
        refine ⟨?_, fun e => absurd e hlevel, fun e => absurd e hlevel, fun _ e => absurd e hrestoring, fun _ _ => rfl⟩
        rw [Fin.getElem_fin, Vector.set_getElem_self]
end

section
/-! PROOFS. O52: a change of PG; O57: the timers of the slots. -/

namespace Sys2Proof.Machine

/-! ### Events of a running part -/

theorem onExpiry_some {t : Timer} (h : t.isSome = true) (f : State → State) (s : State) : onExpiry t f s = f s := by
  unfold onExpiry
  split
  · cases h
  · rfl

theorem onExpiry_none {t : Timer} (h : t = none) (f : State → State) (s : State) : onExpiry t f s = s := by
  rw [h]
  rfl

/-- The expiry of a running timer. -/
theorem exec_expiry {c : Instr} {t : Timer} {f : State → State} {s : State} (hc : exec c s = .next (whenRunning (onExpiry t f) s))
    (hrun : s.running) (ht : t.isSome = true) : exec c s = .next (f s) := by
  rw [hc, whenRunning_of_running hrun, onExpiry_some ht]

/-- An expiry of a stopped timer does not occur. -/
theorem exec_noExpiry {c : Instr} {t : Timer} {f : State → State} {s : State} (hc : exec c s = .next (whenRunning (onExpiry t f) s))
    (hrun : s.running) (ht : t = none) : exec c s = .next s := by
  rw [hc, whenRunning_of_running hrun, onExpiry_none ht]

/-! ### A slot that fails (R104, R105, R107, R120) -/

section Fault
variable {s : State} {n : SlotId}

/-- The record of a slot in FAULTED (R107). -/
def Slot.failed (x : Slot) : Slot :=
  { x with
    state := .faulted, en := false, adoptedOff := false, notice := false, window := none, hold := none, soak := none,
    drain := none, reason := .fault, urgency := .none, restore := false }

/-- The part with the slot in FAULTED, before its cause is raised. -/
def State.faultOpened (s : State) (n : SlotId) : State :=
  moveSlot n .faulted (fun x => { x.quit with soak := none, reason := .fault, urgency := .none, restore := false }) s

theorem faultSlot_eq (n : SlotId) (code : Byte) (s : State) :
    faultSlot n code s =
      recompute (raise (causeSlot n) (s.faultOpened n).settings.slots[n].pReq code (s.faultOpened n)) := rfl

theorem faultOpened_settings (s : State) (n : SlotId) : (s.faultOpened n).settings = s.settings := moveSlot_settings _ _ _ _

theorem faultOpened_seq (s : State) (n : SlotId) :
    (s.faultOpened n).seq = { s.seq with slots := s.seq.slots.set n s.seq.slots[n].failed } := by
  rw [State.faultOpened, moveSlot_seq, Slot.moved_eq _ (st := .faulted) nofun]
  rfl

theorem faultSlot_seq (n : SlotId) (code : Byte) (s : State) :
    (faultSlot n code s).seq = { s.seq with slots := s.seq.slots.set n s.seq.slots[n].failed } := by
  rw [faultSlot_eq, recompute_seq, raise_seq, faultOpened_seq]

theorem recompute_quiet_slot (n : SlotId) (s : State) : Quiet (causeSlot n) s (recompute s) :=
  recompute_touches s (causeSlot n) (causeSlot_not_budget n)

theorem lineWatch_quiet (c : CauseId) (s : State) : Quiet c s (lineWatch s) := lineWatch_touches (fun _ => False) s c id

theorem moveSlot_unraised (c : CauseId) (n : SlotId) (st : SlotState) (upd : Slot → Slot) (s : State) :
    Unraised c s (moveSlot n st upd s) := by
  rw [moveSlot_eq]
  have hset : Quiet c s (s.setSlot n ((upd s.seq.slots[n]).moved st)) := .of_eq rfl rfl
  exact (hset.toUnraised.trans (reportCondition_unraised c (causeSlot n) _ _)).trans (lineWatch_quiet c _).toUnraised

theorem faultSlot_raised (n : SlotId) (code : Byte) (s : State) :
    RaisedFrom s (faultSlot n code s) (causeSlot n) s.settings.slots[n].pReq code := by
  rw [faultSlot_eq, faultOpened_settings]
  exact (raise_raisedFrom (causeSlot n) s.settings.slots[n].pReq code (s.faultOpened n)).widen (raise_sending _ _ _ _)
    (moveSlot_unraised _ _ _ _ _) (recompute_quiet_slot n _).toUnraised

theorem causeSlot_not_event (n : SlotId) : eventSource (causeSlot n) = false := by revert n; decide

theorem faultSlot_condition (n : SlotId) (code : Byte) (s : State) :
    (faultSlot n code s).causes.recs[causeSlot n].condition = true := by
  rw [faultSlot_eq, (recompute_quiet_slot n _).condition, raise_condition (causeSlot_not_event n)]
  exact moveSlot_condition _ _ _ _

theorem KeepsSending.trans {s t u : State} (h : KeepsSending s t) (k : KeepsSending t u) : KeepsSending s u := fun hs =>
  (k (by rw [h hs]; exact hs)).trans (h hs)

theorem faultSlot_sending (n : SlotId) (code : Byte) (s : State) : KeepsSending s (faultSlot n code s) := by
  rw [faultSlot_eq]
  have hmove : KeepsSending s (s.faultOpened n) := (moveSlot_unraised (causeSlot n) _ _ _ _).sending
  have hraise := raise_sending (causeSlot n) (s.faultOpened n).settings.slots[n].pReq code (s.faultOpened n)
  exact (hmove.trans hraise).trans (recompute_quiet_slot n _).sending

theorem seqEvent_quiet (hn : n ∉ s.seq.queue) : Quiet (causeSlot n) s (seqEvent s) := by
  have hreport (u : State) : Quiet (causeSlot n) u (reportHead u) := by
    unfold reportHead
    exact ite_keeps (.refl _ u) (.of_eq rfl rfl)
  refine Quiet.trans ?_ (hreport _)
  rcases grantCheck_cases s with ⟨e, -⟩ | ⟨m, rest, hq, -, e⟩
  · rw [e]
    exact .refl _ s
  · have hm : m ≠ n := fun e => hn (by rw [hq, e]; exact List.mem_cons_self)
    rw [e]
    unfold grant shiftSlot
    simp only
    have hmove (u : State) (upd : Slot → Slot) : Quiet (causeSlot n) u (moveSlot m .soak upd u) :=
      moveSlot_touches m .soak upd u (causeSlot n) fun e => hm (causeSlot_injective e).symm
    have hsend (u : State) : Quiet (causeSlot n) u (sendReport u) := .of_eq rfl rfl
    refine Quiet.trans ?_ (hsend _)
    refine Quiet.trans ?_ (recompute_quiet_slot n _)
    refine Quiet.trans ?_ (hmove _ _)
    exact .of_eq rfl rfl

end Fault

/-! ### The end of a drain by PG (R119) -/

section DrainEnd
variable {s : State} {n : SlotId}

/-- PG is low and no drain limit runs. -/
def Slot.drainedOut (x : Slot) : Prop := x.pg = false ∧ x.drain = none

theorem handOver_drainedOut (h : s.seq.slots[n].drainedOut) : (handOver n s).seq.slots[n].drainedOut := by
  have henter : Spared n Slot.drainedOut (enterQueue n s) := by
    refine ⟨?_, fun _ _ _ hx => hx⟩
    rcases enterQueue_cases n s with ⟨-, e⟩ | ⟨-, e⟩
    · rw [e, moveSlot_slots, if_pos rfl]
      exact h
    · rw [e, joinQueue_seq]
      show (moveSlot n .queued _ s).seq.slots[n].drainedOut
      rw [moveSlot_slots, if_pos rfl]
      exact h
  have hclear : Spared n Slot.drainedOut (s.setSlot n { s.seq.slots[n] with restore := false }) :=
    ⟨by rw [setSlot_slots, if_pos rfl]; exact h, fun _ _ _ hx => hx⟩
  have hstays : Spared n Slot.drainedOut s := ⟨h, fun _ _ _ hx => hx⟩
  have hrestore : Spared n Slot.drainedOut (restoreSlot n s) := ite_keeps (ite_keeps henter hclear) hstays
  have hover : Spared n Slot.drainedOut (handOver n s) := ite_keeps hrestore.seqEvent hstays
  exact hover.1

theorem completeDrain_drainedOut (h : s.seq.slots[n].pg = false) : (completeDrain n s).seq.slots[n].drainedOut := by
  by_cases hr : s.seq.slots[n].reason = .leak
  · rw [completeDrain_leak hr, shiftSlot_slots, if_pos rfl]
    exact ⟨h, rfl⟩
  · rw [completeDrain_eq hr]
    refine handOver_drainedOut ?_
    rw [drainEnded_slot]
    exact ⟨h, rfl⟩

end DrainEnd

/-! ### The stagger timer (R101) -/

/-- The part whose stagger timer has run out. -/
def State.unstaggered (s : State) : State := s.setSeq { s.seq with stagger := none }

/-- R102: the report that follows an event of the sequencer, in the terms of the state it leaves. -/
theorem seqEvent_reports (s : State) :
    let t := seqEvent s
    let grants := ∃ n, s.seq.queue.head? = some n ∧ s.grantsHead n = true
    t.seq.headSeen = t.headNow ∧ t.seq.lastReport = t.blockedHead ∧
      (t.headNow = s.seq.headSeen ∧ t.blockedHead = s.seq.lastReport → ¬ grants → t.seq.reports = s.seq.reports) ∧
      (¬ (t.headNow = s.seq.headSeen ∧ t.blockedHead = s.seq.lastReport) ∨ grants →
        t.seq.reports = s.seq.reports ++ [t.blockedHead]) := by
  intro t grants
  by_cases hg : grants
  · obtain ⟨n, hn, hgn⟩ := hg
    obtain ⟨rest, hq⟩ := List.head?_eq_some_iff.1 hn
    have ht : t = sendReport (grant n s) := seqEvent_granted hq hgn
    have hhead : t.headNow = (grant n s).headNow := by rw [ht]; rfl
    have hblocked : t.blockedHead = (grant n s).blockedHead := by rw [ht]; exact blockedHead_setSeq rfl
    have hreports : (grant n s).seq.reports = s.seq.reports := by rw [grant_seq]; rfl
    refine ⟨by rw [hhead, ht]; rfl, by rw [hblocked, ht]; rfl, fun _ hno => absurd ⟨n, hn, hgn⟩ hno, fun _ => ?_⟩
    rw [hblocked, ht, ← hreports]
    rfl
  · have ht : t = reportHead s := seqEvent_ungranted fun n hn => Bool.eq_false_iff.2 fun hgn => hg ⟨n, hn, hgn⟩
    have hseq : t.seq = _ := (congrArg State.seq ht).trans (reportHead_seq s)
    have hset : t.settings = s.settings := seqEvent_settings s
    have hhead : t.headNow = s.headNow := headNow_congr hset (by rw [hseq])
    have hblocked : t.blockedHead = s.blockedHead := by
      have hcongr : t.grantable = s.grantable := grantable_of_same hset (by rw [State.soakCount, hseq]; rfl) (by rw [hseq])
        (by rw [hseq]) (by rw [hseq]) (by rw [hseq])
      rw [blockedHead_eq, blockedHead_eq, hcongr, hset, hseq]
    rw [hhead, hblocked]
    refine ⟨by rw [hseq], by rw [hseq], fun hsame _ => ?_, fun hnew => ?_⟩
    · rw [hseq]
      exact if_pos hsame
    · rw [hseq]
      exact if_neg (hnew.resolve_right hg)

/-! ### PG (R105, R106) -/

/-- The part that has seen a level of PG. -/
def State.pgSeen (s : State) (n : SlotId) (level : Bool) : State :=
  (s.setPins { s.pins with pg := s.pins.pg.set n level }).setSlot n { s.seq.slots[n] with pg := level }

theorem exec_pgChange_same {s : State} {n : SlotId} {level : Bool} (h : s.pins.pg[n] = level) :
    exec (.pgChange n level) s = .next s := by
  show execPgChange n level s = _
  rw [execPgChange, if_pos h]

theorem exec_pgChange_idle {s : State} {n : SlotId} {level : Bool} (h : s.pins.pg[n] ≠ level) (hrun : ¬ s.running) :
    exec (.pgChange n level) s = .next (s.setPins { s.pins with pg := s.pins.pg.set n level }) := by
  show execPgChange n level s = _
  rw [execPgChange, if_neg h, whenRunning_of_not_running (s := s.setPins { s.pins with pg := s.pins.pg.set n level }) hrun]

theorem exec_pgChange {s : State} {n : SlotId} {level : Bool} (h : s.pins.pg[n] ≠ level) (hrun : s.running) :
    exec (.pgChange n level) s =
      .next (if level then pgRise n (s.pgSeen n level) else pgFall n (s.pgSeen n level)) := by
  show execPgChange n level s = _
  rw [execPgChange, if_neg h, whenRunning_of_running (s := s.setPins { s.pins with pg := s.pins.pg.set n level }) hrun]
  rfl

theorem pgSeen_slot (s : State) (n : SlotId) (level : Bool) : (s.pgSeen n level).seq.slots[n] = { s.seq.slots[n] with pg := level } :=
  get_set_same _ _ _

theorem pgSeen_ripple (s : State) (n : SlotId) (level : Bool) :
    Ripple (s.setPins { s.pins with pg := s.pins.pg.set n level }) (s.pgSeen n level) := (Ripple.refl _).setSlot _

end Sys2Proof.Machine

open Sys2Proof Sys2Proof.Machine

/-- Settles O52: the level is recorded, and the slot's state says what follows. -/
theorem pgChangesBySlotState : Obligations.PgChangesBySlotState := by
  intro s n level x pins set seen low up
  have hstate : (s.pgSeen n level).seq.slots[n].state = x.state := by rw [pgSeen_slot]
  refine ⟨exec_pgChange_same, fun hne hrun => exec_pgChange_idle hne hrun, fun hne hrun => ?_⟩
  have hexec := exec_pgChange hne hrun
  refine ⟨fun hl hst => ?_, fun hl hst => ?_, fun hst => ?_, fun hl hst => ?_, fun hl hst => ?_, fun hl hst => ?_⟩
  · rw [hl] at hstate
    subst hl
    rw [hexec, if_pos rfl]
    unfold pgRise
    rw [hstate]
    rcases hst with e | (e | e | e) | e <;> (rw [e]; rfl)
  · subst hl
    rw [hexec, if_neg nofun]
    unfold pgFall
    rw [hstate]
    rcases hst with (e | e | e) | e <;> (rw [e]; rfl)
  · rw [hexec]
    unfold pgRise pgFall
    rw [hstate, hst]
    cases level <;> rfl
  · subst hl
    refine ⟨raise (causeSlot n) set.pReq codePgWithoutEn (s.pgSeen n true), ?_, ?_, ?_⟩
    · rw [hexec, if_pos rfl]
      unfold pgRise
      rw [hstate]
      rcases hst with e | e | e <;> (rw [e]; rfl)
    · exact (Tells.refl (s.pgSeen n true)).raise (causeSlot n) set.pReq codePgWithoutEn
    · exact (raise_raisedFrom (causeSlot n) set.pReq codePgWithoutEn (s.pgSeen n true)).congr rfl rfl rfl
  · subst hl
    refine ⟨faultSlot n codePgLost (s.pgSeen n false), ?_, (pgSeen_ripple s n false).faultSlot,
      (faultSlot_raised n codePgLost (s.pgSeen n false)).congr rfl rfl rfl, faultSlot_condition _ _ _, ?_⟩
    · rw [hexec, if_neg nofun]
      unfold pgFall
      rw [hstate]
      rcases hst with e | e | e <;> rw [e]
    · rw [faultSlot_seq, pgSeen_slot]
      simp only [State.pgSeen, State.setSlot, State.setSeq, State.setPins, Vector.set_set]
      rfl
  · subst hl
    have hdown : (s.pgSeen n false).seq.slots[n].pg = false := by rw [pgSeen_slot]
    have hreason : (s.pgSeen n false).seq.slots[n].reason = x.reason := by rw [pgSeen_slot]
    have hout := completeDrain_drainedOut hdown
    have hafter : (s.pgSeen n false).seq.slots[n].restoreAfter (s.pgSeen n false).settings.slots[n] = x.restoreAfter set := by
      rw [pgSeen_slot]
      rfl
    refine ⟨completeDrain n (s.pgSeen n false), ?_, (pgSeen_ripple s n false).completeDrain, hout.1, hout.2, fun hr => ?_, fun hr => ?_,
      fun hr hoff => ?_, fun hr hon hauto he hdry => ?_⟩
    · rw [hexec, if_neg nofun]
      unfold pgFall
      rw [hstate, hst]
    · rw [completeDrain_leak (hreason.trans hr), shiftSlot_slots, if_pos rfl]
      exact ⟨rfl, rfl, rfl, rfl⟩
    · have hno : x.restoreAfter set = false := by
        rw [Slot.restoreAfter, hr]
        rfl
      rw [completeDrain_rests (by rw [hreason, hr]; nofun) (.inl (by rw [hafter, hno])), drainEnded_slot, hafter, hno]
      exact ⟨rfl, rfl, rfl, rfl⟩
    · have hrestores : x.reason.restores = true := by rcases hr with e | e | e | e | e <;> rw [e] <;> rfl
      have hleak : x.reason ≠ .leak := by rcases hr with e | e | e | e | e <;> rw [e] <;> nofun
      have hoffline : (s.pgSeen n false).online = false := beq_eq_false_iff_ne.2 hoff
      rw [completeDrain_rests (by rw [hreason]; exact hleak) (.inr hoffline), drainEnded_slot, hafter, Slot.restoreAfter,
        if_pos hrestores]
      exact ⟨rfl, rfl, rfl, rfl⟩
    · have hrestores : x.reason.restores = true := by rcases hr with e | e | e | e | e <;> rw [e] <;> rfl
      exact (completeDrain_waits (s := s.pgSeen n false) (by rw [hreason, hrestores]) (beq_iff_eq.2 hon) hauto he hdry).1

/-- Settles O57: a stagger expiry is one event of the sequencer, and the other timers move their own slot. -/
theorem slotTimersMoveTheirSlots : Obligations.SlotTimersMoveTheirSlots := by
  intro s hrun
  refine ⟨fun hst => ?_, fun n hn => ?_⟩
  · have hexec : exec .staggerTimerExpiry s = .next (seqEvent s.unstaggered) := exec_expiry (f := expireStagger) rfl hrun hst
    have hset : (seqEvent s.unstaggered).settings = s.settings := seqEvent_settings _
    have hgrants (n : SlotId) : s.unstaggered.grantsHead n = true ↔
        s.seq.lastHoldup = .online ∧ s.seq.targetInhibit = false ∧ s.seq.lastInhibit = false ∧
          slotIds.countP (fun m => s.seq.slots[m].state == .soak) < s.settings.sequence.maxSoak ∧
          ((s.settings.slots[n].pReq + s.settings.slots[n].pInrush : Nat) : Int) ≤ s.seq.lastH := by
      rw [grantsHead_iff, grantable_iff]
      exact ⟨fun ⟨⟨a, _, b, c, d⟩, e⟩ => ⟨a, b, c, d, e⟩, fun ⟨a, b, c, d, e⟩ => ⟨⟨a, rfl, b, c, d⟩, e⟩⟩
    refine ⟨_, hexec, (Ripple.refl s).setSeq _ |>.seqEvent, fun hq => ?_, ?_, fun n rest hq hn => ?_⟩
    · have hsame := seqEvent_same (s := s.unstaggered) fun n hn => by
        rw [show s.unstaggered.seq.queue = [] from hq] at hn
        cases hn
      exact ⟨hsame.slots, hsame.stagger⟩
    · intro need head blocked same grants
      have hhead : head = (seqEvent s.unstaggered).headNow := by
        rw [State.headNow, hset]
        rfl
      have hblocked : blocked = (seqEvent s.unstaggered).blockedHead := by
        rw [blockedHead_eq, hset]
        rfl
      obtain ⟨hseen, hlast, hquiet, htold⟩ := seqEvent_reports s.unstaggered
      rw [← hhead] at hseen hquiet htold
      rw [← hblocked] at hlast hquiet htold
      have hgrant : grants ↔ ∃ n, s.unstaggered.seq.queue.head? = some n ∧ s.unstaggered.grantsHead n = true :=
        exists_congr fun n => and_congr_right fun _ => (hgrants n).symm
      exact ⟨hseen, hlast, fun hs hg => hquiet hs fun e => hg (hgrant.2 e), fun hs => htold (hs.imp_right hgrant.1)⟩
    · intro set granted
      have hgranted : s.unstaggered.grantsHead n = true ↔ granted := hgrants n
      refine ⟨fun hno => ?_, fun hyes => ?_⟩
      · have hsame := seqEvent_same (s := s.unstaggered) fun m hm => by
          rw [show s.unstaggered.seq.queue = n :: rest from hq] at hm
          cases hm
          exact Bool.eq_false_iff.2 fun e => hno (hgranted.1 e)
        exact ⟨hsame.slots, hsame.queue, hsame.stagger⟩
      · rw [seqEvent_granted_seq (s := s.unstaggered) hq (hgranted.2 hyes)]
        refine ⟨granted_queue (s := s.unstaggered) hq hn, rfl, ?_⟩
        show (s.unstaggered.granted n).slots = _
        rw [State.granted, Slot.moved_eq _ (st := .soak) nofun]
        rfl
  · intro x set drained faulted
    refine ⟨fun hst ht => ?_, fun hst ht hpg => ?_, fun hst ht hpg => ?_, fun hst ht hpg => ?_⟩
    · have hexec : exec (.soakTimerExpiry n) s = .next (expireSoak n s) := exec_expiry rfl hrun ht
      by_cases hpg : x.pg = true
      · have htaken : expireSoak n s = seqEvent (shiftSlot n .on (fun x => { x with soak := none }) s) := by
          unfold expireSoak
          rw [if_pos hst, if_pos hpg]
        refine ⟨_, hexec, ?_⟩
        rw [htaken]
        refine ⟨(Ripple.refl s).shiftSlot.seqEvent, fun m hm hq => ((Spared.same hq).shiftSlot hm.symm).seqEvent.1, fun _ => ?_,
          fun hlow => absurd (hpg.symm.trans hlow) nofun⟩
        rw [seqEvent_slots (by rw [shiftSlot_seq]; exact hn), shiftSlot_slots, if_pos rfl, Slot.moved_eq _ (st := .on) nofun]
        rfl
      · have hlow : x.pg = false := Bool.eq_false_iff.2 hpg
        have htaken : expireSoak n s = seqEvent (faultSlot n codeSoakNoPg s) := by
          unfold expireSoak
          rw [if_pos hst, if_neg hpg]
        have hout : n ∉ (faultSlot n codeSoakNoPg s).seq.queue := by
          rw [faultSlot_seq]
          exact hn
        have hquiet := seqEvent_quiet hout
        have hraised := faultSlot_raised n codeSoakNoPg s
        have hcond := faultSlot_condition n codeSoakNoPg s
        have hslot : (faultSlot n codeSoakNoPg s).seq.slots[n] = x.failed := by
          rw [faultSlot_seq]
          exact get_set_same _ _ _
        have hkeeps (m : SlotId) (hm : m ≠ n) (hq : m ∉ s.seq.queue) :
            Spared m (· = s.seq.slots[m]) (faultSlot n codeSoakNoPg s) :=
          (Spared.same hq).of_seq (by rw [faultSlot_seq]; exact get_set_other _ _ hm.symm) (by rw [faultSlot_seq]; exact id)
        have hripple : Ripple s (faultSlot n codeSoakNoPg s) := (Ripple.refl s).faultSlot
        refine ⟨_, hexec, ?_⟩
        rw [htaken]
        refine ⟨hripple.seqEvent, fun m hm hq => (hkeeps m hm hq).seqEvent.1, fun h => absurd (h.symm.trans hlow) nofun,
          fun _ => ⟨?_, ?_, hquiet.condition.trans hcond⟩⟩
        · rw [seqEvent_slots hout, hslot]
          rfl
        · exact hraised.widen (faultSlot_sending n codeSoakNoPg s) (Quiet.refl _ s).toUnraised hquiet.toUnraised
    · have hexec : exec (.noticeWindowExpiry n) s = .next (enterDraining n s) := by
        rw [exec_expiry (f := expireWindow n) rfl hrun ht, expireWindow, if_pos hst]
      exact ⟨_, hexec, (Ripple.refl s).enterDraining, enterDraining_seq hpg⟩
    · have hexec : exec (.holdLimitExpiry n) s = .next (enterDraining n s) := by
        rw [exec_expiry (f := expireHold n) rfl hrun ht, expireHold, if_pos hst]
      exact ⟨_, hexec, (Ripple.refl s).enterDraining, enterDraining_seq hpg⟩
    · have hexec : exec (.drainTimerExpiry n) s = .next (faultSlot n codePgStuck s) := by
        rw [exec_expiry (f := expireDrain n) rfl hrun ht, expireDrain, if_pos ⟨hst, hpg⟩]
      exact ⟨_, hexec, (Ripple.refl s).faultSlot, faultSlot_seq _ _ _, faultSlot_raised _ _ _, faultSlot_condition _ _ _⟩
end

section
/-! PROOFS. O47: CLEAR_ZONE. -/

namespace Sys2Proof.Machine

/-! ### The zone's own record (R153) -/

/-- The zone as a clear leaves it. -/
def Zone.cleared (x : Zone) : Zone :=
  if x.state = .wet then
    { x with state := if x.ropeFault then .fault else .dry, valve := false, ropeCount := 0, trayCount := 0, awaitSet := false, awaitCycle := false }
  else if x.state = .suspect then
    { x with state := if x.ropeFault then .fault else .dry, ropeCount := 0, trayCount := 0, awaitSet := false, awaitCycle := false }
  else { x with ropeCount := 0, trayCount := 0 }

theorem Zone.entered_calm (x : Zone) (h : x.state ≠ .suspect) : x.entered = { x with awaitSet := false, awaitCycle := false } := by
  have hno : (x.state == .suspect) = false := beq_eq_false_iff_ne.2 h
  rw [Zone.entered, hno, Bool.and_false, Bool.and_false]

theorem calm_ne_suspect (b : Bool) : (if b then ZoneState.fault else ZoneState.dry) ≠ .suspect := by cases b <;> nofun

theorem Zone.cleared_wet {x : Zone} (h : x.state = .wet) :
    x.cleared =
      { x with
        state := if x.ropeFault then .fault else .dry, valve := false, ropeCount := 0, trayCount := 0, awaitSet := false
        awaitCycle := false } := if_pos h

theorem Zone.cleared_suspect {x : Zone} (h : x.state = .suspect) :
    x.cleared =
      { x with
        state := if x.ropeFault then .fault else .dry, ropeCount := 0, trayCount := 0, awaitSet := false
        awaitCycle := false } :=
  (if_neg (by rw [h]; nofun)).trans (if_pos h)

theorem Zone.cleared_calm {x : Zone} (h : x.state = .dry ∨ x.state = .fault) :
    x.cleared = { x with ropeCount := 0, trayCount := 0 } :=
  (if_neg (by rcases h with e | e <;> rw [e] <;> nofun)).trans (if_neg (by rcases h with e | e <;> rw [e] <;> nofun))

theorem clearZone_zone (z : ZoneId) (s : State) : (clearZone z s).leak.zones[z] = s.leak.zones[z].cleared := by
  unfold clearZone
  simp only
  split
  · next h => rw [moveZone_zones, if_pos rfl, Zone.entered_calm _ (calm_ne_suspect _), Zone.cleared_wet h]
  · next h => rw [moveZone_zones, if_pos rfl, Zone.entered_calm _ (calm_ne_suspect _), Zone.cleared_suspect h]
  · next h => rw [setZone_zones, if_pos rfl, Zone.cleared_calm (.inl h)]
  · next h => rw [setZone_zones, if_pos rfl, Zone.cleared_calm (.inr h)]

theorem setZone_frame (z : ZoneId) (x : Zone) (s : State) : ZoneFrame z s (s.setZone z x) := ⟨by
  have h : (s.setZone z x).leak.zones[z] = x := get_set_same _ _ _
  rw [h]
  rfl⟩

theorem clearZone_frame (z : ZoneId) (s : State) : ZoneFrame z s (clearZone z s) := by
  unfold clearZone
  simp only
  split
  · exact moveZone_frame _ _ _
  · exact moveZone_frame _ _ _
  · exact setZone_frame _ _ _
  · exact setZone_frame _ _ _

theorem clearZone_condition {z : ZoneId} {s : State} (h : s.leak.zones[z].state = .wet) :
    (clearZone z s).causes.recs[causeZoneWet z].condition = false := by
  unfold clearZone
  simp only
  split
  · rw [moveZone_eq, (lineWatch_quiet _ _).condition, reportCondition_condition]
    cases s.leak.zones[z].ropeFault <;> rfl
  · next e => exact absurd (h.symm.trans e) nofun
  · next e => exact absurd (h.symm.trans e) nofun
  · next e => exact absurd (h.symm.trans e) nofun

/-! ### Zones through the sequencer -/

theorem causeZoneWet_not_shed (z : ZoneId) : ¬ ShedCause (causeZoneWet z) := by
  have hz := z.isLt
  rintro (h | h | ⟨n, h⟩)
  · have := congrArg Fin.val h
    change 32 + z.val = 131 at this
    omega
  · have := congrArg Fin.val h
    change 32 + z.val = 136 at this
    omega
  · have := congrArg Fin.val h
    change 32 + z.val = 72 + n.val at this
    omega

/-! ### The LOCKED slots that leave (R153) -/

/-- The record of a slot that has left LOCKED for OFF. -/
def Slot.unlocked (x : Slot) : Slot := ({ x with reason := .none, urgency := .none } : Slot).moved .off

/-- The part with the slot taken to OFF. -/
def State.unlockedSlot (s : State) (n : SlotId) : State := moveSlot n .off (fun x => { x with reason := .none, urgency := .none }) s

theorem requeueSlot_eq (n : SlotId) (s : State) :
    requeueSlot n s =
      if (s.unlockedSlot n).settings.slots[n].enabled then enterQueue n (s.unlockedSlot n) else s.unlockedSlot n := rfl

theorem unlockedSlot_seq (s : State) (n : SlotId) :
    (s.unlockedSlot n).seq = { s.seq with slots := s.seq.slots.set n s.seq.slots[n].unlocked } := moveSlot_seq _ _ _ _

theorem unlockedSlot_settings (s : State) (n : SlotId) : (s.unlockedSlot n).settings = s.settings := moveSlot_settings _ _ _ _

theorem unlockedSlot_slotWet (s : State) (n m : SlotId) : (s.unlockedSlot n).slotWet m = s.slotWet m := moveSlot_slotWet _ _ _ _ _

theorem requeueSlot_ripple (n : SlotId) (s : State) : Ripple s (requeueSlot n s) := by
  rw [requeueSlot_eq]
  exact ite_keeps (Ripple.refl s).moveSlot.enterQueue (Ripple.refl s).moveSlot

theorem requeueSlot_touches (n : SlotId) (s : State) : Touches ShedCause s (requeueSlot n s) := by
  have hinv := Touches.shedInvariant (Q := ShedCause) (fun _ => id) s
  rw [requeueSlot_eq]
  exact ite_keeps (hinv.enterQueue (hinv.moveSlot (.refl _ s))) (hinv.moveSlot (.refl _ s))

/-- The sequencer's own fields, which no requeue moves. -/
structure Sequencer.Steady (x y : Sequencer) : Prop where
  stagger : y.stagger = x.stagger
  targetInhibit : y.targetInhibit = x.targetInhibit
  lastH : y.lastH = x.lastH
  lastHoldup : y.lastHoldup = x.lastHoldup
  lastInhibit : y.lastInhibit = x.lastInhibit

/-- The slots of a list have left LOCKED, and the enabled ones of them stand in the queue. -/
structure Requeued (l : List SlotId) (s u : State) : Prop where
  settings : u.settings = s.settings
  leak : u.leak = s.leak
  steady : s.seq.Steady u.seq
  others : ∀ m : SlotId, m ∉ l → u.seq.slots[m] = s.seq.slots[m]
  left : ∀ m ∈ l, u.seq.slots[m].reason = .none ∧ u.seq.slots[m].urgency = .none ∧
    u.seq.slots[m].state = if s.settings.slots[m].enabled then .queued else .off
  queue : ∀ m : SlotId, m ∈ u.seq.queue ↔ m ∈ s.seq.queue ∨ (m ∈ l ∧ s.settings.slots[m].enabled = true)

theorem Requeued.nil (s : State) : Requeued [] s s :=
  ⟨rfl, rfl, ⟨rfl, rfl, rfl, rfl, rfl⟩, fun _ _ => rfl, fun _ h => (List.not_mem_nil h).elim,
    fun m => ⟨.inl, fun h => h.resolve_right fun e => List.not_mem_nil e.1⟩⟩

/-- R153: one dry slot. -/
theorem requeueSlot_one {n : SlotId} {s : State} (hdry : s.slotWet n = false) : Requeued [n] s (requeueSlot n s) := by
  have hrip := requeueSlot_ripple n s
  have hset := unlockedSlot_settings s n
  have hdry' : (s.unlockedSlot n).slotWet n = false := by rw [unlockedSlot_slotWet, hdry]
  by_cases he : s.settings.slots[n].enabled = true
  · have hseq : (requeueSlot n s).seq =
        { s.seq with
          slots := (s.seq.slots.set n s.seq.slots[n].unlocked).set n ((s.seq.slots.set n s.seq.slots[n].unlocked)[n].queuedUp)
          queue := insertSlot (s.unlockedSlot n).before n (s.seq.queue.filter (· ≠ n)) } := by
      rw [requeueSlot_eq, hset, if_pos he, enterQueue_seq hdry', unlockedSlot_seq]
      rfl
    refine ⟨hrip.settings, base_leak hrip.base, by rw [hseq]; exact ⟨rfl, rfl, rfl, rfl, rfl⟩, fun m hm => ?_, fun m hm => ?_,
      fun m => ?_⟩
    · have hne : n ≠ m := fun e => hm (by rw [e]; exact List.mem_cons_self)
      rw [hseq]
      exact (get_set_other _ _ hne).trans (get_set_other _ _ hne)
    · cases List.mem_singleton.1 hm
      rw [if_pos he, hseq, get_set_same, get_set_same]
      exact ⟨rfl, rfl, rfl⟩
    · rw [hseq]
      show m ∈ insertSlot _ n (s.seq.queue.filter _) ↔ _
      rw [mem_insertSlot, List.mem_filter, decide_eq_true_eq, List.mem_singleton]
      constructor
      · rintro (rfl | ⟨h, -⟩)
        · exact .inr ⟨rfl, he⟩
        · exact .inl h
      · rintro (h | ⟨rfl, -⟩)
        · by_cases hm : m = n
          · exact .inl hm
          · exact .inr ⟨h, hm⟩
        · exact .inl rfl
  · have hseq : (requeueSlot n s).seq = { s.seq with slots := s.seq.slots.set n s.seq.slots[n].unlocked } := by
      rw [requeueSlot_eq, hset, if_neg he, unlockedSlot_seq]
    refine ⟨hrip.settings, base_leak hrip.base, by rw [hseq]; exact ⟨rfl, rfl, rfl, rfl, rfl⟩, fun m hm => ?_, fun m hm => ?_,
      fun m => ?_⟩
    · rw [hseq]
      exact get_set_other _ _ fun e => hm (by rw [e]; exact List.mem_cons_self)
    · cases List.mem_singleton.1 hm
      rw [if_neg he, hseq, get_set_same]
      exact ⟨rfl, rfl, rfl⟩
    · rw [hseq]
      refine ⟨.inl, fun h => h.resolve_right fun ⟨hm, hen⟩ => ?_⟩
      cases List.mem_singleton.1 hm
      exact he hen

theorem Requeued.cons {n : SlotId} {l : List SlotId} {s u v : State} (h : Requeued [n] s u) (k : Requeued l u v) :
    Requeued (n :: l) s v where
  settings := k.settings.trans h.settings
  leak := k.leak.trans h.leak
  steady :=
    { stagger := k.steady.stagger.trans h.steady.stagger
      targetInhibit := k.steady.targetInhibit.trans h.steady.targetInhibit
      lastH := k.steady.lastH.trans h.steady.lastH
      lastHoldup := k.steady.lastHoldup.trans h.steady.lastHoldup
      lastInhibit := k.steady.lastInhibit.trans h.steady.lastInhibit }
  others m hm := by
    rw [List.mem_cons, not_or] at hm
    exact (k.others m hm.2).trans (h.others m fun e => hm.1 (List.mem_singleton.1 e))
  left m hm := by
    by_cases hl : m ∈ l
    · have := k.left m hl
      rwa [h.settings] at this
    · have hn : m ∈ [n] := List.mem_singleton.2 ((List.mem_cons.1 hm).resolve_right hl)
      rw [k.others m hl]
      exact h.left m hn
  queue m := by
    rw [k.queue, h.queue, h.settings, List.mem_singleton, List.mem_cons]
    tauto

theorem foldl_requeued : ∀ (l : List SlotId) (s : State), (∀ n ∈ l, s.slotWet n = false) →
    Requeued l s (l.foldl (fun s n => requeueSlot n s) s)
  | [], s, _ => .nil s
  | n :: l, s, h => by
    have hone := requeueSlot_one (h n List.mem_cons_self)
    refine hone.cons (foldl_requeued l _ fun m hm => ?_)
    rw [slotWet_congr hone.settings hone.leak]
    exact h m (List.mem_cons_of_mem n hm)

/-- Of the slots that wait for one event of the sequencer at most one is granted. -/
theorem seqEvent_grants_one {l : List SlotId} {u : State} (hl : l.Nodup) (h : ∀ m ∈ l, u.seq.slots[m].state ≠ .soak) :
    (l.countP fun m => (seqEvent u).seq.slots[m].state == .soak) ≤ 1 := by
  rcases seqEvent_seq_cases u with hsame | ⟨n, rest, -, -, ht⟩
  · have hzero : (l.countP fun m => (seqEvent u).seq.slots[m].state == .soak) = 0 := by
      rw [List.countP_eq_zero]
      intro m hm
      rw [hsame.slots, beq_iff_eq]
      exact h m hm
    omega
  · refine (List.countP_mono_left fun m hm hsoak => ?_).trans (List.nodup_iff_count_le_one.1 hl n)
    by_contra hne
    have hmn : n ≠ m := fun e => hne (by simp [e])
    rw [beq_iff_eq, ht] at hsoak
    have hslot : (u.granted n).slots[m] = u.seq.slots[m] := by rw [granted_slots, if_neg hmn]
    exact h m hm ((congrArg Slot.state hslot).symm.trans hsoak)

end Sys2Proof.Machine

open Sys2Proof Sys2Proof.Machine

/-- Settles O47: the zone's record, then the LOCKED slots one by one, then one event of the sequencer. -/
theorem clearZoneReleasesTheValve : Obligations.ClearZoneReleasesTheValve := by
  intro s tag b q z h hid x calm locked
  have hlocked : s.lockedSlots z = locked := by
    show (slotIds.filter _).filter _ = _
    rw [List.filter_filter]
    exact List.filter_congr fun n _ => Bool.and_comm _ _
  have hrun : runClearZone b q s = demand (!x.blocked) .wrongState
      (let slots := if takeFlag q then s.lockedSlots z else []
       let t := slots.foldl (fun s n => requeueSlot n s) (clearZone z s)
       let t := if slots.isEmpty then t else seqEvent t
       .ok (t, .cleared t.leak.zones[z].state (slots.map fun n => (n, t.seq.slots[n].state)))) := withId_some hid
  refine ⟨fun hb => refuses_of_error rfl h (hrun.trans (demand_false ?_)), fun hc hr => ?_⟩
  · rw [Bool.not_eq_false']
    rcases hb with e | e
    · rw [Zone.blocked, e]
      rfl
    · rw [Zone.blocked, e]
      exact Bool.or_true _
  have hmay : (!x.blocked) = true := by
    rw [Zone.blocked, hr, Bool.or_false, Bool.not_eq_true', beq_eq_false_iff_ne]
    exact hc
  have hframe := clearZone_frame z s
  have hzone := clearZone_zone z s
  have hcset : (clearZone z s).settings = s.settings := by rw [hframe.all]
  have hcseq : (clearZone z s).seq = s.seq := by rw [hframe.all]
  have hleak : (clearZone z s).leak = { zones := s.leak.zones.set z x.cleared } := by
    rw [hframe.all, hzone]
  have hcalm : (clearZone z s).leak.zones[z].state ≠ .wet := by
    rw [hzone]
    unfold Zone.cleared
    split
    · cases s.leak.zones[z].ropeFault <;> nofun
    · next hw =>
      split
      · cases s.leak.zones[z].ropeFault <;> nofun
      · exact hw
  -- what every outcome has in common, for a state with the cleared zone
  have hrecord (t : State) (hl : t.leak = (clearZone z s).leak)
      (hcond : t.causes.recs[causeZoneWet z].condition = (clearZone z s).causes.recs[causeZoneWet z].condition) :
      let y := t.leak.zones[z]
      t.leak = { zones := s.leak.zones.set z y } ∧ y.ropeCount = 0 ∧ y.trayCount = 0 ∧
        (x.state = .wet → y.state = calm ∧ y.valve = false ∧ t.causes.recs[causeZoneWet z].condition = false) ∧
        (x.state = .suspect → y.state = calm ∧ y.valve = x.valve) ∧
        (x.state = .dry ∨ x.state = .fault → y = { x with ropeCount := 0, trayCount := 0 }) := by
    intro y
    have hy : y = x.cleared := (congrArg (fun l : Leak => l.zones[z]) hl).trans hzone
    refine ⟨by rw [hl, hleak, hy], ?_, ?_, fun hst => ?_, fun hst => ?_, fun hst => ?_⟩
    · rw [hy]
      unfold Zone.cleared
      split
      · rfl
      · split <;> rfl
    · rw [hy]
      unfold Zone.cleared
      split
      · rfl
      · split <;> rfl
    · rw [hy, Zone.cleared_wet hst]
      exact ⟨rfl, rfl, hcond.trans (clearZone_condition hst)⟩
    · rw [hy, Zone.cleared_suspect hst]
      exact ⟨rfl, rfl⟩
    · rw [hy, Zone.cleared_calm hst]
  by_cases hq : takeFlag q = true
  · have hq0 : q ≠ 0 := takeFlag_iff.1 hq
    have hjudged : runClearZone b q s =
        (let t := locked.foldl (fun s n => requeueSlot n s) (clearZone z s)
         let t := if locked.isEmpty then t else seqEvent t
         .ok (t, .cleared t.leak.zones[z].state (locked.map fun n => (n, t.seq.slots[n].state)))) := by
      rw [hrun, demand_true hmay, if_pos hq, hlocked]
    have hmem (n : SlotId) : n ∈ locked ↔ s.settings.slots[n].zone = some z ∧ s.seq.slots[n].state = .locked := by
      show n ∈ slotIds.filter _ ↔ _
      rw [List.mem_filter, Bool.and_eq_true, beq_iff_eq, beq_iff_eq]
      exact and_iff_right (mem_slotIds n)
    have hnodup : locked.Nodup := slotIds_nodup.filter _
    have hdry : ∀ n ∈ locked, (clearZone z s).slotWet n = false := fun n hn => Bool.eq_false_iff.2 fun hw => by
      obtain ⟨w, hw, hwet⟩ := slotWet_iff.1 hw
      rw [hcset, ((hmem n).1 hn).1] at hw
      cases hw
      exact hcalm hwet
    have hreq := foldl_requeued locked (clearZone z s) hdry
    have htouch : Touches ShedCause (clearZone z s) (locked.foldl (fun s n => requeueSlot n s) (clearZone z s)) :=
      List.foldlRecOn locked _ (.refl _ _) fun u hu n _ => hu.trans (requeueSlot_touches n u)
    generalize locked.foldl (fun s n => requeueSlot n s) (clearZone z s) = u at hreq htouch hjudged
    have hleft (n : SlotId) (hn : n ∈ locked) := hreq.left n hn
    have hnosoak : ∀ m ∈ locked, u.seq.slots[m].state ≠ .soak := fun m hm => by
      rw [(hleft m hm).2.2]
      split <;> nofun
    rcases List.eq_nil_or_concat locked with hempty | ⟨front, last, hsome⟩
    · have hjudged' : runClearZone b q s = .ok (u, .cleared u.leak.zones[z].state (locked.map fun n => (n, u.seq.slots[n].state))) := by
        rw [hjudged, hempty]
        rfl
      refine answers_of_ok rfl h hjudged' ?_
      obtain ⟨a1, a2, a3, a4, a5, a6⟩ := hrecord u hreq.leak (htouch _ (causeZoneWet_not_shed z)).condition
      refine ⟨a1, a2, a3, a4, a5, a6, fun e => absurd e hq0, fun _ => ⟨rfl, fun n hn => ?_, ?_, fun n hn _ => ?_⟩⟩
      · rw [hempty] at hn
        exact (List.not_mem_nil hn).elim
      · rw [hempty]
        exact Nat.zero_le 1
      · rw [hreq.others n hn, hcseq]
    · have hnonempty : locked.isEmpty = false := by
        rw [hsome]
        cases front <;> rfl
      have hjudged' : runClearZone b q s =
          .ok (seqEvent u, .cleared (seqEvent u).leak.zones[z].state (locked.map fun n => (n, (seqEvent u).seq.slots[n].state))) := by
        rw [hjudged, hnonempty]
        rfl
      have hrip : Ripple u (seqEvent u) := (Ripple.refl u).seqEvent
      have hgrantable : u.grantable = s.grantable := by
        refine grantable_of_same (hreq.settings.trans hcset) (soakCount_congr fun m => ?_) (hreq.steady.lastHoldup.trans (by rw [hcseq]))
          (hreq.steady.stagger.trans (by rw [hcseq])) (hreq.steady.targetInhibit.trans (by rw [hcseq]))
          (hreq.steady.lastInhibit.trans (by rw [hcseq]))
        by_cases hm : m ∈ locked
        · rw [beq_eq_false_iff_ne.2 (hnosoak m hm), ((hmem m).1 hm).2]
          rfl
        · rw [hreq.others m hm, hcseq]
      refine answers_of_ok rfl h hjudged' ?_
      obtain ⟨a1, a2, a3, a4, a5, a6⟩ := hrecord (seqEvent u) ((base_leak hrip.base).trans hreq.leak)
        ((htouch.trans (seqEvent_touches u)) _ (causeZoneWet_not_shed z)).condition
      refine ⟨a1, a2, a3, a4, a5, a6, fun e => absurd e hq0, fun _ => ⟨rfl, fun n hn hnq => ?_, seqEvent_grants_one hnodup hnosoak,
        fun n hn hnq => ?_⟩⟩
      · obtain ⟨hreason, hurgency, hstate⟩ := hleft n hn
        rw [hcset] at hstate
        have hqueue : n ∈ u.seq.queue ↔ s.settings.slots[n].enabled = true := by
          rw [hreq.queue, hcset, hcseq]
          exact ⟨fun e => (e.resolve_left hnq).2, fun e => .inr ⟨hn, e⟩⟩
        by_cases he : s.settings.slots[n].enabled = true
        · rw [if_pos he] at hstate
          have hin := hqueue.2 he
          rcases grantCheck_cases u with ⟨-, hno⟩ | ⟨m, rest, hqm, hg, -⟩
          · have hsame := seqEvent_same hno
            have hslot : (seqEvent u).seq.slots[n] = u.seq.slots[n] := congrArg (fun v : Vector Slot 24 => v[n]) hsame.slots
            have hin' : n ∈ (seqEvent u).seq.queue := by rw [hsame.queue]; exact hin
            rw [hslot]
            exact ⟨hreason, hurgency, fun e => absurd (e.symm.trans he) nofun, fun _ _ => ⟨hstate, hin'⟩,
              fun _ => .inl ⟨hstate, hin'⟩⟩
          · have ht := seqEvent_granted_seq hqm hg
            have hg' := grantsHead_iff.1 hg
            have hslot : (seqEvent u).seq.slots[n] =
                if m = n then u.seq.slots[m].soaking u.settings.slots[m].soak else u.seq.slots[n] := by
              rw [ht]
              exact granted_slots u m n
            have hqueue' : (seqEvent u).seq.queue = u.seq.queue.filter fun k => decide (k ≠ m) := by
              rw [ht]
              rfl
            have honline : u.seq.lastHoldup = .online := (grantable_iff.1 hg'.1).1
            have hlast : s.seq.lastHoldup = .online := by
              rw [← honline, hreq.steady.lastHoldup, hcseq]
            by_cases hm : m = n
            · subst hm
              rw [if_pos rfl] at hslot
              rw [hslot]
              refine ⟨hreason, hurgency, fun e => absurd (e.symm.trans he) nofun, fun _ hoff => absurd hlast hoff,
                fun _ => .inr ⟨rfl, ?_, by rw [← hgrantable]; exact hg'.1, ?_⟩⟩
              · rw [hqueue', List.mem_filter]
                exact fun e => of_decide_eq_true e.2 rfl
              · have hneed := hg'.2
                rw [hreq.settings, hcset, hreq.steady.lastH, hcseq] at hneed
                exact hneed
            · rw [if_neg hm] at hslot
              rw [hslot]
              have hin' : n ∈ (seqEvent u).seq.queue := by
                rw [hqueue', List.mem_filter]
                exact ⟨hin, decide_eq_true fun e => hm e.symm⟩
              exact ⟨hreason, hurgency, fun e => absurd (e.symm.trans he) nofun, fun _ _ => ⟨hstate, hin'⟩,
                fun _ => .inl ⟨hstate, hin'⟩⟩
        · have he' : s.settings.slots[n].enabled = false := Bool.eq_false_iff.2 he
          rw [if_neg he] at hstate
          rw [seqEvent_slots (fun e => he (hqueue.1 e))]
          exact ⟨hreason, hurgency, fun _ => hstate, fun e => absurd e he, fun e => absurd e he⟩
      · have hout : n ∉ u.seq.queue := by
          rw [hreq.queue, hcseq]
          exact fun e => e.elim hnq fun e => hn e.1
        rw [seqEvent_slots hout, hreq.others n hn, hcseq]
  · have hq0 : q = 0 := by
      by_contra hne
      exact hq (takeFlag_iff.2 hne)
    have hjudged : runClearZone b q s = .ok (clearZone z s, .cleared (clearZone z s).leak.zones[z].state []) := by
      rw [hrun, demand_true hmay, if_neg hq]
      rfl
    refine answers_of_ok rfl h hjudged ?_
    obtain ⟨a1, a2, a3, a4, a5, a6⟩ := hrecord (clearZone z s) rfl rfl
    exact ⟨a1, a2, a3, a4, a5, a6, fun _ => ⟨rfl, hcseq⟩, fun e => absurd hq0 e⟩
end

section
/-! PROOFS. O38: SET_SLOT. -/

namespace Sys2Proof.Machine

/-! ### Fields of three values -/

theorem takeClass_deferrable {b : Byte} (h : 2 ≤ b.toNat) : takeClass b = .deferrable := by
  unfold takeClass
  split
  · omega
  · omega
  · rfl

theorem takeRole_eq (b : Byte) : takeRole b = if b = 0 then .general else .leak := by
  unfold takeRole
  split
  · next e => rw [if_pos (BitVec.eq_of_toNat_eq e)]
  · next h => rw [if_neg fun e => h (by rw [e]; rfl)]

/-! ### What the effects spare (R94) -/

section Effects
variable {n m : SlotId} {P : Slot → Prop} {old new : SlotSettings} {s : State} {need : Option Nat}

theorem Spared.disableSlot (h : Spared m P s) (hne : n ≠ m) : Spared m P (disableSlot n s) := by
  rcases disableSlot_cases n s with ⟨-, e⟩ | ⟨-, e⟩
  · rw [e]
    exact (h.setSlot hne _).leaveQueue.moveSlot hne
  · rw [e]
    exact h.setSlot hne _

theorem Spared.takenEnable (h : Spared m P s) (hne : n ≠ m) : Spared m P (takenEnable n old new s) := ite_keeps (h.disableSlot hne) h

theorem Spared.takenRank (h : Spared m P s) (hne : n ≠ m) : Spared m P (takenRank n old new s) :=
  ite_keeps (h.leaveQueue.enterQueue hne) h

theorem Spared.criticalTaken (h : Spared m P s) (hne : n ≠ m) : Spared m P (criticalTaken n s) := ite_keeps (h.shiftSlot hne) h

theorem Spared.takenClass (h : Spared m P s) (hne : n ≠ m) : Spared m P (takenClass n old new s) := ite_keeps (h.criticalTaken hne) h

theorem Spared.takenPower (h : Spared m P s) : Spared m P (takenPower old new s) := ite_keeps h.recompute h

/-- What has been settled of the slot before the grant check stands after it. -/
theorem Spared.slotTaken (h : Spared m P (takenSlot n old s)) : Spared m P (slotTaken n old need s) := by
  rw [slotTaken_eq]
  exact ite_keeps h.seqEvent h

theorem Spared.takenSlot (h : Spared m P s) (hne : n ≠ m) : Spared m P (takenSlot n old s) :=
  (((h.takenEnable hne).takenRank hne).takenClass hne).takenPower

theorem takenSlot_ripple (n : SlotId) (old : SlotSettings) (s : State) : Ripple s (takenSlot n old s) := by
  have hdisable (t : State) (h : Ripple s t) : Ripple s (disableSlot n t) := by
    rcases disableSlot_cases n t with ⟨-, e⟩ | ⟨-, e⟩
    · rw [e]
      exact (h.setSlot _).leaveQueue.moveSlot
    · rw [e]
      exact h.setSlot _
  have henable : Ripple s (takenEnable n old s.settings.slots[n] s) := ite_keeps (hdisable s (.refl s)) (.refl s)
  have hrank : Ripple s (takenRank n old s.settings.slots[n] (takenEnable n old s.settings.slots[n] s)) :=
    ite_keeps henable.leaveQueue.enterQueue henable
  have hclass : Ripple s (takenClass n old s.settings.slots[n] (takenRank n old s.settings.slots[n]
      (takenEnable n old s.settings.slots[n] s))) := ite_keeps (ite_keeps hrank.withdrawSlot hrank) hrank
  exact ite_keeps hclass.recompute hclass

theorem slotTaken_ripple (n : SlotId) (old : SlotSettings) (need : Option Nat) (s : State) : Ripple s (slotTaken n old need s) := by
  rw [slotTaken_eq]
  exact ite_keeps (takenSlot_ripple n old s).seqEvent (takenSlot_ripple n old s)

/-! ### Enabled cleared -/

theorem takenEnable_same (h : ¬ (old.enabled = true ∧ new.enabled = false)) : takenEnable n old new s = s :=
  if_neg (by simpa using h)

theorem takenEnable_disables (h : old.enabled = true ∧ new.enabled = false) : takenEnable n old new s = disableSlot n s :=
  if_pos (by rw [h.1, h.2]; rfl)

/-- The slot is disabled with its restore-pending flag clear; QUEUED goes to OFF. -/
theorem disableSlot_slot :
    (disableSlot n s).seq.slots[n].restore = false ∧
      (disableSlot n s).seq.slots[n].state = (if s.seq.slots[n].state = .queued then .off else s.seq.slots[n].state) ∧
      (disableSlot n s).seq.slots[n].reason = s.seq.slots[n].reason := by
  rcases disableSlot_cases n s with ⟨hst, e⟩ | ⟨hst, e⟩
  · rw [e, moveSlot_slots, if_pos rfl, if_pos hst]
    have hslot : (leaveQueue n (s.setSlot n { s.seq.slots[n] with restore := false })).seq.slots[n] =
        { s.seq.slots[n] with restore := false } := get_set_same _ _ _
    rw [hslot]
    exact ⟨rfl, rfl, rfl⟩
  · rw [e, setSlot_slots, if_pos rfl, if_neg hst]
    exact ⟨rfl, rfl, rfl⟩

theorem disableSlot_out (h : s.seq.slots[n].state = .queued) : n ∉ (disableSlot n s).seq.queue := by
  rcases disableSlot_cases n s with ⟨-, e⟩ | ⟨hst, -⟩
  · rw [e, moveSlot_queue]
    exact not_mem_leaveQueue
  · exact absurd h hst

theorem disableSlot_outside (h : n ∉ s.seq.queue) : n ∉ (disableSlot n s).seq.queue := by
  rcases disableSlot_cases n s with ⟨-, e⟩ | ⟨-, e⟩
  · rw [e, moveSlot_queue]
    exact not_mem_leaveQueue
  · rw [e]
    exact h

/-! ### Rank, class and power -/

theorem takenRank_same (h : s.seq.slots[n].state ≠ .queued ∨ old.rank = new.rank) : takenRank n old new s = s := by
  unfold takenRank State.rankMoved
  refine if_neg fun e => ?_
  rw [Bool.and_eq_true, beq_iff_eq, bne_iff_ne] at e
  rcases h with h | h
  · exact h e.1
  · exact e.2 h

theorem takenClass_same (h : ¬ (old.cls ≠ .critical ∧ new.cls = .critical ∧
      (s.seq.slots[n].state = .notice ∨ s.seq.slots[n].state = .held) ∧ s.seq.slots[n].reason.yieldsToCritical = true)) :
    takenClass n old new s = s := by
  unfold takenClass criticalTaken
  split
  · next hc => exact if_neg fun hw => h ⟨hc.1, hc.2, hw.1, hw.2⟩
  · rfl

theorem takenClass_withdraws (h : old.cls ≠ .critical ∧ new.cls = .critical ∧
      (s.seq.slots[n].state = .notice ∨ s.seq.slots[n].state = .held) ∧ s.seq.slots[n].reason.yieldsToCritical = true) :
    takenClass n old new s = withdrawSlot n s := by
  unfold takenClass criticalTaken
  rw [if_pos ⟨h.1, h.2.1⟩]
  exact if_pos ⟨h.2.2.1, h.2.2.2⟩

/-- The withdrawal of a shed keeps the restore-pending flag (R121). -/
theorem takenClass_restore (h : s.seq.slots[n].restore = false) : (takenClass n old new s).seq.slots[n].restore = false := by
  by_cases hc : old.cls ≠ .critical ∧ new.cls = .critical ∧
      (s.seq.slots[n].state = .notice ∨ s.seq.slots[n].state = .held) ∧ s.seq.slots[n].reason.yieldsToCritical = true
  · rw [takenClass_withdraws hc, withdrawSlot_slots, if_pos rfl]
    exact h
  · rw [takenClass_same hc]
    exact h

theorem takenPower_seq : (takenPower old new s).seq = s.seq := by
  unfold takenPower
  split
  · exact recompute_seq s
  · rfl

/-! ### The figures after a recompute and a grant (R25, R26) -/

/-- The figures of the budget unit are those of the slots and the setpoint as they stand. -/
def State.figured (t : State) : Prop :=
  t.budget.sigma = t.commitmentSum ∧ t.budget.pChg = chargePower t.recharge.iSet t.busV ∧
    t.budget.h = (t.budget.cap : Int) - t.commitmentSum - t.budget.pChg

theorem recompute_figured (s : State) : (recompute s).figured := by
  have hrip : Ripple s (recompute s) := (Ripple.refl s).recompute
  have hsum : (recompute s).commitmentSum = s.commitmentSum := commitmentSum_congr hrip.settings (by rw [recompute_seq])
  refine ⟨by rw [hsum, recompute_sigma], by rw [hrip.busV, recompute_pChg], ?_⟩
  rw [hsum, hrip.cap, recompute_h, recompute_pChg]

theorem State.figured.of_same {s t : State} (h : s.figured) (hset : t.settings = s.settings) (hslots : t.seq.slots = s.seq.slots)
    (hbudget : t.budget = s.budget) (hrecharge : t.recharge = s.recharge) (hsense : t.sense = s.sense) : t.figured := by
  have hbusV : t.busV = s.busV := by rw [State.busV, State.pubValue, hsense]; rfl
  rw [State.figured, hbudget, hrecharge, hbusV, commitmentSum_congr hset hslots]
  exact h

theorem seqEvent_figured {s : State} (h : s.figured) : (seqEvent s).figured := by
  rcases grantCheck_cases s with ⟨-, hno⟩ | ⟨n, rest, hq, hg, -⟩
  · rw [seqEvent_ungranted hno]
    unfold reportHead
    exact ite_keeps h (h.of_same rfl rfl rfl rfl rfl)
  · rw [seqEvent_granted hq hg]
    exact State.figured.of_same (s := grant n s) (recompute_figured _) rfl rfl rfl rfl rfl

theorem slotTaken_figured (h : old.pReq ≠ s.settings.slots[n].pReq ∨ old.pInrush ≠ s.settings.slots[n].pInrush) :
    (slotTaken n old need s).figured := by
  have htaken : (takenSlot n old s).figured := by
    unfold takenSlot takenPower
    rw [if_pos h]
    exact recompute_figured _
  rw [slotTaken_eq]
  exact ite_keeps (seqEvent_figured htaken) htaken

/-! ### A QUEUED slot of a new rank (R96, R101) -/

/-- The queue with the slot at the place that its new rank gives it. -/
def State.rankedQueue (s : State) (n : SlotId) : List SlotId := insertSlot s.before n (s.seq.queue.filter (· ≠ n))

theorem takenRank_moves (hst : s.seq.slots[n].state = .queued) (hr : old.rank ≠ new.rank) (hdry : s.slotWet n = false) :
    (takenRank n old new s).seq =
      { s.seq with slots := s.seq.slots.set n s.seq.slots[n].queuedUp, queue := s.rankedQueue n } := by
  have hmoved : s.rankMoved n old new = true := by
    rw [State.rankMoved, hst]
    exact bne_iff_ne.2 hr
  unfold takenRank
  rw [if_pos hmoved, enterQueue_seq (show (leaveQueue n s).slotWet n = false from hdry), leaveQueue_seq]
  simp only [List.filter_filter, Bool.and_self]
  rfl

/-- A QUEUED slot that changes rank and stays enabled is at its place before the grant check. -/
theorem takenSlot_moves (hoff : ¬ (old.enabled = true ∧ s.settings.slots[n].enabled = false)) (hst : s.seq.slots[n].state = .queued)
    (hr : old.rank ≠ s.settings.slots[n].rank) (hdry : s.slotWet n = false) :
    (takenSlot n old s).seq =
        { s.seq with slots := s.seq.slots.set n s.seq.slots[n].queuedUp, queue := s.rankedQueue n } ∧
      slotTaken n old need s = seqEvent (takenSlot n old s) := by
  have henable : takenEnable n old s.settings.slots[n] s = s := takenEnable_same hoff
  have hrank := takenRank_moves hst hr hdry
  have hclass : takenClass n old s.settings.slots[n] (takenRank n old s.settings.slots[n] s) =
      takenRank n old s.settings.slots[n] s := takenClass_same fun hc => by
    have hq : (takenRank n old s.settings.slots[n] s).seq.slots[n].state = .queued := by
      rw [hrank]
      exact congrArg Slot.state (get_set_same s.seq.slots n s.seq.slots[n].queuedUp)
    rcases hc.2.2.1 with e | e <;> exact absurd (hq.symm.trans e) nofun
  constructor
  · rw [takenSlot, takenPower_seq, henable, hclass, hrank]
  · rw [slotTaken_eq, henable]
    refine if_pos ?_
    rw [State.rankMoved, hst, bne_iff_ne.2 hr]
    rfl

end Effects

/-- A list splits where its members say. -/
theorem span_congr {α : Type} {p q : α → Bool} : ∀ {l : List α}, (∀ x ∈ l, p x = q x) →
    l.takeWhile p = l.takeWhile q ∧ l.dropWhile p = l.dropWhile q
  | [], _ => ⟨rfl, rfl⟩
  | x :: l, h => by
    obtain ⟨htake, hdrop⟩ := span_congr fun y hy => h y (List.mem_cons_of_mem x hy)
    rw [List.takeWhile_cons, List.takeWhile_cons, List.dropWhile_cons, List.dropWhile_cons, h x List.mem_cons_self, htake, hdrop]
    exact ⟨rfl, rfl⟩

/-- R96: the place of a slot in a queue of others, by rank and number. -/
theorem rankedQueue_eq (s : State) (n : SlotId) :
    let earlier (m : SlotId) : Bool :=
      decide (s.settings.slots[m].rank < s.settings.slots[n].rank ∨ (s.settings.slots[m].rank = s.settings.slots[n].rank ∧ m < n))
    let others := s.seq.queue.filter (· ≠ n)
    s.rankedQueue n = others.takeWhile earlier ++ n :: others.dropWhile earlier := by
  intro earlier others
  have hsame : ∀ m ∈ others, (!s.before n m) = earlier m := fun m hm => by
    have hne : m ≠ n := of_decide_eq_true (List.mem_filter.1 hm).2
    rw [Bool.eq_iff_iff, Bool.not_eq_true', Bool.eq_false_iff, ne_eq, before_iff, decide_eq_true_eq]
    have hval : m.val ≠ n.val := fun e => hne (Fin.ext e)
    simp only [Fin.lt_def]
    omega
  rw [State.rankedQueue, insertSlot_eq]
  show others.takeWhile _ ++ n :: others.dropWhile _ = _
  rw [(span_congr hsame).1, (span_congr hsame).2]

theorem zoneRefused_iff {s : State} {n : SlotId} {zone : Option ZoneId} :
    s.zoneRefused n zone = true ↔
      zone ≠ s.settings.slots[n].zone ∧ ∃ z : ZoneId, zone = some z ∧ s.leak.zones[z].state = .wet := by
  unfold State.zoneRefused
  rw [Bool.and_eq_true, bne_iff_ne]
  refine and_congr_right fun _ => ?_
  cases zone with
  | none => exact ⟨nofun, fun ⟨z, h, _⟩ => nomatch h⟩
  | some z =>
    rw [beq_iff_eq]
    exact ⟨fun h => ⟨z, rfl, h⟩, fun ⟨w, hw, h⟩ => by cases hw; exact h⟩

theorem yieldsToCritical_iff {r : ShedReason} : r.yieldsToCritical = true ↔ r = .reserve ∨ r = .limit ∨ r = .deficit := by
  cases r <;> simp [ShedReason.yieldsToCritical]

end Sys2Proof.Machine

open Sys2Proof Sys2Proof.Machine

/-- Settles O38: the effects one by one on the slot with its new settings, and then one event of the sequencer. -/
theorem setSlotActsAtAcceptance : Obligations.SetSlotActsAtAcceptance := by
  intro s tag b n w zone h hid hzone set old new x wet offs calls
  have hrun : runSetSlot b w s =
      demand (s.lockAllows new) .locked
        (demand (!s.zoneRefused n zone) .wrongState
          (takeSettings new (slotTaken n old s.headNeed)
            (fun t => .slot t.settings.slots[n] t.seq.slots[n].state) s)) := (withId_some hid).trans (withId_some hzone)
  have hwet : s.zoneRefused n zone = true ↔ wet := zoneRefused_iff
  refine ⟨rfl, ?_, ?_, takeClass_deferrable, ?_, ?_, ?_, clampNat_zero _ _, clampNat_zero _ _, clampNat_eq _ _ _, clampNat_eq _ _ _, rfl, rfl,
    fun hlock => refuses_of_error rfl h (hrun.trans (demand_false hlock)), fun hlock hw => ?_, fun hlock hdry => ?_⟩
  · intro e
    show takeClass w.cls = _
    rw [e]
    rfl
  · intro e
    show takeClass w.cls = _
    rw [e]
    rfl
  · exact fun e => (takeRole_eq w.role).trans (if_pos e)
  · exact fun e => (takeRole_eq w.role).trans (if_neg e)
  · have hr : set.rank = min 255 w.rank.toNat := clampNat_zero _ _
    have hlt := w.rank.isLt
    omega
  · exact refuses_of_error rfl h (hrun.trans ((demand_true hlock).trans (demand_false (by rw [hwet.2 hw]; rfl))))
  · have hmay : (!s.zoneRefused n zone) = true := by
      rw [Bool.not_eq_true', Bool.eq_false_iff]
      exact fun e => hdry (hwet.1 e)
    refine answers_of_ok rfl h (hrun.trans ((demand_true hlock).trans ((demand_true hmay).trans (takeSettings_taken hlock)))) ?_
    have hset : (s.adopt new).settings.slots[n] = set := get_set_same _ _ _
    have hrip := slotTaken_ripple n old s.headNeed (s.adopt new)
    have hfigured := slotTaken_figured (n := n) (old := old) (need := s.headNeed) (s := s.adopt new)
    rw [hset] at hfigured
    have hspared (P : Slot → Prop) (m : SlotId) (hp : Spared m P (takenSlot n old (s.adopt new))) :
        Spared m P (slotTaken n old s.headNeed (s.adopt new)) := hp.slotTaken
    have hmoves := takenSlot_moves (n := n) (old := old) (need := s.headNeed) (s := s.adopt new)
    rw [hset] at hmoves
    have htaken : takenSlot n old (s.adopt new) =
        takenPower old set (takenClass n old set (takenRank n old set (takenEnable n old set (s.adopt new)))) := by
      rw [takenSlot, hset]
    have hyields : calls ↔ old.cls ≠ .critical ∧ set.cls = .critical ∧ (x.state = .notice ∨ x.state = .held) ∧
        x.reason.yieldsToCritical = true := by rw [yieldsToCritical_iff]
    -- the slot after its first two effects, when these leave it where it stands
    have hfirst (hq : offs ∨ x.state ≠ .queued) :
        takenRank n old set (takenEnable n old set (s.adopt new)) = takenEnable n old set (s.adopt new) := by
      refine takenRank_same (.inl ?_)
      by_cases ho : offs
      · rw [takenEnable_disables ho, disableSlot_slot.2.1]
        split
        · nofun
        · next hne => exact hne
      · rw [takenEnable_same ho]
        exact hq.resolve_left ho
    generalize hu : slotTaken n old s.headNeed (s.adopt new) = u at hrip hfigured hspared hmoves
    refine ⟨by rw [hrip.settings, hset], hrip.settings, base_store hrip.base, hrip.holdup,
      base_leak (s := s.adopt new) hrip.base, hrip.sense, base_pins (s := s.adopt new) hrip.base, fun ho => ?_, fun ho hq => ?_, fun hc hn => ?_, fun hc ho hq hn => ?_, fun hp => ?_, fun ho hq hr hd => ?_,
      fun m hm hn => ?_⟩
    · refine (hspared (fun y => y.restore = false) n ⟨?_, fun _ _ _ hy => hy⟩).1
      rw [htaken, takenPower_seq, hfirst (.inl ho), takenEnable_disables ho]
      exact takenClass_restore disableSlot_slot.1
    · have hgone : Spared n (fun y => y.state = .off) (takenSlot n old (s.adopt new)) ∧ n ∉ (takenSlot n old (s.adopt new)).seq.queue := by
        have hstate : (disableSlot n (s.adopt new)).seq.slots[n].state = .off := by
          rw [disableSlot_slot.2.1, if_pos (show (s.adopt new).seq.slots[n].state = .queued from hq)]
        have hout : n ∉ (disableSlot n (s.adopt new)).seq.queue := disableSlot_out hq
        have hclass : takenClass n old set (disableSlot n (s.adopt new)) = disableSlot n (s.adopt new) :=
          takenClass_same fun hc => by rcases hc.2.2.1 with e | e <;> exact absurd (hstate.symm.trans e) nofun
        rw [htaken, hfirst (.inl ho), takenEnable_disables ho, hclass]
        unfold Spared
        rw [takenPower_seq]
        exact ⟨⟨hstate, fun hm => absurd hm hout⟩, hout⟩
      have hstays : Spared n (· = (takenSlot n old (s.adopt new)).seq.slots[n]) (takenSlot n old (s.adopt new)) := .same hgone.2
      have hafter := hspared _ n hstays
      exact ⟨(congrArg Slot.state hafter.1).trans hgone.1.1, hafter.out⟩
    · obtain ⟨hcls, hnew, hst, hr⟩ := hyields.1 hc
      have hnq : x.state ≠ .queued := by rcases hst with e | e <;> rw [e] <;> nofun
      have hstill : (takenEnable n old set (s.adopt new)).seq.slots[n].state = x.state ∧
          (takenEnable n old set (s.adopt new)).seq.slots[n].reason = x.reason ∧ n ∉ (takenEnable n old set (s.adopt new)).seq.queue := by
        by_cases ho : offs
        · rw [takenEnable_disables ho]
          exact ⟨disableSlot_slot.2.1.trans (if_neg hnq), disableSlot_slot.2.2, disableSlot_outside hn⟩
        · rw [takenEnable_same ho]
          exact ⟨rfl, rfl, hn⟩
      obtain ⟨hstate, hreason, hout⟩ := hstill
      have hseq : (takenSlot n old (s.adopt new)).seq = (withdrawSlot n (takenEnable n old set (s.adopt new))).seq := by
        rw [htaken, takenPower_seq, hfirst (.inr hnq), takenClass_withdraws]
        rw [hstate, hreason]
        exact ⟨hcls, hnew, hst, hr⟩
      have hslot : (takenSlot n old (s.adopt new)).seq.slots[n] =
          (takenEnable n old set (s.adopt new)).seq.slots[n].noShed.moved .on := by
        rw [hseq, withdrawSlot_slots, if_pos rfl]
      have hq' : n ∉ (takenSlot n old (s.adopt new)).seq.queue := by
        rw [hseq, withdrawSlot, shiftSlot_seq]
        exact hout
      have hafter := (hspared _ n (.same hq')).1
      rw [hafter, hslot]
      exact ⟨rfl, rfl, rfl, rfl, rfl, rfl, rfl⟩
    · have hsame : (takenSlot n old (s.adopt new)).seq = s.seq := by
        rw [htaken, takenPower_seq, hfirst (.inr hq), takenEnable_same ho, takenClass_same (s := s.adopt new) fun e => hc (hyields.2 e)]
        rfl
      have hp : Spared n (· = x) (takenSlot n old (s.adopt new)) := by
        unfold Spared
        rw [hsame]
        exact ⟨rfl, fun hm => absurd hm hn⟩
      exact (hspared _ n hp).1
    · obtain ⟨hsigma, hpow, hh⟩ := hfigured hp
      refine ⟨hsigma, hpow.trans ?_, ?_⟩
      · rw [hrip.busV]
        rfl
      · rw [hh, hrip.cap]
        rfl
    · intro others earlier moved m rest hmoved hm
      have hd' : (s.adopt new).slotWet n = false := Bool.eq_false_iff.2 fun hw => by
        obtain ⟨z, hz, hzwet⟩ := slotWet_iff.1 hw
        rw [hset] at hz
        have hz' : zone = some z := hz
        by_cases he : zone = old.zone
        · have hold : s.slotWet n = true := slotWet_iff.2 ⟨z, he.symm.trans hz', hzwet⟩
          rw [hold] at hd
          cases hd
        · exact hdry ⟨he, z, hz', hzwet⟩
      obtain ⟨hseq, hevent⟩ := hmoves ho hq hr hd'
      have hqueue : (takenSlot n old (s.adopt new)).seq.queue = moved := by
        rw [hseq]
        refine (rankedQueue_eq (s.adopt new) n).trans ?_
        have hearlier : ∀ k ∈ others, decide ((s.adopt new).settings.slots[k].rank < (s.adopt new).settings.slots[n].rank ∨
            ((s.adopt new).settings.slots[k].rank = (s.adopt new).settings.slots[n].rank ∧ k < n)) = earlier k := fun k hk => by
          have hne : n ≠ k := fun e => of_decide_eq_true (List.mem_filter.1 hk).2 e.symm
          have hk' : (s.adopt new).settings.slots[k] = s.settings.slots[k] := get_set_other _ _ hne
          rw [hset, hk']
        show others.takeWhile _ ++ n :: others.dropWhile _ = others.takeWhile earlier ++ n :: others.dropWhile earlier
        rw [(span_congr hearlier).1, (span_congr hearlier).2]
      have hrip' : Ripple (s.adopt new) (takenSlot n old (s.adopt new)) := takenSlot_ripple n old _
      have hgrants : (takenSlot n old (s.adopt new)).grantsHead m = (s.adopt new).grantsHead m := by
        have hlast : (takenSlot n old (s.adopt new)).seq.lastH = (s.adopt new).seq.lastH := by rw [hseq]
        have hgrantable : (takenSlot n old (s.adopt new)).grantable = (s.adopt new).grantable := by
          refine grantable_of_same hrip'.settings (soakCount_congr fun k => ?_) ?_ ?_ ?_ ?_
          · rw [hseq]
            show (((s.adopt new).seq.slots.set n _)[k].state == .soak) = _
            rw [get_set]
            split
            · next e =>
              rw [← e, show (s.adopt new).seq.slots[n].state = .queued from hq]
              rfl
            · rfl
          all_goals rw [hseq]
        rw [State.grantsHead, State.grantsHead, hgrantable, hlast, hrip'.settings]
      refine ⟨fun hg => ?_, fun hg => ?_⟩
      · have ht := seqEvent_granted_seq (hqueue.trans hmoved) (hgrants.trans hg)
        rw [← hevent] at ht
        rw [ht]
        refine ⟨granted_queue (hqueue.trans hmoved) hm, ?_⟩
        show ((takenSlot n old (s.adopt new)).granted m).slots[m].state = _
        rw [granted_slots, if_pos rfl]
        rfl
      · have hsame := seqEvent_same (s := takenSlot n old (s.adopt new)) fun k hk => by
          rw [hqueue, hmoved] at hk
          cases hk
          exact hgrants.trans hg
        rw [← hevent] at hsame
        refine ⟨hsame.queue.trans hqueue, ?_⟩
        show u.seq.slots[n].state = _ ∧ u.seq.slots[n].restore = _
        rw [hsame.slots, hseq, get_set_same]
        exact ⟨rfl, rfl⟩
    · exact (hspared _ m ((Spared.same (s := s.adopt new) hn).takenSlot hm.symm)).1
end

section
/-! PROOFS. The regulator's steps (chapter 5), each with the recompute that follows a change of I_set, and its two timers. -/

namespace Sys2Proof.Machine

/-- A recompute that pauses nothing is told by the deficit cause alone. -/
theorem recompute_touches_deficit {s : State} (h : ¬ s.mustPause) : Touches (· = causeDeficit) s (recompute s) := by
  have hset : settleHeadroom s.instructed = settleHeadroom s := by rw [instructed_of_not h]
  rcases Bool.eq_false_or_eq_true s.online with hon | hoff
  · rw [recompute_online hon, hset]
    exact (settleHeadroom_touches _ s).trans (judgeDeficit_touches _)
  · rw [recompute_offline hoff, hset]
    exact settleHeadroom_touches _ s

/-- The part of a regulator step that comes before its recompute: the slots and the line are still those of `s`. -/
structure RegulatorStep (s u : State) : Prop where
  ripple : Ripple s u
  seq : u.seq = s.seq
  line : u.line = s.line

namespace RegulatorStep
variable {s u : State}

theorem shortOf (h : RegulatorStep s u) (p : Nat) : u.shortOf p ↔ s.shortOf p := by
  rw [State.shortOf, State.shortOf, h.ripple.online, h.ripple.cap,
    commitmentSum_congr h.ripple.settings (congrArg Sequencer.slots h.seq)]

theorem mustPause (h : RegulatorStep s u) : u.mustPause ↔ s.shortOf (chargePower u.recharge.iSet s.busV) := by
  rw [mustPause_iff, h.shortOf, h.ripple.busV]

theorem refl (s : State) : RegulatorStep s s := ⟨.refl s, rfl, rfl⟩

/-- The regulator's own fields, with the shares and outputs that follow (R81). -/
theorem sets (h : RegulatorStep s u) (x : Recharge)
    (hx : x = { u.recharge with state := x.state, iSet := x.iSet, shares := x.shares, step := x.step, floorTimer := x.floorTimer, yielded := x.yielded }) :
    RegulatorStep s (Machine.reshare (u.setRecharge x)) :=
  ⟨(h.ripple.setSetpoint x hx).reshare, (reshare_seq _).trans h.seq, (reshare_line _).trans h.line⟩

theorem report (h : RegulatorStep s u) (c : CauseId) (active : Bool) : RegulatorStep s (reportCondition c active u) :=
  ⟨h.ripple.reportCondition c active, (reportCondition_seq c active u).trans h.seq, (reportCondition_line c active u).trans h.line⟩

theorem raise (h : RegulatorStep s u) (c : CauseId) (v : Int) (code : Byte) : RegulatorStep s (raise c v code u) :=
  ⟨h.ripple.raise c v code, (raise_seq c v code u).trans h.seq, (raise_line c v code u).trans h.line⟩

/-- What the recompute after the step leaves: the step, unless the headroom does not bear a new setpoint (R26, R88). -/
theorem recomputes (h : RegulatorStep s u) (before : Nat) :
    let t := recomputeIfSet before u
    let short := s.shortOf (chargePower u.recharge.iSet s.busV)
    RegulatorStep s t ∧
      (u.recharge.iSet = before ∨ ¬ short → t.recharge = u.recharge ∧ Touches (· = causeDeficit) u t) ∧
      (u.recharge.iSet ≠ before → short → t.recharge = (u.recharge.stopped .paused).shared) := by
  intro t short
  by_cases hsame : u.recharge.iSet = before
  · have e : t = u := if_pos hsame
    rw [e]
    exact ⟨h, fun _ => ⟨rfl, .refl _ u⟩, fun hne => absurd hsame hne⟩
  · have e : t = recompute u := if_neg hsame
    rw [e]
    refine ⟨⟨h.ripple.recompute, (recompute_seq u).trans h.seq, (recompute_line u).trans h.line⟩, fun hbears => ?_,
      fun _ hshort => recompute_recharge_pause (h.mustPause.2 hshort)⟩
    have hnot : ¬ u.mustPause := fun hp => hbears.elim hsame fun hb => hb (h.mustPause.1 hp)
    exact ⟨recompute_recharge_same hnot, recompute_touches_deficit hnot⟩

end RegulatorStep

/-- R84 to R86, R89: CRUISE at a setpoint, or PAUSED when the headroom does not bear it. -/
theorem enterCruise_spec (iSet : Nat) (s : State) :
    let t := enterCruise iSet s
    RegulatorStep s t ∧
      (iSet = s.recharge.iSet ∨ ¬ s.shortOf (chargePower iSet s.busV) → t.recharge = (s.recharge.cruising iSet s.stepTime).shared) ∧
      (iSet ≠ s.recharge.iSet → s.shortOf (chargePower iSet s.busV) →
        t.recharge = ((s.recharge.cruising iSet s.stepTime).shared.stopped .paused).shared) := by
  intro t
  have e : t = _ := enterCruise_eq iSet s
  generalize hu : reportCondition causeRecharge false (reshare (s.setRecharge (s.recharge.cruising iSet s.stepTime))) = u at e
  have hbefore : RegulatorStep s u := hu ▸ (((RegulatorStep.refl s).sets _ rfl).report _ _)
  have hrec : u.recharge = (s.recharge.cruising iSet s.stepTime).shared := by
    rw [← hu, reportCondition_recharge, reshare_recharge, State.setRecharge_recharge]
  obtain ⟨hstep, hbears, hshort⟩ := hbefore.recomputes s.recharge.iSet
  rw [hrec] at hbears hshort
  rw [e]
  exact ⟨hstep, fun h => (hbears h).1, hshort⟩

theorem enterPaused_step (v : Int) (code : Byte) (s : State) : RegulatorStep s (enterPaused v code s) := by
  rw [enterPaused_eq]
  exact (((RegulatorStep.refl s).sets _ rfl).report _ _).raise _ _ _

theorem enterPaused_condition (v : Int) (code : Byte) (s : State) : (enterPaused v code s).causes.recs[causeRecharge].condition = true := by
  rw [enterPaused_eq, raise_condition rfl]
  exact reportCondition_condition causeRecharge true _

theorem not_shortOf_zero (s : State) (busV : Nat) : ¬ s.shortOf (chargePower 0 busV) := by
  rw [chargePower_zero]
  exact fun h => absurd h.2.2 (Nat.lt_irrefl 0)

/-- R84, R86: a pause by the regulator's own decision, whose recompute never pauses again. -/
theorem pauseRegulator_spec (code : Byte) (s : State) :
    let t := pauseRegulator code s
    RegulatorStep s t ∧ t.recharge = (s.recharge.stopped .paused).shared ∧ RaisedFrom s t causeRecharge s.recharge.lastH code ∧
      t.causes.recs[causeRecharge].condition = true := by
  intro t
  have hpaused := enterPaused_recharge s.recharge.lastH code s
  have hraised := enterPaused_raised s.recharge.lastH code s
  have hcondition := enterPaused_condition s.recharge.lastH code s
  obtain ⟨hstep, hbears, -⟩ := (enterPaused_step s.recharge.lastH code s).recomputes s.recharge.iSet
  have e : t = recomputeIfSet s.recharge.iSet (enterPaused s.recharge.lastH code s) := rfl
  have hzero : (enterPaused s.recharge.lastH code s).recharge.iSet = 0 := by
    rw [hpaused]
    rfl
  rw [hzero] at hbears
  obtain ⟨hrec, htouches⟩ := hbears (.inr (not_shortOf_zero s _))
  rw [e]
  generalize recomputeIfSet _ _ = t' at hstep hrec htouches
  have hquiet := htouches causeRecharge causeRecharge_ne_deficit
  exact ⟨hstep, hrec.trans hpaused, hraised.widen ((enterPaused_touches _ _ s) _ causeDeficit_ne_recharge).sending
    (Quiet.refl _ s).toUnraised hquiet.toUnraised, hquiet.condition.trans hcondition⟩

/-- The setpoint that a step goes to (R85). -/
def State.nextSetpoint (s : State) : Nat :=
  if s.bandHigh < s.recharge.lastH ∧ s.recharge.yielded = false then
    min (s.recharge.iSet + s.settings.recharge.deltaI) s.settings.recharge.iMax
  else if s.recharge.lastH < s.bandLow ∧ s.settings.recharge.iFloor < s.recharge.iSet then
    max (s.recharge.iSet - s.settings.recharge.deltaI) s.settings.recharge.iFloor
  else s.recharge.iSet

theorem bandLow_le_bandHigh (s : State) : s.bandLow ≤ s.bandHigh := by
  unfold State.bandLow State.bandHigh
  omega

/-- FLOOR from I_floor below the band (R85). -/
theorem stepRegulator_falls {s : State} (hbelow : s.recharge.lastH < s.bandLow) (hmin : s.recharge.iSet ≤ s.settings.recharge.iFloor) :
    stepRegulator s = s.setRecharge
      { s.recharge with
        state := .floor, step := none, floorTimer := some (s.settings.recharge.floorTime * 1000), yielded := false } := by
  have hband := bandLow_le_bandHigh s
  unfold stepRegulator
  rw [if_neg (by omega), if_neg (by omega), if_neg (by omega)]

/-- CRUISE at the next setpoint in every other case (R85). -/
theorem stepRegulator_next {s : State} (h : ¬ (s.recharge.lastH < s.bandLow ∧ s.recharge.iSet ≤ s.settings.recharge.iFloor)) :
    stepRegulator s = enterCruise s.nextSetpoint s := by
  have hband := bandLow_le_bandHigh s
  unfold stepRegulator State.nextSetpoint
  by_cases hhigh : s.bandHigh < s.recharge.lastH
  · have hlow : ¬ s.recharge.lastH < s.bandLow := by omega
    cases hy : s.recharge.yielded <;> simp [hhigh, hlow, hy]
  · by_cases hlow : s.recharge.lastH < s.bandLow
    · have hmin : s.settings.recharge.iFloor < s.recharge.iSet := Nat.lt_of_not_le fun hle => h ⟨hlow, hle⟩
      simp [hhigh, hlow, hmin, Int.not_le.2 hlow]
    · simp [hhigh, hlow, Int.not_lt.1 hlow]

end Sys2Proof.Machine

open Sys2Proof Sys2Proof.Machine

/-- Settles O56: a step stays in CRUISE at the next setpoint or falls to FLOOR, by the branches of `stepRegulator`; the floor timer
is a pause by the regulator's own decision. -/
theorem regulatorTimersFollowTheBand : Obligations.RegulatorTimersFollowTheBand := by
  intro s hrun set x above below next power short floors
  refine ⟨fun hstate htimer => ⟨_, exec_expiry (f := expireStep) rfl hrun htimer, ?_⟩, fun hstate htimer =>
    ⟨_, exec_expiry (f := expireFloor) rfl hrun htimer, ?_⟩, fun h => exec_noExpiry (f := expireStep) rfl hrun h,
    fun h => exec_noExpiry (f := expireFloor) rfl hrun h⟩
  · have e : expireStep s = stepRegulator s := if_pos hstate
    rw [e]
    by_cases hfloors : floors
    · rw [stepRegulator_falls hfloors.1 hfloors.2]
      exact ⟨(Ripple.refl s).setSetpoint _ rfl, rfl, rfl, fun _ => rfl, fun h => absurd hfloors h, fun h => absurd hfloors h⟩
    · rw [stepRegulator_next hfloors]
      obtain ⟨hstep, hbears, hshort⟩ := enterCruise_spec s.nextSetpoint s
      refine ⟨hstep.ripple, hstep.seq, hstep.line, fun h => absurd h hfloors, fun _ h => (hbears h).trans ?_, fun _ hne h => ?_⟩
      · show ({ x with state := .cruise, iSet := next, step := _, floorTimer := none, shares := _ } : Recharge) = _
        rw [← hstate]
        rfl
      · rw [hshort hne h]
        exact ⟨rfl, rfl⟩
  · have e : expireFloor s = pauseRegulator codeFloorTime s := if_pos hstate
    rw [e]
    obtain ⟨hstep, hrec, hraised, hcondition⟩ := pauseRegulator_spec codeFloorTime s
    refine ⟨hstep.ripple, hstep.seq, ?_, ?_, ?_, ?_, ?_, hraised, hcondition⟩ <;> rw [hrec] <;> rfl
end

section
/-! PROOFS. The DEFICIT selection (R126): its candidates in their order, the slots it takes, and what their sheds leave; the grace
expiry and the answer (R30, R31, R33). -/

namespace Sys2Proof.Machine

/-! ### The order of the candidates -/

theorem insertSlot_perm (before : SlotId → SlotId → Bool) (n : SlotId) : ∀ l : List SlotId, (insertSlot before n l).Perm (n :: l)
  | [] => .refl _
  | m :: ms => by
    unfold insertSlot
    split
    · exact .refl _
    · exact ((insertSlot_perm before n ms).cons m).trans (.swap n m ms)

theorem foldl_insertSlot_perm (before : SlotId → SlotId → Bool) (l acc : List SlotId) :
    (l.foldl (fun acc n => insertSlot before n acc) acc).Perm (l ++ acc) := by
  induction l generalizing acc with
  | nil => exact .refl _
  | cons n l ih => exact (ih _).trans (((insertSlot_perm before n acc).append_left l).trans List.perm_middle)

theorem foldl_insertSlot_pairwise {s : State} {l acc : List SlotId} (hnodup : (l ++ acc).Nodup)
    (hacc : acc.Pairwise fun a b => s.before a b = true) :
    (l.foldl (fun acc n => insertSlot s.before n acc) acc).Pairwise fun a b => s.before a b = true := by
  induction l generalizing acc with
  | nil => exact hacc
  | cons n l ih =>
    obtain ⟨hn, hrest⟩ := List.nodup_cons.1 hnodup
    refine ih ?_ (insertSlot_pairwise hacc fun hmem => hn (List.mem_append_right l hmem))
    exact (((insertSlot_perm s.before n acc).append_left l).trans List.perm_middle).nodup_iff.2 hnodup

/-- Highest rank first, then highest number. -/
def State.outranks (s : State) (a b : SlotId) : Bool :=
  decide (s.settings.slots[b].rank < s.settings.slots[a].rank ∨ (s.settings.slots[a].rank = s.settings.slots[b].rank ∧ b.val ≤ a.val))

theorem outranks_iff {s : State} {a b : SlotId} :
    s.outranks a b = true ↔
      s.settings.slots[b].rank < s.settings.slots[a].rank ∨ (s.settings.slots[a].rank = s.settings.slots[b].rank ∧ b.val ≤ a.val) :=
  decide_eq_true_iff

theorem outranks_antisymm {s : State} {a b : SlotId} (h : s.outranks a b = true) (k : s.outranks b a = true) : a = b := by
  rw [outranks_iff] at h k
  exact Fin.ext (by omega)

/-- R126: the candidates of a class are its ON slots with a P_req, sorted. -/
theorem candidates_eq_mergeSort (s : State) (c : SlotClass) :
    s.candidates c =
      (slotIds.filter fun n =>
        s.seq.slots[n].state == .on && s.settings.slots[n].cls == c && decide (0 < s.settings.slots[n].pReq)).mergeSort s.outranks := by
  have hnodup : (slotIds.filter fun n =>
      s.seq.slots[n].state == .on && s.settings.slots[n].cls == c && decide (0 < s.settings.slots[n].pReq)).Nodup :=
    slotIds_nodup.filter _
  unfold State.candidates
  generalize slotIds.filter _ = l at hnodup
  refine List.Perm.eq_of_pairwise (le := fun a b => s.outranks a b = true) (fun a b _ _ => outranks_antisymm) ?_ ?_ ?_
  · rw [List.pairwise_reverse]
    refine (foldl_insertSlot_pairwise (by rwa [List.append_nil]) .nil).imp fun {a b} hab => ?_
    rw [before_iff, Fin.lt_def] at hab
    rw [outranks_iff]
    omega
  · refine List.pairwise_mergeSort (fun a b c hab hbc => ?_) (fun a b => ?_) l
    · rw [outranks_iff] at hab hbc ⊢
      omega
    · rw [Bool.or_eq_true, outranks_iff, outranks_iff]
      omega
  · have hperm := foldl_insertSlot_perm s.before l []
    rw [List.append_nil] at hperm
    exact (List.reverse_perm _).trans (hperm.trans (List.mergeSort_perm l _).symm)

theorem candidates_nodup (s : State) : (s.candidates .deferrable ++ s.candidates .essential).Nodup := by
  have hone (c : SlotClass) : (s.candidates c).Nodup := by
    rw [candidates_eq_mergeSort]
    exact (List.mergeSort_perm _ _).nodup_iff.2 (slotIds_nodup.filter _)
  refine List.nodup_append'.2 ⟨hone _, hone _, fun n hd he => ?_⟩
  exact absurd ((mem_candidates.1 hd).2.1.symm.trans (mem_candidates.1 he).2.1) nofun

/-! ### The slots a selection takes -/

/-- R126: the first candidates, as many as bring the projected headroom to 0. -/
theorem selectSlots_takes (pReq : SlotId → Nat) (l : List SlotId) (start : Int) :
    let reached (k : Nat) : Int := start + (((l.take k).map pReq).sum : Nat)
    ∃ k, k ≤ l.length ∧ (∀ j, j < k → reached j < 0) ∧ (0 ≤ reached k ∨ k = l.length) ∧
      selectSlots pReq l start = (l.take k, reached k) := by
  induction l generalizing start with
  | nil => exact ⟨0, Nat.le_refl 0, fun j hj => absurd hj (Nat.not_lt_zero j), .inr rfl, by simp [selectSlots]⟩
  | cons n l ih =>
    intro reached
    by_cases hneg : start < 0
    · obtain ⟨k, hk, hbelow, hend, he⟩ := ih (start + (pReq n : Int))
      have hsucc (j : Nat) : reached (j + 1) = start + (pReq n : Int) + (((l.take j).map pReq).sum : Nat) := by
        simp only [reached, List.take_succ_cons, List.map_cons, List.sum_cons]
        omega
      refine ⟨k + 1, Nat.succ_le_succ hk, fun j hj => ?_, ?_, ?_⟩
      · cases j with
        | zero => simpa [reached] using hneg
        | succ j => exact (hsucc j).symm ▸ hbelow j (Nat.lt_of_succ_lt_succ hj)
      · rw [hsucc]
        exact hend.imp id fun e => by rw [e]; rfl
      · rw [selectSlots, if_pos hneg, he, hsucc]
        rfl
    · refine ⟨0, Nat.zero_le _, fun j hj => absurd hj (Nat.not_lt_zero j), .inl ?_, ?_⟩
      · simp only [reached, List.take_zero, List.map_nil, List.sum_nil]
        omega
      · rw [selectSlots, if_neg hneg]
        simp [reached]

/-- R114: a shed of several ON slots warns each of them and touches no other. -/
theorem foldl_shedSlot_warns {reason : ShedReason} {urgency : Urgency} (hu : urgency ≠ .immediate) {l : List SlotId} {s : State}
    (hnodup : l.Nodup) (hon : ∀ n ∈ l, s.seq.slots[n].state = .on) :
    let t := l.foldl (fun s n => shedSlot n reason urgency s) s
    Ripple s t ∧ t.seq = { s.seq with slots := t.seq.slots } ∧
      ∀ n : SlotId, (n ∉ l → t.seq.slots[n] = s.seq.slots[n]) ∧
        (n ∈ l → t.seq.slots[n] = s.seq.slots[n].warnedFor reason urgency s.settings.sequence.noticeWindow) := by
  induction l generalizing s with
  | nil => exact ⟨.refl s, rfl, fun n => ⟨fun _ => rfl, fun h => absurd h List.not_mem_nil⟩⟩
  | cons m l ih =>
    obtain ⟨hm, hl⟩ := List.nodup_cons.1 hnodup
    have hseq := shedSlot_on_seq (reason := reason) (urgency := urgency) (hon m List.mem_cons_self) hu
    have hripple : Ripple s (shedSlot m reason urgency s) := (Ripple.refl s).shedSlot
    have hother : ∀ n, n ≠ m → (shedSlot m reason urgency s).seq.slots[n] = s.seq.slots[n] := fun n hn => by
      rw [hseq]
      exact get_set_other _ _ (Ne.symm hn)
    have hself : (shedSlot m reason urgency s).seq.slots[m] = s.seq.slots[m].warnedFor reason urgency s.settings.sequence.noticeWindow := by
      rw [hseq]
      exact get_set_same _ _ _
    generalize hu' : shedSlot m reason urgency s = u at hseq hripple hother hself
    have hne : ∀ n ∈ l, n ≠ m := fun n hn e => hm (e ▸ hn)
    obtain ⟨hrip, hq, hslots⟩ := ih (s := u) hl fun n hn => by rw [hother n (hne n hn)]; exact hon n (List.mem_cons_of_mem m hn)
    intro t
    have ht : t = l.foldl (fun s n => shedSlot n reason urgency s) u := by rw [← hu']; rfl
    rw [← ht] at hrip hq hslots
    refine ⟨hripple.trans hrip, hq.trans (by rw [hseq]), fun n => ⟨fun hn => ?_, fun hn => ?_⟩⟩
    · rw [List.mem_cons, not_or] at hn
      exact ((hslots n).1 hn.2).trans (hother n hn.1)
    · rcases List.mem_cons.1 hn with rfl | hn
      · exact ((hslots n).1 hm).trans hself
      · rw [(hslots n).2 hn, hother n (hne n hn), hripple.settings]

/-! ### The answer -/

theorem endDeficit_seq (s : State) : (endDeficit s).seq = s.seq := by
  unfold endDeficit
  rw [reportCondition_seq]
  rfl

theorem enterGrace_seq (v : Int) (code : Byte) (s : State) : (enterGrace v code s).seq = s.seq := by
  rw [enterGrace_eq, raise_seq, reportCondition_seq]
  rfl

/-- R31: the recompute that comes before a judgement in SELECTING leaves the deficit state and its cause alone. -/
theorem recompute_selecting_touches {s : State} (h : s.budget.deficit = .selecting) : Touches (· = causeRecharge) s (recompute s) := by
  have hsettled : Touches (· = causeRecharge) s (settleHeadroom s.instructed) :=
    (instructed_touches s).trans (settleHeadroom_touches _ _)
  rcases Bool.eq_false_or_eq_true s.online with hon | hoff
  · obtain ⟨u, he, hu, hd, -⟩ := recompute_judges hon
    have hjudge : judgeDeficit u = u := by
      unfold judgeDeficit
      rw [hd, h]
    rw [he, hjudge, hu]
    exact hsettled
  · rw [recompute_offline hoff]
    exact hsettled

end Sys2Proof.Machine

open Sys2Proof Sys2Proof.Machine

/-- Settles O54: the expiry raises in the state it sets, the selection takes the sorted candidates up to a point, and the answer is
judged after a recompute. -/
theorem deficitIsSelectedAndAnswered : Obligations.DeficitIsSelectedAndAnswered := by
  intro s hrun
  refine ⟨fun hgrace htimer => ⟨_, exec_expiry (f := expireDeficit) rfl hrun htimer, ?_⟩,
    fun h => exec_noExpiry (f := expireDeficit) rfl hrun h, fun h => ?_, fun h => ⟨selectDeficit s, ?_, ?_⟩, fun h => ?_, fun a rest h => ?_⟩
  · have e : expireDeficit s = raise causeDeficit s.budget.h codeSelection
        (s.setBudget { s.budget with deficit := .selecting, timer := none, selAsked := s.budget.selAsked + 1 }) := if_pos hgrace
    rw [e]
    generalize hu : s.setBudget { s.budget with deficit := .selecting, timer := none, selAsked := s.budget.selAsked + 1 } = u
    have htells : Tells u (raise causeDeficit s.budget.h codeSelection u) := (Tells.refl u).raise _ _ _
    refine ⟨?_, (raise_raisedFrom causeDeficit _ _ u).congr (by rw [← hu]; rfl) rfl rfl⟩
    unfold Tells at htells
    rw [← hu] at htells ⊢
    exact htells
  · show execDeficitSelection s = _
    rw [execDeficitSelection, whenRunning_of_running hrun, selectDeficit, if_pos h]
  · show execDeficitSelection s = _
    rw [execDeficitSelection, whenRunning_of_running hrun]
  · beta_reduce
    intro rank order candidates reached
    have hcand : s.candidates .deferrable ++ s.candidates .essential = candidates := by
      rw [candidates_eq_mergeSort, candidates_eq_mergeSort]
      rfl
    obtain ⟨k, hk, hbelow, hend, htake⟩ := selectSlots_takes (fun n => s.settings.slots[n].pReq) candidates (s.shed.lastH + s.inFlightSum)
    have hmem : ∀ n ∈ candidates.take k, s.seq.slots[n].state = .on := fun n hn => by
      rcases List.mem_append.1 (hcand ▸ List.mem_of_mem_take hn) with hn | hn <;> exact (mem_candidates.1 hn).1
    have hnodup : (candidates.take k).Nodup := (List.take_sublist k candidates).nodup (hcand ▸ candidates_nodup s)
    generalize hu : s.setBudget { s.budget with selAsked := s.budget.selAsked - 1 } = u
    obtain ⟨hripple, hseq, hslots⟩ := foldl_shedSlot_warns (reason := .deficit) (urgency := .prompt) nofun (s := u) hnodup
      (by rw [← hu]; exact hmem)
    generalize hv : (candidates.take k).foldl (fun s n => shedSlot n .deficit .prompt s) u = v at hripple hseq hslots
    have he : selectDeficit s = v.setBudget { v.budget with answers := v.budget.answers ++ [(reached k, k)] } := by
      have hlength : (candidates.take k).length = k := List.length_take_of_le hk
      rw [selectDeficit, if_neg h]
      simp only [hu]
      rw [show selectSlots (fun n => u.settings.slots[n].pReq) (u.candidates .deferrable ++ u.candidates .essential)
        (u.shed.lastH + (u.inFlightSum : Int)) = (candidates.take k, reached k) from by rw [← hu]; exact (congrArg (fun l => selectSlots _ l _) hcand).trans htake]
      simp only [hv, hlength]
    rw [he]
    have hbudget := hripple.budget
    have hrest := hripple.settings
    have hhold := hripple.holdup
    rw [← hu] at hbudget hrest hhold hseq hslots
    refine ⟨k, hk, hbelow, hend, ?_, ?_, hseq, hhold, hrest, hslots⟩
    · show v.budget.answers ++ [(reached k, k)] = _
      rw [show v.budget.answers = s.budget.answers from (congrArg Budget.answers hbudget :)]
    · exact congrArg Budget.selAsked hbudget
  · show execDeficitAnswer s = _
    rw [execDeficitAnswer, whenRunning_of_running hrun, takeAnswer, h]
  · have hexec : exec .deficitAnswer s = .next (takeAnswer s) := by
      show execDeficitAnswer s = _
      rw [execDeficitAnswer, whenRunning_of_running hrun]
    intro taken
    refine ⟨fun hnot => hexec.trans ?_, fun hsel hstale => ⟨_, hexec, ?_⟩⟩
    · rcases takeAnswer_cases s with ⟨-, hnone⟩ | ⟨a', rest', ha, ⟨e, -⟩ | ⟨hstale, hsel, -⟩⟩
      · exact absurd (hnone.symm.trans h) nofun
      · obtain ⟨rfl, rfl⟩ := List.cons.inj (h.symm.trans ha)
        rw [e]
        rfl
      · exact hnot.elim (absurd hsel) (absurd hstale)
    · have htaken : taken.budget.deficit = .selecting := hsel
      have he : takeAnswer s = judgeAnswer a.1 (recompute taken) := by
        rcases takeAnswer_cases s with ⟨-, hnone⟩ | ⟨a', rest', ha, ⟨-, hnot⟩ | ⟨-, -, e⟩⟩
        · exact absurd (hnone.symm.trans h) nofun
        · exact absurd hnot (by simp [hstale, hsel])
        · obtain ⟨rfl, rfl⟩ := List.cons.inj (h.symm.trans ha)
          exact e
      have hripple : Ripple taken (recompute taken) := (Ripple.refl taken).recompute
      have hseq : (recompute taken).seq = s.seq := recompute_seq taken
      have hh : (recompute taken).budget.h = (s.budget.cap : Int) - s.commitmentSum - (recompute taken).budget.pChg := by
        rw [recompute_h, recompute_pChg]
        rfl
      have htouches := recompute_selecting_touches htaken
      rw [he]
      generalize recompute taken = u at hripple hseq hh htouches
      unfold judgeAnswer
      split
      · next hpos =>
        refine ⟨hripple.endDeficit, (endDeficit_seq u).trans hseq, ?_, ?_, ?_, ?_⟩ <;> rw [endDeficit_budget]
        · exact hh
        · exact fun _ => ⟨rfl, rfl⟩
        · exact fun hneg => absurd hneg (Int.not_lt.2 hpos)
        · exact fun hneg => absurd hneg (Int.not_lt.2 hpos)
      · next hneg =>
        split
        · next hcover =>
          exact ⟨hripple.setDeficit _ _, hseq, hh, fun hpos => absurd hpos hneg, fun _ _ => rfl,
            fun _ hless => absurd hcover (Int.not_le.2 hless)⟩
        · next hless =>
          refine ⟨hripple.enterGrace, (enterGrace_seq _ _ u).trans hseq, ?_, ?_, ?_, ?_⟩ <;> rw [enterGrace_budget]
          · exact hh
          · exact fun hpos => absurd hpos hneg
          · exact fun _ hcover => absurd hcover hless
          · refine fun _ _ => ⟨rfl, by rw [hripple.settings], ?_⟩
            have hraised := htouches.raised (enterGrace_raised a.1 codeStillShort u)
              ((enterGrace_touches _ _ u) _ causeRecharge_ne_deficit).sending causeDeficit_ne_recharge
            exact hraised.congr rfl rfl rfl
end

section
/-! PROOFS. The status line's clocks, one by one, and its starts (R130, R131, R134, R135): O58. -/

namespace Sys2Proof.Machine

/-- The place of an item in a list of pieces of one length. -/
theorem getElem?_flatMap_of_length {α β : Type} {f : α → List β} {c : Nat} (hf : ∀ a, (f a).length = c) (l : List α) (i k : Nat)
    (hk : k < c) : (l.flatMap f)[c * i + k]? = l[i]?.bind fun a => (f a)[k]? := by
  induction l generalizing i with
  | nil => simp
  | cons a l ih =>
    rw [List.flatMap_cons]
    cases i with
    | zero => rw [List.getElem?_append_left (by rw [hf]; omega)]; simp
    | succ i =>
      have hplace : c * (i + 1) + k - c = c * i + k := by rw [Nat.mul_succ]; omega
      rw [List.getElem?_append_right (by rw [hf, Nat.mul_succ]; omega), hf, hplace, ih]
      rfl

theorem slotClocks_getElem? (latched : BitVec 24) (n : SlotId) {k : Nat} (hk : k < 6) :
    (slotClocks latched)[6 * n.val + k]? = some (if k = 0 ∧ latched.getLsbD n.val = true then .partLow else .released) := by
  rw [slotClocks, getElem?_flatMap_of_length (c := 6) (fun _ => rfl) _ _ _ hk, slotIds_getElem]
  interval_cases k <;> simp [linePhases, CycleState.clock, drivesPhase]

/-- R134: what holds a line in CONTINUOUS mode. -/
theorem continuousCondition_iff (s : State) :
    s.continuousCondition = true ↔
      (∃ n : SlotId, s.seq.slots[n].state = .soak ∨ s.seq.slots[n].state = .notice ∨ s.seq.slots[n].state = .held) ∨
        (∃ z : ZoneId, s.leak.zones[z].state = .suspect) ∨ s.line.state = .failed ∨ s.settings.line.mode = .alwaysContinuous := by
  simp only [State.continuousCondition, Bool.or_eq_true, List.any_eq_true, beq_iff_eq, mem_slotIds, mem_zoneIds, true_and, or_assoc]
  refine or_congr (exists_congr fun n => ?_) Iff.rfl
  cases s.seq.slots[n].state <;> simp

theorem admitsStart_iff (s : State) (byTray : Bool) :
    s.admitsStart byTray = true ↔ s.line.enabled = true ∧ s.line.cycle = .idle ∧
      ((s.line.mode = .continuous ∧ byTray = false) ∨ (s.line.mode = .quiet ∧ (byTray = true ∨ s.line.startDue = true))) := by
  rw [State.admitsStart, Bool.and_eq_true, Bool.and_eq_true, beq_iff_eq, and_assoc]
  cases s.line.mode <;> simp

/-- R130, R131, R134: the end of slot frame 23. -/
theorem endFrame23_of_frame {s : State} {n : SlotId} {phase : LinePhase} (h : s.line.cycle = .slotFrame n phase) :
    endFrame23 s = judgeMode (driveSlotFrames n phase s) := by
  rw [endFrame23, h]

end Sys2Proof.Machine

open Sys2Proof Sys2Proof.Machine

/-- Settles O58: a start and the end of frame 23 by their conditions, and SSL_DAT and SSL_CLK by the place in the cycle. -/
theorem cyclesStartAndChooseTheirMode : Obligations.CyclesStartAndChooseTheirMode := by
  intro s hrun x
  refine ⟨fun byTray => ⟨fun h => ?_, fun h => ⟨beginCycle byTray s, ?_, ?_, noticeVector_bit s⟩⟩, ?_,
    fun h => (exec_expiry (f := expireSurvey) rfl hrun h).trans rfl, ?_, ?_, ?_, ?_, ?_, ?_, slotClocks_length _,
    fun n k hk => slotClocks_getElem? _ n hk, fun byTray => ?_⟩
  · show execCycleStart byTray s = _
    rw [execCycleStart, whenRunning_of_running hrun, startCycle, if_neg fun e => h ((admitsStart_iff s byTray).1 e)]
  · show execCycleStart byTray s = _
    rw [execCycleStart, whenRunning_of_running hrun, startCycle, if_pos ((admitsStart_iff s byTray).2 h)]
  · rw [beginCycle_eq, startClocks_eq]
    rfl
  · intro holds n phase hcycle wave
    have hexec : exec .slotFrame23End s = .next (judgeMode (driveSlotFrames n phase s)) := by
      show execSlotFrame23End s = _
      rw [execSlotFrame23End, whenRunning_of_running hrun, endFrame23_of_frame hcycle]
    have hholds : (driveSlotFrames n phase s).continuousCondition = true ↔ holds := continuousCondition_iff _
    refine ⟨fun h => hexec.trans ?_, fun h => hexec.trans ?_⟩
    · rw [judgeMode, if_pos (hholds.2 h)]
      rfl
    · rw [judgeMode, if_neg fun e => h (hholds.1 e)]
      rfl
  · intro h
    rw [Line.drivesLow, h]
    rfl
  · intro n phase h
    rw [Line.drivesLow, h]
    show (CycleState.clock x.latched (.slotFrame n phase) == .partLow) = _
    rw [CycleState.clock, drivesPhase]
    cases phase <;> cases x.latched.getLsbD n.val <;> rfl
  · intro clocks h
    rw [Line.drivesLow, h]
    rfl
  · intro byTray k h
    rw [Line.drivesLow, h]
    cases byTray
    · rfl
    · by_cases hk : k = 0 <;> simp [CycleState.clock, hk]
  · intro h
    rw [Line.clockHigh, Line.clockHigh, Line.clockRuns, h]
    exact ⟨rfl, rfl⟩
  · intro h half
    rw [Line.clockHigh, Line.clockRuns, h]
    rfl
  · constructor <;> rw [cycleClocks, List.length_append, List.length_append, List.length_append, startClocks_length,
      slotClocks_length, stopClocks_length] <;> rfl
end

section
/-! PROOFS. What the sequencer has been told stands through its own steps and through the sheds (R47, R51, R101). -/

namespace Sys2Proof.Machine

/-- The copies and inhibits that the sequencer has been handed are those of `s`. -/
def Heard (s t : State) : Prop :=
  t.seq =
    { s.seq with
      slots := t.seq.slots, queue := t.seq.queue, stagger := t.seq.stagger, lastReport := t.seq.lastReport
      reports := t.seq.reports, headSeen := t.seq.headSeen }

namespace Heard
variable {s t u : State} {n : SlotId} {st : SlotState} {upd : Slot → Slot} {reason : ShedReason} {urgency : Urgency}

theorem refl (s : State) : Heard s s := rfl

theorem trans (h : Heard s t) (k : Heard t u) : Heard s u := by
  unfold Heard at h k ⊢
  rw [h] at k
  exact k

theorem of_seq (h : u.seq = t.seq) : Heard t u := by
  unfold Heard
  rw [h]

theorem of_slots {v : Vector Slot 24} (h : u.seq = { t.seq with slots := v }) : Heard t u := by
  unfold Heard
  rw [h]

theorem targetInhibit (h : Heard s t) : t.seq.targetInhibit = s.seq.targetInhibit := by
  unfold Heard at h
  rw [h]
theorem lastInhibit (h : Heard s t) : t.seq.lastInhibit = s.seq.lastInhibit := by
  unfold Heard at h
  rw [h]
theorem lastH (h : Heard s t) : t.seq.lastH = s.seq.lastH := by
  unfold Heard at h
  rw [h]
theorem lastHoldup (h : Heard s t) : t.seq.lastHoldup = s.seq.lastHoldup := by
  unfold Heard at h
  rw [h]

theorem setSlot (h : Heard s t) (x : Slot) : Heard s (t.setSlot n x) := h.trans rfl

theorem recompute (h : Heard s t) : Heard s (recompute t) := h.trans (of_seq (recompute_seq t))

theorem moveSlot (h : Heard s t) : Heard s (moveSlot n st upd t) := h.trans (of_slots (moveSlot_seq n st upd t))

theorem shiftSlot (h : Heard s t) : Heard s (shiftSlot n st upd t) := h.moveSlot.recompute

theorem leaveQueue (h : Heard s t) : Heard s (leaveQueue n t) := h.trans rfl

theorem joinQueue (h : Heard s t) : Heard s (joinQueue n t) := h.trans rfl

theorem enterQueue (h : Heard s t) : Heard s (enterQueue n t) := ite_keeps h.moveSlot h.moveSlot.joinQueue

theorem seqEvent (h : Heard s t) : Heard s (seqEvent t) := by
  refine h.trans ?_
  rcases grantCheck_cases t with ⟨-, hno⟩ | ⟨n, rest, hq, hg, -⟩
  · unfold Heard
    rw [seqEvent_ungranted hno, reportHead_seq]
  · unfold Heard
    rw [seqEvent_granted_seq hq hg, State.granted]

theorem seqEventIf (h : Heard s t) (b : Bool) : Heard s (seqEventIf b t) := ite_keeps h.seqEvent h

theorem restoreSlot (h : Heard s t) : Heard s (restoreSlot n t) := ite_keeps (ite_keeps h.enterQueue (h.setSlot _)) h

theorem handOver (h : Heard s t) : Heard s (handOver n t) := ite_keeps h.restoreSlot.seqEvent h

theorem completeDrain (h : Heard s t) : Heard s (completeDrain n t) := by
  rcases completeDrain_cases n t with ⟨-, e⟩ | ⟨-, restore, e⟩ <;> rw [e]
  · exact h.shiftSlot
  · exact h.shiftSlot.handOver

theorem enterDraining (h : Heard s t) : Heard s (enterDraining n t) := ite_keeps h.moveSlot.recompute h.moveSlot.completeDrain

theorem unpowerSlot (h : Heard s t) : Heard s (unpowerSlot n reason t) := by
  unfold Machine.unpowerSlot
  split
  · exact h.moveSlot
  · exact h.moveSlot
  · exact h.moveSlot

theorem shedUnpowered (h : Heard s t) : Heard s (shedUnpowered n reason t) :=
  ite_keeps (h.leaveQueue.unpowerSlot.seqEventIf _).handOver (h.leaveQueue.unpowerSlot.seqEventIf _)

theorem escalate (h : Heard s t) : Heard s (escalate n urgency t) := by
  unfold Machine.escalate
  split
  · exact h.enterDraining
  · exact h.enterDraining
  · exact h.enterDraining
  · exact h

theorem shedInFlight (h : Heard s t) : Heard s (shedInFlight n reason urgency t) := by
  rcases shedInFlight_cases n reason urgency t with e | ⟨-, -, e⟩ | ⟨-, -, -, e⟩ <;> rw [e]
  · exact h
  · exact (h.setSlot _).escalate
  · exact h.setSlot _

theorem shedSlot (h : Heard s t) : Heard s (shedSlot n reason urgency t) := by
  unfold Machine.shedSlot
  cases t.seq.slots[n].state with
  | off | queued => exact h.shedUnpowered
  | soak => exact (h.setSlot _).enterDraining.seqEvent
  | on => exact ite_keeps (h.setSlot _).enterDraining h.shiftSlot
  | notice | held | draining => exact h.shedInFlight
  | faulted | locked => exact ite_keeps (h.setSlot _) h

theorem foldl_shedSlot (l : List SlotId) (h : Heard s t) : Heard s (l.foldl (fun s n => Machine.shedSlot n reason urgency s) t) :=
  List.foldlRecOn l _ h fun _ hu _ _ => hu.shedSlot

end Heard

/-! ### A class shed by the slot's state (R112, R114, R115, R118, R119, R123) -/

section ClassShed
variable {s : State} {n : SlotId} {reason : ShedReason} {urgency : Urgency} {k : Nat}

theorem mem_classGroup : n ∈ s.classGroup k ↔ k ≤ s.settings.slots[n].cls.level ∧ s.seq.slots[n].state.powered = true := by
  simp only [State.classGroup, SlotState.reached, List.mem_filter, mem_slotIds, true_and, Bool.and_eq_true, decide_eq_true_eq]

theorem shedClass_ripple (reason : ShedReason) (k : Nat) (urgency : Urgency) (s : State) : Ripple s (shedClass reason k urgency s) :=
  List.foldlRecOn (motive := Ripple s) (s.classGroup k) _ (.refl s) fun _ hu _ _ => hu.shedSlot

theorem shedClass_heard (reason : ShedReason) (k : Nat) (urgency : Urgency) (s : State) : Heard s (shedClass reason k urgency s) :=
  (Heard.refl s).foldl_shedSlot _

/-- A slot outside the group keeps its record. -/
theorem shedClass_other (hq : n ∉ s.seq.queue) (hn : n ∉ s.classGroup k) :
    (shedClass reason k urgency s).seq.slots[n] = s.seq.slots[n] :=
  (foldl_spared (P := (· = s.seq.slots[n])) (fun _ _ hne h => h.shedSlot hne) _ s hn (.same hq)).1

/-- A slot of the group is taken once, in a state that still has its record. -/
theorem shedClass_takes (hq : n ∉ s.seq.queue) (hclass : k ≤ s.settings.slots[n].cls.level)
    (hst : s.seq.slots[n].state.powered = true) :
    ∃ u, Ripple s u ∧ u.seq.slots[n] = s.seq.slots[n] ∧ n ∉ u.seq.queue ∧
      ∀ P : Slot → Prop, Spared n P (shedSlot n reason urgency u) → P (shedClass reason k urgency s).seq.slots[n] := by
  obtain ⟨u, hripple, hslot, hout, hend⟩ := foldl_takes (f := fun s n => shedSlot n reason urgency s) (R := Ripple) Ripple.refl
    (fun _ _ _ h => h.shedSlot) (fun _ _ _ hne h => h.shedSlot hne) (slotIds_nodup.filter _) (mem_classGroup.2 ⟨hclass, hst⟩) hq
  exact ⟨u, hripple, hslot, hout, fun P h => (hend P h).1⟩

/-- What a step on slot `n` alone leaves of a slot outside the queue. -/
theorem Spared.of_set {u : State} {x : Slot} (h : u.seq = { s.seq with slots := s.seq.slots.set n x }) (hq : n ∉ s.seq.queue) :
    Spared n (· = x) u := by
  refine ⟨?_, fun hm => absurd hm ?_⟩
  · rw [h]
    exact get_set_same _ _ _
  · rw [h]
    exact hq

section Drains
variable {u : State}

theorem shedNamed_drains_spared (hq : n ∉ u.seq.queue) (hpg : u.seq.slots[n].pg = true) (reason : ShedReason) (urgency : Urgency) :
    Spared n (· = (u.seq.slots[n].shedFor reason urgency).drainedBy u.settings.slots[n].drainLimit)
      (enterDraining n (u.shedNamed n reason urgency)) := .of_set (shedNamed_drains hpg reason urgency) hq

/-- R118, R119: a drain of a shed slot whose PG is low, when nothing restores it. -/
theorem shedNamed_rests_spared (hq : n ∉ u.seq.queue) (hpg : u.seq.slots[n].pg = false) (hleak : reason ≠ .leak) {restore : Bool}
    (hrestore : (u.seq.slots[n].shedFor reason urgency).restoreAfter u.settings.slots[n] = restore)
    (hno : restore = false ∨ u.online = false) :
    Spared n (· = ((u.seq.slots[n].shedFor reason urgency).drainedBy u.settings.slots[n].drainLimit).drainedOff restore)
      (enterDraining n (u.shedNamed n reason urgency)) := by
  have hslot : ((u.shedNamed n reason urgency).drainOpened n).seq.slots[n] =
      (u.seq.slots[n].shedFor reason urgency).drainedBy u.settings.slots[n].drainLimit := by
    rw [drainOpened_slot, shedNamed_slot]
    rfl
  have hrip := drainOpened_ripple (u.shedNamed n reason urgency) n
  have hset : ((u.shedNamed n reason urgency).drainOpened n).settings = u.settings := hrip.settings
  have hafter : ((u.shedNamed n reason urgency).drainOpened n).seq.slots[n].restoreAfter
      ((u.shedNamed n reason urgency).drainOpened n).settings.slots[n] = restore := by
    rw [hslot, hset, ← hrestore]
    rfl
  rw [enterDraining_low (by rw [shedNamed_slot]; exact hpg), completeDrain_rests (by rw [hslot]; exact hleak)
    (by rw [hafter, hrip.online]; exact hno)]
  refine ⟨?_, fun hm => absurd hm ?_⟩
  · rw [drainEnded_slot, hafter, hslot]
  · rw [drainEnded_seq, drainOpened_seq]
    exact hq

end Drains

/-! ### Its outcomes -/

section Outcomes
variable (hq : n ∉ s.seq.queue) (hclass : k ≤ s.settings.slots[n].cls.level)
include hq hclass

theorem shedClass_warns (hst : s.seq.slots[n].state = .on) (hu : urgency ≠ .immediate) :
    (shedClass reason k urgency s).seq.slots[n] = s.seq.slots[n].warnedFor reason urgency s.settings.sequence.noticeWindow := by
  obtain ⟨u, hripple, hslot, hout, hend⟩ := shedClass_takes (reason := reason) (urgency := urgency) hq hclass (by rw [hst]; rfl)
  have hseq := shedSlot_on_seq (reason := reason) (urgency := urgency) (s := u) (n := n) (by rw [hslot, hst]) hu
  rw [← hslot, ← hripple.settings]
  exact hend _ (.of_set hseq hout)

theorem shedClass_drains_on (hst : s.seq.slots[n].state = .on) (hpg : s.seq.slots[n].pg = true) :
    (shedClass reason k .immediate s).seq.slots[n] =
      (s.seq.slots[n].shedFor reason .immediate).drainedBy s.settings.slots[n].drainLimit := by
  obtain ⟨u, hripple, hslot, hout, hend⟩ := shedClass_takes (reason := reason) (urgency := .immediate) hq hclass (by rw [hst]; rfl)
  rw [shedSlot_on_immediate (by rw [hslot, hst])] at hend
  rw [← hslot] at hpg ⊢
  rw [← hripple.settings]
  exact hend _ (shedNamed_drains_spared hout hpg _ _)

theorem shedClass_drains_soak (hst : s.seq.slots[n].state = .soak) (hpg : s.seq.slots[n].pg = true) :
    (shedClass reason k urgency s).seq.slots[n] =
      (s.seq.slots[n].shedFor reason urgency).drainedBy s.settings.slots[n].drainLimit := by
  obtain ⟨u, hripple, hslot, hout, hend⟩ := shedClass_takes (reason := reason) (urgency := urgency) hq hclass (by rw [hst]; rfl)
  rw [shedSlot_soak (by rw [hslot, hst])] at hend
  rw [← hslot] at hpg ⊢
  rw [← hripple.settings]
  exact hend _ (shedNamed_drains_spared hout hpg _ _).seqEvent

theorem shedClass_rests_soak (hst : s.seq.slots[n].state = .soak) (hpg : s.seq.slots[n].pg = false) (hleak : reason ≠ .leak)
    (hoff : s.online = false) :
    (shedClass reason k urgency s).seq.slots[n] =
      ((s.seq.slots[n].shedFor reason urgency).drainedBy s.settings.slots[n].drainLimit).drainedOff
        ((s.seq.slots[n].shedFor reason urgency).restoreAfter s.settings.slots[n]) := by
  obtain ⟨u, hripple, hslot, hout, hend⟩ := shedClass_takes (reason := reason) (urgency := urgency) hq hclass (by rw [hst]; rfl)
  rw [shedSlot_soak (by rw [hslot, hst])] at hend
  rw [← hslot] at hpg ⊢
  rw [← hripple.settings]
  exact hend _ (shedNamed_rests_spared hout hpg hleak rfl (.inr (hripple.online.trans hoff))).seqEvent

theorem shedClass_waits_soak (hst : s.seq.slots[n].state = .soak) (hpg : s.seq.slots[n].pg = false) (hr : reason.restores = true)
    (hon : s.online = true) (hauto : s.settings.slots[n].autoRestore = true) (he : s.settings.slots[n].enabled = true)
    (hdry : s.slotWet n = false) : (shedClass reason k urgency s).seq.slots[n].waits := by
  obtain ⟨u, hripple, hslot, hout, hend⟩ := shedClass_takes (reason := reason) (urgency := urgency) hq hclass (by rw [hst]; rfl)
  have hset := hripple.settings
  refine hend _ (shedSlot_soak_waits (by rw [hslot, hst]) (by rw [hslot, hpg]) hr (hripple.online.trans hon) (by rw [hset, hauto])
    (by rw [hset, he]) ?_)
  rw [slotWet_congr hset (base_leak hripple.base), hdry]

variable (hst : s.seq.slots[n].state = .notice ∨ s.seq.slots[n].state = .held)
include hst

theorem shedClass_stands (hr : reason ≠ .manager)
    (h : s.seq.slots[n].reason = .leak ∨ urgency.level < s.seq.slots[n].urgency.level) :
    (shedClass reason k urgency s).seq.slots[n] = s.seq.slots[n] := by
  obtain ⟨u, hripple, hslot, hout, hend⟩ := shedClass_takes (reason := reason) (urgency := urgency) hq hclass
    (by rcases hst with e | e <;> (rw [e]; rfl))
  have hflying : u.seq.slots[n].state = .notice ∨ u.seq.slots[n].state = .held ∨ u.seq.slots[n].state = .draining := by
    rw [hslot]
    exact hst.imp id .inl
  have hstands : shedSlot n reason urgency u = u := by
    by_cases hleak : u.seq.slots[n].reason = .leak
    · exact shedSlot_leak_stands hflying hleak
    · rw [shedSlot_less_urgent hflying hleak (by rw [hslot] at hleak ⊢; exact h.resolve_left hleak), if_neg fun e => hr e.1]
  rw [hstands] at hend
  exact hend (· = s.seq.slots[n]) ⟨hslot, fun hm => absurd hm hout⟩

variable (hleak : s.seq.slots[n].reason ≠ .leak) (hlevel : s.seq.slots[n].urgency.level ≤ urgency.level)
include hleak hlevel

theorem shedClass_takes_over :
    ∃ u, Ripple s u ∧ u.seq.slots[n] = s.seq.slots[n] ∧ n ∉ u.seq.queue ∧
      ∀ P : Slot → Prop, Spared n P (escalate n urgency (u.shedNamed n reason urgency)) →
        P (shedClass reason k urgency s).seq.slots[n] := by
  obtain ⟨u, hripple, hslot, hout, hend⟩ := shedClass_takes (reason := reason) (urgency := urgency) hq hclass
    (by rcases hst with e | e <;> (rw [e]; rfl))
  rw [shedSlot_takes_over (by rw [hslot]; exact hst.imp id .inl) (by rw [hslot]; exact hleak) (by rw [hslot]; exact hlevel)] at hend
  exact ⟨u, hripple, hslot, hout, hend⟩

theorem shedClass_drains_flying (hpg : s.seq.slots[n].pg = true)
    (hu : urgency = .immediate ∨ (s.seq.slots[n].state = .held ∧ urgency = .prompt)) :
    (shedClass reason k urgency s).seq.slots[n] =
      (s.seq.slots[n].shedFor reason urgency).drainedBy s.settings.slots[n].drainLimit := by
  obtain ⟨u, hripple, hslot, hout, hend⟩ := shedClass_takes_over (reason := reason) hq hclass hst hleak hlevel
  rw [escalate_drains] at hend
  · rw [← hslot] at hpg ⊢
    rw [← hripple.settings]
    exact hend _ (shedNamed_drains_spared hout hpg _ _)
  · rw [shedNamed_slot]
    show (u.seq.slots[n].state = _ ∧ _) ∨ (u.seq.slots[n].state = _ ∧ _)
    rw [hslot]
    rcases hu with rfl | ⟨hheld, rfl⟩
    · exact hst.imp (⟨·, rfl⟩) (⟨·, .inr rfl⟩)
    · exact .inr ⟨hheld, .inl rfl⟩

theorem shedClass_renames (hu : urgency ≠ .immediate) (hu' : s.seq.slots[n].state = .notice ∨ urgency ≠ .prompt) :
    (shedClass reason k urgency s).seq.slots[n] = s.seq.slots[n].shedFor reason urgency := by
  obtain ⟨u, hripple, hslot, hout, hend⟩ := shedClass_takes_over (reason := reason) hq hclass hst hleak hlevel
  rw [escalate_stays] at hend
  · rw [← hslot]
    exact hend (· = u.seq.slots[n].shedFor reason urgency) ⟨shedNamed_slot u n reason urgency, fun hm => absurd hm hout⟩
  · rw [shedNamed_slot]
    show ¬ ((u.seq.slots[n].state = _ ∧ _) ∨ (u.seq.slots[n].state = _ ∧ _))
    rw [hslot]
    rintro (⟨-, e⟩ | ⟨hheld, e | e⟩)
    · exact hu e
    · rcases hu' with hn | hn
      · exact absurd (hn.symm.trans hheld) nofun
      · exact hn e
    · exact hu e

end Outcomes

end ClassShed

end Sys2Proof.Machine
end

section
/-! PROOFS. O41: the comparison of the target table (R50, R51), entry by entry, and the class shed of an armed one. -/

namespace Sys2Proof.Machine

/-! ### One entry -/

/-- The target inhibit after an entry (R51). -/
def TargetEntry.inhibitAfter (e : TargetEntry) (old : Bool) : Bool :=
  if e.action = .inhibitPowerup then true else if e.action = .releasePowerup then false else old

theorem targetAction_ripple (e : TargetEntry) (s : State) : Ripple s (targetAction e s) := by
  unfold targetAction
  cases e.action with
  | noticeOnly => exact .refl s
  | shed => exact shedClass_ripple _ _ _ s
  | inhibitPowerup => exact ite_keeps (.refl s) ((Ripple.refl s).setSeq _).seqEvent
  | releasePowerup => exact ite_keeps (.refl s) ((Ripple.refl s).setSeq _).seqEvent

theorem setTargetInhibit_inhibit (b : Bool) (s : State) : (setTargetInhibit b s).seq.targetInhibit = b := by
  unfold setTargetInhibit
  split
  · next h => exact h
  · rw [((Heard.refl (s.setSeq { s.seq with targetInhibit := b })).seqEvent).targetInhibit]
    rfl

theorem targetAction_inhibit (e : TargetEntry) (s : State) :
    (targetAction e s).seq.targetInhibit = e.inhibitAfter s.seq.targetInhibit := by
  unfold targetAction TargetEntry.inhibitAfter
  cases e.action with
  | noticeOnly => rfl
  | shed => exact (shedClass_heard _ _ _ s).targetInhibit
  | inhibitPowerup => exact setTargetInhibit_inhibit true s
  | releasePowerup => exact setTargetInhibit_inhibit false s

/-- The state in which the cause of an entry is raised. -/
def State.acted (s : State) (e : TargetEntry) : State := listMatch s.charge.p (targetAction e s)

theorem listMatch_seq (p : Nat) (s : State) : (listMatch p s).seq = s.seq := by
  unfold listMatch
  simp only
  split <;> rfl

theorem listMatch_charge (p : Nat) (s : State) : (listMatch p s).charge = s.charge := by
  unfold listMatch
  simp only
  split <;> rfl

theorem acted_charge (s : State) (e : TargetEntry) : (s.acted e).charge = { s.charge with bbus := (s.acted e).charge.bbus } := by
  have h := (targetAction_ripple e s).charge
  rw [State.acted, listMatch_charge]
  exact h

/-- The cause of the entry at a place of the table (R51). -/
def targetCause (p : Nat) : CauseId := causeTarget ⟨p % 16, by omega⟩

theorem targetCause_of_lt (j : Fin 16) : targetCause j.val = causeTarget j :=
  congrArg causeTarget (Fin.ext (Nat.mod_eq_of_lt j.isLt))

/-- The state in which the pointer of the table moves on. -/
def State.told (s : State) (e : TargetEntry) : State := raise (targetCause s.charge.p) (s.acted e).charge.r codeMatched (s.acted e)

theorem matchEntry_eq (e : TargetEntry) (s : State) :
    matchEntry e s =
      (s.told e).setCharge
        { (s.told e).charge with
          p := s.charge.p + 1
          armed := (s.told e).charge.armed && decide (s.charge.p + 1 < (s.told e).settings.targets.entries.length) } := rfl

theorem told_charge (s : State) (e : TargetEntry) : (s.told e).charge = { s.charge with bbus := (s.acted e).charge.bbus } :=
  (raise_charge _ _ _ _).trans (acted_charge s e)

theorem told_seq (s : State) (e : TargetEntry) : (s.told e).seq = (targetAction e s).seq :=
  (raise_seq _ _ _ _).trans (listMatch_seq _ _)

theorem matchEntry_settings (e : TargetEntry) (s : State) : (matchEntry e s).settings = s.settings := base_settings (matchEntry_base e s)

theorem told_settings (s : State) (e : TargetEntry) : (s.told e).settings = s.settings := matchEntry_settings e s

/-- What an entry does to the table (R50). -/
theorem matchEntry_charge (e : TargetEntry) (s : State) :
    (matchEntry e s).charge =
      { s.charge with
        bbus := (s.acted e).charge.bbus
        p := s.charge.p + 1
        armed := s.charge.armed && decide (s.charge.p + 1 < s.settings.targets.entries.length) } := by
  rw [matchEntry_eq, State.setCharge_charge, told_charge, told_settings]

theorem matchEntry_seq (e : TargetEntry) (s : State) : (matchEntry e s).seq = (targetAction e s).seq := told_seq s e

theorem acted_touches (s : State) (e : TargetEntry) : Touches ShedCause s (s.acted e) := by
  have haction : Touches ShedCause s (targetAction e s) := (Touches.shedInvariant (fun _ => id) s).targetAction (.refl _ s)
  exact ite_keeps (haction.setHoldup _) haction

theorem matchEntry_touches (e : TargetEntry) (s : State) :
    Touches (fun c => ShedCause c ∨ c = targetCause s.charge.p) s (matchEntry e s) :=
  (((acted_touches s e).mono fun _ => .inl).raise (.inr rfl) _ _).setCharge _

theorem not_shedCause_target (p : Nat) : ¬ ShedCause (targetCause p) := fun h => by
  have hp : (targetCause p).val = 96 + p % 16 := rfl
  rcases h with h | h | ⟨n, h⟩ <;> rw [h] at hp
  · exact absurd hp (by show 131 ≠ _; omega)
  · exact absurd hp (by show 136 ≠ _; omega)
  · exact absurd hp (by show 72 + n.val ≠ _; omega)

theorem matchEntry_raised (e : TargetEntry) (s : State) :
    RaisedFrom s (matchEntry e s) (targetCause s.charge.p) s.charge.r codeMatched := by
  have hr : (s.acted e).charge.r = s.charge.r := by rw [acted_charge]
  have hraised : RaisedFrom (s.acted e) (s.told e) (targetCause s.charge.p) s.charge.r codeMatched := by
    rw [← hr]
    exact raise_raisedFrom _ _ _ _
  exact ((acted_touches s e).raised hraised (raise_sending _ _ _ _) (not_shedCause_target _)).congr rfl rfl rfl

/-! ### The entries of a comparison -/

/-- R50: the comparison takes the leading entries that match. -/
theorem compareFrom_eq_foldl (fuel : Nat) (s : State) (hfuel : s.settings.targets.entries.length ≤ fuel + s.charge.p) :
    compareFrom fuel s =
      ((s.settings.targets.entries.drop s.charge.p).takeWhile fun e => targetMatches e s.charge.r).foldl
        (fun s e => matchEntry e s) s := by
  induction fuel generalizing s with
  | zero => rw [compareFrom, List.drop_eq_nil_of_le (by omega), List.takeWhile_nil, List.foldl_nil]
  | succ fuel ih =>
    unfold compareFrom
    split
    · next hnone => rw [List.drop_eq_nil_of_le (List.getElem?_eq_none_iff.1 hnone), List.takeWhile_nil, List.foldl_nil]
    · next e hsome =>
      obtain ⟨hlt, he⟩ := List.getElem?_eq_some_iff.1 hsome
      rw [List.drop_eq_getElem_cons hlt, he]
      split
      · next hmatch =>
        have hcharge := matchEntry_charge e s
        rw [List.takeWhile_cons_of_pos (p := fun e => targetMatches e s.charge.r) hmatch, List.foldl_cons, ih (matchEntry e s), matchEntry_settings, hcharge]
        rw [matchEntry_settings, hcharge]
        show _ ≤ fuel + (s.charge.p + 1)
        omega
      · next hmatch => rw [List.takeWhile_cons_of_neg (p := fun e => targetMatches e s.charge.r) hmatch, List.foldl_nil]

section Entries
variable {l : List TargetEntry} {s : State}

theorem foldl_matchEntry_settings (l : List TargetEntry) (s : State) :
    (l.foldl (fun s e => matchEntry e s) s).settings = s.settings :=
  List.foldlRecOn (motive := fun t : State => t.settings = s.settings) l _ rfl fun u hu e _ => (matchEntry_settings e u).trans hu

/-- What the entries do to the table. -/
theorem foldl_matchEntry_charge (l : List TargetEntry) (s : State) :
    let t := l.foldl (fun s e => matchEntry e s) s
    t.charge =
      { s.charge with
        bbus := t.charge.bbus
        p := s.charge.p + l.length
        armed := s.charge.armed && (l.isEmpty || decide (s.charge.p + l.length < s.settings.targets.entries.length)) } := by
  induction l generalizing s with
  | nil => simp
  | cons e l ih =>
    intro t
    have h : t.charge = _ := ih (matchEntry e s)
    rw [h, matchEntry_settings, matchEntry_charge]
    have hplace : s.charge.p + 1 + l.length = s.charge.p + (e :: l).length := by rw [List.length_cons]; omega
    rw [hplace, List.isEmpty_cons, Bool.false_or]
    cases l with
    | nil => simp
    | cons e' l =>
      have hlast : s.charge.p + (e :: e' :: l).length < s.settings.targets.entries.length →
          s.charge.p + 1 < s.settings.targets.entries.length := fun h => by
        rw [List.length_cons, List.length_cons] at h
        omega
      by_cases hend : s.charge.p + (e :: e' :: l).length < s.settings.targets.entries.length
      · rw [decide_eq_true hend, decide_eq_true (hlast hend)]
        simp only [Bool.and_true, Bool.or_true]
      · rw [decide_eq_false hend]
        simp only [List.isEmpty_cons, Bool.or_false, Bool.and_false]

theorem foldl_matchEntry_inhibit (l : List TargetEntry) (s : State) :
    (l.foldl (fun s e => matchEntry e s) s).seq.targetInhibit = l.foldl (fun b e => e.inhibitAfter b) s.seq.targetInhibit := by
  induction l generalizing s with
  | nil => rfl
  | cons e l ih => rw [List.foldl_cons, ih, matchEntry_seq, targetAction_inhibit, List.foldl_cons]

/-- R51: the last INHIBIT or RELEASE stands. -/
theorem foldl_inhibitAfter (l : List TargetEntry) (b : Bool) :
    l.foldl (fun b e => e.inhibitAfter b) b =
      ((l.reverse.find? fun e => e.action == .inhibitPowerup || e.action == .releasePowerup).map
        fun e => e.action == .inhibitPowerup).getD b := by
  induction l using List.reverseRecOn with
  | nil => rfl
  | append_singleton l e ih =>
    rw [List.foldl_append, List.foldl_cons, List.foldl_nil, ih, List.reverse_append, List.reverse_singleton, List.singleton_append]
    cases h : e.action <;> simp [TargetEntry.inhibitAfter, List.find?_cons, h]

/-- The causes of the entries from place `p` on, `k` of them. -/
def EntryCause (p k : Nat) (c : CauseId) : Prop := ShedCause c ∨ ∃ j, p ≤ j ∧ j < p + k ∧ c = targetCause j

theorem foldl_matchEntry_touches (l : List TargetEntry) (s : State) :
    Touches (EntryCause s.charge.p l.length) s (l.foldl (fun s e => matchEntry e s) s) := by
  induction l generalizing s with
  | nil => exact .refl _ s
  | cons e l ih =>
    have hp : (matchEntry e s).charge.p = s.charge.p + 1 := by rw [matchEntry_charge]
    have hrest := ih (matchEntry e s)
    rw [hp] at hrest
    refine ((matchEntry_touches e s).mono ?_).trans (hrest.mono ?_)
    · rintro c (hc | rfl)
      · exact .inl hc
      · exact .inr ⟨_, Nat.le_refl _, by rw [List.length_cons]; omega, rfl⟩
    · rintro c (hc | ⟨j, hlow, hhigh, rfl⟩)
      · exact .inl hc
      · exact .inr ⟨j, by omega, by rw [List.length_cons]; omega, rfl⟩

theorem targetCause_injective {i j : Nat} (hi : i < 16) (hj : j < 16) (h : targetCause i = targetCause j) : i = j := by
  have h' : 96 + i % 16 = 96 + j % 16 := congrArg Fin.val h
  omega

theorem not_entryCause_target {p k j : Nat} (hk : p + k ≤ 16) (hj : j < 16) (hout : j < p ∨ p + k ≤ j) :
    ¬ EntryCause p k (targetCause j) := by
  rintro (h | ⟨i, hlow, hhigh, e⟩)
  · exact not_shedCause_target j h
  · have hij := targetCause_injective hj (by omega) e
    omega

theorem not_entryCause_holdup (p k : Nat) : ¬ EntryCause p k causeHoldup := by
  rintro (h | ⟨j, -, -, h⟩)
  · exact not_reserveCause_holdup (.inl h)
  · exact not_reserveCause_holdup (.inr (.inl ⟨_, h⟩))

/-- R51: each entry raises its cause with R. -/
theorem foldl_matchEntry_raised {l : List TargetEntry} {s : State} (hk : s.charge.p + l.length ≤ 16) {j : Nat} (hlow : s.charge.p ≤ j)
    (hhigh : j < s.charge.p + l.length) :
    RaisedFrom s (l.foldl (fun s e => matchEntry e s) s) (targetCause j) s.charge.r codeMatched := by
  induction l generalizing s with
  | nil => exact absurd hhigh (by rw [List.length_nil]; omega)
  | cons e l ih =>
    rw [List.length_cons] at hk hhigh
    have hp : (matchEntry e s).charge.p = s.charge.p + 1 := by rw [matchEntry_charge]
    have hr : (matchEntry e s).charge.r = s.charge.r := by rw [matchEntry_charge]
    have hrest := foldl_matchEntry_touches l (matchEntry e s)
    have hfirst := matchEntry_touches e s
    rw [List.foldl_cons]
    rw [hp] at hrest
    by_cases hj : j = s.charge.p
    · subst hj
      have hsend : KeepsSending s (matchEntry e s) := (hfirst causeHoldup fun h => by
        rcases h with h | h
        · exact not_reserveCause_holdup (.inl h)
        · exact not_reserveCause_holdup (.inr (.inl ⟨_, h⟩))).sending
      exact (matchEntry_raised e s).widen hsend (Quiet.refl _ s).toUnraised
        (hrest _ (not_entryCause_target (by omega) (by omega) (by omega))).toUnraised
    · have hraised := ih (s := matchEntry e s) (by rw [hp]; omega) (by rw [hp]; omega) (by rw [hp]; omega)
      rw [hr] at hraised
      refine hfirst.raised hraised (hrest _ (not_entryCause_holdup _ _)).sending ?_
      rintro (h | h)
      · exact not_shedCause_target _ h
      · exact hj (targetCause_injective (by omega) (by omega) h)

end Entries

/-! ### A table armed anew (R49) -/

/-- The part with the table armed, before its comparison. -/
def State.rearmed (s : State) : State := s.setCharge { s.charge with p := 0, armed := true, halted := false }

theorem armTable_eq_foldl (s : State) :
    armTable s =
      (s.settings.targets.entries.takeWhile fun e => targetMatches e s.charge.r).foldl (fun s e => matchEntry e s) s.rearmed :=
  compareFrom_eq_foldl s.settings.targets.entries.length s.rearmed (Nat.le_add_right _ _)

theorem targetMatches_eq (e : TargetEntry) (r : Nat) :
    targetMatches e r = if e.direction = .falling then decide (r ≤ e.threshold) else decide (e.threshold ≤ r) := by
  unfold targetMatches
  cases e.direction <;> rfl

end Sys2Proof.Machine

open Sys2Proof Sys2Proof.Machine

/-- Settles O41: the table by its leading entries, and the shed of one entry by the outcomes of a class shed. -/
theorem armingComparesFromTheFirstEntry : Obligations.ArmingComparesFromTheFirstEntry := by
  intro s tag h table hits k
  have hhits : (fun e => targetMatches e s.charge.r) = hits := funext fun e => targetMatches_eq e s.charge.r
  refine ⟨fun hempty => ?_, fun hne hlen => ?_⟩
  · exact refuses_of_error rfl h (demand_false (j := .ok (armTable s, .plain)) (by rw [show s.settings.targets.entries = [] from hempty]; rfl))
  · have hok : perform (.armTargets tag) s = .ok (armTable s, .plain) :=
      demand_true (by rw [Bool.not_eq_true', ← Bool.not_eq_true, List.isEmpty_iff]; exact hne)
    have hlead : table.take k = table.takeWhile hits := (List.prefix_iff_eq_take.1 (List.takeWhile_prefix hits)).symm
    have hk : k ≤ table.length := (List.takeWhile_prefix hits).length_le
    have he : armTable s = (table.take k).foldl (fun s e => matchEntry e s) s.rearmed := by
      rw [armTable_eq_foldl, hlead, hhits]
    have hklen : (table.take k).length = k := List.length_take_of_le hk
    refine answers_of_ok rfl h hok ?_
    have hcharge := foldl_matchEntry_charge (table.take k) s.rearmed
    have htouches := foldl_matchEntry_touches (table.take k) s.rearmed
    have hone (e : TargetEntry) (htable : table = [e]) (hshed : e.action = .shed) (hk1 : k = 1) :
        (armTable s).seq = (shedClass .reserve e.minClass e.urgency s.rearmed).seq := by
      rw [he, htable, hk1]
      show (matchEntry e s.rearmed).seq = _
      rw [matchEntry_seq, targetAction, hshed]
    rw [he] at hone ⊢
    rw [hklen] at htouches
    simp only [hklen] at hcharge
    refine ⟨rfl, ?_, ?_, ?_, ?_, foldl_matchEntry_settings _ _, fun j hj => ?_, fun j hj => ?_, ?_, fun e htable hshed hk1 n hq => ?_,
      fun e htable hshed hk1 hu n hq => ?_⟩
    · rw [hcharge]
      exact Nat.zero_add k
    · rw [hcharge]
      rfl
    · rw [hcharge]
      show (true && ((table.take k).isEmpty || decide (0 + k < table.length))) = decide (k < table.length)
      rw [Bool.true_and, Nat.zero_add]
      cases hempty : (table.take k).isEmpty
      · rfl
      · rw [List.isEmpty_iff] at hempty
        have hzero : k = 0 := by rw [← hklen, hempty]; rfl
        rw [hzero, decide_eq_true (List.length_pos_iff.2 hne)]
        rfl
    · rw [hcharge]
      rfl
    · rw [← targetCause_of_lt]
      exact (foldl_matchEntry_raised (s := s.rearmed) (by rw [hklen]; show 0 + k ≤ 16; omega) (Nat.zero_le _)
        (by rw [hklen]; show j.val < 0 + k; omega)).congr rfl rfl rfl
    · have hquiet := htouches (targetCause j.val) (not_entryCause_target (by show 0 + k ≤ 16; omega) j.isLt (.inr (by show 0 + k ≤ _; omega)))
      rw [targetCause_of_lt] at hquiet
      exact ⟨hquiet.condition, hquiet.value⟩
    · rw [foldl_matchEntry_inhibit, foldl_inhibitAfter]
      show _ = (match (table.take k).reverse.find? _ with | none => _ | some e => _)
      cases (table.take k).reverse.find? _ <;> rfl
    · intro set x y reached flying drained
      have hy : y = (shedClass .reserve e.minClass e.urgency s.rearmed).seq.slots[n] := by rw [← hone e htable hshed hk1]
      rw [hy]
      refine ⟨fun hout _ => shedClass_other (s := s.rearmed) hq fun hm => hout (mem_classGroup.1 hm).1, fun hin hst hpg hu => ?_,
        fun hin hst hpg => shedClass_drains_soak (s := s.rearmed) hq hin hst hpg, fun hin hst hpg hoff => ?_,
        fun hin hst hpg hon hauto henabled hdry => ?_, fun hin hst hstands => ?_, fun hin hst hleak hlevel hpg => ⟨fun hu => ?_, fun hu hu' => ?_⟩⟩
      · rw [show drained = (x.shedFor .reserve .immediate).drainedBy set.drainLimit from by rw [← hu]; rfl, hu]
        exact shedClass_drains_on (s := s.rearmed) hq hin hst hpg
      · have hoff' : s.rearmed.online = false := by
          rw [State.online, beq_eq_false_iff_ne]
          exact hoff
        rw [shedClass_rests_soak (s := s.rearmed) (reason := .reserve) hq hin hst hpg nofun hoff']
        exact ⟨rfl, rfl, rfl, rfl, rfl⟩
      · refine shedClass_waits_soak (s := s.rearmed) hq hin hst hpg rfl ?_ hauto henabled hdry
        rw [State.online, beq_iff_eq]
        exact hon
      · exact shedClass_stands (s := s.rearmed) hq hin hst nofun hstands
      · exact shedClass_drains_flying (s := s.rearmed) hq hin hst hleak hlevel hpg hu
      · exact shedClass_renames (s := s.rearmed) hq hin hst hleak hlevel hu hu'
    · intro x y
      have hy : y = (shedClass .reserve e.minClass e.urgency s.rearmed).seq.slots[n] := by rw [← hone e htable hshed hk1]
      rw [hy]
      refine ⟨fun hst hin => ?_, fun hst hout => ?_, fun hst => ?_⟩
      · refine shedClass_warns (s := s.rearmed) hq hin hst ?_
        rcases hu with e | e <;> rw [e] <;> nofun
      · exact shedClass_other (s := s.rearmed) hq fun hm => absurd (mem_classGroup.1 hm).1 (Nat.not_le.2 hout)
      · refine shedClass_other (s := s.rearmed) hq fun hm => ?_
        have hpowered : x.state.powered = true := (mem_classGroup.1 hm).2
        rcases hst with e | e | e | e <;> (rw [e] at hpowered; cases hpowered)
end

section
/-! PROOFS. Power-on, the two edges of RST_N, and the time in reset (R1, R41, R57, R77, R129, R163, R165, R176, R178): O49. -/

namespace Sys2Proof.Machine

/-! ### A write lost (R176) -/

theorem abandonWrite_none {s : State} (h : s.store.writing = none) : abandonWrite s = s := by
  unfold abandonWrite
  rw [h]

/-- The stored profile stays, but fails its check. -/
theorem abandonWrite_some {s : State} (h : s.store.writing ≠ none) :
    abandonWrite s =
      { s with
        store := { s.store with writing := none, nvm := { s.store.nvm with valid := false, crc := s.freshWord } }
        free := s.free + 1 } := by
  unfold abandonWrite
  split
  · next hnone => exact absurd hnone h
  · rfl

theorem abandonWrite_frame (s : State) : abandonWrite s = { s with store := (abandonWrite s).store, free := (abandonWrite s).free } := by
  by_cases h : s.store.writing = none
  · rw [abandonWrite_none h]
  · rw [abandonWrite_some h]

theorem abandonWrite_profile (s : State) : (abandonWrite s).store.nvm.profile = s.store.nvm.profile := by
  by_cases h : s.store.writing = none
  · rw [abandonWrite_none h]
  · rw [abandonWrite_some h]

/-! ### The fall of RST_N -/

/-- What the fall takes from the test record (R57). -/
def TestRecord.emptied (t : TestRecord) : TestRecord := if t.running then TestRecord.empty else t

theorem assertReset_eq (cold : Bool) (s : State) :
    assertReset cold s =
      { s with
        phase := .inReset cold
        free := (abandonWrite s).free
        charge := { s.charge with bbus := Vector.ofFn fun i => Bbu.latch s.charge.bbus[i], test := s.charge.test.emptied }
        holdup := { s.holdup with record := s.holdup.record.close .reset s.holdup.lastR }
        line := Line.init false
        causes := ⟨Vector.replicate 137 (Cause.init false), [], false, s.causes.alert⟩
        link := Link.init s.link.straps
        store := (abandonWrite s).store } := by
  have h : abandonWrite (closeRecord .reset s) =
      { s with
        store := (abandonWrite s).store, free := (abandonWrite s).free
        holdup := { s.holdup with record := s.holdup.record.close .reset s.holdup.lastR } } := by
    by_cases hw : s.store.writing = none
    · rw [abandonWrite_none hw, abandonWrite_none (s := closeRecord .reset s) hw]
      rfl
    · rw [abandonWrite_some hw, abandonWrite_some (s := closeRecord .reset s) hw]
      rfl
  unfold assertReset
  rw [h]
  rfl

/-! ### Nothing acts in reset -/

theorem request_inReset {s : State} {cold : Bool} (h : s.phase = .inReset cold) (i : Instr) (run : State → Judged) :
    request i run s = s := by
  unfold request
  rw [h]
  split <;> rfl

theorem whenRunning_inReset {s : State} {cold : Bool} (h : s.phase = .inReset cold) (f : State → State) : whenRunning f s = s :=
  whenRunning_of_not_running (by rw [h]; nofun)

theorem whenOut_inReset {s : State} {cold : Bool} (h : s.phase = .inReset cold) (f : State → State) : whenOut f s = s := by
  unfold whenOut
  rw [h]

end Sys2Proof.Machine

open Sys2Proof Sys2Proof.Machine

/-- Settles O49: power-on and the fall of RST_N by the write they may abandon, and the time in reset command by command. -/
theorem powerAndResetKeepWhatTheManualKeeps : Obligations.PowerAndResetKeepWhatTheManualKeeps := by
  refine ⟨fun s straps => ⟨powerOn straps s, rfl, ?_⟩, fun s hout => ?_, fun s straps cold h => ?_, fun s straps h => ?_, fun s cold h => ?_,
    fun c s cold h hwriting hon hrelease => ?_⟩
  · refine ⟨?_, rfl, abandonWrite_profile s, fun h => ?_, fun h => ?_, fun n => ?_, fun i => ?_, fun z => ?_⟩
    · show State.poweredOn (abandonWrite s).pins straps _ _ (abandonWrite s).pending = _
      rw [show (abandonWrite s).pins = s.pins by rw [abandonWrite_frame s],
        show (abandonWrite s).pending = s.pending by rw [abandonWrite_frame s]]
      rfl
    · show (abandonWrite s).store.nvm = _
      rw [abandonWrite_none h]
    · show (abandonWrite s).store.nvm.valid = _
      rw [abandonWrite_some h]
    · show (Vector.ofFn fun n => Slot.powerOn _)[n].en = _
      rw [get_ofFn]
      rfl
    · show (Vector.ofFn fun i => Bbu.powerOn _ _)[i].out = _
      rw [get_ofFn]
      rfl
    · show (Vector.replicate 8 Zone.powerOn)[z].valve = _
      rw [get_replicate]
      rfl
  · obtain ⟨cold, hexec, hrunning, hloading⟩ : ∃ cold, exec .pinResetAssert s = .next (assertReset cold s) ∧
        (s.phase = .running → cold = false) ∧ ∀ c, s.phase = .loading c → cold = c := by
      have hexec : exec .pinResetAssert s = .next (pinResetAssert s) := rfl
      rw [hexec, pinResetAssert]
      split
      · next c hreset => exact absurd hreset (hout c)
      · next c hload => exact ⟨c, rfl, fun h => absurd (hload.symm.trans h) nofun, fun c' h => by cases hload.symm.trans h; rfl⟩
      · next hrun => exact ⟨false, rfl, fun _ => rfl, fun c h => absurd (hrun.symm.trans h) nofun⟩
    refine ⟨assertReset cold s, hexec, ?_⟩
    rw [assertReset_eq]
    refine ⟨fun h => by rw [hrunning h], fun c h => by rw [hloading c h], rfl, rfl, rfl, fun _ => rfl, rfl, rfl, rfl, rfl, rfl, rfl, rfl,
      fun i => ?_, fun h => ?_, fun h => ?_, fun h => ?_, fun h => ?_, fun h => ?_, fun h => ?_⟩
    · show (Vector.ofFn fun i => Bbu.latch s.charge.bbus[i])[i] = _
      rw [get_ofFn]
      rfl
    · show s.charge.test.emptied = _
      rw [TestRecord.emptied, h]
      rfl
    · show s.charge.test.emptied.running = _ ∧ s.charge.test.emptied.result = _ ∧ s.charge.test.emptied.d = _
      rw [TestRecord.emptied, h]
      exact ⟨rfl, rfl, rfl⟩
    · show ({ s.holdup with record := s.holdup.record.close .reset s.holdup.lastR } : Holdup) = _
      rw [Transfer.close, h]
      rfl
    · show ({ s.holdup with record := s.holdup.record.close .reset s.holdup.lastR } : Holdup) = _
      rw [Transfer.close, h]
      rfl
    · show (abandonWrite s).store = _
      rw [abandonWrite_none h]
    · show (abandonWrite s).store = { s.store with writing := none, nvm := (abandonWrite s).store.nvm } ∧ _
      rw [abandonWrite_some h]
      exact ⟨rfl, rfl, rfl⟩
  · show execPinResetRelease straps s = _
    rw [execPinResetRelease, pinResetRelease, h]
    rfl
  · show execPinResetRelease straps s = _
    rw [execPinResetRelease, pinResetRelease]
    split
    · next cold hreset => exact absurd hreset (h cold)
    · rfl
    · rfl
  · show execPinResetAssert s = _
    rw [execPinResetAssert, pinResetAssert, h]
  · have hstill (hexec : exec c s = .next s) : Gives c s fun t => t = { s with pins := t.pins } := ⟨s, hexec, rfl⟩
    have hpins (p : Pins) (f : State → State) (b : Prop) (_ : Decidable b)
        (hexec : exec c s = .next (if b then s else whenRunning f (s.setPins p))) : Gives c s fun t => t = { s with pins := t.pins } := by
      refine ⟨_, hexec, ?_⟩
      split
      · rfl
      · rw [whenRunning_inReset (s := s.setPins p) h]
        rfl
    cases c with
    | powerOn straps => exact absurd rfl (hon straps)
    | pinResetRelease straps => exact absurd rfl (hrelease straps)
    | pinResetAssert =>
      refine hstill ?_
      show execPinResetAssert s = _
      rw [execPinResetAssert, pinResetAssert, h]
    | profileLoadComplete =>
      refine hstill ?_
      show execProfileLoadComplete s = _
      rw [execProfileLoadComplete, h]
    | storeWriteComplete verified =>
      refine hstill ?_
      show execStoreWriteComplete verified s = _
      rw [execStoreWriteComplete, hwriting]
    | psuInputChange k pin level => exact hpins _ _ _ _ rfl
    | bbuPresentChange k level => exact hpins _ _ _ _ rfl
    | bbuFaultInputChange k level => exact hpins _ _ _ _ rfl
    | pgChange n level => exact hpins _ _ _ _ rfl
    | frameReceived | rxGapTimeout | txFrameEnd | frameAbandoned => exact hstill (congrArg Host.Outcome.next (whenOut_inReset h _))
    | sampleSet | headroomPublication | deficitTimerExpiry | deficitSelection | deficitAnswer | reservePublication | testTimerExpiry
    | settleTimerExpiry | bridgingTimerExpiry | collapseTimerExpiry | stepTimerExpiry | floorTimerExpiry | headReport
    | staggerTimerExpiry | soakTimerExpiry | noticeWindowExpiry | holdLimitExpiry | drainTimerExpiry | cycleStart | surveyTimerExpiry
    | cycleEnd | slotFrame23End => exact hstill (congrArg Host.Outcome.next (whenRunning_inReset h _))
    | _ => exact hstill (congrArg Host.Outcome.next (request_inReset h _ _))
end

section
/-! PROOFS. What the steps of the regulator, the holdup controller and the leak monitor keep, as properties that each of their
elementary steps keeps. -/

namespace Sys2Proof.Machine

/-! ### The regulator (chapter 5) -/

namespace ShedInvariant
variable {P : State → Prop} {t : State}

theorem recomputeIfSet (inv : ShedInvariant P) (h : P t) (before : Nat) : P (recomputeIfSet before t) := ite_keeps h (inv.recompute h)

theorem regulatorOff (inv : ShedInvariant P) (h : P t) : P (regulatorOff t) :=
  inv.recomputeIfSet (inv.reportCondition shedCause_recharge (inv.reshare (inv.setRecharge h))) _

theorem enterCruise (inv : ShedInvariant P) (h : P t) (i : Nat) : P (enterCruise i t) :=
  inv.recomputeIfSet (inv.reportCondition shedCause_recharge (inv.reshare (inv.setRecharge h))) _

theorem enterThermal (inv : ShedInvariant P) (h : P t) : P (enterThermal t) :=
  inv.recomputeIfSet (inv.raise shedCause_recharge (inv.reportCondition shedCause_recharge (inv.reshare (inv.setRecharge h)))) _

theorem pauseRegulator (inv : ShedInvariant P) (h : P t) (code : Byte) : P (pauseRegulator code t) :=
  inv.recomputeIfSet (inv.enterPaused h) _

theorem startRegulator (inv : ShedInvariant P) (h : P t) : P (startRegulator t) :=
  ite_keeps (inv.regulatorOff h) (ite_keeps (inv.pauseRegulator h _) (ite_keeps (inv.enterThermal h) (inv.enterCruise h _)))

theorem takeSet (inv : ShedInvariant P) (h : P t) : P (takeSet t) := ite_keeps h (inv.reshare (inv.setRecharge h))

theorem formSet (inv : ShedInvariant P) (h : P t) : P (formSet t) := by
  rw [formSet_eq]
  have hset := inv.takeSet h
  exact ite_keeps (ite_keeps hset (inv.regulatorOff hset)) (ite_keeps (inv.startRegulator hset) hset)

theorem restartIfRoom (inv : ShedInvariant P) (h : P t) : P (restartIfRoom t) := ite_keeps (inv.startRegulator h) h

theorem tryYield (inv : ShedInvariant P) (h : P t) : P (tryYield t) := by
  unfold Machine.tryYield
  split
  · exact h
  · exact ite_keeps (inv.recomputeIfSet (inv.reshare (inv.setRecharge h)) _) h

theorem sampleRegulator (inv : ShedInvariant P) (h : P t) : P (sampleRegulator t) := by
  have hset : P (Machine.formSet (refreshRecharge t)) := inv.formSet (inv.setRecharge h)
  unfold Machine.sampleRegulator
  simp only
  split
  · exact hset
  · exact ite_keeps (inv.enterThermal hset) hset
  · exact ite_keeps (inv.enterThermal hset) hset
  · exact inv.restartIfRoom hset
  · exact ite_keeps (inv.enterCruise hset _) hset

/-! ### The sheds of a zone and of a blackout -/

theorem foldl_shedSlot (inv : ShedInvariant P) {reason : ShedReason} {urgency : Urgency} (l : List SlotId) (h : P t) :
    P (l.foldl (fun s n => Machine.shedSlot n reason urgency s) t) := List.foldlRecOn l _ h fun _ hu _ _ => inv.shedSlot hu

theorem lockZone (inv : ShedInvariant P) (h : P t) (z : ZoneId) : P (lockZone z t) := by
  unfold Machine.lockZone
  exact ite_keeps h (inv.seqEvent (List.foldlRecOn _ _ h fun _ hu _ _ => inv.moveSlot (inv.setSeq hu)))

theorem shedZone (inv : ShedInvariant P) (h : P t) (z : ZoneId) : P (shedZone z t) := inv.foldl_shedSlot _ h

theorem leaveDeficit (inv : ShedInvariant P) (h : P t) : P (leaveDeficit t) := inv.setBudget (inv.endDeficit h)

end ShedInvariant

/-! ### The holdup controller (chapter 4) -/

/-- Every elementary step of the holdup controller keeps `P`. -/
structure HoldupInvariant (P : State → Prop) : Prop where
  reserve : ReserveInvariant P
  seqEvent : ∀ {t : State}, P t → P (seqEvent t)
  shedAll : ∀ {t : State}, P t → P (shedAll t)
  regulatorOff : ∀ {t : State}, P t → P (regulatorOff t)
  leaveDeficit : ∀ {t : State}, P t → P (leaveDeficit t)
  tell : ∀ {t : State} {st : HoldupState}, P t →
    P ((t.setSeq { t.seq with lastHoldup := st }).setRecharge { t.recharge with lastHoldup := st })
  setHoldup : ∀ {t : State} {x : Holdup}, P t → P (t.setHoldup x)
  reportHoldup : ∀ {t : State} {a : Bool}, P t → P (reportCondition causeHoldup a t)
  raiseHoldup : ∀ {t : State} {v : Int} {code : Byte}, P t → P (raise causeHoldup v code t)
  changeBbu : ∀ {t : State} {i : BbuId} {st : BbuState}, P t → P (changeBbu i st t)
  abortTestForAc : ∀ {t : State}, P t → P (abortTestForAc t)

namespace HoldupInvariant
variable {P : State → Prop} {t : State}

theorem moveHoldup (inv : HoldupInvariant P) (h : P t) (st : HoldupState) : P (moveHoldup st t) :=
  inv.raiseHoldup (inv.reportHoldup (inv.tell (inv.setHoldup h)))

theorem shiftBbus (inv : HoldupInvariant P) (h : P t) (f : BbuState → Bool) (st : BbuState) : P (shiftBbus f st t) :=
  List.foldlRecOn bbuIds _ h fun _ hu _ _ => ite_keeps (inv.reserve.recomputeReserve (inv.changeBbu hu)) hu

theorem disarmTable (inv : HoldupInvariant P) (h : P t) : P (disarmTable t) := inv.reserve.reckon h

theorem enterBlackout (inv : HoldupInvariant P) (h : P t) : P (enterBlackout t) :=
  inv.seqEvent (inv.disarmTable (inv.shiftBbus (inv.shedAll (inv.moveHoldup (inv.setHoldup (inv.setHoldup h)) _)) _ _))

theorem judgeCounted (inv : HoldupInvariant P) (h : P t) : P (judgeCounted t) := ite_keeps (inv.enterBlackout h) h

theorem openEvent (inv : HoldupInvariant P) (h : P t) (trigger : Trigger) : P (openEvent trigger t) := by
  have hmove (x : Holdup) : P (Machine.moveHoldup .bridging (offerRecord trigger (t.setHoldup x))) :=
    inv.moveHoldup (inv.setHoldup (inv.setHoldup h)) .bridging
  have harm (u : State) (hu : P u) : P (armOnBridge u) := ite_keeps (inv.reserve.armTable hu) hu
  exact inv.judgeCounted (inv.seqEvent (inv.leaveDeficit (inv.regulatorOff
    (inv.abortTestForAc (harm _ (hmove _))))))

theorem enterReturn (inv : HoldupInvariant P) (h : P t) : P (enterReturn t) :=
  inv.seqEvent (inv.moveHoldup (inv.setHoldup h) _)

theorem flicker (inv : HoldupInvariant P) (h : P t) : P (flicker t) :=
  inv.judgeCounted (inv.seqEvent (inv.moveHoldup (inv.setHoldup h) _))

theorem judgeAc (inv : HoldupInvariant P) (h : P t) : P (judgeAc t) := by
  unfold Machine.judgeAc
  split
  · exact inv.openEvent h _
  · exact inv.enterReturn h
  · exact inv.flicker h
  · exact inv.enterReturn h
  · exact h

theorem judgeCollapse (inv : HoldupInvariant P) (h : P t) : P (judgeCollapse t) := by
  unfold Machine.judgeCollapse
  simp only
  split
  · split
    · exact h
    · exact inv.setHoldup h
  · exact inv.setHoldup h

theorem noteFirstSet (inv : HoldupInvariant P) (h : P t) : P (noteFirstSet t) := by
  unfold Machine.noteFirstSet
  split
  · exact h
  · exact inv.setHoldup h

theorem sampleHoldup (inv : HoldupInvariant P) (h : P t) : P (sampleHoldup t) := by
  have hfollow : P (evaluateAc (followRecord t)) := inv.setHoldup (ite_keeps (inv.setHoldup h) h)
  have hjudge := inv.judgeAc hfollow
  exact ite_keeps (inv.noteFirstSet hfollow) (ite_keeps (inv.judgeCollapse hjudge) hjudge)

end HoldupInvariant

/-! ### The leak monitor (chapter 9) -/

/-- Every elementary step of the leak monitor keeps `P`. -/
structure LeakInvariant (P : State → Prop) : Prop where
  lineWatch : ∀ {t : State}, P t → P (lineWatch t)
  lockZone : ∀ {t : State} {z : ZoneId}, P t → P (lockZone z t)
  shedZone : ∀ {t : State} {z : ZoneId}, P t → P (shedZone z t)
  setZone : ∀ {t : State} {z : ZoneId} {x : Zone}, P t → P (t.setZone z x)
  spendFree : ∀ {t : State}, P t → P t.spendFree
  reportZone : ∀ {t : State} {z : ZoneId} {a : Bool}, P t → P (reportCondition (causeZoneWet z) a t)
  raiseZone : ∀ {t : State} {z : ZoneId} {v : Int} {code : Byte}, P t → P (raise (causeZoneWet z) v code t)
  reportRope : ∀ {t : State} {z : ZoneId} {a : Bool}, P t → P (reportCondition (causeRopeFault z) a t)
  raiseRope : ∀ {t : State} {z : ZoneId} {v : Int} {code : Byte}, P t → P (raise (causeRopeFault z) v code t)

namespace LeakInvariant
variable {P : State → Prop} {t : State} {z : ZoneId}

theorem moveZone (inv : LeakInvariant P) (h : P t) (x : Zone) : P (moveZone z x t) :=
  inv.lineWatch (inv.reportZone (inv.setZone h))

theorem spendRope (inv : LeakInvariant P) (h : P t) : P (spendRope z t) := by
  unfold Machine.spendRope
  split
  · exact h
  · exact inv.spendFree h

theorem enterWet (inv : LeakInvariant P) (h : P t) (how : Confirmation) : P (enterWet z how t) := by
  have hlock (x : Zone) (v : Int) (code : Byte) :
      P (Machine.lockZone z (raise (causeZoneWet z) v code (Machine.moveZone z x (Machine.spendRope z t)))) :=
    inv.lockZone (inv.raiseZone (inv.moveZone (inv.spendRope h) x))
  exact ite_keeps (inv.shedZone (hlock _ _ _)) (hlock _ _ _)

theorem fallBack (inv : LeakInvariant P) (h : P t) : P (fallBack z t) := ite_keeps (inv.moveZone h _) h

theorem judgeZone (inv : LeakInvariant P) (h : P t) (how : Confirmation) : P (judgeZone z how t) :=
  ite_keeps (inv.fallBack h) (inv.enterWet h how)

theorem countRope (inv : LeakInvariant P) (h : P t) (wet : Bool) : P (countRope z wet t) := by
  unfold Machine.countRope
  simp only
  split
  · exact ite_keeps (inv.moveZone h _) h
  · exact inv.setZone h
  · exact h
  · exact h

theorem countTray (inv : LeakInvariant P) (h : P t) (accepted : Bool) : P (countTray z accepted t) := by
  unfold Machine.countTray
  simp only
  split
  · exact ite_keeps (inv.moveZone h _) h
  · exact ite_keeps (inv.moveZone h _) h
  · exact inv.setZone h
  · exact h

theorem judgeRope (inv : LeakInvariant P) (h : P t) (old : RopeClass) : P (judgeRope z old t) := by
  unfold Machine.judgeRope
  simp only
  split
  · exact ite_keeps (ite_keeps (inv.raiseRope h) h) (inv.raiseRope (inv.reportRope (inv.moveZone h _)))
  · exact ite_keeps (inv.reportRope (inv.moveZone h _)) h

theorem sampleZone (inv : LeakInvariant P) (h : P t) : P (sampleZone z t) := by
  unfold Machine.sampleZone
  simp only
  split
  · exact h
  · exact ite_keeps (inv.setZone h) (inv.judgeZone (inv.countRope (inv.judgeRope (inv.setZone h) _) _) _)

theorem sampleLeak (inv : LeakInvariant P) (h : P t) : P (sampleLeak t) :=
  List.foldlRecOn zoneIds _ h fun _ hu _ _ => inv.sampleZone hu

theorem cycleZone (inv : LeakInvariant P) (h : P t) (report held : Bool) : P (cycleZone z report held t) :=
  ite_keeps (inv.setZone h) (inv.judgeZone (inv.countTray (inv.setZone h) _) _)

theorem cycleLeak (inv : LeakInvariant P) (h : P t) : P (cycleLeak t) :=
  List.foldlRecOn zoneIds _ h fun _ hu _ _ => inv.cycleZone hu _ _

end LeakInvariant

end Sys2Proof.Machine
end

section
/-! PROOFS. O25: which commands leave the settings and the store alone, and what the others leave of a locked section (R177). -/

namespace Sys2Proof.Machine

/-! ### Steps that leave the settings and the store alone -/

/-- The settings and the store are those of `s`. -/
structure Configured (s t : State) : Prop where
  settings : t.settings = s.settings
  store : t.store = s.store

namespace Configured
variable {s t u : State}

theorem refl (s : State) : Configured s s := ⟨rfl, rfl⟩

theorem trans (h : Configured s t) (k : Configured t u) : Configured s u :=
  ⟨k.settings.trans h.settings, k.store.trans h.store⟩

theorem of_base (h : t.base = s.base) : Configured s t := ⟨base_settings h, base_store h⟩

theorem setPoint (s : State) (p : PointId) (x : Point) : Configured s (s.setPoint p x) := ⟨rfl, rfl⟩

theorem base (h : Configured s t) (hb : u.base = t.base) : Configured s u := h.trans (of_base hb)

theorem shed (s : State) : ShedInvariant (Configured s) where
  setBudget h := h.trans ⟨rfl, rfl⟩
  setRecharge h := h.trans ⟨rfl, rfl⟩
  setSeq h := h.trans ⟨rfl, rfl⟩
  setLine h := h.trans ⟨rfl, rfl⟩
  driveBbu h := h.base (driveBbu_base _ _)
  reportCondition _ h := h.base (reportCondition_base _ _ _)
  raise _ h := h.base (raise_base _ _ _ _)

theorem leak (s : State) : LeakInvariant (Configured s) where
  lineWatch h := (shed s).lineWatch h
  lockZone h := (shed s).lockZone h _
  shedZone h := (shed s).shedZone h _
  setZone h := h.trans ⟨rfl, rfl⟩
  spendFree h := h.trans ⟨rfl, rfl⟩
  reportZone h := h.base (reportCondition_base _ _ _)
  raiseZone h := h.base (raise_base _ _ _ _)
  reportRope h := h.base (reportCondition_base _ _ _)
  raiseRope h := h.base (raise_base _ _ _ _)

end Configured

theorem endCycle_configured (c : CycleSamples) (s : State) : Configured s (endCycle c s) := by
  have hclose : Configured s (closeCycle c s) := ⟨rfl, rfl⟩
  have hline : Configured s (reportLine s.line.state (closeCycle c s)) :=
    ite_keeps hclose ((hclose.base (reportCondition_base _ _ _)).base (raise_base _ _ _ _))
  have hattention := List.foldlRecOn (motive := Configured s) slotIds (fun u n => reportAttention s.line.attention n u) hline
    fun u hu n _ => by
      have hreport := hu.base (reportCondition_base (causeAttention n) (u.line.attention.getLsbD n.val) u)
      exact ite_keeps (hreport.base (raise_base _ _ _ _)) hreport
  have hholds := List.foldlRecOn (motive := Configured s) slotIds (fun u n => judgeHold (u.line.hold.getLsbD n.val) n u) hattention
    fun u hu n _ => hu.base (judgeHold_base _ n u)
  exact ((Configured.leak s).cycleLeak hholds).base (lineWatch_base _)

theorem headroomPublication_configured (s : State) : Configured s (headroomPublication s) := by
  refine List.foldlRecOn (motive := Configured s) s.budget.pubs _ ⟨rfl, rfl⟩ fun u hu p _ => ?_
  have hseq := (hu.base (setSeq_base u { u.seq with lastH := p.1 })).base (seqEvent_base _)
  exact (hseq.base (regulatorHeadroom_base p.1 _)).trans ⟨rfl, rfl⟩

theorem psuChange_base (k : PsuId) (pin : PsuPin) (s : State) : (psuChange k pin s).base = s.base := by
  simp only [psuChange, inputBudget]
  repeat' split
  all_goals simp

theorem bbuChange_base (i : BbuId) {effect : State → State} (h : ∀ u, (effect u).base = u.base) (s : State) :
    (bbuChange i effect s).base = s.base := by
  simp only [bbuChange]
  split
  · rw [h, setBbu_base]
  · rw [setBbu_base]

theorem presentChange_base (i : BbuId) (level : Bool) (s : State) : (presentChange i level s).base = s.base := by
  simp only [presentChange]
  repeat' split
  all_goals simp

theorem faultChange_base (i : BbuId) (level : Bool) (s : State) : (faultChange i level s).base = s.base := by
  simp only [faultChange]
  repeat' split
  all_goals simp

theorem pgChange_base (n : SlotId) (level : Bool) (s : State) : (pgChange n level s).base = s.base := by
  simp only [pgChange, pgRise, pgFall]
  repeat' split
  all_goals simp

theorem selectDeficit_base (s : State) : (selectDeficit s).base = s.base := by
  simp only [selectDeficit]
  split
  · rfl
  · rw [setBudget_base, foldl_keeps State.base _ (fun u n => shedSlot_base n _ _ u), setBudget_base]

theorem takeAnswer_base (s : State) : (takeAnswer s).base = s.base := by
  have hjudge (p : Int) (u : State) : (judgeAnswer p u).base = u.base := by
    unfold judgeAnswer
    repeat' split
    all_goals simp
  rcases takeAnswer_cases s with ⟨e, -⟩ | ⟨a, rest, -, ⟨e, -⟩ | ⟨-, -, e⟩⟩ <;> rw [e] <;> simp [hjudge]

/-! ### Locked sections -/

/-- A locked section keeps its lock and its fields. -/
structure KeepsLocked (s t : State) : Prop where
  safety : s.store.lockSafety = true → t.store.lockSafety = true ∧ t.settings.safety = s.settings.safety
  order : s.store.lockOrder = true → t.store.lockOrder = true ∧ t.settings.order = s.settings.order
  general : s.store.lockGeneral = true → t.store.lockGeneral = true ∧ t.settings.general = s.settings.general

namespace KeepsLocked
variable {s t u : State}

theorem trans (h : KeepsLocked s t) (k : KeepsLocked t u) : KeepsLocked s u where
  safety hl := (h.safety hl).elim fun ht e => (k.safety ht).imp id fun e' => e'.trans e
  order hl := (h.order hl).elim fun ht e => (k.order ht).imp id fun e' => e'.trans e
  general hl := (h.general hl).elim fun ht e => (k.general ht).imp id fun e' => e'.trans e

theorem of_configured (h : Configured s t) : KeepsLocked s t := by
  obtain ⟨hset, hstore⟩ := h
  refine ⟨fun hl => ?_, fun hl => ?_, fun hl => ?_⟩ <;> rw [hset, hstore] <;> exact ⟨hl, rfl⟩

theorem refl (s : State) : KeepsLocked s s := of_configured (.refl s)

theorem of_base (h : t.base = s.base) : KeepsLocked s t := of_configured (.of_base h)

end KeepsLocked

theorem lockAllows_iff (s : State) (new : Settings) :
    s.lockAllows new = true ↔
      (s.store.lockSafety = true → new.safety = s.settings.safety) ∧ (s.store.lockOrder = true → new.order = s.settings.order) ∧
        (s.store.lockGeneral = true → new.general = s.settings.general) := by
  have hone (lock : Bool) (p : Prop) : (lock = false ∨ p) ↔ (lock = true → p) := by cases lock <;> simp
  simp only [State.lockAllows, Bool.and_eq_true, Bool.or_eq_true, Bool.not_eq_true', beq_iff_eq, hone, and_assoc,
    eq_comm (a := s.settings.safety), eq_comm (a := s.settings.order), eq_comm (a := s.settings.general)]

/-- R177: an adopted SET keeps the locked sections. -/
theorem adopt_keepsLocked {s : State} {new : Settings} (h : s.lockAllows new = true) : KeepsLocked s (s.adopt new) := by
  obtain ⟨hsafety, horder, hgeneral⟩ := (lockAllows_iff s new).1 h
  exact ⟨fun hl => ⟨hl, hsafety hl⟩, fun hl => ⟨hl, horder hl⟩, fun hl => ⟨hl, hgeneral hl⟩⟩

/-- An accepted request keeps the locked sections. -/
def Judged.keepsLocked (j : Judged) (s : State) : Prop := ∀ t ack, j = .ok (t, ack) → KeepsLocked s t

theorem keepsLocked_error (s : State) (c : RefusalCode) : Judged.keepsLocked (.error c) s := by
  intro t a h
  cases h

theorem keepsLocked_ok {s t : State} {a : Ack} (h : KeepsLocked s t) : Judged.keepsLocked (.ok (t, a)) s := by
  intro u b e
  cases e
  exact h

theorem keepsLocked_base {s t : State} {a : Ack} (h : t.base = s.base) : Judged.keepsLocked (.ok (t, a)) s :=
  keepsLocked_ok (.of_base h)

theorem keepsLocked_demand {s : State} {ok : Bool} {c : RefusalCode} {j : Judged} (h : ok = true → Judged.keepsLocked j s) :
    Judged.keepsLocked (demand ok c j) s := by
  unfold demand
  split
  · exact h ‹_›
  · exact keepsLocked_error s c

theorem keepsLocked_withId {α : Type} {s : State} {id : Option α} {run : α → Judged} (h : ∀ x, Judged.keepsLocked (run x) s) :
    Judged.keepsLocked (withId id run) s := by
  unfold withId
  split
  · exact keepsLocked_error s _
  · exact h _

theorem keepsLocked_bulk (size largest : Nat) (first count : Byte) (report : Nat → Nat → Ack) (s : State) :
    Judged.keepsLocked (bulk size largest first count report s) s := by
  unfold bulk
  split
  · exact keepsLocked_error s _
  · exact keepsLocked_ok (.refl s)

theorem keepsLocked_takeSettings {new : Settings} {effect : State → State} {ack : State → Ack} {s : State}
    (h : ∀ u, Configured u (effect u)) : Judged.keepsLocked (takeSettings new effect ack s) s :=
  keepsLocked_demand fun hl => keepsLocked_ok ((adopt_keepsLocked hl).trans (.of_configured (h _)))

/-! ### SET_MASKS -/

theorem takeMaskEntry_settings (e : CauseId × MaskSettings) (s : State) :
    (takeMaskEntry e s).settings = { s.settings with masks := s.settings.masks.set e.1 e.2 } ∧ (takeMaskEntry e s).store = s.store := by
  simp only [takeMaskEntry]
  split
  · exact ⟨rfl, rfl⟩
  · split
    · have h : Configured (s.setSettings { s.settings with masks := s.settings.masks.set e.1 e.2 }) _ := .of_base (joinOutbox_base e.1 _)
      exact ⟨h.settings, h.store⟩
    · exact ⟨rfl, rfl⟩

/-- A list of entries moves the masks alone, and not those that each entry leaves as they are. -/
theorem foldl_takeMaskEntry (es : List (CauseId × MaskSettings)) (s : State) :
    let t := es.foldl (fun s e => takeMaskEntry e s) s
    t.store = s.store ∧ t.settings = { s.settings with masks := t.settings.masks } ∧
      ((∀ e ∈ es, s.settings.masks.set e.1 e.2 = s.settings.masks) → t.settings = s.settings) := by
  induction es generalizing s with
  | nil => exact ⟨rfl, rfl, fun _ => rfl⟩
  | cons e es ih =>
    intro t
    obtain ⟨hset, hstore⟩ := takeMaskEntry_settings e s
    obtain ⟨hst, hmasks, hsame⟩ := ih (takeMaskEntry e s)
    refine ⟨hst.trans hstore, hmasks.trans (by rw [hset]; rfl), fun h => ?_⟩
    have hfirst : (takeMaskEntry e s).settings = s.settings := by rw [hset, h e List.mem_cons_self]
    refine (hsame fun e' he' => ?_).trans hfirst
    rw [hfirst]
    exact h e' (List.mem_cons_of_mem e he')

theorem setMasks_keepsLocked (alert : Byte) (entries : List MaskW) (s : State) : Judged.keepsLocked (runSetMasks alert entries s) s := by
  refine keepsLocked_demand fun _ => keepsLocked_withId fun es => keepsLocked_demand fun hl => keepsLocked_ok ?_
  rw [State.masksAllowed, Bool.and_eq_true, List.all_eq_true] at hl
  obtain ⟨halert, hentries⟩ := hl
  refine (KeepsLocked.trans (adopt_keepsLocked halert) ?_).trans (.of_base (judgeAlert_base _))
  obtain ⟨hstore, hmasks, hsame⟩ := foldl_takeMaskEntry es (s.adopt { s.settings with globalAlert := takeFlag alert })
  refine ⟨fun hlock => ?_, fun hlock => ?_, fun hlock => ?_⟩
  · rw [hstore, hmasks]
    exact ⟨hlock, rfl⟩
  · rw [hstore, hmasks]
    exact ⟨hlock, rfl⟩
  · rw [hstore, hsame fun e he => ?_]
    · exact ⟨hlock, rfl⟩
    · exact congrArg GeneralView.masks (((lockAllows_iff s _).1 (hentries e he)).2.2 hlock)

/-! ### Requests -/

theorem takeSlots_base {one : SlotId → State → State × SlotResult} (h : ∀ n u, (one n u).1.base = u.base) (ns : List SlotId) (s : State) :
    (takeSlots one ns s).1.base = s.base := by
  induction ns generalizing s with
  | nil => rfl
  | cons n ns ih => exact (ih _).trans (h n s)

theorem slotList_keepsLocked {one : SlotId → State → State × SlotResult} (h : ∀ n u, (one n u).1.base = u.base) (slots : List Byte)
    (s : State) : Judged.keepsLocked (slotList slots one s) s :=
  keepsLocked_demand fun _ => keepsLocked_withId fun ns => keepsLocked_base (takeSlots_base h ns s)

theorem powerUpSlot_base (n : SlotId) (s : State) : (powerUpSlot n s).1.base = s.base := by
  simp only [powerUpSlot]
  repeat' split
  all_goals simp

theorem powerDownSlot_base (urgency : Urgency) (n : SlotId) (s : State) : (powerDownSlot urgency n s).1.base = s.base := by
  simp only [powerDownSlot]
  split <;> simp

theorem releaseSlot_base (n : SlotId) (requeue : Bool) (s : State) : (releaseSlot n requeue s).base = s.base := by
  simp only [releaseSlot]
  repeat' split
  all_goals simp

theorem slotTaken_base (n : SlotId) (old : SlotSettings) (need : Option Nat) (s : State) : (slotTaken n old need s).base = s.base := by
  have hdisable : (disableSlot n s).base = s.base := by
    simp only [disableSlot]
    split <;> simp
  have hcritical (u : State) : (criticalTaken n u).base = u.base := by
    simp only [criticalTaken]
    split <;> simp
  unfold slotTaken
  simp only
  repeat' split
  all_goals simp only [seqEvent_base, recompute_base, hcritical, enterQueue_base, leaveQueue_base, hdisable]

theorem zoneTaken_configured (z : ZoneId) (old : ZoneSettings) (s : State) : Configured s (zoneTaken z old s) :=
  ite_keeps ((Configured.leak s).fallBack ⟨rfl, rfl⟩) (.refl s)

theorem clearZone_configured (z : ZoneId) (s : State) : Configured s (clearZone z s) := by
  unfold clearZone
  simp only
  split
  · exact (Configured.leak s).moveZone (.refl s) _
  · exact (Configured.leak s).moveZone (.refl s) _
  · exact ⟨rfl, rfl⟩
  · exact ⟨rfl, rfl⟩

theorem clearLatch_configured (p : AnalogId) (s : State) : Configured s (clearLatch p s) :=
  ite_keeps ((Configured.setPoint s _ _).base (reportCondition_base _ _ _)) (.refl s)

theorem limitTaken_configured (p : AnalogId) (s : State) : Configured s (limitTaken p s) :=
  (Configured.setPoint s _ _).base (reportCondition_base _ _ _)

theorem clearCause_base (c : CauseId) (s : State) : (clearCause c s).base = s.base := by
  simp only [clearCause]
  split <;> simp

theorem rechargeTaken_base (s : State) : (rechargeTaken s).base = s.base := by
  simp only [rechargeTaken]
  split <;> simp

/-- R177: whatever a decoded request is, accepting it keeps the locked sections. -/
theorem perform_keepsLocked (i : Instr) (s : State) : Judged.keepsLocked (perform i s) s := by
  have hset {new : Settings} {effect : State → State} {ack : State → Ack} (h : ∀ u, Configured u (effect u)) :
      Judged.keepsLocked (takeSettings new effect ack s) s := keepsLocked_takeSettings h
  have hbase {new : Settings} {effect : State → State} {ack : State → Ack} (h : ∀ u, (effect u).base = u.base) :
      Judged.keepsLocked (takeSettings new effect ack s) s := keepsLocked_takeSettings fun u => .of_base (h u)
  cases i
  case getStatus | getReserve | getRanges | getQueue | getTransferRecord | getTest | getProfileInfo | holdAll | releaseAll =>
    exact keepsLocked_base rfl
  case getSense | getPsu | getBbu | getTargets | getSlots | getZones | getCauses =>
    simp only [perform, runGetSense, runGetPsu, runGetBbu, runGetTargets, runGetSlots, runGetZones, runGetCauses]
    exact keepsLocked_bulk _ _ _ _ _ _
  case setLimit => exact keepsLocked_withId fun p => hset (limitTaken_configured p)
  case setBudget =>
    unfold perform runSetBudget
    exact hbase (effect := fun t => recompute (recomputeCapacity t)) fun u => by simp
  case setChargeParams => exact keepsLocked_withId fun i => hbase fun u => by simp [chargeTaken]
  case setTargets => exact keepsLocked_demand fun _ => hbase fun u => rfl
  case setRanges =>
    unfold perform runSetRanges
    exact hbase (effect := fun t => publishReserve (recomputeBand t)) fun u => by simp
  case setHoldup =>
    unfold perform runSetHoldup
    exact hbase fun u => rfl
  case setRecharge =>
    unfold perform runSetRecharge
    exact hbase rechargeTaken_base
  case setSlot =>
    exact keepsLocked_withId fun n => keepsLocked_withId fun zone => keepsLocked_demand fun _ => keepsLocked_demand fun _ =>
      hbase (slotTaken_base n _ _)
  case setSequence =>
    unfold perform runSetSequence
    exact hbase seqEvent_base
  case setZone => exact keepsLocked_withId fun z => keepsLocked_demand fun _ => keepsLocked_demand fun _ => hset (zoneTaken_configured z _)
  case setLine =>
    unfold perform runSetLine
    exact hbase lineWatch_base
  case setMasks tag alert entries => exact setMasks_keepsLocked alert entries s
  case armTargets => exact keepsLocked_demand fun _ => keepsLocked_base (armTable_base s)
  case powerUp tag slots => exact slotList_keepsLocked powerUpSlot_base slots s
  case powerDown tag urgency slots => exact slotList_keepsLocked (powerDownSlot_base _) slots s
  case releaseSlot => exact keepsLocked_withId fun n => keepsLocked_demand fun _ => keepsLocked_base (releaseSlot_base n _ s)
  case clearZone =>
    refine keepsLocked_withId fun z => keepsLocked_demand fun _ => keepsLocked_ok (.of_configured ?_)
    have hslots (l : List SlotId) : Configured s (l.foldl (fun u n => requeueSlot n u) (clearZone z s)) :=
      (clearZone_configured z s).base (foldl_keeps State.base _ (fun u n => requeueSlot_base n u) _ _)
    exact ite_keeps (hslots _) ((hslots _).base (seqEvent_base _))
  case clearLatch => exact keepsLocked_withId fun p => keepsLocked_ok (.of_configured (clearLatch_configured p s))
  case clearCause =>
    exact keepsLocked_demand fun _ => keepsLocked_withId fun cs =>
      keepsLocked_base (foldl_keeps State.base _ (fun u c => clearCause_base c u) _ _)
  case setCharge => exact keepsLocked_withId fun i => keepsLocked_demand fun _ => keepsLocked_base (by simp [setCharge])
  case startTest => exact keepsLocked_withId fun i => keepsLocked_demand fun _ => keepsLocked_base (by simp [startTest])
  case abortTest => exact keepsLocked_demand fun _ => keepsLocked_base (by simp)
  case clearTransferRecord => exact keepsLocked_demand fun _ => keepsLocked_base rfl
  case storeProfile =>
    exact keepsLocked_demand fun _ => keepsLocked_ok ⟨fun hl => ⟨hl, rfl⟩, fun hl => ⟨hl, rfl⟩, fun hl => ⟨hl, rfl⟩⟩
  case lockProfile =>
    refine keepsLocked_withId fun k => keepsLocked_ok ?_
    fin_cases k
    · exact ⟨fun _ => ⟨rfl, rfl⟩, fun hl => ⟨hl, rfl⟩, fun hl => ⟨hl, rfl⟩⟩
    · exact ⟨fun hl => ⟨hl, rfl⟩, fun _ => ⟨rfl, rfl⟩, fun hl => ⟨hl, rfl⟩⟩
    · exact ⟨fun hl => ⟨hl, rfl⟩, fun hl => ⟨hl, rfl⟩, fun _ => ⟨rfl, rfl⟩⟩
  all_goals exact keepsLocked_error s _

theorem answer_keepsLocked {tag kind : Byte} {judged : Judged} {s : State} (h : judged.keepsLocked s) :
    KeepsLocked s (answer tag kind judged s) := by
  rcases answer_cases tag kind judged s with ⟨t, ack, hj, e⟩ | ⟨code, -, e⟩ <;> rw [e]
  · exact (h t ack hj).trans (.of_base (pushReply_base _ _))
  · exact .of_base (pushReply_base _ _)

theorem request_keepsLocked (c : Instr) (s : State) : KeepsLocked s (request c (perform c) s) := by
  unfold request
  repeat' split
  · exact .refl s
  · exact .refl s
  · exact answer_keepsLocked (perform_keepsLocked c s)
  · exact .of_base (offerFrame_base _ s)

theorem executeHead_keepsLocked (s : State) : KeepsLocked s (executeHead s) := by
  rcases executeHead_cases s with ⟨e, -⟩ | ⟨f, fs, -, -, e⟩ <;> rw [e]
  · exact .refl s
  · refine KeepsLocked.trans (.of_base (setLink_base s { s.link with queue := fs })) (answer_keepsLocked ?_)
    unfold judgeFrame
    split
    · exact keepsLocked_error _ _
    · exact keepsLocked_error _ _
    · exact perform_keepsLocked _ _

theorem receiveByte_keepsLocked (b : Byte) (s : State) : KeepsLocked s (receiveByte b s) := by
  simp only [receiveByte]
  split
  · exact .of_base (setLink_base s _)
  · exact KeepsLocked.trans (.of_base (by rw [offerFrame_base, setLink_base])) (executeHead_keepsLocked _)

/-! ### The sample set that completes a test (R56) -/

/-- A step that leaves settings and store alone, and a test that does not run as well. -/
structure Calm (s t : State) : Prop extends Configured s t where
  test : s.charge.test.running = false → t.charge.test = s.charge.test

namespace Calm
variable {s t u : State}

theorem refl (s : State) : Calm s s := ⟨.refl s, fun _ => rfl⟩

theorem trans (h : Calm s t) (k : Calm t u) : Calm s u :=
  ⟨h.toConfigured.trans k.toConfigured, fun hr => (k.test (by rw [h.test hr, hr])).trans (h.test hr)⟩

theorem of_test (h : t.base = s.base) (ht : t.charge.test = s.charge.test) : Calm s t := ⟨.of_base h, fun _ => ht⟩

/-- A test under way may end otherwise; one that does not run is not touched. -/
theorem of_idle (h : t.base = s.base) (ht : s.charge.test.running = false → t = s) : Calm s t :=
  ⟨.of_base h, fun hr => by rw [ht hr]⟩

theorem shed (s : State) : ShedInvariant (Calm s) where
  setBudget h := h.trans (of_test rfl rfl)
  setRecharge h := h.trans (of_test rfl rfl)
  setSeq h := h.trans (of_test rfl rfl)
  setLine h := h.trans (of_test rfl rfl)
  driveBbu h := h.trans (of_test (driveBbu_base _ _) (by rw [driveBbu_charge]))
  reportCondition _ h := h.trans (of_test (reportCondition_base _ _ _) (by rw [reportCondition_charge]))
  raise _ h := h.trans (of_test (raise_base _ _ _ _) (by rw [raise_charge]))

theorem report (h : Calm s t) (c : CauseId) (a : Bool) : Calm s (reportCondition c a t) :=
  h.trans (of_test (reportCondition_base _ _ _) (by rw [reportCondition_charge]))

theorem raise (h : Calm s t) (c : CauseId) (v : Int) (code : Byte) : Calm s (raise c v code t) :=
  h.trans (of_test (raise_base _ _ _ _) (by rw [raise_charge]))

theorem changeBbu (h : Calm s t) (i : BbuId) (st : BbuState) : Calm s (changeBbu i st t) :=
  h.trans (of_test (changeBbu_base i st t) (by rw [changeBbu_charge]))

theorem reserve (s : State) : ReserveInvariant (Calm s) where
  targetAction h := (shed s).targetAction h
  setMatched h _ := h.trans (of_test rfl rfl)
  reckon h := h.trans (of_test rfl rfl)
  raiseTarget h := h.raise _ _ _
  reportRange h := h.report _ _
  raiseRange h := h.raise _ _ _

theorem holdup (s : State) : HoldupInvariant (Calm s) where
  reserve := reserve s
  seqEvent h := (shed s).seqEvent h
  shedAll h := (shed s).foldl_shedSlot slotIds h
  regulatorOff h := (shed s).regulatorOff h
  leaveDeficit h := (shed s).leaveDeficit h
  tell h := (shed s).setRecharge ((shed s).setSeq h)
  setHoldup h := h.trans (of_test rfl rfl)
  reportHoldup h := h.report _ _
  raiseHoldup h := h.raise _ _ _
  changeBbu h := h.changeBbu _ _
  abortTestForAc h := h.trans (of_idle (abortTestForAc_base _) fun hr => if_neg (by rw [hr]; nofun))

theorem leak (s : State) : LeakInvariant (Calm s) where
  lineWatch h := (shed s).lineWatch h
  lockZone h := (shed s).lockZone h _
  shedZone h := (shed s).shedZone h _
  setZone h := h.trans ⟨⟨rfl, rfl⟩, fun _ => rfl⟩
  spendFree h := h.trans ⟨⟨rfl, rfl⟩, fun _ => rfl⟩
  reportZone h := h.report _ _
  raiseZone h := h.raise _ _ _
  reportRope h := h.report _ _
  raiseRope h := h.raise _ _ _

theorem setBbu (h : Calm s t) (i : BbuId) (b : Bbu) : Calm s (t.setBbu i b) := h.trans (of_test rfl rfl)

theorem failBbu (h : Calm s t) (i : BbuId) (st : BbuState) : Calm s (failBbu i st t) := by
  refine h.trans ?_
  unfold Machine.failBbu
  split
  · next htest =>
    refine ⟨.of_base (abortTest_base _ _ t), fun hr => ?_⟩
    rw [State.testing, hr] at htest
    cases htest
  · exact (refl t).changeBbu i st

theorem integrateBbu (i : BbuId) (s : State) : Calm s (integrateBbu i s).1 := by
  refine ⟨.of_base (integrateBbu_base i s), fun hr => ?_⟩
  have hno (u : State) (h : u.charge.test = s.charge.test) : u.testing i = false := by rw [State.testing, h, hr]; rfl
  unfold Machine.integrateBbu
  simp only
  split
  · rfl
  · rw [if_neg]
    · split <;> rfl
    · rw [hno]
      · nofun
      · split <;> rfl

theorem judgeCharging (i : BbuId) (s : State) : Calm s (judgeCharging i s) := by
  have hanchor : Calm s (anchorBbu i s) := by
    refine of_test (anchorBbu_base i s) ?_
    unfold anchorBbu
    rw [raise_charge, moveBbu_charge]
    rfl
  exact ite_keeps (ite_keeps (ite_keeps hanchor ((refl s).setBbu i _)) ((refl s).setBbu i _))
    (ite_keeps ((refl s).changeBbu i _) ((refl s).setBbu i _))

end Calm

/-- The two outcomes of a sample set that is under way, as the GENERAL section sees them: untouched, or rewritten by the test that
has just completed. -/
structure Tested (s t : State) : Prop where
  locks : t.store.lockSafety = s.store.lockSafety ∧ t.store.lockOrder = s.store.lockOrder ∧ t.store.lockGeneral = s.store.lockGeneral
  safety : t.settings.safety = s.settings.safety
  order : t.settings.order = s.settings.order
  outcome :
    (t.settings.general = s.settings.general ∧ (s.charge.test.running = false → t.charge.test.running = false)) ∨
      (s.charge.test.running = true ∧ t.charge.test.running = false ∧ t.charge.test.result = .complete)

theorem Tested.calm {s t u : State} (h : Tested s t) (k : Calm t u) : Tested s u := by
  obtain ⟨hlocks, hsafety, horder, houtcome⟩ := h
  refine ⟨by rw [k.store]; exact hlocks, by rw [k.settings]; exact hsafety, by rw [k.settings]; exact horder, ?_⟩
  rcases houtcome with ⟨hgeneral, hidle⟩ | ⟨hran, hidle, hdone⟩
  · exact .inl ⟨by rw [k.settings]; exact hgeneral, fun hr => by rw [k.test (hidle hr)]; exact hidle hr⟩
  · exact .inr ⟨hran, by rw [k.test hidle]; exact hidle, by rw [k.test hidle]; exact hdone⟩

theorem takeTest_safety (s : State) (i : BbuId) : (takeTest i s).settings.safety = s.settings.safety := by
  have hset : (takeTest i s).settings =
      { s.settings with bbus := s.settings.bbus.set i (s.settings.bbus[i].tested s.charge.test.d) } := rfl
  have hbbus : (bbuIds.map fun j => ((s.settings.bbus.set i (s.settings.bbus[i].tested s.charge.test.d))[j].vCutoff,
      (s.settings.bbus.set i (s.settings.bbus[i].tested s.charge.test.d))[j].tCrit,
      (s.settings.bbus.set i (s.settings.bbus[i].tested s.charge.test.d))[j].qFloor)) =
      bbuIds.map fun j => (s.settings.bbus[j].vCutoff, s.settings.bbus[j].tCrit, s.settings.bbus[j].qFloor) := by
    refine List.map_congr_left fun j _ => ?_
    rw [get_set]
    split
    · next e => rw [← e]; rfl
    · rfl
  rw [hset]
  exact congrArg (fun l => { s.settings.safety with bbus := l }) hbbus

/-- R56: the completion rewrites Qfull and the margin, which are GENERAL. -/
theorem Tested.completeTest {s t : State} {i : BbuId} (h : Tested s t) (hrun : t.charge.test.running = true) :
    Tested s (completeTest i t) := by
  obtain ⟨hlocks, hsafety, horder, houtcome⟩ := h
  have hran : s.charge.test.running = true := by
    rcases houtcome with ⟨-, hidle⟩ | ⟨hran, -⟩
    · by_contra hno
      rw [Bool.not_eq_true] at hno
      rw [hidle hno] at hrun
      cases hrun
    · exact hran
  have hcompleted : Tested s ((takeTest i t).setCharge { (takeTest i t).charge with
      test := { t.charge.test with running := false, timer := none, result := .complete } }) :=
    ⟨hlocks, (takeTest_safety t i).trans hsafety, horder, .inr ⟨hran, rfl, rfl⟩⟩
  rw [completeTest_eq]
  exact hcompleted.calm (((Calm.refl _).raise _ _ _).changeBbu _ _)

theorem Tested.judgeBbu {s t : State} (h : Tested s t) (i : BbuId) : Tested s (judgeBbu i t) := by
  have hchange (st : BbuState) : Tested s (changeBbu i st t) := h.calm ((Calm.refl t).changeBbu i st)
  unfold Machine.judgeBbu
  simp only
  refine ite_keeps h (ite_keeps (ite_keeps (hchange _) h) (ite_keeps (h.calm ((Calm.refl t).failBbu i _)) ?_))
  split
  · exact ite_keeps (hchange _) (ite_keeps (hchange _) h)
  · exact ite_keeps (hchange _) (h.calm (Calm.judgeCharging i t))
  · exact ite_keeps (hchange _) (ite_keeps h (hchange _))
  · split
    · next hdone =>
      rw [Bool.and_eq_true, State.testing, Bool.and_eq_true] at hdone
      exact h.completeTest hdone.1.1
    · exact h
  · exact ite_keeps (hchange _) h
  · exact h
  · exact h

theorem Tested.sampleBbu {s t : State} (h : Tested s t) (fresh : Bool) (i : BbuId) : Tested s (sampleBbu fresh i t) := by
  have hrefresh : Tested s (refreshBbu i t) := h.calm ((Calm.refl t).setBbu i _)
  have hclass : Tested s (driveBbu i (changeBbu i ((refreshBbu i t).classOf i) (refreshBbu i t))) :=
    hrefresh.calm ((Calm.shed _).driveBbu ((Calm.refl _).changeBbu i _))
  have hstart (b : Bool) :
      Tested s (if b then driveBbu i (changeBbu i ((refreshBbu i t).classOf i) (refreshBbu i t)) else refreshBbu i t) :=
    ite_keeps hclass hrefresh
  have hjudge := ((hstart fresh).calm (Calm.integrateBbu i _)).judgeBbu i
  exact ite_keeps (hjudge.calm (((Calm.refl _).report _ _).raise _ _ _)) hjudge

/-! ### What a scan leaves alone (R1) -/

/-- A scan moves the sense block, and tells. -/
def Scans (s t : State) : Prop := Tells { s with sense := t.sense } t

theorem Scans.trans {s t u : State} (h : Scans s t) (k : Scans t u) : Scans s u := by
  have htold : Tells { s with sense := u.sense } { t with sense := u.sense } := by
    unfold Scans Tells at h
    rw [h]
    rfl
  exact htold.trans k

theorem Scans.point {s t u : State} {q : PointId} {x : Point} (h : Scans s t) (hu : Tells (t.setPoint q x) u) : Scans s u := by
  refine h.trans ?_
  have hsense : u.sense = (t.setPoint q x).sense := by rw [Tells] at hu; rw [hu]
  show Tells { t with sense := u.sense } u
  rw [hsense]
  exact hu

theorem takePoint_tells (q : PointId) (x : Point) (active : Bool) (told : Option (Int × Byte)) (s : State) :
    Tells (s.setPoint q x) (takePoint q x active told s) := by
  have hreport : Tells (s.setPoint q x) (reportCondition (causePoint q) active (s.setPoint q x)) := (Tells.refl _).report _ _
  cases told with
  | none => exact hreport
  | some e => exact hreport.raise _ _ _

/-- R1: a scan moves the sense block, the causes and the line of the notice, and nothing else. -/
theorem scanSet_scans (codes : Vector (BitVec 12) 29) (s : State) : Scans s (scanSet codes s) := by
  have hanalogs : Scans s (scanAnalogs codes s) :=
    List.foldlRecOn (motive := Scans s) analogIds _ (Tells.refl s) fun u hu p _ => by
      rw [scanAnalog_eq]
      exact hu.point (takePoint_tells _ _ _ _ u)
  have hropes : Scans s (scanRopes codes (scanAnalogs codes s)) :=
    List.foldlRecOn (motive := Scans s) zoneIds _ hanalogs fun u hu z _ => by
      rw [scanRope_eq]
      exact hu.point (takePoint_tells _ _ _ _ u)
  exact hropes.trans (Tells.refl _)

theorem Calm.scanSet (codes : Vector (BitVec 12) 29) (s : State) : Calm s (scanSet codes s) := by
  have h := scanSet_scans codes s
  unfold Scans Tells at h
  refine ⟨⟨?_, ?_⟩, fun _ => ?_⟩ <;> rw [h]

theorem Calm.reclassifyPsu (k : PsuId) (s : State) : Calm s (reclassifyPsu k s) := by
  have htold (x : Psu) (c : CauseId) (a : Bool) (v : Int) (code : Byte) :
      Calm s (Machine.raise c v code (reportCondition c a (s.setPsu k x))) :=
    ((of_test (setBudget_base s _) rfl : Calm s (s.setPsu k x)).report c a).raise c v code
  unfold Machine.reclassifyPsu
  exact ite_keeps (refl s) (htold _ _ _ _ _)

theorem Calm.sampleBudget (s : State) : Calm s (sampleBudget s) := by
  have hfold := List.foldlRecOn (motive := Calm s) psuIds (fun s k => Machine.reclassifyPsu k s) (refl s)
    fun u hu k _ => hu.trans (reclassifyPsu k u)
  have hcapacity (u : State) (h : Calm s u) : Calm s (recomputeCapacity u) :=
    h.trans (of_test (recomputeCapacity_base u) rfl)
  exact (shed s).recompute (hcapacity _ hfold)

theorem Tested.sampleCharge {s t : State} (h : Tested s t) (fresh : Bool) : Tested s (sampleCharge fresh t) := by
  have hbbus : Tested s (bbuIds.foldl (fun s i => Machine.sampleBbu fresh i s) t) :=
    List.foldlRecOn (motive := Tested s) bbuIds _ h fun v hv i _ => hv.sampleBbu fresh i
  exact hbbus.calm ((Calm.reserve _).recomputeReserve (.refl _))

/-- R56, R177: a sample set rewrites GENERAL by the completion of a test alone. -/
theorem sampleSet_tested (codes : Vector (BitVec 12) 29) (s : State) : Tested s (sampleSet codes s) := by
  have hpass : Tested s (passInterval s) := ⟨⟨rfl, rfl, rfl⟩, rfl, rfl, .inl ⟨rfl, fun hr => hr⟩⟩
  have hscan : Tested s (scanSet codes (passInterval s)) := hpass.calm (Calm.scanSet codes _)
  have hrest (u : State) (h : Tested s u) (fresh : Bool) :
      Tested s (sampleRegulator (sampleLeak (sampleHoldup (sampleCharge fresh (sampleBudget u))))) := by
    have hcharge := (h.calm (Calm.sampleBudget u)).sampleCharge fresh
    have hholdup := hcharge.calm ((Calm.holdup _).sampleHoldup (.refl _))
    have hleak := hholdup.calm ((Calm.leak _).sampleLeak (.refl _))
    exact hleak.calm ((Calm.shed _).sampleRegulator (.refl _))
  unfold sampleSet
  exact hrest _ hscan _

/-! ### Every command -/

theorem Configured.whenRunning {f : State → State} {s : State} (h : Configured s (f s)) : Configured s (whenRunning f s) := by
  unfold Machine.whenRunning
  split
  · exact h
  · exact refl s
  · exact refl s

theorem Configured.whenOut {f : State → State} {s : State} (h : Configured s (f s)) : Configured s (whenOut f s) := by
  unfold Machine.whenOut
  split
  · exact refl s
  · exact h
  · exact h

theorem Configured.onExpiry {timer : Timer} {f : State → State} {s : State} (h : (f s).base = s.base) :
    Configured s (Machine.whenRunning (Machine.onExpiry timer f) s) := by
  refine Configured.whenRunning ?_
  unfold Machine.onExpiry
  split
  · exact refl s
  · exact .of_base h

theorem KeepsLocked.whenOut {f : State → State} {s : State} (h : KeepsLocked s (f s)) : KeepsLocked s (whenOut f s) := by
  unfold Machine.whenOut
  split
  · exact refl s
  · exact h
  · exact h

/-- A step that moves the store but neither a lock nor a setting. -/
theorem KeepsLocked.of_locks {s t : State} (hset : t.settings = s.settings)
    (hlocks : t.store.lockSafety = s.store.lockSafety ∧ t.store.lockOrder = s.store.lockOrder ∧ t.store.lockGeneral = s.store.lockGeneral) :
    KeepsLocked s t := by
  obtain ⟨hsafety, horder, hgeneral⟩ := hlocks
  refine ⟨fun hl => ⟨hsafety.trans hl, by rw [hset]⟩, fun hl => ⟨horder.trans hl, by rw [hset]⟩, fun hl => ⟨hgeneral.trans hl, by rw [hset]⟩⟩

theorem assertReset_keepsLocked (cold : Bool) (s : State) : KeepsLocked s (assertReset cold s) := by
  rw [assertReset_eq]
  refine KeepsLocked.of_locks rfl ?_
  show (abandonWrite s).store.lockSafety = _ ∧ (abandonWrite s).store.lockOrder = _ ∧ (abandonWrite s).store.lockGeneral = _
  by_cases h : s.store.writing = none
  · rw [abandonWrite_none h]
    exact ⟨rfl, rfl, rfl⟩
  · rw [abandonWrite_some h]
    exact ⟨rfl, rfl, rfl⟩

theorem pinResetAssert_keepsLocked (s : State) : KeepsLocked s (pinResetAssert s) := by
  unfold pinResetAssert
  split
  · exact .refl s
  · exact assertReset_keepsLocked _ s
  · exact assertReset_keepsLocked _ s

theorem pinResetRelease_configured (straps : BitVec 2) (s : State) : Configured s (pinResetRelease straps s) := by
  unfold pinResetRelease
  split
  · exact ⟨rfl, rfl⟩
  · exact .refl s
  · exact .refl s

theorem completeWrite_keepsLocked (verified : Bool) (w : Writing) (s : State) : KeepsLocked s (completeWrite verified w s) := by
  have hwritten : KeepsLocked s (s.written verified w) := by
    cases verified <;> exact .of_locks rfl ⟨rfl, rfl, rfl⟩
  rw [completeWrite_eq]
  exact hwritten.trans (.of_base (raise_base _ _ _ _))

theorem endFrame_keepsLocked (s : State) : KeepsLocked s (endFrame s) := by
  unfold endFrame
  split
  · exact .refl s
  · exact KeepsLocked.trans (.of_base (by rw [serveTransmitter_base, setLink_base])) (executeHead_keepsLocked _)

/-- The input changes move the pins and what the part makes of them. -/
theorem inputs_configured {p : Prop} [Decidable p] {f : State → State} (h : ∀ u, (f u).base = u.base) (x : Pins) (s : State) :
    Configured s (if p then s else whenRunning f (s.setPins x)) := by
  have hpins : Configured s (s.setPins x) := ⟨rfl, rfl⟩
  exact ite_keeps (.refl s) (hpins.trans (.whenRunning (.of_base (h _))))

theorem endFrame23_base (s : State) : (endFrame23 s).base = s.base := by
  unfold endFrame23
  split
  · unfold judgeMode
    split <;> rfl
  all_goals rfl

theorem exec_sampleSet (codes : Vector (BitVec 12) 29) (s : State) :
    exec (.sampleSet codes) s = .next (whenRunning (sampleSet codes) s) := by
  unfold exec execSampleSet
  with_reducible rfl

theorem exec_sampleSet_running (codes : Vector (BitVec 12) 29) {s : State} (hrun : s.phase = .running) :
    exec (.sampleSet codes) s = .next (sampleSet codes s) := by
  rw [exec_sampleSet, whenRunning_of_running hrun]

theorem exec_sampleSet_not_running (codes : Vector (BitVec 12) 29) {s : State} (hrun : s.phase ≠ .running) :
    exec (.sampleSet codes) s = .next s := by
  rw [exec_sampleSet, whenRunning_of_not_running hrun]

/-- R177, for every command but those that load the profile and the sample set. -/
theorem exec_keepsLocked {c : Instr} {s t : State} (h : exec c s = .next t) (hpower : ∀ straps, c ≠ .powerOn straps)
    (hload : c ≠ .profileLoadComplete) (hset : ∀ codes, c ≠ .sampleSet codes) : KeepsLocked s t := by
  have hnext {u : State} (hu : KeepsLocked s u) (e : exec c s = .next u) : KeepsLocked s t := by
    rw [e] at h
    cases h
    exact hu
  have hrequest (hc : (encodeRequest c).isSome = true) : KeepsLocked s t :=
    hnext (request_keepsLocked c s) (exec_of_request hc s)
  have hconf {u : State} (hu : Configured s u) (e : exec c s = .next u) : KeepsLocked s t := hnext (.of_configured hu) e
  cases c
  case powerOn straps => exact absurd rfl (hpower straps)
  case profileLoadComplete => exact absurd rfl hload
  case sampleSet codes => exact absurd rfl (hset codes)
  case pinResetAssert => exact hnext (pinResetAssert_keepsLocked s) rfl
  case pinResetRelease straps => exact hconf (pinResetRelease_configured straps s) rfl
  case psuInputChange k pin level => exact hconf (inputs_configured (psuChange_base k pin) _ s) rfl
  case bbuPresentChange i level => exact hconf (inputs_configured (bbuChange_base i (presentChange_base i level)) _ s) rfl
  case bbuFaultInputChange i level => exact hconf (inputs_configured (bbuChange_base i (faultChange_base i level)) _ s) rfl
  case pgChange n level => exact hconf (inputs_configured (pgChange_base n level) _ s) rfl
  case headroomPublication => exact hconf (Configured.whenRunning (headroomPublication_configured s)) rfl
  case deficitTimerExpiry => exact hconf (.onExpiry (by unfold expireDeficit; split <;> simp)) rfl
  case deficitSelection => exact hconf (Configured.whenRunning (.of_base (selectDeficit_base s))) rfl
  case deficitAnswer => exact hconf (Configured.whenRunning (.of_base (takeAnswer_base s))) rfl
  case reservePublication => exact hconf (Configured.whenRunning (.of_base (reservePublication_base s))) rfl
  case headReport => exact hconf (Configured.whenRunning (.of_base (headReport_base s))) rfl
  case testTimerExpiry => exact hconf (.onExpiry (by unfold expireTest; split <;> simp)) rfl
  case settleTimerExpiry => exact hconf (.onExpiry (by unfold expireSettle; split <;> simp)) rfl
  case bridgingTimerExpiry => exact hconf (.onExpiry (by simp [expireBridging])) rfl
  case collapseTimerExpiry => exact hconf (.onExpiry (by unfold expireCollapse; split <;> simp)) rfl
  case stepTimerExpiry =>
    refine hconf (.onExpiry ?_) rfl
    unfold expireStep
    split
    · exact stepRegulator_base s
    · rfl
  case floorTimerExpiry => exact hconf (.onExpiry (by unfold expireFloor; split <;> simp)) rfl
  case staggerTimerExpiry => exact hconf (.onExpiry (by simp [expireStagger])) rfl
  case soakTimerExpiry n =>
    refine hconf (.onExpiry ?_) rfl
    unfold expireSoak
    repeat' split
    all_goals simp
  case noticeWindowExpiry n => exact hconf (.onExpiry (by unfold expireWindow; split <;> simp)) rfl
  case holdLimitExpiry n => exact hconf (.onExpiry (by unfold expireHold; split <;> simp)) rfl
  case drainTimerExpiry n => exact hconf (.onExpiry (by unfold expireDrain; split <;> simp)) rfl
  case cycleStart b => exact hconf (Configured.whenRunning (.of_base (by unfold startCycle; split <;> rfl))) rfl
  case surveyTimerExpiry => exact hconf (.onExpiry (setLine_base s _)) rfl
  case slotFrame23End => exact hconf (Configured.whenRunning (.of_base (endFrame23_base s))) rfl
  case cycleEnd samples =>
    refine hconf (Configured.whenRunning ?_) rfl
    unfold cycleEnd
    split
    · exact endCycle_configured samples s
    all_goals exact .refl s
  case frameReceived bytes =>
    refine hnext (KeepsLocked.whenOut ?_) rfl
    exact List.foldlRecOn (motive := KeepsLocked s) bytes _ (.refl s) fun u hu b _ => hu.trans (receiveByte_keepsLocked b u)
  case rxGapTimeout => exact hconf (Configured.whenOut (.of_base (setLink_base s _))) rfl
  case frameAbandoned => exact hconf (Configured.whenOut (.of_base (setLink_base s _))) rfl
  case txFrameEnd => exact hnext (KeepsLocked.whenOut (endFrame_keepsLocked s)) rfl
  case storeWriteComplete verified =>
    cases hw : s.store.writing with
    | none => exact hnext (.refl s) (exec_storeWriteComplete_none hw verified)
    | some w => exact hnext (completeWrite_keepsLocked verified w s) (exec_storeWriteComplete_some hw verified)
  all_goals exact hrequest rfl

end Sys2Proof.Machine

open Sys2Proof Sys2Proof.Machine

/-- Settles O25: the requests by their admission (R177), the events because they leave settings and locks alone, and the sample set
by the one completion that rewrites GENERAL (R56). -/
theorem lockedSectionsHold : Obligations.LockedSectionsHold := by
  intro c s t h hpower hload
  by_cases hset : ∃ codes, c = .sampleSet codes
  · obtain ⟨codes, rfl⟩ := hset
    by_cases hrun : s.phase = .running
    · rw [exec_sampleSet_running codes hrun] at h
      obtain rfl := Host.Outcome.next.inj h
      obtain ⟨⟨hlsafety, hlorder, hlgeneral⟩, hsafety, horder, houtcome⟩ := sampleSet_tested codes s
      refine ⟨fun hl => ⟨hlsafety.trans hl, hsafety⟩, fun hl => ⟨hlorder.trans hl, horder⟩, fun hl => ⟨hlgeneral.trans hl, fun hno => ?_⟩⟩
      rcases houtcome with ⟨hgeneral, -⟩ | ⟨hran, hidle, hdone⟩
      · exact hgeneral
      · rcases hno with hno | hno | hno | hno
        · exact absurd rfl (hno codes)
        · exact absurd (hran.symm.trans hno) nofun
        · exact absurd (hidle.symm.trans hno) nofun
        · exact absurd hdone hno
    · rw [exec_sampleSet_not_running codes hrun] at h
      obtain rfl := Host.Outcome.next.inj h
      exact ⟨fun hl => ⟨hl, rfl⟩, fun hl => ⟨hl, rfl⟩, fun hl => ⟨hl, fun _ => rfl⟩⟩
  · obtain ⟨hsafety, horder, hgeneral⟩ := exec_keepsLocked h hpower hload fun codes e => hset ⟨codes, e⟩
    exact ⟨hsafety, horder, fun hl => (hgeneral hl).imp id fun e _ => e⟩
end

section
/-! PROOFS. What the reserve recomputes, the sheds they hand out and the moves of the BBUs leave of the other blocks; the tail of
every transition of the holdup controller is made of these. -/

namespace Sys2Proof.Machine

/-! ### The regulator's steps as steps on the regulator -/

namespace RegulatorStep
variable {s u : State}

theorem recomputeIfSet (h : RegulatorStep s u) (before : Nat) : RegulatorStep s (recomputeIfSet before u) := (h.recomputes before).1

theorem regulatorOff (s : State) : RegulatorStep s (regulatorOff s) := by
  rw [regulatorOff_eq]
  exact (((refl s).sets _ rfl).report _ _).recomputeIfSet _

theorem enterThermal (s : State) : RegulatorStep s (enterThermal s) := by
  rw [enterThermal_eq]
  exact ((((refl s).sets _ rfl).report _ _).raise _ _ _).recomputeIfSet _

theorem startRegulator (s : State) : RegulatorStep s (startRegulator s) :=
  ite_keeps (regulatorOff s) (ite_keeps (pauseRegulator_spec _ s).1 (ite_keeps (enterThermal s) (enterCruise_spec _ s).1))

end RegulatorStep

/-! ### The frame of a reserve recompute -/

/-- What the steps of the BBUs, the reserve and the sheds leave: the holdup controller but for the matched indices of an open record
(R76), what the sequencer and the regulator have been told of it, the test, and the settings. -/
structure Swell (s t : State) : Prop where
  base : t.base = s.base
  holdup : t.holdup = { s.holdup with record := { s.holdup.record with matched := t.holdup.record.matched } }
  closed : s.holdup.record.isOpen = false → t.holdup = s.holdup
  charge :
    t.charge =
      { s.charge with
        bbus := t.charge.bbus, r := t.charge.r, tEst := t.charge.tEst, band := t.charge.band, p := t.charge.p
        armed := t.charge.armed, halted := t.charge.halted, pubs := t.charge.pubs }
  budget :
    t.budget =
      { s.budget with
        sigma := t.budget.sigma, pChg := t.budget.pChg, h := t.budget.h, hp := t.budget.hp, deficit := t.budget.deficit
        timer := t.budget.timer, pubs := t.budget.pubs }
  recharge :
    t.recharge =
      { s.recharge with
        state := t.recharge.state, iSet := t.recharge.iSet, shares := t.recharge.shares, step := t.recharge.step
        floorTimer := t.recharge.floorTimer, yielded := t.recharge.yielded }
  seq :
    t.seq =
      { s.seq with
        slots := t.seq.slots, queue := t.seq.queue, stagger := t.seq.stagger, lastReport := t.seq.lastReport
        reports := t.seq.reports, headSeen := t.seq.headSeen, targetInhibit := t.seq.targetInhibit, onlineSeen := t.seq.onlineSeen }
  line : t.line = { s.line with startDue := t.line.startDue, survey := t.line.survey }
  link : t.link = { s.link with replies := t.link.replies, tx := t.link.tx }

namespace Swell
variable {s t u : State}

theorem refl (s : State) : Swell s s := ⟨rfl, rfl, fun _ => rfl, rfl, rfl, rfl, rfl, rfl, rfl⟩

theorem trans (h : Swell s t) (k : Swell t u) : Swell s u where
  base := k.base.trans h.base
  holdup := by
    have hk := k.holdup
    rw [h.holdup] at hk
    exact hk
  closed hc := by
    have hclosed := h.closed hc
    exact (k.closed (by rw [hclosed]; exact hc)).trans hclosed
  charge := by
    have hk := k.charge
    rw [h.charge] at hk
    exact hk
  budget := by
    have hk := k.budget
    rw [h.budget] at hk
    exact hk
  recharge := by
    have hk := k.recharge
    rw [h.recharge] at hk
    exact hk
  seq := by
    have hk := k.seq
    rw [h.seq] at hk
    exact hk
  line := by
    have hk := k.line
    rw [h.line] at hk
    exact hk
  link := by
    have hk := k.link
    rw [h.link] at hk
    exact hk

theorem of_ripple (h : Ripple s t) (k : Heard s t) : Swell s t where
  base := h.base
  holdup := by rw [h.holdup]
  closed _ := h.holdup
  charge := by rw [h.charge]
  budget := h.budget
  recharge := h.recharge
  seq := by
    unfold Heard at k
    rw [k]
  line := h.line
  link := h.link

theorem of_regulator (h : RegulatorStep s t) : Swell s t := of_ripple h.ripple (.of_seq h.seq)

theorem of_tells (h : Tells s t) : Swell s t := by
  unfold Tells at h
  rw [h]
  exact ⟨rfl, rfl, fun _ => rfl, rfl, rfl, rfl, rfl, rfl, rfl⟩

theorem settings (h : Swell s t) : t.settings = s.settings := base_settings h.base
theorem sense (h : Swell s t) : t.sense = s.sense := base_sense h.base
theorem busV (h : Swell s t) : t.busV = s.busV := by rw [State.busV, State.pubValue, h.sense]; rfl
theorem state (h : Swell s t) : t.holdup.state = s.holdup.state := by rw [h.holdup]
theorem online (h : Swell s t) : t.online = s.online := by rw [State.online, h.state]; rfl
theorem lastHoldup (h : Swell s t) : t.seq.lastHoldup = s.seq.lastHoldup := by rw [h.seq]
theorem rechargeLastHoldup (h : Swell s t) : t.recharge.lastHoldup = s.recharge.lastHoldup := by rw [h.recharge]

/-- The holdup controller of a part whose record is closed. -/
theorem holdup_closed (h : Swell s t) {x : Holdup} (hs : s.holdup = x) (hx : x.record.isOpen = false) : t.holdup = x := by
  subst hs
  exact h.closed hx

/-! ### The steps -/

theorem setReserve (h : Swell s t) {x : Charge}
    (hx : x = { t.charge with
      bbus := x.bbus, r := x.r, tEst := x.tEst, band := x.band, p := x.p, armed := x.armed, halted := x.halted, pubs := x.pubs }) :
    Swell s (t.setCharge x) := h.trans ⟨rfl, rfl, fun _ => rfl, hx, rfl, rfl, rfl, rfl, rfl⟩

theorem report (h : Swell s t) (c : CauseId) (a : Bool) : Swell s (reportCondition c a t) :=
  h.trans (of_tells ((Tells.refl t).report c a))

theorem raise (h : Swell s t) (c : CauseId) (v : Int) (code : Byte) : Swell s (raise c v code t) :=
  h.trans (of_tells ((Tells.refl t).raise c v code))

theorem recompute (h : Swell s t) : Swell s (recompute t) := h.trans (of_ripple (Ripple.refl t).recompute (Heard.refl t).recompute)

theorem seqEvent (h : Swell s t) : Swell s (seqEvent t) := h.trans (of_ripple (Ripple.refl t).seqEvent (Heard.refl t).seqEvent)

theorem shedClass (h : Swell s t) (reason : ShedReason) (k : Nat) (urgency : Urgency) : Swell s (shedClass reason k urgency t) :=
  h.trans (of_ripple (shedClass_ripple _ _ _ t) (shedClass_heard _ _ _ t))

theorem shedAll (h : Swell s t) : Swell s (shedAll t) := h.trans (of_ripple (Ripple.refl t).shedAll ((Heard.refl t).foldl_shedSlot _))

theorem setTargetInhibit (h : Swell s t) (b : Bool) : Swell s (setTargetInhibit b t) := by
  have hset : Swell t (t.setSeq { t.seq with targetInhibit := b }) := ⟨rfl, rfl, fun _ => rfl, rfl, rfl, rfl, rfl, rfl, rfl⟩
  exact h.trans (ite_keeps (refl t) hset.seqEvent)

theorem targetAction (h : Swell s t) (e : TargetEntry) : Swell s (targetAction e t) := by
  unfold Machine.targetAction
  cases e.action with
  | noticeOnly => exact h
  | shed => exact h.shedClass _ _ _
  | inhibitPowerup => exact h.setTargetInhibit true
  | releasePowerup => exact h.setTargetInhibit false

theorem listMatch (h : Swell s t) (p : Nat) : Swell s (listMatch p t) := by
  refine h.trans ?_
  unfold Machine.listMatch
  simp only [Bool.and_eq_true]
  split
  · next hopen => exact ⟨rfl, rfl, fun hc => absurd (hopen.1.symm.trans hc) nofun, rfl, rfl, rfl, rfl, rfl, rfl⟩
  · exact refl t

theorem matchEntry (h : Swell s t) (e : TargetEntry) : Swell s (matchEntry e t) := by
  have hraised := ((h.targetAction e).listMatch t.charge.p).raise (causeTarget ⟨t.charge.p % 16, by omega⟩)
    (Machine.listMatch t.charge.p (Machine.targetAction e t)).charge.r codeMatched
  rw [matchEntry_eq]
  exact hraised.setReserve rfl

theorem compareFrom (h : Swell s t) (fuel : Nat) : Swell s (compareFrom fuel t) := by
  induction fuel generalizing t with
  | zero => exact h
  | succ fuel ih =>
    unfold Machine.compareFrom
    split
    · exact h
    · exact ite_keeps (ih (h.matchEntry _)) h

theorem compareTargets (h : Swell s t) : Swell s (compareTargets t) := ite_keeps (h.compareFrom _) h

theorem armTable (h : Swell s t) : Swell s (armTable t) := (h.setReserve rfl).compareTargets

theorem armOnBridge (h : Swell s t) : Swell s (armOnBridge t) := ite_keeps h.armTable h

theorem recomputeReserve (h : Swell s t) : Swell s (recomputeReserve t) := by
  have hreckon : Swell s (reckon t) := (h.setReserve (x := { t.charge with
      r := t.reserveSum, tEst := projectedTime t.reserveSum t.sense.iAvg, band := t.bandAt (projectedTime t.reserveSum t.sense.iAvg) })
    rfl).trans (of_tells (recomputeBand_tells _))
  rw [recomputeReserve_eq]
  exact hreckon.compareTargets.setReserve (publishReserve_charge _)

theorem disarmTable (h : Swell s t) : Swell s (disarmTable t) := h.setReserve rfl

theorem moveBbu (h : Swell s t) (i : BbuId) (st : BbuState) : Swell s (moveBbu i st t) := by
  have hset : Swell s (t.setBbu i { t.charge.bbus[i] with state := st, taper := 0 }) := h.setReserve rfl
  rw [moveBbu_eq]
  exact (hset.trans (of_ripple ((Ripple.refl _).driveBbu i) (.of_seq (driveBbu_seq i _)))).report _ _

theorem changeBbu (h : Swell s t) (i : BbuId) (st : BbuState) : Swell s (changeBbu i st t) := ite_keeps h ((h.moveBbu i st).raise _ _ _)

theorem shiftBbus (h : Swell s t) (f : BbuState → Bool) (st : BbuState) : Swell s (shiftBbus f st t) :=
  List.foldlRecOn (motive := Swell s) bbuIds _ h fun _ hu i _ => ite_keeps (hu.changeBbu i st).recomputeReserve hu

end Swell

/-! ### The states of the BBUs through a holdup transition (R40, R66) -/

theorem bbuIds_nodup : bbuIds.Nodup := by decide

theorem shiftBbu_state (f : BbuState → Bool) (st : BbuState) (i j : BbuId) (s : State) :
    (shiftBbu f st i s).charge.bbus[j].state =
      if i = j ∧ f s.charge.bbus[i].state = true then st else s.charge.bbus[j].state := by
  unfold shiftBbu
  by_cases hf : f s.charge.bbus[i].state = true
  · rw [if_pos hf, recomputeReserve_bbu_state, changeBbu_state]
    simp only [hf, and_true]
  · rw [if_neg hf, if_neg fun h => hf h.2]

theorem foldl_shiftBbu_state (f : BbuState → Bool) (st : BbuState) (j : BbuId) :
    ∀ (l : List BbuId) (s : State), l.Nodup →
      (l.foldl (fun s i => shiftBbu f st i s) s).charge.bbus[j].state =
        if j ∈ l ∧ f s.charge.bbus[j].state = true then st else s.charge.bbus[j].state
  | [], s, _ => by simp
  | i :: l, s, hl => by
    obtain ⟨hi, hl⟩ := List.nodup_cons.1 hl
    rw [List.foldl_cons, foldl_shiftBbu_state f st j l _ hl, shiftBbu_state]
    by_cases hij : i = j
    · subst hij
      simp [hi]
    · have hji : j ≠ i := fun e => hij e.symm
      simp [hij, hji]

/-- R40, R66: every BBU in one of the states takes the new one. -/
theorem shiftBbus_state (f : BbuState → Bool) (st : BbuState) (j : BbuId) (s : State) :
    (shiftBbus f st s).charge.bbus[j].state = if f s.charge.bbus[j].state = true then st else s.charge.bbus[j].state := by
  unfold shiftBbus
  rw [foldl_shiftBbu_state f st j bbuIds s bbuIds_nodup]
  simp [mem_bbuIds]

theorem RegulatorStep.bbu_state {s t : State} (h : RegulatorStep s t) (i : BbuId) : t.charge.bbus[i].state = s.charge.bbus[i].state := by
  rw [h.ripple.bbus i]

theorem Ripple.bbu_state {s t : State} (h : Ripple s t) (i : BbuId) : t.charge.bbus[i].state = s.charge.bbus[i].state := by
  rw [h.bbus i]

/-! ### A disarmed table compares nothing (R49) -/

theorem reckon_tells (s : State) :
    Tells (s.setCharge { s.charge with
      r := s.reserveSum, tEst := projectedTime s.reserveSum s.sense.iAvg, band := s.bandAt (projectedTime s.reserveSum s.sense.iAvg) })
      (reckon s) := recomputeBand_tells _

theorem reckon_seq (s : State) : (reckon s).seq = s.seq := by
  have htells := reckon_tells s
  unfold Tells at htells
  rw [htells]
  rfl

theorem reckon_online (s : State) : (reckon s).online = s.online := by
  have htells := reckon_tells s
  unfold Tells at htells
  rw [htells]
  rfl

theorem recomputeReserve_disarmed {s : State} (h : s.charge.armed = false) :
    (recomputeReserve s).seq = s.seq ∧ (recomputeReserve s).charge.armed = false ∧ (recomputeReserve s).charge.p = s.charge.p := by
  have hreckon : (reckon s).charge.armed = false := by rw [reckon_charge]; exact h
  have hsame : compareTargets (reckon s) = reckon s := by simp [compareTargets, hreckon]
  have hseq : (reckon s).seq = s.seq := reckon_seq s
  rw [recomputeReserve_eq, hsame]
  have hp : (reckon s).charge.p = s.charge.p := by rw [reckon_charge]
  generalize reckon s = u at hseq hreckon hp
  exact ⟨hseq, hreckon, hp⟩

theorem changeBbu_seq (i : BbuId) (st : BbuState) (s : State) : (changeBbu i st s).seq = s.seq := by
  by_cases h : s.charge.bbus[i].state = st
  · rw [changeBbu_of_same h]
  · rw [changeBbu_of_ne h, raise_seq, moveBbu_eq]
    unfold reportBbu
    rw [reportCondition_seq, driveBbu_seq]
    rfl

theorem shiftBbus_disarmed {s : State} (h : s.charge.armed = false) (f : BbuState → Bool) (st : BbuState) :
    (shiftBbus f st s).seq = s.seq ∧ (shiftBbus f st s).charge.armed = false ∧ (shiftBbus f st s).charge.p = s.charge.p := by
  refine List.foldlRecOn (motive := fun u : State => u.seq = s.seq ∧ u.charge.armed = false ∧ u.charge.p = s.charge.p) bbuIds _
    ⟨rfl, h, rfl⟩ fun u hu i _ => ?_
  obtain ⟨hseq, harmed, hp⟩ := hu
  unfold shiftBbu
  split
  · have hchange := changeBbu_charge i st u
    obtain ⟨hseq', harmed', hp'⟩ := recomputeReserve_disarmed (s := changeBbu i st u) (by rw [hchange]; exact harmed)
    exact ⟨(hseq'.trans (changeBbu_seq i st u)).trans hseq, harmed', hp'.trans (by rw [hchange]; exact hp)⟩
  · exact ⟨hseq, harmed, hp⟩

/-! ### What is told of the holdup controller (R74) -/

theorem causeHoldup_ne_bbu (i : BbuId) : causeBbu i ≠ causeHoldup := by revert i; decide

/-- The steps that tell nothing of cause 130. -/
theorem changeBbu_quiet_holdup (i : BbuId) (st : BbuState) (s : State) : Quiet causeHoldup s (changeBbu i st s) :=
  changeBbu_touches i st s causeHoldup (causeHoldup_ne_bbu i).symm

theorem recomputeReserve_quiet_holdup (s : State) : Quiet causeHoldup s (recomputeReserve s) :=
  recomputeReserve_touches s causeHoldup not_reserveCause_holdup

theorem shiftBbus_quiet_holdup (f : BbuState → Bool) (st : BbuState) (s : State) : Quiet causeHoldup s (shiftBbus f st s) :=
  List.foldlRecOn (motive := Quiet causeHoldup s) bbuIds _ (Quiet.refl _ s) fun u hu i _ =>
    ite_keeps (hu.trans ((changeBbu_quiet_holdup i st u).trans (recomputeReserve_quiet_holdup _))) hu

theorem not_shedCause_holdup : ¬ ShedCause causeHoldup := fun h => not_reserveCause_holdup (.inl h)

theorem shed_quiet_holdup (s : State) : ShedInvariant (Touches ShedCause s) := Touches.shedInvariant (fun _ => id) s

/-- The state in which a change of holdup state is raised. -/
def State.holdupMoved (s : State) (st : HoldupState) : State :=
  ((s.setHoldup { s.holdup with state := st }).setSeq { s.seq with lastHoldup := st }).setRecharge { s.recharge with lastHoldup := st }

theorem moveHoldup_touches (st : HoldupState) (s : State) : Touches (· = causeHoldup) s (moveHoldup st s) := by
  have hmoved : Touches (· = causeHoldup) s (s.holdupMoved st) := .of_same rfl rfl
  rw [moveHoldup_eq]
  exact (hmoved.report rfl _).raise rfl _ _

theorem moveHoldup_raised (st : HoldupState) (s : State) :
    RaisedFrom s (moveHoldup st s) causeHoldup s.busV (stateCode st.code) := by
  rw [moveHoldup_eq]
  exact reported_raised causeHoldup st.alarming s.busV (stateCode st.code) (t := s.holdupMoved st)
    (Touches.of_same rfl rfl)

theorem moveHoldup_condition (st : HoldupState) (s : State) :
    (moveHoldup st s).causes.recs[causeHoldup].condition = st.alarming := by
  rw [moveHoldup_eq, raise_condition rfl]
  exact reportCondition_condition causeHoldup st.alarming (s.holdupMoved st)

theorem moveHoldup_tells (st : HoldupState) (s : State) : Tells (s.holdupMoved st) (moveHoldup st s) := by
  rw [moveHoldup_eq]
  exact ((Tells.refl (s.holdupMoved st)).report _ _).raise _ _ _

/-- What a change of holdup state leaves, field by field (R74). -/
theorem moveHoldup_fields (st : HoldupState) (s : State) :
    (moveHoldup st s).holdup = { s.holdup with state := st } ∧ (moveHoldup st s).seq = { s.seq with lastHoldup := st } ∧
      (moveHoldup st s).recharge = { s.recharge with lastHoldup := st } ∧ (moveHoldup st s).charge = s.charge ∧
        (moveHoldup st s).budget = s.budget ∧ (moveHoldup st s).settings = s.settings ∧ (moveHoldup st s).sense = s.sense := by
  have h := moveHoldup_tells st s
  unfold Tells at h
  rw [h]
  exact ⟨rfl, rfl, rfl, rfl, rfl, rfl, rfl⟩

/-- R74: what follows a change of holdup state tells nothing of cause 130. -/
theorem moveHoldup_then {s t : State} {st : HoldupState} (h : Quiet causeHoldup (moveHoldup st s) t) :
    RaisedFrom s t causeHoldup s.busV (stateCode st.code) ∧ t.causes.recs[causeHoldup].condition = st.alarming := by
  have hraised := moveHoldup_raised st s
  have hsend : KeepsSending s (moveHoldup st s) := KeepsSending.of_touches (c := causeTest) (moveHoldup_touches st s) (by decide)
  exact ⟨hraised.widen hsend (Quiet.refl _ s).toUnraised h.toUnraised, h.condition.trans (moveHoldup_condition st s)⟩

end Sys2Proof.Machine
end

section
/-! PROOFS. The slots through an ONLINE entry (R65, R108, R121) and through a blackout (R71, R113, R124), and the end of the holdup
controller's transitions into both. -/

namespace Sys2Proof.Machine

/-! ### Slots while the sequencer grants nothing (R100) -/

/-- Under another holdup state than ONLINE no head is granted and no slot is handed over: slot `m` has `P`, and stands outside the
queue if it should. -/
structure Dark (m : SlotId) (P : Slot → Prop) (out : Prop) (t : State) : Prop where
  slot : P t.seq.slots[m]
  out : out → m ∉ t.seq.queue
  shut : t.seq.lastHoldup ≠ .online
  offline : t.online = false

namespace Dark
variable {m n : SlotId} {P Q : Slot → Prop} {out : Prop} {t u : State} {st : SlotState} {upd : Slot → Slot} {reason : ShedReason}
  {urgency : Urgency}

theorem of_seq (h : Dark m P out t) (hslot : u.seq.slots[m] = t.seq.slots[m]) (hqueue : m ∈ u.seq.queue → m ∈ t.seq.queue)
    (hshut : u.seq.lastHoldup = t.seq.lastHoldup) (hon : u.online = t.online) : Dark m P out u :=
  ⟨by rw [hslot]; exact h.slot, fun ho hm => h.out ho (hqueue hm), by rw [hshut]; exact h.shut, hon.trans h.offline⟩

/-- Another property of the slot as it stands. -/
theorem mono (h : Dark m P out t) (hPQ : P t.seq.slots[m] → Q t.seq.slots[m]) : Dark m Q out t :=
  ⟨hPQ h.slot, h.out, h.shut, h.offline⟩

theorem setSlot (h : Dark m P out t) (hne : n ≠ m) (x : Slot) : Dark m P out (t.setSlot n x) :=
  h.of_seq (by rw [setSlot_slots, if_neg hne]) id rfl rfl

theorem recompute (h : Dark m P out t) : Dark m P out (recompute t) :=
  h.of_seq (by rw [recompute_seq]) (by rw [recompute_seq]; exact id) (by rw [recompute_seq]) (Ripple.refl t).recompute.online

theorem moveSlot (h : Dark m P out t) (hne : n ≠ m) : Dark m P out (moveSlot n st upd t) :=
  h.of_seq (by rw [moveSlot_slots, if_neg hne]) (by rw [moveSlot_queue]; exact id) (Heard.refl t).moveSlot.lastHoldup
    (Ripple.refl t).moveSlot.online

/-- The move of the slot itself. -/
theorem moveSelf (h : Dark m P out t) (hQ : ∀ x, P x → Q ((upd x).moved st)) : Dark m Q out (Machine.moveSlot m st upd t) := by
  refine ⟨?_, fun ho hm => h.out ho ?_, ?_, ?_⟩
  · rw [moveSlot_slots, if_pos rfl]
    exact hQ _ h.slot
  · rw [moveSlot_queue] at hm
    exact hm
  · rw [(Heard.refl t).moveSlot.lastHoldup]
    exact h.shut
  · rw [(Ripple.refl t).moveSlot.online]
    exact h.offline

theorem leaveQueue (h : Dark m P out t) : Dark m P out (leaveQueue n t) :=
  h.of_seq rfl (fun hm => (mem_leaveQueue.1 hm).1) rfl rfl

theorem leaves (h : Dark m P out t) : Dark m P True (Machine.leaveQueue m t) :=
  ⟨h.slot, fun _ => not_mem_leaveQueue, h.shut, h.offline⟩

theorem seqEvent (h : Dark m P out t) : Dark m P out (seqEvent t) := by
  have hsame := seqEvent_same (s := t) fun k _ => by
    rw [← Bool.not_eq_true, grantsHead_iff, grantable_iff]
    exact fun hg => h.shut hg.1.1
  exact h.of_seq (congrArg (fun v : Vector Slot 24 => v[m]) hsame.slots) (by rw [hsame.queue]; exact id)
    (Heard.refl t).seqEvent.lastHoldup (Ripple.refl t).seqEvent.online

theorem seqEventIf (h : Dark m P out t) (b : Bool) : Dark m P out (seqEventIf b t) := ite_keeps h.seqEvent h

theorem handOver (h : Dark m P out t) : Dark m P out (handOver n t) := by
  rw [handOver_stays fun e => absurd (h.offline.symm.trans e.1) nofun]
  exact h

theorem completeDrain (h : Dark m P out t) (hne : n ≠ m) : Dark m P out (completeDrain n t) := by
  rcases completeDrain_cases n t with ⟨-, e⟩ | ⟨-, restore, e⟩ <;> rw [e]
  · exact (h.moveSlot hne).recompute
  · exact (h.moveSlot hne).recompute.handOver

theorem enterDraining (h : Dark m P out t) (hne : n ≠ m) : Dark m P out (enterDraining n t) :=
  ite_keeps (h.moveSlot hne).recompute ((h.moveSlot hne).completeDrain hne)

theorem unpowerSlot (h : Dark m P out t) (hne : n ≠ m) : Dark m P out (unpowerSlot n reason t) := by
  unfold Machine.unpowerSlot
  split
  · exact h.moveSlot hne
  · exact h.moveSlot hne
  · exact h.moveSlot hne

theorem shedUnpowered (h : Dark m P out t) (hne : n ≠ m) : Dark m P out (shedUnpowered n reason t) :=
  ite_keeps ((h.leaveQueue.unpowerSlot hne).seqEventIf _).handOver ((h.leaveQueue.unpowerSlot hne).seqEventIf _)

theorem escalate (h : Dark m P out t) (hne : n ≠ m) : Dark m P out (escalate n urgency t) := by
  unfold Machine.escalate
  split
  · exact h.enterDraining hne
  · exact h.enterDraining hne
  · exact h.enterDraining hne
  · exact h

theorem shedInFlight (h : Dark m P out t) (hne : n ≠ m) : Dark m P out (shedInFlight n reason urgency t) := by
  rcases shedInFlight_cases n reason urgency t with e | ⟨-, -, e⟩ | ⟨-, -, -, e⟩ <;> rw [e]
  · exact h
  · exact (h.setSlot hne _).escalate hne
  · exact h.setSlot hne _

theorem shedSlot (h : Dark m P out t) (hne : n ≠ m) : Dark m P out (shedSlot n reason urgency t) := by
  unfold Machine.shedSlot
  cases t.seq.slots[n].state with
  | off | queued => exact h.shedUnpowered hne
  | soak => exact ((h.setSlot hne _).enterDraining hne).seqEvent
  | on => exact ite_keeps ((h.setSlot hne _).enterDraining hne) (h.moveSlot hne).recompute
  | notice | held | draining => exact h.shedInFlight hne
  | faulted | locked => exact ite_keeps (h.setSlot hne _) h

theorem foldl_shedSlot (l : List SlotId) (hm : m ∉ l) (h : Dark m P out t) :
    Dark m P out (l.foldl (fun s n => Machine.shedSlot n reason urgency s) t) :=
  List.foldlRecOn (motive := Dark m P out) l _ h fun _ hu _ hn => hu.shedSlot fun e => hm (e ▸ hn)

/-! ### The reserve's sheds, which reach powered slots alone (R123) -/

section Unpowered
variable (hP : ∀ x, P x → x.state.powered = false)
include hP

theorem shedClass (h : Dark m P out t) (k : Nat) : Dark m P out (shedClass reason k urgency t) :=
  h.foldl_shedSlot _ fun hmem => absurd ((hP _ h.slot).symm.trans (mem_classGroup.1 hmem).2) nofun

theorem targetAction (h : Dark m P out t) (e : TargetEntry) : Dark m P out (targetAction e t) := by
  have hinhibit (b : Bool) : Dark m P out (Machine.setTargetInhibit b t) := by
    have hset : Dark m P out (t.setSeq { t.seq with targetInhibit := b }) := h.of_seq rfl id rfl rfl
    exact ite_keeps h hset.seqEvent
  unfold Machine.targetAction
  cases e.action with
  | noticeOnly => exact h
  | shed => exact h.shedClass hP _
  | inhibitPowerup => exact hinhibit true
  | releasePowerup => exact hinhibit false

theorem compareFrom (h : Dark m P out t) (fuel : Nat) : Dark m P out (compareFrom fuel t) := by
  induction fuel generalizing t with
  | zero => exact h
  | succ fuel ih =>
    unfold Machine.compareFrom
    split
    · exact h
    · next e _ =>
      have haction := h.targetAction hP e
      have hseq : (matchEntry e t).seq = (Machine.targetAction e t).seq := matchEntry_seq e t
      have hon : (matchEntry e t).online = (Machine.targetAction e t).online :=
        ((Swell.refl t).matchEntry e).online.trans ((Swell.refl t).targetAction e).online.symm
      exact ite_keeps (ih (haction.of_seq (by rw [hseq]) (by rw [hseq]; exact id) (by rw [hseq]) hon)) h

theorem recomputeReserve (h : Dark m P out t) : Dark m P out (recomputeReserve t) := by
  have hseq : (reckon t).seq = t.seq := reckon_seq t
  have hon : (reckon t).online = t.online := reckon_online t
  have hreckon : Dark m P out (reckon t) := h.of_seq (by rw [hseq]) (by rw [hseq]; exact id) (by rw [hseq]) hon
  rw [recomputeReserve_eq]
  have hcompare : Dark m P out (compareTargets (reckon t)) := ite_keeps (hreckon.compareFrom hP _) hreckon
  exact hcompare.of_seq rfl id rfl rfl

theorem shiftBbus (h : Dark m P out t) (f : BbuState → Bool) (b : BbuState) : Dark m P out (shiftBbus f b t) := by
  refine List.foldlRecOn (motive := Dark m P out) bbuIds _ h fun u hu i _ => ite_keeps (recomputeReserve hP ?_) hu
  have hseq := changeBbu_seq i b u
  exact hu.of_seq (by rw [hseq]) (by rw [hseq]; exact id) (by rw [hseq]) ((Swell.refl u).changeBbu i b).online

end Unpowered

end Dark

/-! ### The blackout shed, slot by slot (R113, R124) -/

section Blackout
variable {n : SlotId} {P : Slot → Prop} {out : Prop} {t : State}

/-- Without power and without EN. -/
def Slot.dead (x : Slot) : Prop := x.en = false ∧ x.state.powered = false

theorem Slot.moved_dead (x : Slot) {st : SlotState} (h : st.powered = false) : (x.moved st).dead := ⟨h, h⟩

/-- A drain takes the slot's EN, whether it completes or not. -/
theorem Dark.drains (h : Dark n P out t) : Dark n Slot.dead out (Machine.enterDraining n t) := by
  have hopened : Dark n Slot.dead out (t.drainOpened n) := h.moveSelf fun x _ => Slot.moved_dead _ rfl
  rw [enterDraining_eq]
  unfold settleDrain
  refine ite_keeps hopened.recompute ?_
  rcases completeDrain_cases n (t.drainOpened n) with ⟨-, e⟩ | ⟨-, restore, e⟩ <;> rw [e]
  · exact (hopened.moveSelf fun x _ => Slot.moved_dead _ rfl).recompute
  · exact (hopened.moveSelf fun x _ => Slot.moved_dead _ rfl).recompute.handOver

/-- The record of a slot without power after the blackout shed. -/
def Slot.restsFor (auto : Bool) (x y : Slot) : Prop := y.state = .off ∧ y.en = false ∧ y.restore = (x.restore || auto)

theorem unpowerSlot_blackout (n : SlotId) (s : State) :
    unpowerSlot n .blackout s = moveSlot n .off (fun x => { x with restore := x.restore || s.settings.slots[n].autoRestore }) s := rfl

theorem Dark.disarmTable (h : Dark n P out t) : Dark n P out (Machine.disarmTable t) := h.of_seq rfl id rfl rfl

theorem Dark.shedBlackout_off (h : Dark n P out t) (hst : t.seq.slots[n].state = .off ∨ t.seq.slots[n].state = .queued) :
    Dark n (t.seq.slots[n].restsFor t.settings.slots[n].autoRestore) True (Machine.shedSlot n .blackout .immediate t) := by
  have hslot : Dark n (· = t.seq.slots[n]) out t := h.mono fun _ => rfl
  have hunpower : Dark n (t.seq.slots[n].restsFor t.settings.slots[n].autoRestore) True
      (Machine.unpowerSlot n .blackout (Machine.leaveQueue n t)) := by
    rw [unpowerSlot_blackout]
    refine hslot.leaves.moveSelf fun x hx => ?_
    rw [hx]
    exact ⟨rfl, rfl, rfl⟩
  rw [shedSlot_unpowered hst]
  exact (hunpower.seqEventIf _).handOver

theorem Dark.shedBlackout_dead (h : Dark n P out t) (hen : t.seq.slots[n].en = t.seq.slots[n].state.powered)
    (hleak : t.seq.slots[n].reason = .leak → t.seq.slots[n].state ≠ .notice ∧ t.seq.slots[n].state ≠ .held) :
    Dark n Slot.dead out (Machine.shedSlot n .blackout .immediate t) := by
  have hnamed : Dark n (fun _ => True) out (t.shedNamed n .blackout .immediate) :=
    ⟨trivial, h.out, h.shut, h.offline⟩
  have hflying (hst : t.seq.slots[n].state = .notice ∨ t.seq.slots[n].state = .held) :
      Dark n Slot.dead out (Machine.shedSlot n .blackout .immediate t) := by
    have hne : t.seq.slots[n].reason ≠ .leak := fun e => hst.elim (hleak e).1 (hleak e).2
    have hlevel : t.seq.slots[n].urgency.level ≤ Urgency.immediate.level := by cases t.seq.slots[n].urgency <;> decide
    rw [shedSlot_takes_over (hst.imp id .inl) hne hlevel, escalate_drains]
    · exact hnamed.drains
    · rw [shedNamed_slot]
      exact hst.imp (⟨·, rfl⟩) (⟨·, .inr rfl⟩)
  have hdown (hst : t.seq.slots[n].state.powered = false) : t.seq.slots[n].dead := ⟨hen.trans hst, hst⟩
  cases hst : t.seq.slots[n].state with
  | off =>
    have hout := h.shedBlackout_off (.inl hst)
    exact ⟨⟨hout.slot.2.1, by rw [hout.slot.1]; rfl⟩, fun _ => hout.out trivial, hout.shut, hout.offline⟩
  | queued =>
    have hout := h.shedBlackout_off (.inr hst)
    exact ⟨⟨hout.slot.2.1, by rw [hout.slot.1]; rfl⟩, fun _ => hout.out trivial, hout.shut, hout.offline⟩
  | soak =>
    rw [shedSlot_soak hst]
    exact hnamed.drains.seqEvent
  | on =>
    rw [shedSlot_on_immediate hst]
    exact hnamed.drains
  | notice => exact hflying (.inl hst)
  | held => exact hflying (.inr hst)
  | draining =>
    have hdead := hdown (by rw [hst]; rfl)
    rw [shedSlot_flying (.inr (.inr hst))]
    rcases shedInFlight_cases n .blackout .immediate t with e | ⟨-, -, e⟩ | ⟨-, -, -, e⟩ <;> rw [e]
    · exact h.mono fun _ => hdead
    · rw [escalate_stays]
      · exact ⟨by rw [setSlot_slots, if_pos rfl]; exact hdead, h.out, h.shut, h.offline⟩
      · rw [setSlot_slots, if_pos rfl]
        show ¬ ((t.seq.slots[n].state = _ ∧ _) ∨ (t.seq.slots[n].state = _ ∧ _))
        rw [hst]
        rintro (⟨e, -⟩ | ⟨e, -⟩) <;> cases e
    · exact ⟨by rw [setSlot_slots, if_pos rfl]; exact hdead, h.out, h.shut, h.offline⟩
  | faulted =>
    rw [shedSlot_down (reason := .blackout) (.inl hst) nofun]
    exact h.mono fun _ => hdown (by rw [hst]; rfl)
  | locked =>
    rw [shedSlot_down (reason := .blackout) (.inr hst) nofun]
    exact h.mono fun _ => hdown (by rw [hst]; rfl)

/-- The step that takes slot `n` itself finds its record as it was, outside the queue as it was. -/
theorem Dark.shedAll_takes (h : Dark n (· = t.seq.slots[n]) out t) :
    ∃ u, Ripple t u ∧ Dark n (· = t.seq.slots[n]) out u ∧
      ∀ (Q : Slot → Prop) (o : Prop), Dark n Q o (Machine.shedSlot n .blackout .immediate u) → Dark n Q o (Machine.shedAll t) := by
  obtain ⟨pre, post, hl⟩ := List.append_of_mem (mem_slotIds n)
  have hnodup := slotIds_nodup
  rw [hl, List.nodup_middle, List.nodup_cons, List.mem_append, not_or] at hnodup
  obtain ⟨⟨hpre, hpost⟩, -⟩ := hnodup
  refine ⟨pre.foldl (fun s n => Machine.shedSlot n .blackout .immediate s) t, ?_, h.foldl_shedSlot pre hpre, fun Q o hQ => ?_⟩
  · exact List.foldlRecOn (motive := Ripple t) pre _ (.refl t) fun u hu _ _ => hu.shedSlot
  · unfold Machine.shedAll
    rw [hl, List.foldl_append, List.foldl_cons]
    exact hQ.foldl_shedSlot post hpost

end Blackout

/-! ### BLACKOUT (R71) -/

section EnterBlackout
variable {s : State} {n : SlotId}

/-- The part in BLACKOUT, before its requests (R71, R77). -/
def State.blackedOut (s : State) : State := moveHoldup .blackout (s.setHoldup (s.holdup.ended .blackout))

/-- The part after the requests of a blackout to the slots and the BBUs. -/
def State.emptied (s : State) : State := depleteAll (shedAll s.blackedOut)

theorem enterBlackout_emptied (s : State) : enterBlackout s = seqEvent (disarmTable s.emptied) := rfl

theorem close_not_open (x : Transfer) (why : EndReason) (r : Nat) : (x.close why r).isOpen = false := by
  unfold Transfer.close
  split
  · rfl
  · next h => exact Bool.eq_false_iff.2 h

theorem emptied_swell (s : State) : Swell s.blackedOut s.emptied := by
  unfold State.emptied depleteAll
  exact ((Swell.refl s.blackedOut).shedAll).shiftBbus _ _

theorem enterBlackout_swell (s : State) : Swell s.blackedOut (enterBlackout s) := (emptied_swell s).disarmTable.seqEvent

theorem blackedOut_holdup (s : State) : s.blackedOut.holdup = { s.holdup.ended .blackout with state := .blackout } :=
  (moveHoldup_fields .blackout (s.setHoldup (s.holdup.ended .blackout))).1

/-- R71, R77: the holdup controller in BLACKOUT. -/
theorem enterBlackout_holdup (s : State) : (enterBlackout s).holdup = { s.holdup.ended .blackout with state := .blackout } :=
  (enterBlackout_swell s).holdup_closed (blackedOut_holdup s) (close_not_open _ _ _)

theorem shedAll_quiet_holdup (s : State) : Quiet causeHoldup s (shedAll s) :=
  (shed_quiet_holdup s).foldl_shedSlot slotIds (.refl _ s) causeHoldup not_shedCause_holdup

theorem seqEvent_quiet_holdup (s : State) : Quiet causeHoldup s (seqEvent s) := seqEvent_touches s causeHoldup not_shedCause_holdup

theorem disarmTable_quiet (c : CauseId) (s : State) : Quiet c s (disarmTable s) := .of_eq rfl rfl

/-- R74: the entry is told by cause 130 alone. -/
theorem enterBlackout_told (s : State) :
    RaisedFrom s (enterBlackout s) causeHoldup s.busV 20 ∧ (enterBlackout s).causes.recs[causeHoldup].condition = true := by
  have hquiet : Quiet causeHoldup s.blackedOut (enterBlackout s) :=
    (((shedAll_quiet_holdup _).trans (shiftBbus_quiet_holdup _ _ _)).trans (disarmTable_quiet _ _)).trans (seqEvent_quiet_holdup _)
  obtain ⟨hraised, hcondition⟩ := moveHoldup_then (s := s.setHoldup (s.holdup.ended .blackout)) (st := .blackout) hquiet
  exact ⟨hraised.congr rfl rfl rfl, hcondition⟩

theorem enterBlackout_armed (s : State) : (enterBlackout s).charge.armed = false := by
  rw [enterBlackout_emptied, (Ripple.refl (disarmTable s.emptied)).seqEvent.charge]
  rfl

theorem blackedOut_slots (s : State) : s.blackedOut.seq = { s.seq with lastHoldup := .blackout } :=
  (moveHoldup_fields .blackout (s.setHoldup (s.holdup.ended .blackout))).2.1

theorem blackedOut_settings (s : State) : s.blackedOut.settings = s.settings :=
  (moveHoldup_fields .blackout (s.setHoldup (s.holdup.ended .blackout))).2.2.2.2.2.1

theorem blackedOut_charge (s : State) : s.blackedOut.charge = s.charge :=
  (moveHoldup_fields .blackout (s.setHoldup (s.holdup.ended .blackout))).2.2.2.1

theorem blackedOut_sense (s : State) : s.blackedOut.sense = s.sense :=
  (moveHoldup_fields .blackout (s.setHoldup (s.holdup.ended .blackout))).2.2.2.2.2.2

theorem blackedOut_dark (s : State) (n : SlotId) : Dark n (· = s.blackedOut.seq.slots[n]) False s.blackedOut :=
  ⟨rfl, False.elim, by rw [blackedOut_slots]; nofun, by rw [State.online, blackedOut_holdup]; rfl⟩

/-- What the blackout shed makes of a slot stands in the state that the entry leaves, when it leaves the slot without power. -/
theorem enterBlackout_makes {Q : Slot → Prop} {o : Prop} (hQ : ∀ x, Q x → x.state.powered = false)
    (h : ∀ u, Ripple s.blackedOut u → Dark n (· = s.blackedOut.seq.slots[n]) False u → Dark n Q o (shedSlot n .blackout .immediate u)) :
    Dark n Q o (enterBlackout s) := by
  obtain ⟨u, hripple, hdark, hend⟩ := (blackedOut_dark s n).shedAll_takes
  have hshed := hend Q o (h u hripple hdark)
  have hemptied : Dark n Q o s.emptied := by
    unfold State.emptied depleteAll
    exact hshed.shiftBbus hQ _ _
  rw [enterBlackout_emptied]
  exact hemptied.disarmTable.seqEvent

theorem blackedOut_slot (s : State) (n : SlotId) : s.blackedOut.seq.slots[n] = s.seq.slots[n] := by rw [blackedOut_slots]

/-- R113: OFF and QUEUED slots end in OFF, restored later as they are set. -/
theorem enterBlackout_off (hst : s.seq.slots[n].state = .off ∨ s.seq.slots[n].state = .queued) :
    Dark n (s.seq.slots[n].restsFor s.settings.slots[n].autoRestore) True (enterBlackout s) := by
  refine enterBlackout_makes (fun x hx => by rw [hx.1]; rfl) fun u hripple hdark => ?_
  have hslot : u.seq.slots[n] = s.seq.slots[n] := hdark.slot.trans (blackedOut_slot s n)
  have hset : u.settings = s.settings := hripple.settings.trans (blackedOut_settings s)
  have hoff := hdark.shedBlackout_off (by rw [hslot]; exact hst)
  rw [hslot, hset] at hoff
  exact hoff

/-- R71, R114: a slot that has its EN by its state loses it, unless a leak shed holds its notice. -/
theorem enterBlackout_dead (hen : s.seq.slots[n].en = s.seq.slots[n].state.powered)
    (hleak : s.seq.slots[n].reason = .leak → s.seq.slots[n].state ≠ .notice ∧ s.seq.slots[n].state ≠ .held) :
    Dark n Slot.dead False (enterBlackout s) := by
  refine enterBlackout_makes (fun x hx => hx.2) fun u _ hdark => ?_
  have hslot : u.seq.slots[n] = s.seq.slots[n] := hdark.slot.trans (blackedOut_slot s n)
  exact hdark.shedBlackout_dead (by rw [hslot]; exact hen) (by rw [hslot]; exact hleak)

theorem depletes_iff {st : BbuState} : st.depletes = true ↔ st = .standby ∨ st = .charging ∨ st = .discharging := by
  cases st <;> simp [BbuState.depletes]

theorem seqEvent_disarmTable_bbu_state (s : State) (i : BbuId) :
    (seqEvent (disarmTable s)).charge.bbus[i].state = s.charge.bbus[i].state := (Ripple.refl (disarmTable s)).seqEvent.bbu_state i

/-- R40, R71: every BBU that feeds or rests is DEPLETED. -/
theorem enterBlackout_bbu_state (s : State) (i : BbuId) :
    (enterBlackout s).charge.bbus[i].state =
      if s.charge.bbus[i].state.depletes = true then .depleted else s.charge.bbus[i].state := by
  rw [enterBlackout_emptied, seqEvent_disarmTable_bbu_state, State.emptied, depleteAll, shiftBbus_state,
    ((Ripple.refl s.blackedOut).shedAll).bbu_state, blackedOut_charge]

end EnterBlackout

end Sys2Proof.Machine
end

section
/-! PROOFS. The outputs of an emptied BBU (R40, R41), and the ONLINE entry with what it makes of the slots (R65, R66, R108, R121). -/

namespace Sys2Proof.Machine

/-! ### The outputs of a BBU that a blackout empties (R40, R41) -/

theorem changeBbu_bbus_other {i j : BbuId} (h : i ≠ j) (st : BbuState) (s : State) :
    (changeBbu i st s).charge.bbus[j] = s.charge.bbus[j] := by
  by_cases hst : s.charge.bbus[i].state = st
  · rw [changeBbu_of_same hst]
  · rw [changeBbu_of_ne hst, raise_charge, moveBbu_eq, reportBbu_charge]
    unfold driveBbu
    split
    · rw [setBbu_bbus, if_neg h, setBbu_bbus, if_neg h]
    · rw [setBbu_bbus, if_neg h]

theorem DrivenAt.shiftBbu_other {i j : BbuId} {st new : BbuState} {c : Nat} {f : BbuState → Bool} {s : State} (h : DrivenAt i st c s)
    (hst : st.unshared = true) (hne : j ≠ i) : DrivenAt i st c (shiftBbu f new j s) := by
  have hchange : DrivenAt i st c (changeBbu j new s) := by
    have hsense := ((Swell.refl s).changeBbu j new).sense
    have hother := changeBbu_bbus_other hne new s
    refine ⟨by rw [hsense]; exact h.seen, by rw [hother]; exact h.state, ?_, by rw [hother]; exact h.out⟩
    rw [changeBbu_charge]
    exact h.current
  exact ite_keeps ((DrivenAt.reserveInvariant hst).recomputeReserve hchange) h

/-- R40, R41: the BBUs that a transition moves have the outputs of their new state. -/
theorem shiftBbus_driven {f : BbuState → Bool} {new : BbuState} {i : BbuId} {s : State} (hseen : s.sense.seen = true)
    (hf : f s.charge.bbus[i].state = true) (hnew : f new = false) (hst : new.unshared = true) :
    ∃ c, DrivenAt i new c (shiftBbus f new s) := by
  obtain ⟨pre, post, hl⟩ := List.append_of_mem (mem_bbuIds i)
  have hnodup := bbuIds_nodup
  rw [hl, List.nodup_middle, List.nodup_cons, List.mem_append, not_or] at hnodup
  obtain ⟨⟨hpre, hpost⟩, hrest⟩ := hnodup
  have hpreNodup := (List.nodup_append.1 hrest).1
  unfold shiftBbus
  rw [hl, List.foldl_append, List.foldl_cons]
  have hstate : (pre.foldl (fun s i => shiftBbu f new i s) s).charge.bbus[i].state = s.charge.bbus[i].state := by
    rw [foldl_shiftBbu_state f new i pre s hpreNodup, if_neg fun h => hpre h.1]
  have hbefore : Swell s (pre.foldl (fun s i => shiftBbu f new i s) s) :=
    List.foldlRecOn (motive := Swell s) pre _ (.refl s) fun u hu j _ => ite_keeps (hu.changeBbu j new).recomputeReserve hu
  generalize pre.foldl (fun s i => shiftBbu f new i s) s = u at hstate hbefore
  rw [← hstate] at hf
  have hne : u.charge.bbus[i].state ≠ new := fun e => by
    rw [e] at hf
    exact absurd (hnew.symm.trans hf) nofun
  have hself : DrivenAt i new u.charge.test.current (shiftBbu f new i u) := by
    rw [shiftBbu, if_pos hf]
    exact (DrivenAt.reserveInvariant hst).recomputeReserve (.of_change (by rw [hbefore.sense]; exact hseen) hne hst)
  exact ⟨u.charge.test.current, List.foldlRecOn (motive := DrivenAt i new u.charge.test.current) post _ hself fun v hv j hj =>
    hv.shiftBbu_other hst fun e => hpost (e ▸ hj)⟩

theorem enterBlackout_out {s : State} {i : BbuId} (hseen : s.sense.seen = true) (hst : s.charge.bbus[i].state.depletes = true) :
    (enterBlackout s).charge.bbus[i].out = ⟨false, false, 0⟩ := by
  have hshed := (Ripple.refl s.blackedOut).shedAll
  obtain ⟨c, hdriven⟩ := shiftBbus_driven (f := BbuState.depletes) (new := .depleted) (i := i) (s := shedAll s.blackedOut)
    (by rw [hshed.sense, blackedOut_sense]; exact hseen) (by rw [hshed.bbu_state, blackedOut_charge]; exact hst) rfl rfl
  have hafter (u : State) (h : DrivenAt i .depleted c u) : DrivenAt i .depleted c (seqEvent (disarmTable u)) :=
    (DrivenAt.shedInvariant rfl).seqEvent (h.of_same rfl rfl rfl)
  rw [enterBlackout_emptied, State.emptied, depleteAll]
  exact (hafter _ hdriven).out

/-! ### ONLINE (R65, R66) -/

section EnterOnline
variable {s : State} {n : SlotId}

/-- The part in ONLINE, before its requests (R65, R77). -/
def State.onlined (s : State) : State := moveHoldup .online (s.setHoldup (s.holdup.ended .acReturn))

/-- The part with its DEPLETED BBUs charging again, the table disarmed as its mode asks (R49, R66). -/
def State.refilled (s : State) : State := refillDepleted (disarmOnBridge s.onlined)

theorem enterOnline_refilled (s : State) :
    enterOnline s = recompute (startRegulator (seqEvent (queueAtOnline (withdrawSheds s.refilled)))) := rfl

theorem onlined_holdup (s : State) : s.onlined.holdup = { s.holdup.ended .acReturn with state := .online } :=
  (moveHoldup_fields .online (s.setHoldup (s.holdup.ended .acReturn))).1

theorem onlined_seq (s : State) : s.onlined.seq = { s.seq with lastHoldup := .online } :=
  (moveHoldup_fields .online (s.setHoldup (s.holdup.ended .acReturn))).2.1

theorem onlined_recharge (s : State) : s.onlined.recharge = { s.recharge with lastHoldup := .online } :=
  (moveHoldup_fields .online (s.setHoldup (s.holdup.ended .acReturn))).2.2.1

theorem onlined_charge (s : State) : s.onlined.charge = s.charge :=
  (moveHoldup_fields .online (s.setHoldup (s.holdup.ended .acReturn))).2.2.2.1

theorem onlined_settings (s : State) : s.onlined.settings = s.settings :=
  (moveHoldup_fields .online (s.setHoldup (s.holdup.ended .acReturn))).2.2.2.2.2.1

theorem Swell.disarmOnBridge {s t : State} (h : Swell s t) : Swell s (disarmOnBridge t) := ite_keeps h.disarmTable h

theorem refilled_swell (s : State) : Swell s.onlined s.refilled := by
  unfold State.refilled refillDepleted
  exact ((Swell.refl s.onlined).disarmOnBridge).shiftBbus _ _

/-! #### The requests to the slots -/

theorem Ripple.withdrawSheds {s t : State} (h : Ripple s t) : Ripple s (withdrawSheds t) :=
  List.foldlRecOn (motive := Ripple s) slotIds _ h fun _ hu _ _ => ite_keeps hu.withdrawSlot hu

theorem Heard.withdrawSheds {s t : State} (h : Heard s t) : Heard s (withdrawSheds t) :=
  List.foldlRecOn (motive := Heard s) slotIds _ h fun _ hu _ _ => ite_keeps hu.shiftSlot hu

/-- The slots as ONLINE queues them, before the first ONLINE entry is noted (R108). -/
def State.autoQueued (s : State) : State :=
  slotIds.foldl (fun s n => restoreSlot n s) ((slotIds.filter s.autoStarts).foldl (fun s n => enterQueue n s) s)

/-- The first ONLINE entry after a reset is noted (R108). -/
def State.onlineNoted (s : State) : State := s.setSeq { s.seq with onlineSeen := true }

theorem queueAtOnline_eq (s : State) : queueAtOnline s = s.autoQueued.onlineNoted := by
  unfold queueAtOnline State.autoQueued State.onlineNoted
  with_reducible rfl

theorem autoQueued_ripple (s : State) : Ripple s s.autoQueued :=
  List.foldlRecOn (motive := Ripple s) slotIds _
    (List.foldlRecOn (motive := Ripple s) _ _ (.refl s) fun _ hu _ _ => hu.enterQueue) fun _ hu _ _ => hu.restoreSlot

theorem autoQueued_heard (s : State) : Heard s s.autoQueued :=
  List.foldlRecOn (motive := Heard s) slotIds _
    (List.foldlRecOn (motive := Heard s) _ _ (.refl s) fun _ hu _ _ => hu.enterQueue) fun _ hu _ _ => hu.restoreSlot

theorem queueAtOnline_ripple (s : State) : Ripple s (queueAtOnline s) := by
  rw [queueAtOnline_eq]
  exact (autoQueued_ripple s).setSeq _

theorem queueAtOnline_swell (s : State) : Swell s (queueAtOnline s) := by
  have hset (u : State) : Swell u u.onlineNoted := ⟨rfl, rfl, fun _ => rfl, rfl, rfl, rfl, rfl, rfl, rfl⟩
  rw [queueAtOnline_eq]
  exact (Swell.of_ripple (autoQueued_ripple s) (autoQueued_heard s)).trans (hset _)

/-- What the entry leaves, after the BBUs, of the blocks that its requests to the slots do not reach. -/
theorem enterOnline_ripple (s : State) : Ripple s.refilled (enterOnline s) := by
  rw [enterOnline_refilled]
  generalize s.refilled = u
  have hqueue : Ripple u (queueAtOnline (withdrawSheds u)) := (Ripple.refl u).withdrawSheds.trans (queueAtOnline_ripple _)
  exact (hqueue.seqEvent.trans (RegulatorStep.startRegulator _).ripple).recompute

theorem enterOnline_swell (s : State) : Swell s.onlined (enterOnline s) := by
  rw [enterOnline_refilled]
  refine (refilled_swell s).trans ?_
  generalize s.refilled = u
  have hwithdraw : Swell u (withdrawSheds u) := .of_ripple (Ripple.refl u).withdrawSheds (Heard.refl u).withdrawSheds
  exact ((hwithdraw.trans (queueAtOnline_swell _)).seqEvent.trans (.of_regulator (RegulatorStep.startRegulator _))).recompute

/-- R65, R77: the holdup controller in ONLINE. -/
theorem enterOnline_holdup (s : State) : (enterOnline s).holdup = { s.holdup.ended .acReturn with state := .online } :=
  (enterOnline_swell s).holdup_closed (onlined_holdup s) (close_not_open _ _ _)

theorem enterOnline_touches (s : State) : Touches ShedCause s.refilled (enterOnline s) := by
  rw [enterOnline_refilled]
  generalize s.refilled = u
  have inv := shed_quiet_holdup u
  have hwithdraw : Touches ShedCause u (withdrawSheds u) :=
    List.foldlRecOn (motive := Touches ShedCause u) slotIds _ (.refl _ u) fun _ hu _ _ => ite_keeps (inv.shiftSlot hu) hu
  have hqueue (v : State) (h : Touches ShedCause u v) : Touches ShedCause u (queueAtOnline v) :=
    inv.setSeq (List.foldlRecOn (motive := Touches ShedCause u) slotIds _
      (List.foldlRecOn (motive := Touches ShedCause u) _ _ h fun _ hu _ _ => inv.enterQueue hu) fun _ hu _ _ => inv.restoreSlot hu)
  exact inv.recompute (inv.startRegulator (inv.seqEvent (hqueue _ hwithdraw)))

/-- R74: the entry is told by cause 130 alone. -/
theorem enterOnline_told (s : State) :
    RaisedFrom s (enterOnline s) causeHoldup s.busV 17 ∧ (enterOnline s).causes.recs[causeHoldup].condition = false := by
  have hdisarm (u : State) : Quiet causeHoldup u (disarmOnBridge u) := ite_keeps (disarmTable_quiet _ u) (Quiet.refl _ u)
  have hrefilled : Quiet causeHoldup s.onlined s.refilled := by
    unfold State.refilled refillDepleted
    exact (hdisarm _).trans (shiftBbus_quiet_holdup _ _ _)
  have hquiet : Quiet causeHoldup s.onlined (enterOnline s) :=
    hrefilled.trans (enterOnline_touches s causeHoldup not_shedCause_holdup)
  obtain ⟨hraised, hcondition⟩ := moveHoldup_then (s := s.setHoldup (s.holdup.ended .acReturn)) (st := .online) hquiet
  exact ⟨hraised.congr rfl rfl rfl, hcondition⟩

theorem disarmOnBridge_bbus (s : State) : (disarmOnBridge s).charge.bbus = s.charge.bbus := by
  unfold disarmOnBridge
  split <;> rfl

/-- R40, R66: the DEPLETED BBUs charge again. -/
theorem enterOnline_bbu_state (s : State) (i : BbuId) :
    (enterOnline s).charge.bbus[i].state = if s.charge.bbus[i].state = .depleted then .charging else s.charge.bbus[i].state := by
  rw [(enterOnline_ripple s).bbu_state, State.refilled, refillDepleted, shiftBbus_state, disarmOnBridge_bbus, onlined_charge]
  simp only [beq_iff_eq]

/-- R49, R66: a table that is disarmed at the entry, or before it, compares nothing. -/
theorem refilled_quiet (h : s.charge.armed = false ∨ s.settings.targets.mode = .onBridge) :
    s.refilled.seq = { s.seq with lastHoldup := .online } ∧ s.refilled.charge.armed = false ∧ s.refilled.charge.p = s.charge.p := by
  have hdisarm : (disarmOnBridge s.onlined).charge.armed = false ∧ (disarmOnBridge s.onlined).charge.p = s.charge.p ∧
      (disarmOnBridge s.onlined).seq = s.onlined.seq := by
    unfold disarmOnBridge
    rw [onlined_settings]
    split
    · exact ⟨rfl, (congrArg Charge.p (onlined_charge s) :), rfl⟩
    · next hmode =>
      rw [onlined_charge]
      exact ⟨h.resolve_right hmode, rfl, rfl⟩
  obtain ⟨harmed, hp, hseq⟩ := hdisarm
  unfold State.refilled refillDepleted
  generalize disarmOnBridge s.onlined = u at harmed hp hseq
  obtain ⟨hseq', harmed', hp'⟩ := shiftBbus_disarmed harmed (· == .depleted) .charging
  exact ⟨(hseq'.trans hseq).trans (onlined_seq s), harmed', hp'.trans hp⟩

theorem enterOnline_disarmed (h : s.charge.armed = false ∨ s.settings.targets.mode = .onBridge) :
    (enterOnline s).charge.armed = false ∧ (enterOnline s).charge.p = s.charge.p := by
  obtain ⟨-, harmed, hp⟩ := refilled_quiet h
  have hcharge := (enterOnline_ripple s).charge
  generalize enterOnline s = t at hcharge ⊢
  generalize s.refilled = u at harmed hp hcharge
  rw [hcharge]
  exact ⟨harmed, hp⟩

/-! #### A slot through the entry -/

/-- The record of a slot after the withdrawals (R121). -/
def Slot.kept (x : Slot) : Slot := if x.withdrawable then x.noShed.moved .on else x

theorem withdrawSheds_spared (hq : n ∉ s.seq.queue) : Spared n (· = s.seq.slots[n].kept) (withdrawSheds s) := by
  obtain ⟨u, -, hslot, hout, hend⟩ := foldl_takes (R := fun _ _ => True) (m := n) (s := s)
    (f := fun s n => if s.seq.slots[n].withdrawable then withdrawSlot n s else s) (fun _ => trivial) (fun _ _ _ _ => trivial)
    (fun P u k hne h => ite_keeps (h.shiftSlot hne) h) slotIds_nodup (mem_slotIds n) hq
  refine hend _ ?_
  show Spared n _ (if u.seq.slots[n].withdrawable then withdrawSlot n u else u)
  rw [← hslot]
  unfold Slot.kept
  split
  · exact .of_set (shiftSlot_seq n .on Slot.noShed u) hout
  · exact .same hout

/-- R108, R122: what a restoration of one slot does. -/
theorem restoreSlot_spec (n : SlotId) (s : State) :
    (¬ (s.seq.slots[n].restore = true ∧ s.seq.slots[n].state = .off) ∧ restoreSlot n s = s) ∨
      restoreSlot n s = enterQueue n s ∨ restoreSlot n s = s.setSlot n { s.seq.slots[n] with restore := false } := by
  unfold restoreSlot
  simp only [Bool.and_eq_true, beq_iff_eq]
  by_cases h : s.seq.slots[n].restore = true ∧ s.seq.slots[n].state = .off
  · rw [if_pos h]
    by_cases he : s.settings.slots[n].enabled = true
    · exact .inr (.inl (if_pos he))
    · exact .inr (.inr (if_neg he))
  · exact .inl ⟨h, if_neg h⟩

theorem restoreSlot_stays {s : State} (h : s.seq.slots[n].state ≠ .off) : restoreSlot n s = s := by
  unfold restoreSlot
  simp only [Bool.and_eq_true, beq_iff_eq]
  exact if_neg fun e => h e.2

/-- R108: a slot that is not OFF is not queued. -/
theorem autoQueued_spared {x : Slot} (hx : x.state ≠ .off) (h : Spared n (· = x) s) : Spared n (· = x) s.autoQueued := by
  have hauto : n ∉ slotIds.filter s.autoStarts := fun hm => by
    have hoff := State.off_of_autoStarts (List.mem_filter.1 hm).2
    rw [h.1] at hoff
    exact hx hoff
  have hqueued := foldl_spared (fun u k hne hu => hu.enterQueue hne) _ s hauto h
  refine List.foldlRecOn (motive := Spared n (· = x)) slotIds _ hqueued fun u hu k _ => ?_
  by_cases hk : k = n
  · subst hk
    rw [restoreSlot_stays (by rw [hu.1]; exact hx)]
    exact hu
  · exact hu.restoreSlot hk

theorem Spared.settle {P : Slot → Prop} {t : State} (h : Spared n P t) :
    Spared n P (Machine.recompute (startRegulator (Machine.seqEvent t.onlineNoted))) := by
  have hset : Spared n P t.onlineNoted := h.of_seq rfl id
  have hevent := hset.seqEvent
  generalize Machine.seqEvent t.onlineNoted = u at hevent
  have hseq := (RegulatorStep.startRegulator u).seq
  exact (hevent.of_seq (by rw [hseq]) (by rw [hseq]; exact id)).recompute

theorem enterOnline_settled (s : State) :
    enterOnline s = recompute (startRegulator (seqEvent (withdrawSheds s.refilled).autoQueued.onlineNoted)) := by
  rw [enterOnline_refilled, queueAtOnline_eq]

/-- R108, R121: a slot that is neither OFF nor queued keeps its record, or is withdrawn. -/
theorem enterOnline_slot (hquiet : s.charge.armed = false ∨ s.settings.targets.mode = .onBridge) (hq : n ∉ s.seq.queue)
    (hst : s.seq.slots[n].state ≠ .off) : (enterOnline s).seq.slots[n] = s.seq.slots[n].kept := by
  obtain ⟨hseq, -, -⟩ := refilled_quiet hquiet
  have hslot : s.refilled.seq.slots[n] = s.seq.slots[n] := by rw [hseq]
  have hwithdrawn : Spared n (· = s.seq.slots[n].kept) (withdrawSheds s.refilled) := by
    rw [← hslot]
    exact withdrawSheds_spared (by rw [hseq]; exact hq)
  have hkept : s.seq.slots[n].kept.state ≠ .off := by
    unfold Slot.kept
    split
    · nofun
    · exact hst
  have hsettled := (autoQueued_spared hkept hwithdrawn).settle
  rw [← enterOnline_settled] at hsettled
  exact hsettled.1

/-! #### Restoration (R108) -/

theorem enterQueue_restore (k n : SlotId) (s : State) :
    (enterQueue k s).seq.slots[n].restore = if k = n then false else s.seq.slots[n].restore := by
  have hmove (st : SlotState) : (moveSlot k st (fun x => { x with restore := false }) s).seq.slots[n].restore =
      if k = n then false else s.seq.slots[n].restore := by
    rw [moveSlot_slots]
    split
    · next e => rfl
    · rfl
  unfold enterQueue
  split
  · exact hmove _
  · exact hmove _

theorem enterQueue_state_other {k n : SlotId} (h : k ≠ n) (s : State) : (enterQueue k s).seq.slots[n].state = s.seq.slots[n].state := by
  have hmove (st : SlotState) : (moveSlot k st (fun x => { x with restore := false }) s).seq.slots[n].state = s.seq.slots[n].state := by
    rw [moveSlot_slots, if_neg h]
  unfold enterQueue
  split
  · exact hmove _
  · exact hmove _

/-- Restored by the next restoration: not pending, or pending in OFF. -/
def Slot.restorable (x : Slot) : Prop := x.restore = false ∨ x.state = .off

theorem enterQueue_restorable {k : SlotId} (h : s.seq.slots[n].restorable) : (enterQueue k s).seq.slots[n].restorable := by
  by_cases hk : k = n
  · exact .inl (by rw [enterQueue_restore, if_pos hk])
  · exact h.imp (fun e => by rw [enterQueue_restore, if_neg hk, e]) fun e => by rw [enterQueue_state_other hk, e]

theorem restoreSlot_restores (h : s.seq.slots[n].restorable) : (restoreSlot n s).seq.slots[n].restore = false := by
  rcases restoreSlot_spec n s with ⟨hno, e⟩ | e | e <;> rw [e]
  · rcases h with hr | hst
    · exact hr
    · exact Bool.eq_false_iff.2 fun hr => hno ⟨hr, hst⟩
  · rw [enterQueue_restore, if_pos rfl]
  · rw [setSlot_slots, if_pos rfl]

theorem restoreSlot_other {k : SlotId} (hk : k ≠ n) (s : State) :
    (restoreSlot k s).seq.slots[n].restore = s.seq.slots[n].restore ∧ (restoreSlot k s).seq.slots[n].state = s.seq.slots[n].state := by
  rcases restoreSlot_spec k s with ⟨-, e⟩ | e | e <;> rw [e]
  · exact ⟨rfl, rfl⟩
  · exact ⟨by rw [enterQueue_restore, if_neg hk], enterQueue_state_other hk s⟩
  · rw [setSlot_slots, if_neg hk]
    exact ⟨rfl, rfl⟩

/-- R108: the restoration leaves no OFF slot pending. -/
theorem autoQueued_restore (h : s.seq.slots[n].state = .off) : s.autoQueued.seq.slots[n].restore = false := by
  have hqueued : ((slotIds.filter s.autoStarts).foldl (fun s n => enterQueue n s) s).seq.slots[n].restorable :=
    List.foldlRecOn (motive := fun u : State => u.seq.slots[n].restorable) _ _ (.inr h) fun _ hu _ _ => enterQueue_restorable hu
  unfold State.autoQueued
  generalize (slotIds.filter s.autoStarts).foldl (fun s n => enterQueue n s) s = u at hqueued
  obtain ⟨pre, post, hl⟩ := List.append_of_mem (mem_slotIds n)
  have hnodup := slotIds_nodup
  rw [hl, List.nodup_middle, List.nodup_cons, List.mem_append, not_or] at hnodup
  obtain ⟨⟨hpre, hpost⟩, -⟩ := hnodup
  rw [hl, List.foldl_append, List.foldl_cons]
  have hbefore : (pre.foldl (fun s n => restoreSlot n s) u).seq.slots[n].restorable :=
    List.foldlRecOn (motive := fun u : State => u.seq.slots[n].restorable) pre _ hqueued fun v hv k hk => by
      obtain ⟨hr, hs⟩ := restoreSlot_other (n := n) (fun e => hpre (e ▸ hk)) v
      exact hv.imp (fun e => hr.trans e) fun e => hs.trans e
  exact List.foldlRecOn (motive := fun u : State => u.seq.slots[n].restore = false) post _ (restoreSlot_restores hbefore) fun v hv k hk =>
    (restoreSlot_other (n := n) (fun e => hpost (e ▸ hk)) v).1.trans hv

theorem enterOnline_restore (hquiet : s.charge.armed = false ∨ s.settings.targets.mode = .onBridge) (hq : n ∉ s.seq.queue)
    (hst : s.seq.slots[n].state = .off) : (enterOnline s).seq.slots[n].restore = false := by
  obtain ⟨hseq, -, -⟩ := refilled_quiet hquiet
  have hslot : s.refilled.seq.slots[n] = s.seq.slots[n] := by rw [hseq]
  have hwithdrawn : Spared n (· = s.refilled.seq.slots[n].kept) (withdrawSheds s.refilled) :=
    withdrawSheds_spared (by rw [hseq]; exact hq)
  have hoff : (withdrawSheds s.refilled).seq.slots[n].state = .off := by
    rw [hwithdrawn.1, hslot, Slot.kept, if_neg, hst]
    rw [Slot.withdrawable, hst]
    nofun
  have hrestored : Spared n (fun x => x.restore = false) (withdrawSheds s.refilled).autoQueued :=
    ⟨autoQueued_restore hoff, fun _ _ _ hx => hx⟩
  have hsettled := hrestored.settle
  rw [← enterOnline_settled] at hsettled
  exact hsettled.1

end EnterOnline

end Sys2Proof.Machine
end

section
/-! PROOFS. O55: the time limit of a test, and the settle, bridging and collapse timers. -/

namespace Sys2Proof.Machine

theorem exec_testTimerExpiry {s : State} (hrun : s.running) (ht : s.charge.test.timer.isSome = true) (hr : s.charge.test.running = true) :
    exec .testTimerExpiry s = .next (recomputeReserve (abortTest .abortedTime (fun i t => t.restOf i) s)) := by
  rw [exec_expiry (f := expireTest) rfl hrun ht, expireTest, if_pos hr]

theorem exec_settleTimerExpiry {s : State} (hrun : s.running) (ht : s.holdup.settle.isSome = true) (hst : s.holdup.state = .returning) :
    exec .settleTimerExpiry s = .next (enterOnline s) := by
  rw [exec_expiry (f := expireSettle) rfl hrun ht, expireSettle, if_pos hst]

theorem exec_collapseTimerExpiry {s : State} (hrun : s.running) (ht : s.holdup.collapse.isSome = true) (hst : s.holdup.state = .bridging) :
    exec .collapseTimerExpiry s = .next (enterBlackout s) := by
  rw [exec_expiry (f := expireCollapse) rfl hrun ht, expireCollapse, if_pos hst]

/-- The part whose bridging timer has run out (R68). -/
def State.unbridged (s : State) : State := s.setHoldup { s.holdup with bridging := none }

theorem exec_bridgingTimerExpiry {s : State} (hrun : s.running) (ht : s.holdup.bridging.isSome = true) :
    exec .bridgingTimerExpiry s = .next (raise causeHoldup s.busV codeLimit (shedClass .limit 1 .prompt s.unbridged)) := by
  have hbus : (shedClass .limit 1 .prompt s.unbridged).busV = s.busV := (shedClass_ripple _ _ _ s.unbridged).busV
  have he : expireBridging s = raise causeHoldup s.unbridged.busV codeLimit (shedClass .limit 1 .prompt s.unbridged) := rfl
  rw [exec_expiry (f := expireBridging) rfl hrun ht, he]
  rfl

theorem Transfer.close_open {x : Transfer} (h : x.isOpen = true) (why : EndReason) (r : Nat) :
    x.close why r = { x with isOpen := false, valid := true, rEnd := r, endReason := some why } := if_pos h

theorem Transfer.close_closed {x : Transfer} (h : x.isOpen = false) (why : EndReason) (r : Nat) : x.close why r = x :=
  if_neg (by rw [h]; nofun)

theorem Slot.withdrawable_iff {x : Slot} :
    x.withdrawable = true ↔ (x.state = .notice ∨ x.state = .held) ∧ (x.reason = .reserve ∨ x.reason = .limit) := by
  simp only [Slot.withdrawable, Bool.and_eq_true, Bool.or_eq_true, beq_iff_eq]

theorem cls_level_zero {c : SlotClass} : c = .critical ↔ ¬ 1 ≤ c.level := by cases c <;> decide

end Sys2Proof.Machine

open Sys2Proof Sys2Proof.Machine

/-- Settles O55: the end of a test by the charge (R57), the two holdup entries by what each of their requests leaves (R65, R71), and
the LIMIT shed by the class shed's outcomes (R68, R123). -/
theorem timersOfTestAndHoldup : Obligations.TimersOfTestAndHoldup := by
  intro s hrun
  refine ⟨fun i hr ht hbbu hst => ?_, fun hst ht => ?_, fun ht => ?_, fun hst ht => ?_⟩
  · intro set
    refine ⟨_, exec_testTimerExpiry hrun ht hr, ?_⟩
    obtain ⟨hoff, hresult, htimer, hstate, hq, hraised, hreckoned⟩ :=
      abortTest_closes (result := .abortedTime) (st := fun i t => t.restOf i) hbbu rfl
    exact ⟨hoff, hresult, htimer, hstate.trans (restOf_testTold s i _), hq, hraised, hreckoned⟩
  · refine ⟨_, exec_settleTimerExpiry hrun ht hst, ?_⟩
    have hholdup := enterOnline_holdup s
    have hswell := enterOnline_swell s
    have hrecord : (enterOnline s).holdup.record = s.holdup.record.close .acReturn s.holdup.lastR := by
      rw [hholdup]
      rfl
    obtain ⟨hraised, hcondition⟩ := enterOnline_told s
    beta_reduce
    intro quiet
    refine ⟨?_, fun hclosed => ?_, fun hopen => ?_, ?_, ?_, fun hmode => ?_, hraised, hcondition, enterOnline_bbu_state s,
      fun hq n hn => ?_⟩
    · rw [hrecord]
      exact hholdup
    · rw [hrecord, Transfer.close_closed hclosed]
    · rw [hrecord, Transfer.close_open hopen]
      exact ⟨rfl, rfl, rfl, rfl, rfl⟩
    · rw [hswell.lastHoldup, onlined_seq]
    · rw [hswell.rechargeLastHoldup, onlined_recharge]
    · exact enterOnline_disarmed (.inr hmode)
    · intro x y warned passes
      have hslot (h : x.state ≠ .off) : y = x.kept := enterOnline_slot hq hn h
      have hstays (h : x.state ≠ .off) (hno : ¬ (warned ∧ passes)) : y = x :=
        (hslot h).trans (if_neg fun e => hno (Slot.withdrawable_iff.1 e))
      refine ⟨fun hw hp => ?_, fun hw hp => hstays ?_ fun e => hp e.2, fun hup => hstays ?_ fun e => ?_, fun hoff => ?_⟩
      · have hne : x.state ≠ .off := by rcases hw with e | e <;> (rw [e]; nofun)
        have hy : y = x.noShed.moved .on := (hslot hne).trans (if_pos (Slot.withdrawable_iff.2 ⟨hw, hp⟩))
        rw [hy]
        exact ⟨rfl, rfl, rfl, rfl, rfl, rfl⟩
      · rcases hw with e | e <;> (rw [e]; nofun)
      · rcases hup with e | e | e | e | e <;> (rw [e]; nofun)
      · rcases hup with h | h | h | h | h <;> rcases e.1 with k | k <;> exact absurd (h.symm.trans k) nofun
      · exact enterOnline_restore hq hn hoff
  · refine ⟨_, exec_bridgingTimerExpiry hrun ht, ?_⟩
    have hripple := shedClass_ripple .limit 1 .prompt s.unbridged
    refine ⟨?_, ?_, fun n hn => ?_⟩
    · rw [raise_holdup, hripple.holdup]
      rfl
    · have hshed : Quiet causeHoldup s.unbridged (shedClass .limit 1 .prompt s.unbridged) := by
        unfold shedClass
        exact (shed_quiet_holdup s.unbridged).foldl_shedSlot _ (.refl _ _) causeHoldup not_shedCause_holdup
      have hset : Quiet causeHoldup s s.unbridged := .of_eq rfl rfl
      have hquiet := hset.trans hshed
      exact (raise_raisedFrom causeHoldup s.busV codeLimit _).widen (raise_sending _ _ _ _) hquiet.toUnraised (Quiet.refl _ _).toUnraised
    · intro x y bound
      have hseq : y = (shedClass .limit 1 .prompt s.unbridged).seq.slots[n] := by
        show (raise causeHoldup s.busV codeLimit (shedClass .limit 1 .prompt s.unbridged)).seq.slots[n] = _
        rw [raise_seq]
      have hother (h : n ∉ s.unbridged.classGroup 1) : y = x := hseq.trans (shedClass_other (s := s.unbridged) hn h)
      have hin (h : ¬ bound) : 1 ≤ s.unbridged.settings.slots[n].cls.level := not_not.1 fun e => h (cls_level_zero.2 e)
      have hdown (h : x.state = .draining ∨ x.state = .faulted ∨ x.state = .locked) : n ∉ s.unbridged.classGroup 1 := fun hm => by
        have hp : x.state.powered = true := (mem_classGroup.1 hm).2
        rcases h with e | e | e <;> (rw [e] at hp; cases hp)
      refine ⟨fun hb => hother fun hm => cls_level_zero.1 hb (mem_classGroup.1 hm).1, fun h => hother (hdown h), fun hb hst => ?_, ?_⟩
      · have hwarned := shedClass_warns (s := s.unbridged) (reason := .limit) (urgency := .prompt) hn (hin hb) hst nofun
        exact hseq.trans hwarned
      · intro set drained yields
        have hstands (hst : x.state = .notice ∨ x.state = .held) (hno : ¬ yields) : y = x := by
          have hreason : x.reason = .leak ∨ Urgency.prompt.level < x.urgency.level := by
            by_contra hnot
            rw [not_or, Nat.not_lt] at hnot
            exact hno hnot
          by_cases hb : bound
          · exact hother fun hm => cls_level_zero.1 hb (mem_classGroup.1 hm).1
          · exact hseq.trans (shedClass_stands (s := s.unbridged) hn (hin hb) hst nofun hreason)
        refine ⟨fun hb hst hpg => ?_, fun hb hst hpg hoff => ?_, fun hb hst hy => ?_, fun hb hst hy hpg => ?_, hstands⟩
        · exact hseq.trans (shedClass_drains_soak (s := s.unbridged) hn (hin hb) hst hpg)
        · have hoffline : s.unbridged.online = false := beq_false_of_ne hoff
          rw [hseq, shedClass_rests_soak (s := s.unbridged) (reason := .limit) hn (hin hb) hst hpg nofun hoffline]
          exact ⟨rfl, rfl, rfl, rfl, rfl⟩
        · exact hseq.trans (shedClass_renames (s := s.unbridged) hn (hin hb) (.inl hst) hy.1 hy.2 nofun (.inl hst))
        · exact hseq.trans (shedClass_drains_flying (s := s.unbridged) hn (hin hb) (.inr hst) hy.1 hy.2 hpg (.inr ⟨hst, rfl⟩))
  · refine ⟨_, exec_collapseTimerExpiry hrun ht hst, ?_⟩
    have hholdup := enterBlackout_holdup s
    have hrecord : (enterBlackout s).holdup.record = s.holdup.record.close .blackout s.holdup.lastR := by
      rw [hholdup]
      rfl
    obtain ⟨hraised, hcondition⟩ := enterBlackout_told s
    refine ⟨?_, fun hopen => ?_, hraised, hcondition, enterBlackout_armed s, fun n hn => ?_, fun n hen hleak => ?_, fun n hoff hauto => ?_,
      fun i => ?_⟩
    · rw [hrecord]
      exact hholdup
    · rw [hrecord, Transfer.close_open hopen]
      exact ⟨rfl, rfl, rfl⟩
    · have hdark := enterBlackout_off (.inr hn)
      exact ⟨hdark.slot.1, hdark.out trivial⟩
    · exact (enterBlackout_dead hen hleak).slot.1
    · have hdark := enterBlackout_off (.inl hoff)
      refine ⟨hdark.slot.1, hdark.slot.2.2.trans ?_⟩
      rw [hauto, Bool.or_true]
    · intro st
      refine ⟨?_, fun hseen hdep => enterBlackout_out hseen (depletes_iff.2 hdep)⟩
      rw [enterBlackout_bbu_state]
      simp only [depletes_iff]
      rfl
end

section
/-! PROOFS. O50: the end of a profile load (R174, R178), block by block. -/

namespace Sys2Proof.Machine

/-! ### The fallback's raise (R162, R174) -/

theorem serveTransmitter_alert (s : State) : (serveTransmitter s).causes.alert = s.causes.alert := by
  rcases serveTransmitter_cases s with ⟨e, -⟩ | ⟨_, _, -, -, e⟩ | ⟨_, _, -, -, -, -, e⟩ | ⟨e, -⟩ <;> rw [e] <;> rfl

theorem raise_alert_record (c : CauseId) (v : Int) (code : Byte) (s : State) :
    (raise c v code s).causes.alert = (recordRaise c v code s).causes.alert := by
  rw [raise_eq, serveTransmitter_alert, joinOutbox_eq]
  rfl

/-- R162: a raise keeps ALERT as the conditions and the alert-enables call for. -/
theorem raise_keeps_alert (c : CauseId) (v : Int) (code : Byte) {s : State} (h : s.causes.alert = s.alertLevel) :
    (raise c v code s).causes.alert = (raise c v code s).alertLevel := by
  rw [raise_alert_record, recordRaise_alert]
  by_cases he : eventSource c = true
  · rw [if_pos he]
    exact (raise_alertLevel v code).symm
  · rw [if_neg he]
    refine h.trans (alertLevel_congr (raise_settings v code) fun d => ?_).symm
    by_cases hd : d = c
    · subst hd
      exact raise_condition (Bool.eq_false_iff.2 he) v code s
    · exact (raise_quiet (Ne.symm hd) v code s).condition

theorem Tells.slotsAfterLoad {s t : State} (h : Tells s t) : t.slotsAfterLoad = s.slotsAfterLoad := by
  unfold Tells at h
  generalize t.causes = x at h
  generalize t.link.replies = y at h
  generalize t.link.tx = z at h
  subst h
  rfl

section Load
variable (s : State) (cold : Bool)

theorem loadedState_alert : (s.loadedState cold).causes.alert = (s.loadedState cold).alertLevel := rfl

/-- The part as loaded, with what the failed check has told (R174). -/
def State.checked : State := raiseFallback (s.loadedState cold)

theorem checked_tells : Tells (s.loadedState cold) (s.checked cold) := by
  unfold State.checked raiseFallback
  generalize s.loadedState cold = l
  split
  · exact .refl l
  · exact (Tells.refl l).raise _ _ _

theorem checked_alert : (s.checked cold).causes.alert = (s.checked cold).alertLevel := by
  have h := loadedState_alert s cold
  unfold State.checked raiseFallback
  generalize s.loadedState cold = l at h
  split
  · exact h
  · exact raise_keeps_alert _ _ _ h

theorem checked_settings : (s.checked cold).settings = s.settingsAfterLoad cold := by
  have h := checked_tells s cold
  unfold Tells at h
  rw [h]
  rfl

theorem checked_condition (q : CauseId) (hq : eventSource q = false) :
    (s.checked cold).causes.recs[q].condition = (s.loadedState cold).causes.recs[q].condition := by
  unfold State.checked raiseFallback
  split
  · rfl
  · by_cases he : q = causeFallback
    · subst he
      exact raise_condition hq _ _ _
    · exact (raise_quiet (fun e => he e.symm) _ _ _).condition

theorem loadedState_source : (s.loadedState cold).store.source = if s.store.nvm.valid then .stored else .defaults := rfl

theorem checked_raised (h : s.store.nvm.valid = false) : RaisedFrom s (s.checked cold) causeFallback 0 1 := by
  have hsource : (s.loadedState cold).store.source = .defaults := by rw [loadedState_source, h]; rfl
  have hraise : s.checked cold = raise causeFallback 0 codeCheckFailed (s.loadedState cold) := by
    unfold State.checked raiseFallback
    rw [hsource]
  rw [hraise]
  exact (raise_raisedFrom causeFallback 0 codeCheckFailed (s.loadedState cold)).congr rfl rfl rfl

/-- The part at the end of the load, before the waiting request is executed (R178 step 3). -/
def State.started : State := adoptSlots (s.checked cold)

theorem exec_profileLoadComplete {s : State} {cold : Bool} (h : s.phase = .loading cold) :
    exec .profileLoadComplete s = .next (executeHead (s.started cold)) := by
  show execProfileLoadComplete s = _
  unfold execProfileLoadComplete
  rw [h]
  rfl

theorem exec_profileLoadComplete_not_loading {s : State} (h : ∀ cold, s.phase ≠ .loading cold) :
    exec .profileLoadComplete s = .next s := by
  show execProfileLoadComplete s = _
  unfold execProfileLoadComplete
  split
  · next cold e => exact absurd e (h cold)
  · rfl
  · rfl

theorem adoptSlots_eq (v : State) :
    adoptSlots v = { v with seq := Sequencer.init v.slotsAfterLoad, budget := (v.setSeq (Sequencer.init v.slotsAfterLoad)).settled } := by
  unfold adoptSlots
  rw [settleHeadroom_eq]
  generalize State.settled _ = b
  rfl

/-- R178 step 3: the adoption writes the sequencer and reckons the headroom. -/
theorem started_eq :
    s.started cold =
      { s.loadedState cold with
        causes := (s.checked cold).causes
        link := { s.link with replies := (s.checked cold).link.replies, tx := (s.checked cold).link.tx }
        seq := Sequencer.init (s.loadedState cold).slotsAfterLoad
        budget := ((s.checked cold).setSeq (Sequencer.init (s.loadedState cold).slotsAfterLoad)).settled } := by
  have htells := checked_tells s cold
  have hslots : (s.checked cold).slotsAfterLoad = (s.loadedState cold).slotsAfterLoad := htells.slotsAfterLoad
  unfold State.started
  rw [adoptSlots_eq, hslots]
  unfold Tells at htells
  generalize s.checked cold = v at htells ⊢
  have hlink : (s.loadedState cold).link = s.link := rfl
  rw [hlink] at htells
  rw [← hlink]
  generalize (v.setSeq (Sequencer.init (s.loadedState cold).slotsAfterLoad)).settled = b
  rw [htells]
  rfl

theorem started_fields :
    let u := s.started cold
    let l := s.loadedState cold
    u.phase = .running ∧ u.link.queue = s.link.queue ∧ u.pins = s.pins ∧ u.clock = s.clock ∧ u.settings = s.settingsAfterLoad cold ∧
      u.store = Store.init s.store.nvm (if s.store.nvm.valid then .stored else .defaults) ∧ u.causes = (s.checked cold).causes ∧
      u.link.tx = (s.checked cold).link.tx ∧ u.holdup = Holdup.init s.holdup.events s.holdup.record ∧
      u.recharge = Recharge.init (s.settingsAfterLoad cold).recharge ∧ u.sense = Sense.init ∧ u.line = Line.init true ∧
      u.seq = Sequencer.init l.slotsAfterLoad ∧ u.leak = ⟨s.zonesAfterLoad⟩ ∧
      u.charge = Charge.init (s.bbusAfterLoad cold (s.settingsAfterLoad cold)) s.charge.test := by
  have h := started_eq s cold
  generalize s.started cold = u at h
  rw [h]
  exact ⟨rfl, rfl, rfl, rfl, rfl, rfl, rfl, rfl, rfl, rfl, rfl, rfl, rfl, rfl, rfl⟩

theorem loadedState_slots (n : SlotId) :
    (s.loadedState cold).slotsAfterLoad[n] =
      (if s.lastReset = .powerOn then Slot.powerOn s.pins.pg[n]
       else adoptSlot (s.settingsAfterLoad cold).slots[n] s.seq.slots[n].en s.pins.pg[n] ((s.loadedState cold).slotWetShed n)) := by
  have hreset : (s.loadedState cold).lastReset = s.lastReset := rfl
  unfold State.slotsAfterLoad
  rw [hreset]
  cases hr : s.lastReset with
  | powerOn =>
    rw [if_pos rfl]
    exact get_ofFn _ _
  | pin =>
    rw [if_neg nofun]
    exact get_ofFn _ _

theorem zonesAfterLoad_pin (h : s.lastReset = .pin) (z : ZoneId) : s.zonesAfterLoad[z] = Zone.pinReset s.leak.zones[z] := by
  unfold State.zonesAfterLoad
  rw [h]
  exact get_ofFn _ _

theorem zonesAfterLoad_powerOn (h : s.lastReset = .powerOn) (z : ZoneId) : s.zonesAfterLoad[z] = Zone.powerOn := by
  unfold State.zonesAfterLoad
  rw [h]
  exact get_replicate _ _

theorem settingsAfterLoad_zone (h : s.lastReset = .pin) (z : ZoneId) :
    (s.settingsAfterLoad cold).zones[z] = keepPolicy s.store.loaded.zones[z] s.settings.zones[z] s.leak.zones[z] := by
  show s.zoneSettingsAfterLoad[z] = _
  unfold State.zoneSettingsAfterLoad
  rw [h]
  exact get_ofFn _ _

/-- R109: the zones that keep their slots shed after a pin reset. -/
theorem loadedState_wetShed (h : s.lastReset = .pin) (n : SlotId) :
    (s.loadedState cold).slotWetShed n = true ↔
      ∃ z : ZoneId, (s.settingsAfterLoad cold).slots[n].zone = some z ∧ s.leak.zones[z].state = .wet ∧
        s.settings.zones[z].policy = .valveAndShed := by
  rw [slotWetShed_iff]
  refine exists_congr fun z => and_congr_right fun _ => ?_
  have hzone : (s.loadedState cold).leak.zones[z].state = s.leak.zones[z].state := by
    show s.zonesAfterLoad[z].state = _
    rw [zonesAfterLoad_pin s h]
    rfl
  have hset : (s.loadedState cold).settings.zones[z] = keepPolicy s.store.loaded.zones[z] s.settings.zones[z] s.leak.zones[z] :=
    settingsAfterLoad_zone s cold h z
  rw [hzone, hset]
  refine and_congr_right fun hw => ?_
  rw [keepPolicy, if_pos hw]

end Load

/-- R109: an adopted slot. -/
theorem adoptSlot_spec (set : SlotSettings) (en pg : Bool) {wet : Bool} {p : Prop} (hp : wet = true ↔ p) :
    let y := adoptSlot set en pg wet
    (p → pg = true → y.state = .draining ∧ y.reason = .leak ∧ y.urgency = .immediate) ∧
      (p → pg = false → y.state = .locked ∧ y.reason = .leak ∧ y.urgency = .immediate) ∧
      (¬ p → pg = false → y.state = .off ∧ y.reason = .none) ∧ (¬ p → pg = true → en = true → y.state = .on ∧ y.reason = .none) ∧
      (¬ p → pg = true → en = false → y.state = .draining ∧ y.reason = .reset ∧ y.urgency = .immediate) ∧
      y.en = decide (y.state = .on) ∧ y.pg = pg ∧ y.restore = false ∧ y.notice = false ∧ y.adoptedOff = decide (y.state = .off) ∧
      y.drain = if y.state = .draining then some (set.drainLimit * 1000) else none := by
  rw [← hp]
  cases wet <;> cases pg <;> cases en <;> simp [adoptSlot, adoptedState, SlotState.powered]

end Sys2Proof.Machine

open Sys2Proof Sys2Proof.Machine

/-- Settles O50: the loaded blocks, the adoption of the slots after a pin reset, and the fallback's raise, which no later step of the
load disturbs. -/
theorem loadTakesTheProfileAndAdopts : Obligations.LoadTakesTheProfileAndAdopts := by
  refine ⟨fun s h => exec_profileLoadComplete_not_loading h, fun s cold h => ?_⟩
  intro p
  obtain ⟨hphase, hqueue, hpins, hclock, hsettings, hstore, hcauses, htx, hholdup, hrecharge, hsense, hline, hseq, hleak, hcharge⟩ :=
    started_fields s cold
  refine ⟨s.started cold, exec_profileLoadComplete h, ?_⟩
  generalize s.started cold = u at hphase hqueue hpins hclock hsettings hstore hcauses htx hholdup hrecharge hsense hline hseq hleak hcharge
  refine ⟨hphase, hqueue, hpins, hclock, ?_, fun hc => ?_, fun hc i => ?_, fun hr => ?_, fun hr z => ?_, hstore, fun hv => ?_, fun q => ?_, ?_,
    ?_, ?_, ?_, ?_, hsense, hline, ?_, ?_, ?_, fun hr => ⟨fun n => ?_, fun z => ?_⟩, fun hc i => ?_, fun hc i => ?_,
    fun hr => ⟨fun n => ?_, fun z => ?_⟩⟩
  · rw [hsettings]
    rfl
  · rw [hsettings]
    exact if_pos hc
  · rw [hsettings]
    show (s.bbuSettingsAfterLoad cold)[i] = _
    unfold State.bbuSettingsAfterLoad
    rw [if_neg (by simp [hc]), get_ofFn]
    rfl
  · rw [hsettings]
    show s.zoneSettingsAfterLoad = _
    unfold State.zoneSettingsAfterLoad
    rw [hr]
    rfl
  · rw [hsettings, settingsAfterLoad_zone s cold hr z]
    rfl
  · obtain ⟨hvalue, hcode, hpending⟩ := checked_raised s cold hv
    refine ⟨?_, ?_, hpending.imp (fun e => ?_) fun ⟨hfree, n, e, hn⟩ => ⟨hfree, n, htx.trans e, hn⟩⟩ <;> rw [hcauses]
    · exact hvalue
    · exact hcode
    · exact e
  · rw [hcauses, checked_condition s cold _ (causePoint_not_eventSource _), loadedState_condition]
    have hlow : (causePoint (AnalogId.point q)).val < 21 := q.isLt
    unfold rebuiltCondition
    rw [decide_eq_true hlow]
    rfl
  · rw [hcauses, checked_alert]
    exact (alertLevel_congr (hsettings.trans (checked_settings s cold).symm) fun d => by rw [hcauses]).symm
  · rw [hholdup]
    rfl
  · rw [hholdup]
    rfl
  · rw [hholdup]
    rfl
  · rw [hrecharge, hsettings]
  · rw [hseq]
    rfl
  · rw [hseq]
    rfl
  · rw [hseq]
    rfl
  · rw [hseq]
    exact (loadedState_slots s cold n).trans (if_pos hr)
  · rw [hleak]
    exact zonesAfterLoad_powerOn s hr z
  · have hbbu : u.charge.bbus[i] = Bbu.powerOn p.bbus[i] s.pins.bbu[i] := by
      rw [hcharge]
      show (s.bbusAfterLoad cold (s.settingsAfterLoad cold))[i] = _
      unfold State.bbusAfterLoad
      rw [if_pos hc, get_ofFn]
      exact congrArg (fun b : Vector BbuSettings 4 => Bbu.powerOn b[i] s.pins.bbu[i]) (if_pos hc)
    rw [hbbu]
    exact ⟨rfl, rfl, rfl⟩
  · rw [hcharge, hsettings]
    show (s.bbusAfterLoad cold (s.settingsAfterLoad cold))[i] = _
    unfold State.bbusAfterLoad
    rw [if_neg (by simp [hc]), get_ofFn]
    rfl
  · have hslot : u.seq.slots[n] =
        adoptSlot (s.settingsAfterLoad cold).slots[n] s.seq.slots[n].en s.pins.pg[n] ((s.loadedState cold).slotWetShed n) := by
      rw [hseq]
      refine (loadedState_slots s cold n).trans (if_neg ?_)
      rw [hr]
      exact nofun
    intro x y pg wet
    show _ ∧ _
    rw [show y = _ from hslot, show wet = _ from congrArg (fun S : Settings => ∃ z : ZoneId, S.slots[n].zone = some z ∧
      s.leak.zones[z].state = .wet ∧ s.settings.zones[z].policy = .valveAndShed) hsettings]
    rw [hsettings]
    exact adoptSlot_spec _ _ _ (loadedState_wetShed s cold hr n)
  · rw [hleak]
    show (let y := s.zonesAfterLoad[z]; _)
    rw [zonesAfterLoad_pin s hr z]
    exact ⟨rfl, rfl, rfl, rfl, rfl, rfl⟩
end

section
/-! PROOFS. What a shed keeps: every slot it moves commits no more power than before, but the head that an event of the sequencer
may grant. -/

namespace Sys2Proof.Machine

/-! ### Sheds, slot by slot (R25, R113 to R119) -/

/-- Every elementary step of a shed keeps `P`, a slot that it moves committing no more power than before. -/
structure EaseInvariant (P : State → Prop) : Prop where
  seqEvent : ∀ {t : State}, P t → P (seqEvent t)
  setSlot : ∀ {t : State} {n : SlotId} {x : Slot}, P t →
    commitment t.settings.slots[n] x ≤ commitment t.settings.slots[n] t.seq.slots[n] → P (t.setSlot n x)
  leaveQueue : ∀ {t : State} {n : SlotId}, P t → P (leaveQueue n t)
  lineWatch : ∀ {t : State}, P t → P (lineWatch t)
  report : ∀ {t : State} {n : SlotId} {a : Bool}, P t → P (reportCondition (causeSlot n) a t)
  recompute : ∀ {t : State}, P t → P (recompute t)

/-- Where no head is granted an event of the sequencer sends a report at most. -/
theorem seqEvent_of_ungranted {P : State → Prop} {t : State} (hno : ∀ n ∈ t.seq.queue.head?, t.grantsHead n = false) (h : P t)
    (hreport : P (sendReport t)) : P (seqEvent t) := by
  rw [seqEvent_ungranted hno]
  exact ite_keeps h hreport

/-- A slot may join the queue. -/
def Joins (P : State → Prop) : Prop := ∀ {t : State} {n : SlotId}, P t → P (joinQueue n t)

theorem commitment_unpowered (set : SlotSettings) {x : Slot} (h : x.state = .off ∨ x.state = .queued ∨ x.state = .locked) :
    commitment set x = 0 := by
  unfold commitment
  rcases h with e | e | e <;> rw [e]

theorem commitment_powered (set : SlotSettings) {x : Slot} (h : x.state.powered = true ∨ x.state = .draining) :
    set.pReq ≤ commitment set x := by
  unfold commitment
  rcases h with h | h
  · cases hst : x.state with
    | soak => exact Nat.le_add_right _ _
    | on | notice | held | draining => exact Nat.le_refl _
    | off | queued | faulted | locked => exact absurd (hst ▸ h) nofun
  · rw [h]

theorem commitment_warned (set : SlotSettings) {x : Slot} (h : x.state = .notice ∨ x.state = .draining ∨ x.state = .held ∨ x.state = .on) :
    commitment set x = set.pReq := by
  unfold commitment
  rcases h with e | e | e | e <;> rw [e]

theorem commitment_congr (set : SlotSettings) {x y : Slot} (hst : y.state = x.state) (hpg : y.pg = x.pg) :
    commitment set y = commitment set x := by
  unfold commitment
  rw [hst, hpg]

namespace EaseInvariant
variable {P : State → Prop} {t : State} {n : SlotId} {reason : ShedReason} {urgency : Urgency} {st : SlotState} {upd : Slot → Slot}

theorem seqEventIf (inv : EaseInvariant P) (h : P t) (b : Bool) : P (seqEventIf b t) := ite_keeps (inv.seqEvent h) h

theorem moveSlot (inv : EaseInvariant P) (h : P t)
    (hc : commitment t.settings.slots[n] ((upd t.seq.slots[n]).moved st) ≤ commitment t.settings.slots[n] t.seq.slots[n]) :
    P (moveSlot n st upd t) := by
  rw [moveSlot_eq]
  exact inv.lineWatch (inv.report (inv.setSlot h hc))

/-- A move to a state without power. -/
theorem unpower (inv : EaseInvariant P) (h : P t) (hst : st = .off ∨ st = .queued ∨ st = .locked) : P (Machine.moveSlot n st upd t) :=
  inv.moveSlot h (by rw [commitment_unpowered _ (x := (upd t.seq.slots[n]).moved st) hst]; exact Nat.zero_le _)

theorem setFields (inv : EaseInvariant P) (h : P t) {x : Slot} (hst : x.state = t.seq.slots[n].state) (hpg : x.pg = t.seq.slots[n].pg) :
    P (t.setSlot n x) := inv.setSlot h (Nat.le_of_eq (commitment_congr _ hst hpg))

theorem enterQueue (inv : EaseInvariant P) (joins : Joins P) (h : P t) : P (enterQueue n t) :=
  ite_keeps (inv.unpower h (.inr (.inr rfl))) (joins (inv.unpower h (.inr (.inl rfl))))

theorem restoreSlot (inv : EaseInvariant P) (joins : Joins P) (h : P t) : P (restoreSlot n t) :=
  ite_keeps (ite_keeps (inv.enterQueue joins h) (inv.setFields h rfl rfl)) h

theorem handOver (inv : EaseInvariant P) (joins : Joins P) (h : P t) : P (handOver n t) :=
  ite_keeps (inv.seqEvent (inv.restoreSlot joins h)) h

theorem completeDrain (inv : EaseInvariant P) (joins : t.seq.slots[n].reason ≠ .leak → Joins P) (h : P t) : P (completeDrain n t) := by
  rcases completeDrain_cases n t with ⟨-, e⟩ | ⟨hr, restore, e⟩ <;> rw [e]
  · exact inv.recompute (inv.unpower h (.inr (.inr rfl)))
  · exact inv.handOver (joins hr) (inv.recompute (inv.unpower h (.inl rfl)))

theorem enterDraining (inv : EaseInvariant P) (joins : t.seq.slots[n].reason ≠ .leak → Joins P) (h : P t)
    (hst : t.seq.slots[n].state.powered = true ∨ t.seq.slots[n].state = .draining) : P (enterDraining n t) := by
  have hopened : P (t.drainOpened n) :=
    inv.moveSlot h (by rw [commitment_warned _ (.inr (.inl rfl))]; exact commitment_powered _ hst)
  rw [enterDraining_eq]
  refine ite_keeps (inv.recompute hopened) (inv.completeDrain (fun hr => joins ?_) hopened)
  rw [drainOpened_slot] at hr
  exact hr

theorem unpowerSlot (inv : EaseInvariant P) (h : P t) : P (unpowerSlot n reason t) := by
  unfold Machine.unpowerSlot
  split
  · exact inv.unpower h (.inr (.inr rfl))
  · exact inv.unpower h (.inl rfl)
  · exact inv.unpower h (.inl rfl)

theorem shedUnpowered (inv : EaseInvariant P) (joins : reason ≠ .leak → Joins P) (h : P t) : P (shedUnpowered n reason t) := by
  have hshed := inv.seqEventIf (inv.unpowerSlot (n := n) (reason := reason) (inv.leaveQueue (n := n) h)) (t.seq.slots[n].state == .queued)
  unfold Machine.shedUnpowered handOverFor
  split
  · next hr => exact inv.handOver (joins fun e => absurd (e ▸ hr) nofun) hshed
  · exact hshed

/-- A shed is named on a slot that then drains. -/
theorem drainNamed (inv : EaseInvariant P) (joins : reason ≠ .leak → Joins P) (h : P t)
    (hst : t.seq.slots[n].state.powered = true ∨ t.seq.slots[n].state = .draining) :
    P (Machine.enterDraining n (t.setSlot n { t.seq.slots[n] with reason := reason, urgency := urgency })) := by
  have hslot : (t.setSlot n { t.seq.slots[n] with reason := reason, urgency := urgency }).seq.slots[n] =
      { t.seq.slots[n] with reason := reason, urgency := urgency } := by rw [setSlot_slots, if_pos rfl]
  refine inv.enterDraining (fun hr => joins ?_) (inv.setFields h rfl rfl) ?_
  · rw [hslot] at hr
    exact hr
  · rw [hslot]
    exact hst

theorem shedInFlight (inv : EaseInvariant P) (joins : reason ≠ .leak → Joins P) (h : P t) : P (shedInFlight n reason urgency t) := by
  rcases shedInFlight_cases n reason urgency t with e | ⟨-, -, e⟩ | ⟨-, -, -, e⟩ <;> rw [e]
  · exact h
  · have hdrain (hst : (t.setSlot n { t.seq.slots[n] with reason := reason, urgency := urgency }).seq.slots[n].state.powered = true) :=
      inv.drainNamed (urgency := urgency) joins h (n := n) (.inl (by rw [setSlot_slots, if_pos rfl] at hst; exact hst))
    unfold Machine.escalate
    split
    · next hst => exact hdrain (by rw [hst]; rfl)
    · next hst => exact hdrain (by rw [hst]; rfl)
    · next hst => exact hdrain (by rw [hst]; rfl)
    · exact inv.setFields h rfl rfl
  · exact inv.setFields h rfl rfl

theorem shedSlot (inv : EaseInvariant P) (joins : reason ≠ .leak → Joins P) (h : P t) : P (shedSlot n reason urgency t) := by
  unfold Machine.shedSlot
  cases hst : t.seq.slots[n].state with
  | off | queued => exact inv.shedUnpowered joins h
  | soak => exact inv.seqEvent (inv.drainNamed joins h (.inl (by rw [hst]; rfl)))
  | on =>
    refine ite_keeps (inv.drainNamed joins h (.inl (by rw [hst]; rfl))) (inv.recompute (inv.moveSlot h ?_))
    rw [commitment_warned _ (.inl rfl)]
    exact commitment_powered _ (.inl (by rw [hst]; rfl))
  | notice | held | draining => exact inv.shedInFlight joins h
  | faulted | locked => exact ite_keeps (inv.setFields h rfl rfl) h

theorem foldl_shedSlot (inv : EaseInvariant P) (joins : reason ≠ .leak → Joins P) (l : List SlotId) (h : P t) :
    P (l.foldl (fun s n => Machine.shedSlot n reason urgency s) t) := List.foldlRecOn l _ h fun _ hu _ _ => inv.shedSlot joins hu

theorem shedClass (inv : EaseInvariant P) (joins : reason ≠ .leak → Joins P) (h : P t) (k : Nat) : P (shedClass reason k urgency t) :=
  inv.foldl_shedSlot joins _ h

theorem shedZone (inv : EaseInvariant P) (h : P t) (z : ZoneId) : P (shedZone z t) := inv.foldl_shedSlot (fun e => absurd rfl e) _ h

theorem lockZone (inv : EaseInvariant P) (h : P t) (z : ZoneId) : P (lockZone z t) := by
  unfold Machine.lockZone
  exact ite_keeps h (inv.seqEvent (List.foldlRecOn _ _ h fun _ hu _ _ => inv.unpower (inv.leaveQueue hu) (.inr (.inr rfl))))

theorem targetAction (inv : EaseInvariant P) (joins : Joins P)
    (hset : ∀ {t : State} {b : Bool}, P t → P (t.setSeq { t.seq with targetInhibit := b })) (h : P t) (e : TargetEntry) :
    P (targetAction e t) := by
  have hinhibit (b : Bool) : P (setTargetInhibit b t) := ite_keeps h (inv.seqEvent (hset h))
  unfold Machine.targetAction
  cases e.action with
  | noticeOnly => exact h
  | shed => exact inv.shedClass (fun _ => joins) h _
  | inhibitPowerup | releasePowerup => exact hinhibit _

end EaseInvariant

end Sys2Proof.Machine
end

section
/-! PROOFS. The end of ONLINE (R62 to R64, R67 to R71): what the holdup controller's transitions leave of the holdup record, the
deficit state and the regulator. -/

namespace Sys2Proof.Machine

/-! ### Frames -/

/-- The holdup controller `x` but for the matched indices of an open record (R76). -/
structure Holdup.Matches (x y : Holdup) : Prop where
  open_ : y = { x with record := { x.record with matched := y.record.matched } }
  closed : x.record.isOpen = false → y = x

theorem Holdup.Matches.refl (x : Holdup) : x.Matches x := ⟨rfl, fun _ => rfl⟩

theorem Holdup.Matches.trans {x y z : Holdup} (h : x.Matches y) (k : y.Matches z) : x.Matches z where
  open_ := by
    have hz := k.open_
    rw [h.open_] at hz
    exact hz
  closed hx := by
    have hy := h.closed hx
    subst hy
    exact k.closed hx

theorem Holdup.Matches.of_eq {x y : Holdup} (h : y = x) : x.Matches y := h ▸ .refl y

theorem Swell.matches {s t : State} (h : Swell s t) : s.holdup.Matches t.holdup := ⟨h.holdup, h.closed⟩

/-- The budget unit but for the headroom and the deficit state. -/
def Budget.Refigured (x y : Budget) : Prop :=
  y = { x with
        sigma := y.sigma, pChg := y.pChg, h := y.h, hp := y.hp, deficit := y.deficit, timer := y.timer, pubs := y.pubs, stale := y.stale }

theorem Budget.Refigured.refl (x : Budget) : x.Refigured x := rfl

theorem Budget.Refigured.of_eq {x y : Budget} (h : y = x) : x.Refigured y := h ▸ .refl y

theorem Budget.Refigured.trans {x y z : Budget} (h : x.Refigured y) (k : y.Refigured z) : x.Refigured z := by
  unfold Budget.Refigured at h k ⊢
  rw [h] at k
  exact k

theorem Swell.refigured {s t : State} (h : Swell s t) : s.budget.Refigured t.budget := by
  unfold Budget.Refigured
  exact h.budget.trans (congrArg (fun x : Nat =>
    { s.budget with
      sigma := t.budget.sigma, pChg := t.budget.pChg, h := t.budget.h, hp := t.budget.hp, deficit := t.budget.deficit
      timer := t.budget.timer, pubs := t.budget.pubs, stale := x }) (congrArg Budget.stale h.budget).symm)

/-! ### The shelf off AC (R33, R83) -/

/-- The part once ONLINE is left: neither the regulator nor the deficit state moves. -/
structure Cut (k : Nat) (t : State) : Prop where
  shut : t.seq.lastHoldup ≠ .online
  offline : t.online = false
  told : t.recharge.lastHoldup ≠ .online
  off : t.recharge.state = .off
  idleSet : t.recharge.iSet = 0
  idle : t.budget.deficit = .idle
  timer : t.budget.timer = none
  stale : t.budget.stale = k

namespace Cut
variable {k : Nat} {t u : State}

theorem of_same (h : Cut k t) (hseq : u.seq.lastHoldup = t.seq.lastHoldup) (hon : u.online = t.online)
    (hrecharge : u.recharge = t.recharge) (hbudget : u.budget = t.budget) : Cut k u :=
  ⟨by rw [hseq]; exact h.shut, hon.trans h.offline, by rw [hrecharge]; exact h.told, by rw [hrecharge]; exact h.off,
    by rw [hrecharge]; exact h.idleSet, by rw [hbudget]; exact h.idle, by rw [hbudget]; exact h.timer, by rw [hbudget]; exact h.stale⟩

theorem report (h : Cut k t) (c : CauseId) (a : Bool) : Cut k (reportCondition c a t) :=
  h.of_same (by rw [reportCondition_seq]) (by rw [State.online, reportCondition_holdup]; rfl) (reportCondition_recharge _ _ _)
    (reportCondition_budget _ _ _)

theorem raise (h : Cut k t) (c : CauseId) (v : Int) (code : Byte) : Cut k (raise c v code t) :=
  h.of_same (by rw [raise_seq]) (by rw [State.online, raise_holdup]; rfl) (raise_recharge _ _ _ _) (raise_budget _ _ _ _)

theorem setFigures (h : Cut k t) (sigma pChg : Nat) (hh hp : Int) (pubs : List (Int × Int)) :
    Cut k (t.setBudget { t.budget with sigma := sigma, pChg := pChg, h := hh, hp := hp, pubs := pubs }) :=
  ⟨h.shut, h.offline, h.told, h.off, h.idleSet, h.idle, h.timer, h.stale⟩

theorem recompute (h : Cut k t) : Cut k (recompute t) := by
  rw [recompute_offline h.offline, instructed_of_not fun hp => absurd (h.offline.symm.trans hp.1) nofun]
  exact h.setFigures _ _ _ _ _

theorem ease (k : Nat) : EaseInvariant (Cut k) where
  seqEvent h := seqEvent_of_ungranted (fun n _ => by
    rw [← Bool.not_eq_true, grantsHead_iff, grantable_iff]
    exact fun hg => h.shut hg.1.1) h (h.of_same rfl rfl rfl rfl)
  setSlot h _ := h.of_same rfl rfl rfl rfl
  leaveQueue h := h.of_same rfl rfl rfl rfl
  lineWatch h := ite_keeps (h.of_same rfl rfl rfl rfl) h
  report h := h.report _ _
  recompute h := h.recompute

theorem joins (k : Nat) : Joins (Cut k) := fun h => h.of_same rfl rfl rfl rfl

theorem reserve (k : Nat) : ReserveInvariant (Cut k) where
  targetAction h := (ease k).targetAction (joins k) (fun h => h.of_same rfl rfl rfl rfl) h _
  setMatched h _ := h.of_same rfl rfl rfl rfl
  reckon h := h.of_same rfl rfl rfl rfl
  raiseTarget h := h.raise _ _ _
  reportRange h := h.report _ _
  raiseRange h := h.raise _ _ _

theorem changeBbu (h : Cut k t) (i : BbuId) (st : BbuState) : Cut k (changeBbu i st t) := by
  have hset : Cut k (t.setBbu i { t.charge.bbus[i] with state := st, taper := 0 }) := h.of_same rfl rfl rfl rfl
  have hdriven := hset.of_same (u := driveBbu i _) (by rw [driveBbu_seq]) (by rw [State.online, driveBbu_holdup]; rfl) (driveBbu_recharge _ _)
    (driveBbu_budget _ _)
  exact ite_keeps h ((hdriven.report _ _).raise _ _ _)

theorem shiftBbus (h : Cut k t) (f : BbuState → Bool) (st : BbuState) : Cut k (shiftBbus f st t) :=
  List.foldlRecOn bbuIds _ h fun _ hu _ _ => ite_keeps ((reserve k).recomputeReserve (hu.changeBbu _ _)) hu

theorem moveHoldup (h : Cut k t) {st : HoldupState} (hst : st ≠ .online) : Cut k (moveHoldup st t) := by
  obtain ⟨hholdup, hseq, hrecharge, -, hbudget, -, -⟩ := moveHoldup_fields st t
  refine ⟨by rw [hseq]; exact hst, ?_, by rw [hrecharge]; exact hst, by rw [hrecharge]; exact h.off, by rw [hrecharge]; exact h.idleSet,
    by rw [hbudget]; exact h.idle, by rw [hbudget]; exact h.timer, by rw [hbudget]; exact h.stale⟩
  rw [State.online, hholdup]
  exact beq_eq_false_iff_ne.2 hst

theorem setHoldup (h : Cut k t) {x : Holdup} (hx : x.state = t.holdup.state) : Cut k (t.setHoldup x) :=
  h.of_same rfl (by rw [State.online, State.setHoldup_holdup, hx]; rfl) rfl rfl

theorem disarmTable (h : Cut k t) : Cut k (disarmTable t) := h.of_same rfl rfl rfl rfl

theorem enterBlackout (h : Cut k t) : Cut k (enterBlackout t) := by
  have hmoved : Cut k t.blackedOut := (h.setHoldup (x := t.holdup.ended .blackout) rfl).moveHoldup nofun
  have hemptied : Cut k t.emptied := by
    unfold State.emptied depleteAll
    exact shiftBbus ((ease k).foldl_shedSlot (fun _ => joins k) slotIds hmoved) _ _
  rw [enterBlackout_emptied]
  exact (ease k).seqEvent hemptied.disarmTable

theorem judgeCounted (h : Cut k t) : Cut k (judgeCounted t) := ite_keeps h.enterBlackout h

theorem takeSet (h : Cut k t) : Cut k (takeSet t) := by
  have hmembers : Cut k (t.setRecharge { t.recharge with members := t.chargingSet }) :=
    ⟨h.shut, h.offline, h.told, h.off, h.idleSet, h.idle, h.timer, h.stale⟩
  have hshared (x : Recharge) (v : Vector Nat 4) (hx : Cut k (t.setRecharge x)) : Cut k (t.setRecharge { x with shares := v }) :=
    ⟨hx.shut, hx.offline, hx.told, hx.off, hx.idleSet, hx.idle, hx.timer, hx.stale⟩
  refine ite_keeps h ?_
  unfold reshare
  refine List.foldlRecOn (motive := Cut k) bbuIds _ (hshared _ _ hmembers) fun u hu i _ => ?_
  exact hu.of_same (by rw [driveBbu_seq]) (by rw [State.online, driveBbu_holdup]; rfl) (driveBbu_recharge _ _) (driveBbu_budget _ _)

/-- The regulator stays OFF on a sample set (R80). -/
theorem sampleRegulator (h : Cut k t) : Cut k (sampleRegulator t) := by
  have hfresh : Cut k (refreshRecharge t) := ⟨h.shut, h.offline, h.told, h.off, h.idleSet, h.idle, h.timer, h.stale⟩
  have hset := hfresh.takeSet
  have hform : formSet (refreshRecharge t) = Machine.takeSet (refreshRecharge t) := by
    rw [formSet_eq, if_pos hset.off, if_neg (c := _ ∧ _ ∧ _) (fun e => hset.told e.2.2), ite_self]
  unfold Machine.sampleRegulator
  rw [hform]
  simp only [hset.off]
  exact hset

end Cut

/-! ### The opening of an event (R62, R63, R68) -/

theorem abortTest_swell (result : TestResult) (st : BbuId → State → BbuState) (s : State) :
    ∃ x, Swell (s.setCharge { s.charge with test := x }) (abortTest result st s) := by
  unfold abortTest
  simp only
  split
  · exact ⟨s.charge.test, .refl s⟩
  · exact ⟨_, ((Swell.refl _).raise _ _ _).changeBbu _ _⟩

theorem abortTestForAc_swell (s : State) : ∃ x, Swell (s.setCharge { s.charge with test := x }) (abortTestForAc s) := by
  obtain ⟨x, hx⟩ := abortTest_swell .abortedAc (fun _ _ => .discharging) s
  unfold abortTestForAc
  split
  · exact ⟨x, hx.recomputeReserve⟩
  · exact ⟨s.charge.test, .refl s⟩

/-- The part with the event opened and its requests to the charge accounting unit made (R62, R63, R75). -/
def State.bridged (s : State) (trigger : Trigger) : State :=
  abortTestForAc (armOnBridge (moveHoldup .bridging (s.setHoldup (s.opened trigger))))

/-- The part with the regulator and the deficit handling ended (R33, R83). -/
def State.parted (s : State) (trigger : Trigger) : State := seqEvent (leaveDeficit (regulatorOff (s.bridged trigger)))

theorem openEvent_parted (trigger : Trigger) (s : State) : openEvent trigger s = judgeCounted (s.parted trigger) := openEvent_eq trigger s

/-- What stands of the part after steps that move no state of the holdup controller. -/
structure Drift (s t : State) : Prop where
  holdup : s.holdup.Matches t.holdup
  budget : s.budget.Refigured t.budget
  shut : t.seq.lastHoldup = s.seq.lastHoldup
  told : t.recharge.lastHoldup = s.recharge.lastHoldup

theorem Drift.trans {s t u : State} (h : Drift s t) (k : Drift t u) : Drift s u :=
  ⟨h.holdup.trans k.holdup, h.budget.trans k.budget, k.shut.trans h.shut, k.told.trans h.told⟩

theorem Swell.drift {s t : State} (h : Swell s t) : Drift s t := ⟨h.matches, h.refigured, h.lastHoldup, h.rechargeLastHoldup⟩

theorem bridged_drift (s : State) (trigger : Trigger) :
    Drift (moveHoldup .bridging (s.setHoldup (s.opened trigger))) (s.bridged trigger) := by
  unfold State.bridged
  generalize moveHoldup .bridging (s.setHoldup (s.opened trigger)) = u
  have harm := ((Swell.refl u).armOnBridge).drift
  generalize armOnBridge u = v at harm ⊢
  obtain ⟨x, hx⟩ := abortTestForAc_swell v
  exact harm.trans ⟨hx.matches, hx.refigured, hx.lastHoldup, hx.rechargeLastHoldup⟩

theorem Holdup.Matches.state {x y : Holdup} (h : x.Matches y) : y.state = x.state := by rw [h.open_]

theorem bridged_fields (s : State) (trigger : Trigger) :
    ({ s.opened trigger with state := .bridging } : Holdup).Matches (s.bridged trigger).holdup ∧
      s.budget.Refigured (s.bridged trigger).budget ∧ (s.bridged trigger).seq.lastHoldup = .bridging ∧
      (s.bridged trigger).recharge.lastHoldup = .bridging := by
  obtain ⟨hholdup, hbudget, hshut, htold⟩ := bridged_drift s trigger
  obtain ⟨hmoved, hseq, hrecharge, -, hsame, -, -⟩ := moveHoldup_fields .bridging (s.setHoldup (s.opened trigger))
  rw [hmoved] at hholdup
  rw [hsame] at hbudget
  exact ⟨hholdup, hbudget, hshut.trans (congrArg Sequencer.lastHoldup hseq), htold.trans (congrArg Recharge.lastHoldup hrecharge)⟩

theorem regulatorOff_recharge_of_offline {s : State} (h : s.online = false) :
    (regulatorOff s).recharge = (s.recharge.stopped .off).shared := by
  rw [regulatorOff_eq]
  unfold recomputeIfSet
  split
  · rw [reportCondition_recharge, reshare_recharge, State.setRecharge_recharge]
  · rw [recompute_recharge_of_offline, reportCondition_recharge, reshare_recharge, State.setRecharge_recharge]
    rw [State.online, reportCondition_holdup, reshare_holdup]
    exact h

theorem leaveDeficit_budget (s : State) :
    (leaveDeficit s).budget =
      { s.budget with deficit := .idle, timer := none, stale := s.budget.selAsked + s.budget.answers.length } := by
  unfold leaveDeficit
  rw [State.setBudget_budget, endDeficit_budget]

theorem leaveDeficit_seq (s : State) : (leaveDeficit s).seq = s.seq := by
  unfold leaveDeficit endDeficit
  rw [State.setBudget_seq, reportCondition_seq]
  rfl

theorem leaveDeficit_holdup (s : State) : (leaveDeficit s).holdup = s.holdup := by
  unfold leaveDeficit endDeficit
  rw [State.setBudget_holdup, reportCondition_holdup]
  rfl

/-- R33, R62, R83: the part before the counted BBUs are judged. -/
theorem parted_spec (s : State) (trigger : Trigger) :
    ({ s.opened trigger with state := .bridging } : Holdup).Matches (s.parted trigger).holdup ∧
      s.budget.Refigured (s.parted trigger).budget ∧ Cut (s.budget.selAsked + s.budget.answers.length) (s.parted trigger) := by
  obtain ⟨hholdup, hbudget, hshut, htold⟩ := bridged_fields s trigger
  have hoffline : (s.bridged trigger).online = false := by rw [State.online, hholdup.state]; rfl
  have hoff := regulatorOff_recharge_of_offline hoffline
  have hstep := (Swell.of_regulator (RegulatorStep.regulatorOff (s.bridged trigger)))
  unfold State.parted
  generalize s.bridged trigger = b at hholdup hbudget hshut htold hoffline hoff hstep ⊢
  generalize regulatorOff b = r at hoff hstep ⊢
  have hr := hbudget.trans hstep.refigured
  have hleft := leaveDeficit_budget r
  have hcut : Cut (s.budget.selAsked + s.budget.answers.length) (leaveDeficit r) := by
    refine ⟨?_, ?_, ?_, ?_, ?_, ?_, ?_, ?_⟩
    · rw [leaveDeficit_seq, hstep.lastHoldup, hshut]
      exact nofun
    · rw [State.online, leaveDeficit_holdup]
      exact hstep.online.trans hoffline
    · rw [leaveDeficit_recharge, hstep.rechargeLastHoldup, htold]
      exact nofun
    · rw [leaveDeficit_recharge, hoff]
      rfl
    · rw [leaveDeficit_recharge, hoff]
      rfl
    · rw [hleft]
    · rw [hleft]
    · rw [hleft, hr]
  have hevent := (Swell.refl (leaveDeficit r)).seqEvent
  refine ⟨?_, ?_, (Cut.ease _).seqEvent hcut⟩
  · refine hholdup.trans (hstep.matches.trans ?_)
    rw [← leaveDeficit_holdup r]
    exact hevent.matches
  · refine (hr.trans ?_).trans hevent.refigured
    rw [hleft]
    rfl

theorem judgeCounted_stays {s : State} (h : s.holdup.lastCounted ≠ 0) : judgeCounted s = s := if_neg h

theorem judgeCounted_blackout {s : State} (h : s.holdup.lastCounted = 0) : judgeCounted s = enterBlackout s := if_pos h

theorem enterBlackout_refigured (s : State) : s.budget.Refigured (enterBlackout s).budget := by
  have hmoved := (moveHoldup_fields .blackout (s.setHoldup (s.holdup.ended .blackout))).2.2.2.2.1
  have hswell := (enterBlackout_swell s).refigured
  rw [State.blackedOut, hmoved] at hswell
  exact hswell

theorem judgeCounted_refigured (s : State) : s.budget.Refigured (judgeCounted s).budget := by
  unfold judgeCounted
  split
  · exact enterBlackout_refigured s
  · exact .refl _


end Sys2Proof.Machine
end

section
/-! PROOFS. The AC judgement (R60 to R72) by holdup state: the holdup record, the budget unit and the causes after it. -/

namespace Sys2Proof.Machine

/-! ### The transitions (R62 to R72) -/

/-- The holdup controller of a bridge, or of the blackout that no counted BBU turns it into (R70). -/
def Holdup.bridges (x y : Holdup) : Prop :=
  (x.lastCounted ≠ 0 → ({ x with state := .bridging } : Holdup).Matches y) ∧
    (x.lastCounted = 0 → ∃ w, ({ x with state := .bridging } : Holdup).Matches w ∧ y = { w.ended .blackout with state := .blackout })

theorem judgeCounted_bridges {x : Holdup} {s : State} (h : ({ x with state := .bridging } : Holdup).Matches s.holdup) :
    x.bridges (judgeCounted s).holdup := by
  have hcounted : s.holdup.lastCounted = x.lastCounted := by rw [h.open_]
  refine ⟨fun hc => ?_, fun hc => ⟨s.holdup, h, ?_⟩⟩
  · rw [judgeCounted_stays (by rw [hcounted]; exact hc)]
    exact h
  · rw [judgeCounted_blackout (hcounted.trans hc), enterBlackout_holdup]

/-- R62, R63, R68, R70: a new event. -/
theorem openEvent_spec (trigger : Trigger) (s : State) :
    (s.opened trigger).bridges (openEvent trigger s).holdup ∧ s.budget.Refigured (openEvent trigger s).budget ∧
      Cut (s.budget.selAsked + s.budget.answers.length) (openEvent trigger s) := by
  obtain ⟨hholdup, hbudget, hcut⟩ := parted_spec s trigger
  rw [openEvent_parted]
  exact ⟨judgeCounted_bridges hholdup, hbudget.trans (judgeCounted_refigured _), hcut.judgeCounted⟩

theorem moveHoldup_budget (st : HoldupState) (s : State) : (moveHoldup st s).budget = s.budget := (moveHoldup_fields st s).2.2.2.2.1

theorem seqEvent_holdup_refigured (s : State) : (seqEvent s).holdup = s.holdup ∧ s.budget.Refigured (seqEvent s).budget :=
  ⟨(Ripple.refl s).seqEvent.holdup, ((Swell.refl s).seqEvent).refigured⟩

/-- R64, R72. -/
theorem enterReturn_spec (s : State) :
    (enterReturn s).holdup = { s.settling with state := .returning } ∧ s.budget.Refigured (enterReturn s).budget ∧
      RaisedFrom s (enterReturn s) causeHoldup s.busV 19 := by
  rw [enterReturn_eq]
  obtain ⟨hholdup, hbudget⟩ := seqEvent_holdup_refigured (moveHoldup .returning (s.setHoldup s.settling))
  obtain ⟨hraised, -⟩ := moveHoldup_then (s := s.setHoldup s.settling) (seqEvent_quiet_holdup (moveHoldup .returning (s.setHoldup s.settling)))
  refine ⟨hholdup.trans (moveHoldup_fields .returning (s.setHoldup s.settling)).1, ?_, hraised⟩
  rw [moveHoldup_budget] at hbudget
  exact hbudget

/-- The part back in BRIDGING, before the counted BBUs are judged (R67). -/
def State.faltered (s : State) : State := seqEvent (moveHoldup .bridging (s.setHoldup s.holdup.flickered))

theorem flicker_faltered (s : State) : flicker s = judgeCounted s.faltered := flicker_eq s

theorem faltered_spec (s : State) :
    s.faltered.holdup = { s.holdup.flickered with state := .bridging } ∧ s.budget.Refigured s.faltered.budget ∧
      RaisedFrom s s.faltered causeHoldup s.busV 18 := by
  unfold State.faltered
  obtain ⟨hholdup, hbudget⟩ := seqEvent_holdup_refigured (moveHoldup .bridging (s.setHoldup s.holdup.flickered))
  obtain ⟨hraised, -⟩ :=
    moveHoldup_then (s := s.setHoldup s.holdup.flickered) (seqEvent_quiet_holdup (moveHoldup .bridging (s.setHoldup s.holdup.flickered)))
  refine ⟨hholdup.trans (moveHoldup_fields .bridging (s.setHoldup s.holdup.flickered)).1, ?_, hraised⟩
  rw [moveHoldup_budget] at hbudget
  exact hbudget

/-- R67, R70, R72. -/
theorem flicker_spec (s : State) :
    (s.holdup.lastCounted ≠ 0 → (flicker s).holdup = { s.holdup.flickered with state := .bridging } ∧
      RaisedFrom s (flicker s) causeHoldup s.busV 18) ∧
      (s.holdup.lastCounted = 0 → (flicker s).holdup = { s.holdup.flickered.ended .blackout with state := .blackout }) ∧
      s.budget.Refigured (flicker s).budget := by
  obtain ⟨hholdup, hbudget, hraised⟩ := faltered_spec s
  have hcounted : s.faltered.holdup.lastCounted = s.holdup.lastCounted := by rw [hholdup]; rfl
  rw [flicker_faltered]
  refine ⟨fun hc => ?_, fun hc => ?_, hbudget.trans (judgeCounted_refigured _)⟩
  · rw [judgeCounted_stays (by rw [hcounted]; exact hc)]
    exact ⟨hholdup, hraised⟩
  · rw [judgeCounted_blackout (hcounted.trans hc), enterBlackout_holdup, hholdup]
    rfl

theorem close_since (x : Transfer) (why : EndReason) (r : Nat) : (x.close why r).since = x.since := by
  unfold Transfer.close
  split <;> rfl

/-- R62, R63, R68, R75: the fields of a new event. -/
theorem opened_bridges {s : State} {trigger : Trigger} {y : Holdup} (h : (s.opened trigger).bridges y) :
    let carried := s.holdup.lastCounted ≠ 0
    let old := s.holdup.record
    y.state = (if carried then .bridging else .blackout) ∧ y.events = min 65535 (s.holdup.events + 1) ∧ (y.eventOpen = true ↔ carried) ∧
      y.settle = none ∧ y.collapse = none ∧
      y.bridging = (if carried ∧ 0 < s.settings.holdup.tMax then some (s.settings.holdup.tMax * 1000) else none) ∧
      y.acCount = s.holdup.acCount ∧ y.acEval = s.holdup.acEval ∧ y.first = s.holdup.first ∧
      (old.valid = true → y.record.since = min 255 (old.since + 1)) ∧
      (old.valid = false → old.isOpen = false → carried →
        y.record.isOpen = true ∧ y.record.seqNo = y.events ∧ y.record.trigger = some trigger ∧ y.record.rStart = s.holdup.lastR ∧
          y.record.duration = 0) ∧
      (old.isOpen = true → carried →
        y.record.isOpen = true ∧ y.record.duration = old.duration ∧ y.record.minBusV = old.minBusV ∧ y.record.flickers = old.flickers) := by
  intro carried old
  have hsince : old.valid = true → (s.opened trigger).record = { old with since := min 255 (old.since + 1) } := fun hv => if_pos hv
  have hkept : old.valid = false → old.isOpen = true → (s.opened trigger).record = old := fun hv ho =>
    (if_neg fun e : s.holdup.record.valid = true => absurd (e.symm.trans hv) nofun).trans (if_pos ho)
  by_cases hc : carried
  · have hy := (h.1 hc).open_
    have hrecord : y.record = { (s.opened trigger).record with matched := y.record.matched } := by
      rw [hy]
    rw [hy, if_pos hc, show (if carried ∧ 0 < s.settings.holdup.tMax then some (s.settings.holdup.tMax * 1000) else none : Timer) =
      if 0 < s.settings.holdup.tMax then some (s.settings.holdup.tMax * 1000) else none from by simp [hc]]
    refine ⟨rfl, rfl, iff_of_true rfl hc, rfl, rfl, rfl, rfl, rfl, rfl, fun hv => ?_, fun hv ho _ => ?_, fun ho _ => ?_⟩
    · show (s.opened trigger).record.since = _
      rw [hsince hv]
    · have hnew : (s.opened trigger).record = _ :=
        (if_neg fun e : s.holdup.record.valid = true => absurd (e.symm.trans hv) nofun).trans
          (if_neg fun e : s.holdup.record.isOpen = true => absurd (e.symm.trans ho) nofun)
      exact ⟨congrArg Transfer.isOpen hnew, congrArg Transfer.seqNo hnew, congrArg Transfer.trigger hnew,
        congrArg Transfer.rStart hnew, congrArg Transfer.duration hnew⟩
    · show (s.opened trigger).record.isOpen = true ∧ (s.opened trigger).record.duration = _ ∧ (s.opened trigger).record.minBusV = _ ∧
        (s.opened trigger).record.flickers = _
      by_cases hv : old.valid = true
      · rw [hsince hv]
        exact ⟨ho, rfl, rfl, rfl⟩
      · rw [hkept (Bool.eq_false_iff.2 hv) ho]
        exact ⟨ho, rfl, rfl, rfl⟩
  · obtain ⟨w, hw, hy⟩ := h.2 (not_not.1 hc)
    have hw' := hw.open_
    rw [hy, if_neg hc, if_neg fun e => hc e.1]
    refine ⟨rfl, ?_, iff_of_false nofun hc, rfl, rfl, rfl, ?_, ?_, ?_, fun hv => ?_, fun _ _ e => absurd e hc, fun _ e => absurd e hc⟩
    · show w.events = _
      rw [hw']
      rfl
    · show w.acCount = _
      rw [hw']
      rfl
    · show w.acEval = _
      rw [hw']
      rfl
    · show w.first = _
      rw [hw']
      rfl
    · show (w.record.close .blackout w.lastR).since = _
      rw [close_since, hw']
      exact congrArg Transfer.since (hsince hv)

/-! ### The judgement by state -/

theorem judgeAc_online {s : State} (hst : s.holdup.state = .online) (hac : s.holdup.acEval = .failed) :
    judgeAc s = openEvent (s.triggerOf s.holdup.acCount) s := by
  unfold judgeAc
  rw [hst, hac]

theorem judgeAc_return {s : State} (hst : s.holdup.state = .bridging ∨ s.holdup.state = .blackout) (hac : s.holdup.acEval = .good) :
    judgeAc s = enterReturn s := by
  unfold judgeAc
  rcases hst with hst | hst <;> rw [hst, hac]

theorem judgeAc_flicker {s : State} (hst : s.holdup.state = .returning) (hac : s.holdup.acEval = .failed) : judgeAc s = flicker s := by
  unfold judgeAc
  rw [hst, hac]

theorem judgeAc_stays {s : State} (honline : s.holdup.state = .online → s.holdup.acEval ≠ .failed)
    (hbridge : s.holdup.state = .bridging ∨ s.holdup.state = .blackout → s.holdup.acEval ≠ .good)
    (hreturn : s.holdup.state = .returning → s.holdup.acEval ≠ .failed) : judgeAc s = s := by
  unfold judgeAc
  split
  · next h1 h2 => exact absurd h2 (honline h1)
  · next h1 h2 => exact absurd h2 (hbridge (.inl h1))
  · next h1 h2 => exact absurd h2 (hreturn h1)
  · next h1 h2 => exact absurd h2 (hbridge (.inr h1))
  · rfl

theorem judgeAc_cases (s : State) :
    (s.holdup.state = .online ∧ s.holdup.acEval = .failed ∧ judgeAc s = openEvent (s.triggerOf s.holdup.acCount) s) ∨
      ((s.holdup.state = .bridging ∨ s.holdup.state = .blackout) ∧ s.holdup.acEval = .good ∧ judgeAc s = enterReturn s) ∨
      (s.holdup.state = .returning ∧ s.holdup.acEval = .failed ∧ judgeAc s = flicker s) ∨ judgeAc s = s := by
  unfold judgeAc
  split
  · next h1 h2 => exact .inl ⟨h1, h2, rfl⟩
  · next h1 h2 => exact .inr (.inl ⟨.inl h1, h2, rfl⟩)
  · next h1 h2 => exact .inr (.inr (.inl ⟨h1, h2, rfl⟩))
  · next h1 h2 => exact .inr (.inl ⟨.inr h1, h2, rfl⟩)
  · exact .inr (.inr (.inr rfl))

theorem judgeAc_refigured (s : State) : s.budget.Refigured (judgeAc s).budget := by
  rcases judgeAc_cases s with ⟨-, -, e⟩ | ⟨-, -, e⟩ | ⟨-, -, e⟩ | e <;> rw [e]
  · exact (openEvent_spec _ s).2.1
  · exact (enterReturn_spec s).2.1
  · exact (flicker_spec s).2.2
  · exact .refl _

/-! ### The causes that the holdup controller reports or raises -/

/-- The causes of the sheds, the reserve, the holdup controller, the capacity test and the BBUs. -/
def HoldupCause (c : CauseId) : Prop := ReserveCause c ∨ c = causeHoldup ∨ c = causeTest ∨ ∃ i, c = causeBbu i

theorem abortTest_touches (result : TestResult) (st : BbuId → State → BbuState) (s : State) :
    Touches HoldupCause s (abortTest result st s) := by
  cases hb : s.charge.test.bbu with
  | none =>
    unfold abortTest
    simp only [hb]
    exact .refl _ s
  | some i =>
    have hclosed : Touches HoldupCause s (s.testClosed result) := .of_same rfl rfl
    have htold : Touches HoldupCause s (s.testTold result) := hclosed.raise (.inr (.inr (.inl rfl))) _ _
    rw [abortTest_eq hb]
    exact htold.trans ((changeBbu_touches _ _ _).mono fun _ h => .inr (.inr (.inr ⟨_, h⟩)))

theorem Touches.holdupInvariant (s : State) : HoldupInvariant (Touches HoldupCause s) where
  reserve := Touches.reserveInvariant (fun _ => .inl) s
  seqEvent h := (Touches.shedInvariant (fun _ h => .inl (.inl h)) s).seqEvent h
  shedAll h := (Touches.shedInvariant (fun _ h => .inl (.inl h)) s).foldl_shedSlot slotIds h
  regulatorOff h := (Touches.shedInvariant (fun _ h => .inl (.inl h)) s).regulatorOff h
  leaveDeficit h := (Touches.shedInvariant (fun _ h => .inl (.inl h)) s).leaveDeficit h
  tell h := (Touches.shedInvariant (fun _ h => .inl (.inl h)) s).setRecharge ((Touches.shedInvariant (fun _ h => .inl (.inl h)) s).setSeq h)
  setHoldup h := h.setHoldup _
  reportHoldup h := h.report (.inr (.inl rfl)) _
  raiseHoldup h := h.raise (.inr (.inl rfl)) _ _
  changeBbu h := h.trans ((changeBbu_touches _ _ _).mono fun _ h => .inr (.inr (.inr ⟨_, h⟩)))
  abortTestForAc h := h.trans (ite_keeps ((abortTest_touches _ _ _).trans ((recomputeReserve_touches _).mono fun _ => .inl)) (.refl _ _))

theorem judgeAc_touches (s : State) : Touches HoldupCause s (judgeAc s) := (Touches.holdupInvariant s).judgeAc (.refl _ s)

theorem causePsu_ne (k : PsuId) :
    ¬ (causePsu k).val < 120 ∧ causePsu k ≠ causeDeficit ∧ causePsu k ≠ causeRecharge ∧ causePsu k ≠ causeHoldup ∧
      causePsu k ≠ causeTest ∧ ∀ i, causePsu k ≠ causeBbu i := by revert k; decide

theorem not_holdupCause_psu (k : PsuId) : ¬ HoldupCause (causePsu k) := by
  obtain ⟨hlow, hdeficit, hrecharge, hholdup, htest, hbbu⟩ := causePsu_ne k
  rintro (h | h | h | ⟨i, h⟩)
  · rcases h.low with h | h | h
    · exact hlow h
    · exact hdeficit h
    · exact hrecharge h
  · exact hholdup h
  · exact htest h
  · exact hbbu i h

end Sys2Proof.Machine
end

section
/-! PROOFS. O51: the level changes at the inputs of the PSUs and the BBUs (R20, R37, R38, R60). -/

namespace Sys2Proof.Machine

/-! ### One PSU classified (R19 to R21) -/

theorem causePsu_not_eventSource (k : PsuId) : eventSource (causePsu k) = false := by revert k; decide

section Classify
variable (k : PsuId) (s : State)

/-- The class of PSU `k` on the last published sample set. -/
def State.psuClassOf : PsuState := psuClass s.budget.psus[k] s.sense.pub[psuIPoint k].alarm

/-- The part with PSU `k` classified, before its cause tells of a change. -/
def State.psuClassed : State := s.setPsu k { s.budget.psus[k] with state := s.psuClassOf k }

theorem psuClassed_same (h : s.psuClassOf k = s.budget.psus[k].state) : s.psuClassed k = s := by
  unfold State.psuClassed
  rw [h]
  exact congrArg (fun p : Vector Psu 6 => s.setBudget { s.budget with psus := p }) (Vector.set_getElem_self _)

theorem reclassifyPsu_same (h : s.psuClassOf k = s.budget.psus[k].state) : reclassifyPsu k s = s := if_pos h

theorem reclassifyPsu_moves (h : s.psuClassOf k ≠ s.budget.psus[k].state) :
    reclassifyPsu k s =
      raise (causePsu k) (if s.psuClassOf k = .absent then 0 else s.pubValue (psuIPoint k)) (stateCode (s.psuClassOf k).code)
        (reportCondition (causePsu k) (s.psuClassOf k == .noAc || s.psuClassOf k == .fault) (s.psuClassed k)) := by
  have hvalue : (reportCondition (causePsu k) (s.psuClassOf k == .noAc || s.psuClassOf k == .fault) (s.psuClassed k)).pubValue (psuIPoint k) =
      s.pubValue (psuIPoint k) := by rw [State.pubValue, reportCondition_sense]; rfl
  rw [← hvalue]
  exact if_neg h

theorem reclassifyPsu_tells : Tells (s.psuClassed k) (reclassifyPsu k s) := by
  by_cases h : s.psuClassOf k = s.budget.psus[k].state
  · rw [reclassifyPsu_same k s h, psuClassed_same k s h]
    exact .refl s
  · rw [reclassifyPsu_moves k s h]
    exact ((Tells.refl _).report _ _).raise _ _ _

theorem reclassifyPsu_touches : Touches (· = causePsu k) s (reclassifyPsu k s) := by
  by_cases h : s.psuClassOf k = s.budget.psus[k].state
  · rw [reclassifyPsu_same k s h]
    exact .refl _ s
  · have hclassed : Touches (· = causePsu k) s (s.psuClassed k) := .of_same rfl rfl
    rw [reclassifyPsu_moves k s h]
    exact (hclassed.report rfl _).raise rfl _ _

theorem reclassifyPsu_told (h : s.psuClassOf k ≠ s.budget.psus[k].state) :
    RaisedFrom s (reclassifyPsu k s) (causePsu k) (if s.psuClassOf k = .absent then 0 else s.pubValue (psuIPoint k))
        (stateCode (s.psuClassOf k).code) ∧
      (reclassifyPsu k s).causes.recs[causePsu k].condition = (s.psuClassOf k == .noAc || s.psuClassOf k == .fault) := by
  rw [reclassifyPsu_moves k s h]
  refine ⟨reported_raised _ _ _ _ (Touches.of_same rfl rfl), ?_⟩
  rw [raise_condition (causePsu_not_eventSource k)]
  exact reportCondition_condition _ _ _

theorem reclassifyPsu_fields :
    (reclassifyPsu k s).budget = (s.psuClassed k).budget ∧ (reclassifyPsu k s).holdup = s.holdup ∧
      (reclassifyPsu k s).charge = s.charge ∧ (reclassifyPsu k s).recharge = s.recharge ∧ (reclassifyPsu k s).seq = s.seq ∧
      (reclassifyPsu k s).sense = s.sense ∧ (reclassifyPsu k s).settings = s.settings := by
  have h := reclassifyPsu_tells k s
  unfold Tells at h
  rw [h]
  exact ⟨rfl, rfl, rfl, rfl, rfl, rfl, rfl⟩

end Classify

/-! ### The budget unit on an input change (R20) -/

theorem recomputeCapacity_touches (P : CauseId → Prop) (s : State) : Touches P s (recomputeCapacity s) := .of_same rfl rfl

theorem not_budgetCause_psu (k : PsuId) : ¬ BudgetCause (causePsu k) := by
  obtain ⟨-, hdeficit, hrecharge, -⟩ := causePsu_ne k
  exact fun h => h.elim hdeficit hrecharge

theorem not_psuCause_holdup (k : PsuId) : ¬ (causeHoldup = causePsu k ∨ BudgetCause causeHoldup) := by
  obtain ⟨-, -, -, hholdup, -⟩ := causePsu_ne k
  rintro (h | h | h)
  · exact hholdup h.symm
  · exact absurd h (by decide)
  · exact absurd h (by decide)

section Budget
variable (k : PsuId) (s : State)

/-- The part with the levels of PSU `k` as they are at the pins. -/
def State.psuSeen : State := s.setPsu k (s.budget.psus[k].see s.pins.psu[k])

theorem inputBudget_unseen {s : State} (h : s.sense.seen = false) : inputBudget k s = s.psuSeen k := if_neg (by
  show ¬ s.sense.seen = true
  rw [h]
  exact nofun)

theorem inputBudget_seen {s : State} (h : s.sense.seen = true) :
    inputBudget k s =
      if (reclassifyPsu k (s.psuSeen k)).budget.psus[k].state = (s.psuSeen k).budget.psus[k].state then reclassifyPsu k (s.psuSeen k)
      else recompute (recomputeCapacity (reclassifyPsu k (s.psuSeen k))) := if_pos h

theorem psuSeen_psu : (s.psuSeen k).budget.psus[k] = s.budget.psus[k].see s.pins.psu[k] := get_set_same _ _ _

theorem reclassifyPsu_psus : (reclassifyPsu k s).budget.psus = s.budget.psus.set k { s.budget.psus[k] with state := s.psuClassOf k } := by
  rw [(reclassifyPsu_fields k s).1]
  rfl

theorem reclassifyPsu_psu_state : (reclassifyPsu k s).budget.psus[k].state = s.psuClassOf k := by
  rw [reclassifyPsu_psus, get_set_same]

/-- R20, R24, R26: what a change of the inputs of PSU `k` does in the budget unit after the first sample set. -/
theorem inputBudget_spec {s : State} (h : s.sense.seen = true) {st : PsuState}
    (hst : psuClass (s.budget.psus[k].see s.pins.psu[k]) s.sense.pub[psuIPoint k].alarm = st) :
    let u := inputBudget k s
    u.base = s.base ∧ u.holdup = s.holdup ∧
      u.budget.psus = s.budget.psus.set k { s.budget.psus[k].see s.pins.psu[k] with state := st } ∧
      (st = s.budget.psus[k].state → u.budget.cap = s.budget.cap) ∧
      (st ≠ s.budget.psus[k].state →
        RaisedFrom s u (causePsu k) (if st = .absent then 0 else s.pubValue (psuIPoint k)) (stateCode st.code) ∧
          u.causes.recs[causePsu k].condition = (st == .noAc || st == .fault) ∧
          u.budget.nGood = u.goodPsus ∧
          u.budget.cap = (u.budget.nGood - s.settings.budget.nRed) * s.settings.budget.pRate * u.budget.f / 256) ∧
      Touches (fun c => c = causePsu k ∨ BudgetCause c) s u := by
  have hclass : (s.psuSeen k).psuClassOf k = st := by
    unfold State.psuClassOf
    rw [psuSeen_psu]
    exact hst
  have hold : (s.psuSeen k).budget.psus[k].state = s.budget.psus[k].state := by rw [psuSeen_psu]; rfl
  have hpsus := reclassifyPsu_psus k (s.psuSeen k)
  have hstate := reclassifyPsu_psu_state k (s.psuSeen k)
  have htold := reclassifyPsu_told k (s.psuSeen k)
  have htouch := reclassifyPsu_touches k (s.psuSeen k)
  have hbase : (reclassifyPsu k (s.psuSeen k)).base = s.base := reclassifyPsu_base k (s.psuSeen k)
  obtain ⟨hbudget, hholdup, -, -, -, -, hset⟩ := reclassifyPsu_fields k (s.psuSeen k)
  have hcap : (reclassifyPsu k (s.psuSeen k)).budget.cap = s.budget.cap := by rw [hbudget]; rfl
  rw [hclass, psuSeen_psu] at hpsus
  have hpsus' : (reclassifyPsu k (s.psuSeen k)).budget.psus =
      s.budget.psus.set k { s.budget.psus[k].see s.pins.psu[k] with state := st } :=
    hpsus.trans (Vector.set_set _ _)
  rw [hclass] at hstate htold
  rw [hold] at htold
  have hseen : Touches (fun c => c = causePsu k ∨ BudgetCause c) s (s.psuSeen k) := .of_same rfl rfl
  have htouches := hseen.trans (htouch.mono fun _ => Or.inl)
  intro u
  have hu : u = _ := inputBudget_seen k h
  rw [hstate, hold] at hu
  generalize reclassifyPsu k (s.psuSeen k) = t at hbase hholdup hset hcap hpsus' hstate htold htouches hu
  by_cases hsame : st = s.budget.psus[k].state
  · rw [if_pos hsame] at hu
    rw [hu]
    exact ⟨hbase, hholdup, hpsus', fun _ => hcap, fun hne => absurd hsame hne, htouches⟩
  · rw [if_neg hsame] at hu
    obtain ⟨hgood, hf, hcap', -⟩ := recompute_capacity_budget t
    have hripple : Ripple (recomputeCapacity t) (recompute (recomputeCapacity t)) := (Ripple.refl _).recompute
    have hafter : Touches BudgetCause t (recompute (recomputeCapacity t)) :=
      (recomputeCapacity_touches _ t).trans (recompute_touches _)
    obtain ⟨hraised, hcondition⟩ := htold hsame
    have hquiet := hafter (causePsu k) (not_budgetCause_psu k)
    have hpsus'' : (recompute (recomputeCapacity t)).budget.psus = t.budget.psus := by rw [hripple.budget]; rfl
    rw [hu]
    refine ⟨hripple.base.trans hbase, hripple.holdup.trans hholdup, hpsus''.trans hpsus', fun e => absurd e hsame, fun _ =>
      ⟨?_, hquiet.condition.trans hcondition, ?_, ?_⟩, htouches.trans (hafter.mono fun _ => Or.inr)⟩
    · have hstart : RaisedFrom s t (causePsu k) (if st = .absent then 0 else s.pubValue (psuIPoint k)) (stateCode st.code) :=
        hraised.congr rfl rfl rfl
      exact hstart.widen (KeepsSending.of_touches (c := causeHoldup) htouches (not_psuCause_holdup k)) (Quiet.refl _ s).toUnraised hquiet.toUnraised
    · rw [hgood, State.goodPsus, State.goodPsus, hpsus'']
    · rw [hcap', hgood, hf, recomputeCapacity_cap, hset]
      rfl

end Budget

end Sys2Proof.Machine
end

section
/-! PROOFS. O51, continued: the holdup controller on a level change, and the change of a PSU's input. -/

namespace Sys2Proof.Machine

/-! ### The holdup controller on a level change (R60) -/

/-- The holdup record as the AC evaluation leaves it (R60). -/
def State.acJudged (s : State) : Holdup :=
  { s.holdup with acCount := s.acPinCount, acEval := acEvaluation s.settings.holdup s.acPinCount s.busV }

theorem acEvaluation_failed {set : HoldupSettings} {count busV : Nat} :
    acEvaluation set count busV = .failed ↔ count < set.nAcMin ∨ busV < set.vBridge := by
  unfold acEvaluation
  by_cases h : count < set.nAcMin ∨ busV < set.vBridge
  · exact iff_of_true (if_pos h) h
  · rw [if_neg h]
    refine iff_of_false ?_ h
    split <;> exact nofun

theorem acEvaluation_good {set : HoldupSettings} {count busV : Nat} :
    acEvaluation set count busV = .good ↔ ¬ (count < set.nAcMin ∨ busV < set.vBridge) ∧ set.vReturn ≤ busV := by
  unfold acEvaluation
  by_cases h : count < set.nAcMin ∨ busV < set.vBridge
  · rw [if_pos h]
    exact iff_of_false nofun fun e => e.1 h
  · rw [if_neg h]
    by_cases hv : set.vReturn ≤ busV
    · exact iff_of_true (if_pos hv) ⟨h, hv⟩
    · rw [if_neg hv]
      exact iff_of_false nofun fun e => hv e.2

theorem acEvaluation_eq (set : HoldupSettings) (count busV : Nat) :
    acEvaluation set count busV =
      if count < set.nAcMin ∨ busV < set.vBridge then .failed
      else if ¬ (count < set.nAcMin ∨ busV < set.vBridge) ∧ set.vReturn ≤ busV then .good else .neither := by
  unfold acEvaluation
  by_cases h : count < set.nAcMin ∨ busV < set.vBridge
  · rw [if_pos h, if_pos h]
  · rw [if_neg h, if_neg h]
    simp only [h, not_false_eq_true, true_and]

/-- What the AC judgement leaves of a controller whose evaluation stands. -/
structure Judged.Moves (e t : State) (carried : Prop) : Prop where
  count : t.holdup.acCount = e.holdup.acCount
  eval : t.holdup.acEval = e.holdup.acEval
  calm : (e.holdup.state = .online → e.holdup.acEval ≠ .failed) →
    (e.holdup.state = .bridging ∨ e.holdup.state = .blackout → e.holdup.acEval ≠ .good) →
      (e.holdup.state = .returning → e.holdup.acEval ≠ .failed) → t = e
  opens : e.holdup.state = .online → e.holdup.acEval = .failed →
    (e.opened (e.triggerOf e.holdup.acCount)).bridges t.holdup ∧ Cut (e.budget.selAsked + e.budget.answers.length) t
  returns : e.holdup.state = .bridging ∨ e.holdup.state = .blackout → e.holdup.acEval = .good →
    t.holdup = { e.settling with state := .returning } ∧ RaisedFrom e t causeHoldup e.busV 19
  flickers : e.holdup.state = .returning → e.holdup.acEval = .failed → carried →
    t.holdup = { e.holdup.flickered with state := .bridging } ∧ RaisedFrom e t causeHoldup e.busV 18
  falls : e.holdup.state = .returning → e.holdup.acEval = .failed → ¬ carried →
    t.holdup = { e.holdup.flickered.ended .blackout with state := .blackout }

theorem judgeAc_moves (e : State) : Judged.Moves e (judgeAc e) (e.holdup.lastCounted ≠ 0) := by
  have hfields : (judgeAc e).holdup.acCount = e.holdup.acCount ∧ (judgeAc e).holdup.acEval = e.holdup.acEval := by
    rcases judgeAc_cases e with ⟨-, -, h⟩ | ⟨-, -, h⟩ | ⟨-, -, h⟩ | h <;> rw [h]
    · obtain ⟨-, -, -, -, -, -, hcount, heval, -⟩ := opened_bridges (openEvent_spec (e.triggerOf e.holdup.acCount) e).1
      exact ⟨hcount, heval⟩
    · rw [(enterReturn_spec e).1]
      exact ⟨rfl, rfl⟩
    · obtain ⟨hbridge, hblack, -⟩ := flicker_spec e
      by_cases hc : e.holdup.lastCounted = 0
      · rw [hblack hc]
        exact ⟨rfl, rfl⟩
      · rw [(hbridge hc).1]
        exact ⟨rfl, rfl⟩
    · exact ⟨rfl, rfl⟩
  refine ⟨hfields.1, hfields.2, judgeAc_stays, fun hst hac => ?_, fun hst hac => ?_, fun hst hac hc => ?_, fun hst hac hc => ?_⟩
  · rw [judgeAc_online hst hac]
    obtain ⟨hholdup, -, hcut⟩ := openEvent_spec (e.triggerOf e.holdup.acCount) e
    exact ⟨hholdup, hcut⟩
  · rw [judgeAc_return hst hac]
    obtain ⟨hholdup, -, hraised⟩ := enterReturn_spec e
    exact ⟨hholdup, hraised⟩
  · rw [judgeAc_flicker hst hac]
    exact (flicker_spec e).1 hc
  · rw [judgeAc_flicker hst hac]
    exact (flicker_spec e).2.1 (not_not.1 hc)

theorem inputHoldup_starting {u : State} (h : u.holdup.state = .starting) : inputHoldup u = u := if_pos h

theorem inputHoldup_judges {u : State} (h : u.holdup.state ≠ .starting) : inputHoldup u = judgeAc (u.setHoldup u.acJudged) := if_neg h

theorem inputHoldup_refigured (u : State) : u.budget.Refigured (inputHoldup u).budget := by
  by_cases h : u.holdup.state = .starting
  · rw [inputHoldup_starting h]
    exact .refl _
  · rw [inputHoldup_judges h]
    exact judgeAc_refigured (u.setHoldup u.acJudged)

theorem inputHoldup_touches (u : State) : Touches HoldupCause u (inputHoldup u) := by
  by_cases h : u.holdup.state = .starting
  · rw [inputHoldup_starting h]
    exact .refl _ u
  · rw [inputHoldup_judges h]
    exact ((Touches.refl _ u).setHoldup _).trans (judgeAc_touches _)

/-! ### The change of a PSU's input -/

theorem PsuPins.level_eq (x : PsuPins) (pin : PsuPin) (level : Bool) : x.level pin = level ↔ x.with pin level = x := by
  obtain ⟨p, a, d⟩ := x
  cases pin <;> simp [PsuPins.level, PsuPins.with, eq_comm]

theorem PsuPins.with_eq (x : PsuPins) (pin : PsuPin) (level : Bool) :
    x.with pin level =
      ⟨if pin = .present then level else x.present, if pin = .acOk then level else x.acOk, if pin = .dcOk then level else x.dcOk⟩ := by
  cases pin <;> rfl

theorem psuClass_eq (p : Psu) (alarm : Bool) :
    psuClass p alarm =
      if p.present = false then .absent else if p.acOk = false then .noAc else if p.dcOk = false ∨ alarm = true then .fault else .good := by
  unfold psuClass
  cases p.present <;> cases p.acOk <;> cases p.dcOk <;> cases alarm <;> rfl

section Change
variable {s : State} {k : PsuId} {pin : PsuPin} {level : Bool}

theorem exec_psuInputChange_same (h : s.pins.psu[k].with pin level = s.pins.psu[k]) : exec (.psuInputChange k pin level) s = .next s := by
  show execPsuInputChange k pin level s = _
  unfold execPsuInputChange
  dsimp only
  rw [if_pos ((PsuPins.level_eq _ _ _).2 h)]

/-- The part with the level of one PSU input changed. -/
def State.psuPinned (s : State) (k : PsuId) (pin : PsuPin) (level : Bool) : State :=
  s.setPins { s.pins with psu := s.pins.psu.set k (s.pins.psu[k].with pin level) }

theorem exec_psuInputChange (h : s.pins.psu[k].with pin level ≠ s.pins.psu[k]) :
    exec (.psuInputChange k pin level) s = .next (whenRunning (psuChange k pin) (s.psuPinned k pin level)) := by
  show execPsuInputChange k pin level s = _
  unfold execPsuInputChange
  dsimp only
  rw [if_neg fun e => h ((PsuPins.level_eq _ _ _).1 e)]
  rfl

end Change

end Sys2Proof.Machine
end

section
/-! PROOFS. O51, continued: the clauses on a PSU's input. -/

namespace Sys2Proof.Machine

section Psu
variable {s : State} {k : PsuId} {pin : PsuPin} {level : Bool}

/-- The effects of the holdup controller's part of a PSU's change, in terms of the state that the budget unit leaves. -/
theorem inputHoldup_clauses {u : State} (hst : u.holdup.state ≠ .starting) :
    let set := u.settings.holdup
    let h := u.holdup
    let count := u.acPinCount
    let failed := count < set.nAcMin ∨ u.busV < set.vBridge
    let good := ¬ failed ∧ set.vReturn ≤ u.busV
    let judged : Holdup := { h with acCount := count, acEval := if failed then .failed else if good then .good else .neither }
    let carried := h.lastCounted ≠ 0
    let t := inputHoldup u
    t.holdup.acCount = count ∧ t.holdup.acEval = judged.acEval ∧
      (h.state = .online → ¬ failed → t.holdup = judged) ∧
      (h.state = .online → failed →
        t.holdup.state = (if carried then .bridging else .blackout) ∧
          t.holdup.events = min 65535 (h.events + 1) ∧ (t.holdup.eventOpen = true ↔ carried) ∧
          t.holdup.settle = none ∧ t.holdup.collapse = none ∧
          t.holdup.bridging = (if carried ∧ 0 < set.tMax then some (set.tMax * 1000) else none) ∧
          t.budget.deficit = .idle ∧ t.recharge.state = .off ∧ t.recharge.iSet = 0 ∧
          (h.record.valid = false → h.record.isOpen = false → carried →
            t.holdup.record.isOpen = true ∧
              t.holdup.record.trigger = some (if count < set.nAcMin then .acCount else .busSag))) ∧
      (h.state = .bridging ∨ h.state = .blackout → ¬ good → t.holdup = judged) ∧
      (h.state = .bridging ∨ h.state = .blackout → good →
        t.holdup = { judged with state := .returning, settle := some (set.tSettle * 100), collapse := none } ∧
          RaisedFrom u t causeHoldup u.busV 19) ∧
      (h.state = .returning → ¬ failed → t.holdup = judged) ∧
      (h.state = .returning → failed → carried →
        t.holdup =
            { judged with
              state := .bridging
              settle := none
              record :=
                if h.record.isOpen then { h.record with flickers := min 255 (h.record.flickers + 1) }
                else h.record } ∧
          RaisedFrom u t causeHoldup u.busV 18) ∧
      (h.state = .returning → failed → ¬ carried →
        t.holdup.state = .blackout ∧ t.holdup.settle = none ∧ t.holdup.events = h.events) := by
  intro set h count failed good judged carried t
  have hmoves := judgeAc_moves (u.setHoldup u.acJudged)
  rw [← inputHoldup_judges hst] at hmoves
  have hjudged : u.acJudged = judged := congrArg (fun a => ({ h with acCount := count, acEval := a } : Holdup)) (acEvaluation_eq _ _ _)
  have hfailed : u.acJudged.acEval = .failed ↔ failed := acEvaluation_failed
  have hgood : u.acJudged.acEval = .good ↔ good := acEvaluation_good
  have hsame (hcalm : t = u.setHoldup u.acJudged) : t.holdup = judged := (congrArg State.holdup hcalm).trans hjudged
  have hnot {a b : HoldupState} (ha : h.state = a) (hb : h.state = b) (hne : a ≠ b) {p : Prop} : p := absurd (ha.symm.trans hb) hne
  refine ⟨hmoves.count, hmoves.eval.trans (congrArg Holdup.acEval hjudged), fun hon hno => hsame (hmoves.calm ?_ ?_ ?_), fun hon hf => ?_,
    fun hbr hno => hsame (hmoves.calm ?_ ?_ ?_), fun hbr hg => ?_, fun hret hno => hsame (hmoves.calm ?_ ?_ ?_), fun hret hf hc => ?_,
    fun hret hf hc => ?_⟩
  · exact fun _ e => hno (hfailed.1 e)
  · exact fun e => e.elim (fun e => hnot hon e nofun) fun e => hnot hon e nofun
  · exact fun e => hnot hon e nofun
  · obtain ⟨hbridges, hcut⟩ := hmoves.opens hon (hfailed.2 hf)
    obtain ⟨hstate, hevents, hopen, hsettle, hcollapse, hbridging, -, -, -, -, hrecord, -⟩ := opened_bridges hbridges
    exact ⟨hstate, hevents, hopen, hsettle, hcollapse, hbridging, hcut.idle, hcut.off, hcut.idleSet, fun hv ho hc =>
      ⟨(hrecord hv ho hc).1, (hrecord hv ho hc).2.2.1⟩⟩
  · exact fun e => hbr.elim (fun b => hnot b e nofun) fun b => hnot b e nofun
  · exact fun _ e => hno (hgood.1 e)
  · exact fun e => hbr.elim (fun b => hnot b e nofun) fun b => hnot b e nofun
  · obtain ⟨hholdup, hraised⟩ := hmoves.returns hbr (hgood.2 hg)
    refine ⟨hholdup.trans ?_, hraised⟩
    rw [← hjudged]
    rfl
  · exact fun e => hnot hret e nofun
  · exact fun e => e.elim (fun e => hnot hret e nofun) fun e => hnot hret e nofun
  · exact fun _ e => hno (hfailed.1 e)
  · obtain ⟨hholdup, hraised⟩ := hmoves.flickers hret (hfailed.2 hf) hc
    refine ⟨hholdup.trans ?_, hraised⟩
    rw [← hjudged]
    rfl
  · have hholdup := hmoves.falls hret (hfailed.2 hf) hc
    rw [hholdup]
    exact ⟨rfl, rfl, rfl⟩

/-- R20, R60: a PSU's input changed after the first sample set. -/
theorem psuChange_spec (hseen : s.sense.seen = true) {st : PsuState}
    (hst : psuClass (s.budget.psus[k].see s.pins.psu[k]) s.sense.pub[psuIPoint k].alarm = st) :
    let u := inputBudget k s
    let t := psuChange k pin s
    t.base = s.base ∧ t.budget.psus = s.budget.psus.set k { s.budget.psus[k].see s.pins.psu[k] with state := st } ∧
      (st = s.budget.psus[k].state → t.budget.cap = s.budget.cap) ∧
      (st ≠ s.budget.psus[k].state →
        RaisedFrom s t (causePsu k) (if st = .absent then 0 else s.pubValue (psuIPoint k)) (stateCode st.code) ∧
          t.causes.recs[causePsu k].condition = (st == .noAc || st == .fault) ∧
          t.budget.nGood = psuIds.countP (fun j => t.budget.psus[j].state == .good) ∧
          t.budget.cap = (t.budget.nGood - s.settings.budget.nRed) * s.settings.budget.pRate * t.budget.f / 256) ∧
      (pin = .dcOk ∨ s.holdup.state = .starting → t.holdup = s.holdup) ∧
      (pin ≠ .dcOk → t = inputHoldup u) ∧ u.base = s.base ∧ u.holdup = s.holdup ∧
      Touches (fun c => c = causePsu k ∨ BudgetCause c) s u := by
  obtain ⟨hbase, hholdup, hpsus, hcapSame, hmoves, htouches⟩ := inputBudget_spec k hseen hst
  have hat : PsuPin.atHoldup pin = true ↔ pin ≠ .dcOk := by cases pin <;> simp [PsuPin.atHoldup]
  have hchange : psuChange k pin s = if PsuPin.atHoldup pin then inputHoldup (inputBudget k s) else inputBudget k s := rfl
  intro u t
  have hlater : (t = u ∨ t = inputHoldup u) ∧ (pin ≠ .dcOk → t = inputHoldup u) ∧ (pin = .dcOk → t = u) := by
    show ((psuChange k pin s = _ ∨ _) ∧ _ ∧ _)
    by_cases h : pin = .dcOk
    · have he : psuChange k pin s = u := hchange.trans (if_neg fun e => hat.1 e h)
      exact ⟨.inl he, fun hne => absurd h hne, fun _ => he⟩
    · have he : psuChange k pin s = inputHoldup u := hchange.trans (if_pos (hat.2 h))
      exact ⟨.inr he, fun _ => he, fun e => absurd e h⟩
  obtain ⟨heither, hjudges, hstays⟩ := hlater
  have htbase : t.base = u.base := by
    rcases heither with e | e <;> rw [e]
    exact inputHoldup_base u
  have hrefigured : u.budget.Refigured t.budget := by
    rcases heither with e | e <;> rw [e]
    · exact .refl _
    · exact inputHoldup_refigured u
  have hafter : Touches HoldupCause u t := by
    rcases heither with e | e <;> rw [e]
    · exact .refl _ u
    · exact inputHoldup_touches u
  have hquiet := hafter (causePsu k) (not_holdupCause_psu k)
  have hpsus' : t.budget.psus = u.budget.psus := by rw [hrefigured]
  have hcap' : t.budget.cap = u.budget.cap := by rw [hrefigured]
  have hgood' : t.budget.nGood = u.budget.nGood := by rw [hrefigured]
  have hf' : t.budget.f = u.budget.f := by rw [hrefigured]
  refine ⟨htbase.trans hbase, hpsus'.trans hpsus, fun e => hcap'.trans (hcapSame e), fun hne => ?_, fun h => ?_, hjudges, hbase, hholdup,
    htouches⟩
  · obtain ⟨hraised, hcondition, hgood, hcap⟩ := hmoves hne
    refine ⟨hraised.widen (KeepsSending.of_touches (c := causeHoldup) htouches (not_psuCause_holdup k)) (Quiet.refl _ s).toUnraised hquiet.toUnraised,
      hquiet.condition.trans hcondition, ?_, ?_⟩
    · rw [hgood', hpsus', hgood]
      rfl
    · rw [hcap', hgood', hf', hcap]
  · by_cases hp : pin = .dcOk
    · rw [hstays hp]
      exact hholdup
    · have hstart : s.holdup.state = .starting := h.resolve_left hp
      rw [hjudges hp, inputHoldup_starting (by rw [hholdup]; exact hstart)]
      exact hholdup

end Psu

end Sys2Proof.Machine
end

section
/-! PROOFS. O51, continued: the clauses on a BBU's inputs (R37, R38). -/

namespace Sys2Proof.Machine

/-! ### A BBU that fails or is removed (R37, R38, R57) -/

theorem causeBbu_lasting (i : BbuId) : eventSource (causeBbu i) = false := by revert i; decide

section Fail
variable {i : BbuId} {st : BbuState} {s : State}

/-- The part in which a failing BBU changes state: its test has ended (R57). -/
def State.testEnded (s : State) (i : BbuId) : State := if s.testing i then s.testTold .abortedFault else s

theorem testing_iff : s.testing i = true ↔ s.charge.test.running = true ∧ s.charge.test.bbu = some i := by
  unfold State.testing
  rw [Bool.and_eq_true, beq_iff_eq]

theorem failBbu_eq (i : BbuId) (st : BbuState) (s : State) : failBbu i st s = changeBbu i st (s.testEnded i) := by
  unfold failBbu State.testEnded
  by_cases h : s.testing i = true
  · rw [if_pos h, if_pos h]
    exact abortTest_eq (testing_iff.1 h).2 _ _
  · rw [if_neg h, if_neg h]

theorem testEnded_fields (s : State) (i : BbuId) :
    (s.testEnded i).charge.bbus = s.charge.bbus ∧ (s.testEnded i).base = s.base ∧ Touches (· = causeTest) s (s.testEnded i) := by
  unfold State.testEnded
  split
  · have hclosed : Touches (· = causeTest) s (s.testClosed .abortedFault) := .of_same rfl rfl
    exact ⟨by rw [testTold_charge]; rfl, raise_base _ _ _ _, hclosed.raise rfl _ _⟩
  · exact ⟨rfl, rfl, .refl _ s⟩

theorem changeBbu_condition (h : s.charge.bbus[i].state ≠ .fault) :
    (changeBbu i .fault s).causes.recs[causeBbu i].condition = true := by
  rw [changeBbu_of_ne h, raise_condition (causeBbu_lasting i), moveBbu_eq]
  unfold reportBbu
  rw [reportCondition_condition, driveBbu_bbus, setBbu_bbus, if_pos rfl]
  rfl

/-- R37, R38, R42, R57: a BBU goes to FAULT or ABSENT. -/
theorem failBbu_spec (hseen : s.sense.seen = true) (hst : st = .absent ∨ st = .fault) (hne : s.charge.bbus[i].state ≠ st) :
    let t := recomputeReserve (failBbu i st s)
    t.base = s.base ∧ t.charge.bbus[i].state = st ∧ t.charge.bbus[i].q = s.charge.bbus[i].q ∧
      t.charge.bbus[i].out = ⟨false, false, 0⟩ ∧ RaisedFrom s t (causeBbu i) s.charge.bbus[i].q (stateCode st.code) ∧
      (s.charge.test.running = true ∧ s.charge.test.bbu = some i →
        t.charge.test.running = false ∧ t.charge.test.result = .abortedFault ∧ RaisedFrom s t causeTest 0 5) ∧
      t.reserveReckoned ∧ (st = .fault → t.causes.recs[causeBbu i].condition = true) := by
  intro t
  obtain ⟨hbbus, hbase, htouches⟩ := testEnded_fields s i
  have ht : t = recomputeReserve (changeBbu i st (s.testEnded i)) := congrArg recomputeReserve (failBbu_eq i st s)
  have hended : s.charge.test.running = true ∧ s.charge.test.bbu = some i →
      t.charge.test.running = false ∧ t.charge.test.result = .abortedFault ∧ RaisedFrom s t causeTest 0 5 := fun h => by
    obtain ⟨hoff, hresult, -, -, -, hraised, -⟩ := abortTest_closes (t := t) (result := .abortedFault) (st := fun _ _ => st) h.2
      (congrArg recomputeReserve (if_pos (testing_iff.2 h)))
    exact ⟨hoff, hresult, hraised⟩
  generalize s.testEnded i = u at hbbus hbase htouches ht
  have hne' : u.charge.bbus[i].state ≠ st := by rw [hbbus]; exact hne
  have hseen' : u.sense.seen = true := by rw [base_sense hbase]; exact hseen
  have hunshared : st.unshared = true := by rcases hst with rfl | rfl <;> rfl
  have hdriven := ((DrivenAt.reserveInvariant hunshared).recomputeReserve (DrivenAt.of_change hseen' hne' hunshared)).out
  have hraised : RaisedFrom s (changeBbu i st u) (causeBbu i) s.charge.bbus[i].q (stateCode st.code) := by
    rw [← hbbus]
    exact (changeBbu_raised hne').widen (changeBbu_touches i st u causeHoldup (causeHoldup_ne_bbu i).symm).sending
      (htouches (causeBbu i) (causeBbu_ne_test i)).toUnraised (Quiet.refl _ _).toUnraised
  have hsend : KeepsSending s (changeBbu i st u) :=
    (htouches causeHoldup (by decide)).sending.trans (changeBbu_touches i st u causeHoldup (causeHoldup_ne_bbu i).symm).sending
  rw [ht] at hended ⊢
  refine ⟨?_, ?_, ?_, ?_, hraised.widen hsend (Quiet.refl _ s).toUnraised (recomputeReserve_quiet _ i).toUnraised, hended,
    recomputeReserve_reserveReckoned _, fun e => ?_⟩
  · exact (recomputeReserve_base _).trans ((changeBbu_base i st u).trans hbase)
  · rw [recomputeReserve_bbu_state, changeBbu_state, if_pos rfl]
  · rw [recomputeReserve_bbu_q, changeBbu_q, hbbus]
  · rw [hdriven]
    rcases hst with rfl | rfl <;> rfl
  · subst e
    rw [(recomputeReserve_quiet _ i).condition]
    exact changeBbu_condition hne'

end Fail

end Sys2Proof.Machine
end

section
/-! PROOFS. O51, concluded: a BBU that is fitted or recovers, and the statement. -/

namespace Sys2Proof.Machine

/-! ### The levels of a BBU as last seen (R37, R38) -/

section Seen
variable (s : State) (i : BbuId) (x : BbuPins)

/-- The part with the levels of one BBU's inputs changed. -/
def State.bbuPinned : State := s.setPins { s.pins with bbu := s.pins.bbu.set i x }

/-- The part with those levels recorded. -/
def State.bbuSeen : State := (s.bbuPinned i x).setBbu i { s.charge.bbus[i] with present := x.present, faultIn := x.fault }

theorem bbuSeen_bbu : (s.bbuSeen i x).charge.bbus[i] = { s.charge.bbus[i] with present := x.present, faultIn := x.fault } :=
  get_set_same _ _ _

theorem bbuChange_eq (effect : State → State) :
    bbuChange i effect (s.bbuPinned i x) = if s.sense.seen then effect (s.bbuSeen i x) else s.bbuSeen i x := by
  have hx : (s.bbuPinned i x).pins.bbu[i] = x := get_set_same _ _ _
  unfold bbuChange
  rw [hx]
  rfl

theorem exec_bbuPresent_same {s : State} {level : Bool} (h : s.pins.bbu[i].present = level) :
    exec (.bbuPresentChange i level) s = .next s := by
  show execBbuPresentChange i level s = _
  unfold execBbuPresentChange
  dsimp only
  rw [if_pos h]

theorem exec_bbuPresent {s : State} {level : Bool} (h : s.pins.bbu[i].present ≠ level) :
    exec (.bbuPresentChange i level) s =
      .next (whenRunning (bbuChange i (presentChange i level)) (s.bbuPinned i { s.pins.bbu[i] with present := level })) := by
  show execBbuPresentChange i level s = _
  unfold execBbuPresentChange
  dsimp only
  rw [if_neg h]
  rfl

theorem exec_bbuFault_same {s : State} {level : Bool} (h : s.pins.bbu[i].fault = level) :
    exec (.bbuFaultInputChange i level) s = .next s := by
  show execBbuFaultInputChange i level s = _
  unfold execBbuFaultInputChange
  dsimp only
  rw [if_pos h]

theorem exec_bbuFault {s : State} {level : Bool} (h : s.pins.bbu[i].fault ≠ level) :
    exec (.bbuFaultInputChange i level) s =
      .next (whenRunning (bbuChange i (faultChange i level)) (s.bbuPinned i { s.pins.bbu[i] with fault := level })) := by
  show execBbuFaultInputChange i level s = _
  unfold execBbuFaultInputChange
  dsimp only
  rw [if_neg h]
  rfl

end Seen

/-! ### A BBU that is fitted, or whose FAULT ends -/

theorem bbuClass_present {set : BbuSettings} {b : Bbu} {t c : Int} (h : b.present = true) :
    bbuClass set b t c =
      if b.faultIn = true ∨ b.critInForce ≤ t then .fault
      else if c ≤ -(b.detectInForce : Int) then .discharging
      else if set.qFull - set.margin < b.q then .standby else .charging := by
  unfold bbuClass
  rw [h]
  simp only [Bool.not_true, Bool.or_eq_true, decide_eq_true_eq, restState, BbuSettings.rechargePoint]
  rfl

theorem bbuClass_not_absent {set : BbuSettings} {b : Bbu} {t c : Int} (h : b.present = true) : bbuClass set b t c ≠ .absent := by
  rw [bbuClass_present h]
  split
  · exact nofun
  · split
    · exact nofun
    · split <;> exact nofun

section Fit
variable {s : State} {i : BbuId}

/-- The part with the module in the position taken to be a different one, its condition told (R37). -/
def State.fitted (s : State) (i : BbuId) : State := reportBbu i (s.setBbu i (s.charge.bbus[i].fit s.settings.bbus[i]))

theorem presentChange_fits (h : s.charge.bbus[i].state = .absent) :
    presentChange i true s =
      recomputeReserve (changeBbu i ((s.setBbu i (s.charge.bbus[i].fit s.settings.bbus[i])).classOf i) (s.fitted i)) := by
  unfold presentChange State.fitted
  exact (if_pos rfl).trans (if_pos h)

theorem fitted_fields (s : State) (i : BbuId) :
    (s.fitted i).charge.bbus[i] = s.charge.bbus[i].fit s.settings.bbus[i] ∧ (s.fitted i).base = s.base ∧
      Touches (fun _ => False) s (s.setBbu i (s.charge.bbus[i].fit s.settings.bbus[i])) := by
  refine ⟨?_, ?_, .of_same rfl rfl⟩
  · unfold State.fitted
    rw [reportBbu_charge]
    exact get_set_same _ _ _
  · unfold State.fitted reportBbu
    rw [reportCondition_base]
    rfl

/-- R37: a BBU that is fitted. -/
theorem presentChange_spec (habsent : s.charge.bbus[i].state = .absent) (hpresent : s.charge.bbus[i].present = true) {st : BbuState}
    (hst : bbuClass s.settings.bbus[i] (s.charge.bbus[i].fit s.settings.bbus[i]) (s.pubValue (bbuTPoint i)) (s.pubValue (bbuIPoint i)) = st) :
    let t := presentChange i true s
    t.base = s.base ∧
      t.charge.bbus[i] = { s.charge.bbus[i].fit s.settings.bbus[i] with state := st, out := t.charge.bbus[i].out } ∧
      RaisedFrom s t (causeBbu i) s.settings.bbus[i].qFloor (stateCode st.code) ∧ t.reserveReckoned := by
  intro t
  have ht : t = _ := presentChange_fits habsent
  obtain ⟨hfit, hbase, hset⟩ := fitted_fields s i
  have hclass : (s.setBbu i (s.charge.bbus[i].fit s.settings.bbus[i])).classOf i = st := by
    unfold State.classOf
    rw [setBbu_bbus, if_pos rfl]
    exact hst
  rw [hclass] at ht
  have hne : (s.fitted i).charge.bbus[i].state ≠ st := by
    rw [hfit, show (s.charge.bbus[i].fit s.settings.bbus[i]).state = .absent from habsent, ← hst]
    exact (bbuClass_not_absent (b := s.charge.bbus[i].fit s.settings.bbus[i]) hpresent).symm
  have hraised := changeBbu_raised hne
  rw [hfit] at hraised
  have hquiet : Unraised (causeBbu i) s (s.fitted i) := (hset (causeBbu i) id).toUnraised.trans (reportCondition_unraised _ _ _ _)
  have hreport : Touches (· = causeBbu i) s (s.fitted i) := by
    unfold State.fitted reportBbu
    exact (hset.mono (Q := (· = causeBbu i)) fun _ => False.elim).report rfl _
  have hsend := (changeBbu_touches i st (s.fitted i) causeHoldup (causeHoldup_ne_bbu i).symm).sending
  have hsend' := (hreport causeHoldup (causeHoldup_ne_bbu i).symm).sending
  rw [ht]
  refine ⟨(recomputeReserve_base _).trans ((changeBbu_base i st _).trans hbase), ?_, ?_, recomputeReserve_reserveReckoned _⟩
  · rw [recomputeReserve_bbu, changeBbu_of_ne hne, raise_charge, moveBbu_bbus, if_pos rfl, hfit]
    rfl
  · exact (hraised.widen hsend hquiet (Quiet.refl _ _).toUnraised).widen (hsend'.trans hsend) (Quiet.refl _ s).toUnraised
      (recomputeReserve_quiet _ i).toUnraised

end Fit

section Leave
variable {s : State} {i : BbuId}

theorem presentChange_leaves (h : s.charge.bbus[i].state ≠ .absent) :
    presentChange i false s = recomputeReserve (failBbu i .absent s) := by
  unfold presentChange
  exact (if_neg nofun).trans (if_neg h)

theorem faultChange_fails (h : s.charge.bbus[i].state ≠ .absent) (hf : s.charge.bbus[i].state ≠ .fault) :
    faultChange i true s = recomputeReserve (failBbu i .fault s) := by
  unfold faultChange
  exact (if_neg h).trans ((if_pos rfl).trans (if_neg hf))

theorem faultChange_ends (h : s.charge.bbus[i].state = .fault) :
    faultChange i false s =
      if s.charge.bbus[i].state = .fault ∧ s.pubValue (bbuTPoint i) < s.charge.bbus[i].critInForce then
        recomputeReserve (changeBbu i (s.restOf i) s)
      else s := by
  unfold faultChange
  exact (if_neg fun e : s.charge.bbus[i].state = .absent => absurd (h.symm.trans e) nofun).trans (if_neg Bool.false_ne_true)

/-- R38, R42: a change of state with its recompute of the reserve. -/
theorem changeBbu_spec {st : BbuState} (hne : s.charge.bbus[i].state ≠ st) :
    let t := recomputeReserve (changeBbu i st s)
    t.base = s.base ∧ t.charge.bbus[i].state = st ∧ t.charge.bbus[i].q = s.charge.bbus[i].q ∧
      RaisedFrom s t (causeBbu i) s.charge.bbus[i].q (stateCode st.code) ∧ t.reserveReckoned := by
  refine ⟨(recomputeReserve_base _).trans (changeBbu_base i st s), ?_, ?_, ?_, recomputeReserve_reserveReckoned _⟩
  · rw [recomputeReserve_bbu_state, changeBbu_state, if_pos rfl]
  · rw [recomputeReserve_bbu_q, changeBbu_q]
  · exact (changeBbu_raised hne).widen (changeBbu_touches i st s causeHoldup (causeHoldup_ne_bbu i).symm).sending
      (Quiet.refl _ s).toUnraised (recomputeReserve_quiet _ i).toUnraised

end Leave

theorem whenRunning_of {f : State → State} {s : State} (h : ¬ s.running) : whenRunning f s = s := whenRunning_of_not_running h

end Sys2Proof.Machine

open Sys2Proof Sys2Proof.Machine

/-- Settles O51: a PSU's change is one classification with capacity, then the AC judgement; a BBU's is one change of its state and one
recompute of the reserve. -/
theorem inputsReclassifyTheirModules : Obligations.InputsReclassifyTheirModules := by
  refine ⟨fun s k pin level => ?_, fun s i level => ?_⟩
  · intro old now pins x st seen
    have hnow : s.pins.psu[k].with pin level = now := PsuPins.with_eq _ _ _
    have hpinned : s.psuPinned k pin level = s.setPins pins := congrArg (fun y : PsuPins => s.setPins { s.pins with psu := s.pins.psu.set k y }) hnow
    have hpin : (s.setPins pins).pins.psu[k] = now := get_set_same _ _ _
    have hexec (hne : now ≠ old) : exec (.psuInputChange k pin level) s = .next (whenRunning (psuChange k pin) (s.setPins pins)) := by
      rw [exec_psuInputChange (by rw [hnow]; exact hne), hpinned]
    refine ⟨fun h => exec_psuInputChange_same (hnow.trans h), fun hne hrun => ?_, fun hne hrun hunseen hstart => ?_, fun hne hrun hseen => ?_⟩
    · rw [hexec hne, whenRunning_of (s := s.setPins pins) hrun]
      rfl
    · rw [hexec hne, whenRunning_of_running (s := s.setPins pins) hrun]
      have hbudget : inputBudget k (s.setPins pins) = (s.setPins pins).psuSeen k := inputBudget_unseen k hunseen
      have hinput : psuChange k pin (s.setPins pins) = (s.setPins pins).psuSeen k := by
        have hstays : inputHoldup ((s.setPins pins).psuSeen k) = (s.setPins pins).psuSeen k := inputHoldup_starting hstart
        unfold psuChange
        rw [hbudget]
        dsimp only
        rw [hstays, ite_self]
      rw [hinput]
      unfold State.psuSeen
      rw [hpin]
      rfl
    · refine ⟨psuChange k pin (s.setPins pins), by rw [hexec hne, whenRunning_of_running (s := s.setPins pins) hrun], ?_⟩
      have hst : psuClass ((s.setPins pins).budget.psus[k].see (s.setPins pins).pins.psu[k]) (s.setPins pins).sense.pub[psuIPoint k].alarm = st := by
        rw [hpin, psuClass_eq]
        rfl
      obtain ⟨hbase, hpsus, hsame, hmoves, hkept, hjudges, hubase, huholdup, htouches⟩ :=
        psuChange_spec (s := s.setPins pins) (k := k) (pin := pin) hseen hst
      rw [hpin] at hpsus
      refine ⟨base_pins hbase, (base_sense hbase).trans rfl, hpsus, hsame, fun hne' => ?_, hkept, fun hp hstart => ?_⟩
      · obtain ⟨hraised, hcondition, hgood, hcap⟩ := hmoves hne'
        exact ⟨hraised.congr rfl rfl rfl, hcondition, hgood, hcap⟩
      · have hclauses := inputHoldup_clauses (u := inputBudget k (s.setPins pins)) (by rw [huholdup]; exact hstart)
        rw [← hjudges hp] at hclauses
        have hsend : KeepsSending (inputBudget k (s.setPins pins)) (psuChange k pin (s.setPins pins)) := by
          rw [hjudges hp]
          exact KeepsSending.of_touches (inputHoldup_touches _) (not_holdupCause_psu k)
        have hquiet : Unraised causeHoldup (s.setPins pins) (inputBudget k (s.setPins pins)) :=
          (htouches causeHoldup (not_psuCause_holdup k)).toUnraised
        have hwiden {v : Int} {code : Byte}
            (h : RaisedFrom (inputBudget k (s.setPins pins)) (psuChange k pin (s.setPins pins)) causeHoldup v code) :
            RaisedFrom s (psuChange k pin (s.setPins pins)) causeHoldup v code :=
          (h.widen hsend hquiet (Quiet.refl _ _).toUnraised).congr rfl rfl rfl
        have hset : (inputBudget k (s.setPins pins)).settings = s.settings := (base_settings hubase).trans rfl
        have hbus : (inputBudget k (s.setPins pins)).busV = s.busV := by
          rw [State.busV, State.pubValue, base_sense hubase]
          rfl
        have hcount : (inputBudget k (s.setPins pins)).acPinCount = psuIds.countP fun j => pins.psu[j].present && pins.psu[j].acOk := by
          rw [State.acPinCount, base_pins hubase]
          rfl
        rw [hset, hbus, hcount, huholdup] at hclauses
        obtain ⟨h1, h2, h3, h4, h5, h6, h7, h8, h9⟩ := hclauses
        exact ⟨h1, h2, h3, h4, h5, fun hst hg => ⟨(h6 hst hg).1, hwiden (h6 hst hg).2⟩, h7,
          fun hst hf hc => ⟨(h8 hst hf hc).1, hwiden (h8 hst hf hc).2⟩, h9⟩
  · intro old set b temp rest atPresent atFault testing ended
    have hpins (f : State → State) (x : BbuPins) (hrun : s.running) (hseen : s.sense.seen = true) :
        whenRunning (bbuChange i f) (s.bbuPinned i x) = f (s.bbuSeen i x) := by
      rw [whenRunning_of_running (s := s.bbuPinned i x) hrun, bbuChange_eq, if_pos hseen]
    have hunseen (f : State → State) (x : BbuPins) (hrun : s.running) (hseen : s.sense.seen = false) :
        whenRunning (bbuChange i f) (s.bbuPinned i x) = s.bbuSeen i x := by
      rw [whenRunning_of_running (s := s.bbuPinned i x) hrun, bbuChange_eq, if_neg (by rw [hseen]; exact nofun)]
    refine ⟨fun h => exec_bbuPresent_same i h, fun h => exec_bbuFault_same i h, fun h hrun => ?_, fun h hrun => ?_, fun h hrun hseen => ?_,
      fun h hrun hseen => ?_, fun hold hlevel hrun hseen hst => ?_, fun hold hlevel hrun hseen hst => ?_, fun hold hlevel hrun hseen hst hst' => ?_,
      fun hold hlevel hrun hseen hst => ?_⟩
    · rw [exec_bbuPresent i h, whenRunning_of (s := s.bbuPinned i _) hrun]
      rfl
    · rw [exec_bbuFault i h, whenRunning_of (s := s.bbuPinned i _) hrun]
      rfl
    · rw [exec_bbuPresent i h, hunseen _ _ hrun hseen]
      rfl
    · rw [exec_bbuFault i h, hunseen _ _ hrun hseen]
      rfl
    · subst hlevel
      have hne : s.pins.bbu[i].present ≠ true := by rw [show s.pins.bbu[i].present = false from hold]; exact nofun
      have hbbu := bbuSeen_bbu s i { s.pins.bbu[i] with present := true }
      refine ⟨presentChange i true (s.bbuSeen i { s.pins.bbu[i] with present := true }), by rw [exec_bbuPresent i hne, hpins _ _ hrun hseen], ?_⟩
      beta_reduce
      intro x st
      obtain ⟨hbase, hx, hraised, hreckoned⟩ := presentChange_spec (s := s.bbuSeen i { s.pins.bbu[i] with present := true }) (i := i)
        (st := st) (by rw [hbbu]; exact hst) (by rw [hbbu]) (by
          rw [bbuClass_present (by rw [hbbu]; rfl), hbbu]
          rfl)
      refine ⟨base_pins hbase, hx.trans ?_, hraised.congr rfl rfl rfl, hreckoned⟩
      rw [hbbu]
      rfl
    · subst hlevel
      have hne : s.pins.bbu[i].present ≠ false := by rw [show s.pins.bbu[i].present = true from hold]; exact nofun
      have hbbu := bbuSeen_bbu s i { s.pins.bbu[i] with present := false }
      have hst' : (s.bbuSeen i { s.pins.bbu[i] with present := false }).charge.bbus[i].state ≠ .absent := by rw [hbbu]; exact hst
      obtain ⟨hbase, hstate, hq, hout, hraised, hended, hreckoned, -⟩ :=
        failBbu_spec (s := s.bbuSeen i { s.pins.bbu[i] with present := false }) hseen (.inl rfl) hst'
      rw [hbbu] at hq hraised
      refine ⟨_, by rw [exec_bbuPresent i hne, hpins _ _ hrun hseen, presentChange_leaves hst'], ?_⟩
      exact ⟨base_pins hbase, hstate, hq, hout, hraised.congr rfl rfl rfl,
        fun ht => ⟨(hended ht).1, (hended ht).2.1, (hended ht).2.2.congr rfl rfl rfl⟩, hreckoned⟩
    · subst hlevel
      have hne : s.pins.bbu[i].fault ≠ true := by rw [show s.pins.bbu[i].fault = false from hold]; exact nofun
      have hbbu := bbuSeen_bbu s i { s.pins.bbu[i] with fault := true }
      have hpresent : (s.bbuSeen i { s.pins.bbu[i] with fault := true }).charge.bbus[i].state ≠ .absent := by rw [hbbu]; exact hst
      have hwell : (s.bbuSeen i { s.pins.bbu[i] with fault := true }).charge.bbus[i].state ≠ .fault := by rw [hbbu]; exact hst'
      obtain ⟨hbase, hstate, hq, hout, hraised, hended, hreckoned, hcondition⟩ :=
        failBbu_spec (s := s.bbuSeen i { s.pins.bbu[i] with fault := true }) hseen (.inr rfl) hwell
      rw [hbbu] at hq hraised
      refine ⟨_, by rw [exec_bbuFault i hne, hpins _ _ hrun hseen, faultChange_fails hpresent hwell], ?_⟩
      exact ⟨base_pins hbase, hstate, hq, hout, hcondition rfl, hraised.congr rfl rfl rfl,
        fun ht => ⟨(hended ht).1, (hended ht).2.1, (hended ht).2.2.congr rfl rfl rfl⟩, hreckoned⟩
    · subst hlevel
      have hne : s.pins.bbu[i].fault ≠ false := by rw [show s.pins.bbu[i].fault = true from hold]; exact nofun
      have hbbu := bbuSeen_bbu s i { s.pins.bbu[i] with fault := false }
      have hfault : (s.bbuSeen i { s.pins.bbu[i] with fault := false }).charge.bbus[i].state = .fault := by rw [hbbu]; exact hst
      have hrest : (s.bbuSeen i { s.pins.bbu[i] with fault := false }).restOf i = rest := by
        unfold State.restOf restState BbuSettings.rechargePoint
        rw [hbbu]
        rfl
      have hcrit : (s.bbuSeen i { s.pins.bbu[i] with fault := false }).charge.bbus[i].critInForce = b.critInForce := by rw [hbbu]
      have hexec := exec_bbuFault i hne
      rw [hpins _ _ hrun hseen, faultChange_ends hfault, hrest] at hexec
      by_cases hcool : temp < b.critInForce
      · have hmoves : (s.bbuSeen i { s.pins.bbu[i] with fault := false }).charge.bbus[i].state ≠ rest := by
          have hrestne : rest ≠ .fault := by
            show (if _ then _ else _ : BbuState) ≠ _
            split <;> exact nofun
          rw [hfault]
          exact hrestne.symm
        rw [if_pos ⟨hfault, by rw [hcrit]; exact hcool⟩] at hexec
        obtain ⟨hbase, hstate, hq, hraised, hreckoned⟩ := changeBbu_spec hmoves
        rw [hbbu] at hq hraised
        refine ⟨_, hexec, ?_⟩
        rw [if_pos hcool]
        exact ⟨base_pins hbase, hstate, hq, fun _ => ⟨hraised.congr rfl rfl rfl, hreckoned⟩⟩
      · rw [if_neg fun e => hcool (by rw [← hcrit]; exact e.2)] at hexec
        refine ⟨_, hexec, ?_⟩
        rw [if_neg hcool]
        beta_reduce
        rw [hbbu]
        exact ⟨rfl, hst, rfl, fun e => absurd e hcool⟩
end

section
/-! PROOFS. One BBU on one sample set (R37 to R45, R55, R56): what it leaves of the other BBUs and of the rest of the part. -/

namespace Sys2Proof.Machine

/-- What the steps of BBU `i` leave: the other BBUs, a test of another BBU, the settings of the others and the other blocks. -/
structure BbuStep (i : BbuId) (s t : State) : Prop where
  frame :
    t = { s with
          charge := t.charge
          settings := { s.settings with bbus := t.settings.bbus }
          store := { s.store with unstored := t.store.unstored }
          causes := t.causes
          link := { s.link with replies := t.link.replies, tx := t.link.tx } }
  charge :
    t.charge =
      { s.charge with bbus := t.charge.bbus, armed := t.charge.armed, halted := t.charge.halted, test := t.charge.test }
  others : ∀ j, i ≠ j → t.charge.bbus[j] = s.charge.bbus[j]
  sets : ∀ j, i ≠ j → t.settings.bbus[j] = s.settings.bbus[j]
  test : s.testing i = false → t.charge.test = s.charge.test
  owner : t.charge.test.bbu = s.charge.test.bbu
  armed : s.charge.armed = false → t.charge.armed = false
  halted : s.charge.halted = true → t.charge.halted = true
  touches : Touches (fun c => c = causeBbu i ∨ c = causeTest) s t

theorem testing_of_test {s t : State} (h : t.charge.test = s.charge.test) (i : BbuId) : t.testing i = s.testing i := by
  rw [State.testing, h]
  rfl

/-! ### The integration (R43, R44, R52, R55) -/

section Integrate
variable (s : State) (i : BbuId)

/-- The counter of BBU `i` after the sample, and whether it bottomed (R43, R44). -/
def State.integral : Bbu × Bool := integrate s.settings.bbus[i] s.charge.bbus[i] (s.pubValue (bbuIPoint i))

/-- The part with that counter taken, the target table halted where the counter bottomed (R52). -/
def State.counterTaken : State :=
  if (s.integral i).2 && s.charge.bbus[i].state.counted then haltTable (s.setBbu i (s.integral i).1) else s.setBbu i (s.integral i).1

/-- The test record after the sample (R55). -/
def State.testDelivered : TestRecord :=
  let t := s.charge.test.deliver (s.pubValue (bbuIPoint i))
  { t with elapsed := s.seconds - t.start }

theorem integrateBbu_absent {s : State} {i : BbuId} (h : s.charge.bbus[i].state = .absent) : integrateBbu i s = (s, false) := if_pos h

theorem counterTaken_test : (s.counterTaken i).charge.test = s.charge.test := by
  unfold State.counterTaken
  split <;> rfl

theorem counterTaken_seconds : (s.counterTaken i).seconds = s.seconds := by
  unfold State.counterTaken
  split <;> rfl

theorem integrateBbu_present {s : State} {i : BbuId} (h : s.charge.bbus[i].state ≠ .absent) :
    integrateBbu i s =
      (if s.testing i then (s.counterTaken i).setCharge { (s.counterTaken i).charge with test := s.testDelivered i }
        else s.counterTaken i, (s.integral i).2) := by
  unfold State.testDelivered
  rw [← testing_of_test (counterTaken_test s i) i, ← counterTaken_test s i, ← counterTaken_seconds s i]
  unfold integrateBbu
  dsimp only
  rw [if_neg h]
  rfl

theorem deliver_bbu (t : TestRecord) (c : Int) : (t.deliver c).bbu = t.bbu := by
  unfold TestRecord.deliver
  dsimp only
  split
  · rfl
  · split <;> rfl

end Integrate

namespace BbuStep
variable {i : BbuId} {s t u : State}

theorem refl (i : BbuId) (s : State) : BbuStep i s s :=
  ⟨rfl, rfl, fun _ _ => rfl, fun _ _ => rfl, fun _ => rfl, rfl, id, id, .refl _ s⟩

theorem trans (h : BbuStep i s t) (k : BbuStep i t u) : BbuStep i s u where
  frame := by
    have hk := k.frame
    rw [h.frame] at hk
    exact hk
  charge := by
    have hk := k.charge
    rw [h.charge] at hk
    exact hk
  others j hj := (k.others j hj).trans (h.others j hj)
  sets j hj := (k.sets j hj).trans (h.sets j hj)
  test hs := (k.test ((testing_of_test (h.test hs) i).trans hs)).trans (h.test hs)
  owner := k.owner.trans h.owner
  armed hs := k.armed (h.armed hs)
  halted hs := k.halted (h.halted hs)
  touches := h.touches.trans k.touches

theorem tells (h : BbuStep i s t) (k : Tells t u) (hk : Touches (fun c => c = causeBbu i ∨ c = causeTest) t u) : BbuStep i s u := by
  have hcharge : u.charge = t.charge := by unfold Tells at k; rw [k]
  have hset : u.settings = t.settings := by unfold Tells at k; rw [k]
  have hstore : u.store = t.store := by unfold Tells at k; rw [k]
  refine h.trans ⟨?_, ?_, fun j _ => by rw [hcharge], fun j _ => by rw [hset], fun _ => by rw [hcharge], by rw [hcharge],
    fun ha => by rw [hcharge]; exact ha, fun ha => by rw [hcharge]; exact ha, hk⟩
  · rw [hcharge, hset, hstore]
    exact k
  · rw [hcharge]

theorem report (h : BbuStep i s t) (a : Bool) : BbuStep i s (reportCondition (causeBbu i) a t) :=
  h.tells ((Tells.refl t).report _ _) ((Touches.refl _ t).report (.inl rfl) _)

theorem raise (h : BbuStep i s t) (v : Int) (code : Byte) : BbuStep i s (raise (causeBbu i) v code t) :=
  h.tells ((Tells.refl t).raise _ _ _) ((Touches.refl _ t).raise (.inl rfl) _ _)

theorem raiseTest (h : BbuStep i s t) (v : Int) (code : Byte) : BbuStep i s (Machine.raise causeTest v code t) :=
  h.tells ((Tells.refl t).raise _ _ _) ((Touches.refl _ t).raise (.inr rfl) _ _)

theorem setBbu (h : BbuStep i s t) (x : Bbu) : BbuStep i s (t.setBbu i x) :=
  h.trans ⟨rfl, rfl, fun j hj => by rw [setBbu_bbus, if_neg hj], fun _ _ => rfl, fun _ => rfl, rfl, id, id, .of_same rfl rfl⟩

theorem setTest (h : BbuStep i s t) (htest : t.testing i = true) {x : TestRecord} (hx : x.bbu = t.charge.test.bbu) :
    BbuStep i s (t.setCharge { t.charge with test := x }) :=
  h.trans ⟨rfl, rfl, fun _ _ => rfl, fun _ _ => rfl, fun hno => absurd (htest.symm.trans hno) nofun, hx, id, id, .of_same rfl rfl⟩

theorem halt (h : BbuStep i s t) : BbuStep i s (haltTable t) :=
  h.trans ⟨rfl, rfl, fun _ _ => rfl, fun _ _ => rfl, fun _ => rfl, rfl, fun _ => rfl, fun _ => rfl, .of_same rfl rfl⟩

theorem driveBbu (h : BbuStep i s t) : BbuStep i s (driveBbu i t) := by
  unfold Machine.driveBbu
  split
  · exact h.setBbu _
  · exact h

theorem moveBbu (h : BbuStep i s t) (st : BbuState) : BbuStep i s (moveBbu i st t) := by
  rw [moveBbu_eq]
  exact ((h.setBbu _).driveBbu).report _

theorem changeBbu (h : BbuStep i s t) (st : BbuState) : BbuStep i s (changeBbu i st t) := by
  unfold Machine.changeBbu
  split
  · exact h
  · exact (h.moveBbu st).raise _ _

theorem failBbu (h : BbuStep i s t) (st : BbuState) : BbuStep i s (failBbu i st t) := by
  rw [failBbu_eq]
  refine BbuStep.changeBbu ?_ st
  unfold State.testEnded
  by_cases ht : t.testing i = true
  · have hclosed : BbuStep i s (t.testClosed .abortedFault) := h.setTest ht rfl
    rw [if_pos ht]
    exact hclosed.raiseTest _ _
  · rw [if_neg ht]
    exact h

theorem counterTaken (h : BbuStep i s t) : BbuStep i s (t.counterTaken i) := ite_keeps (h.setBbu _).halt (h.setBbu _)

theorem integrateBbu (h : BbuStep i s t) : BbuStep i s (integrateBbu i t).1 := by
  by_cases hst : t.charge.bbus[i].state = .absent
  · rw [integrateBbu_absent hst]
    exact h
  · rw [integrateBbu_present hst]
    by_cases htest : t.testing i = true
    · rw [if_pos htest]
      exact h.counterTaken.setTest ((testing_of_test (counterTaken_test t i) i).trans htest)
        ((deliver_bbu _ _).trans (congrArg TestRecord.bbu (counterTaken_test t i)).symm)
    · rw [if_neg htest]
      exact h.counterTaken

theorem takeTest (h : BbuStep i s t) : BbuStep i s (takeTest i t) := by
  have hset (x : BbuSettings) (b : Bool) : BbuStep i s ((t.setBbuSettings i x).setStore { t.store with unstored := b }) :=
    h.trans ⟨rfl, rfl, fun _ _ => rfl, fun j hj => get_set_other _ _ hj, fun _ => rfl, rfl, id, id, .of_same rfl rfl⟩
  unfold Machine.takeTest
  exact (hset (t.settings.bbus[i].tested t.charge.test.d) _).setBbu _

theorem completeTest (h : BbuStep i s t) (ht : t.testing i = true) : BbuStep i s (completeTest i t) := by
  have htest : (Machine.takeTest i t).charge.test = t.charge.test := rfl
  have hclosed := h.takeTest.setTest (x := { t.charge.test with running := false, timer := none, result := .complete })
    ((testing_of_test htest i).trans ht) (congrArg TestRecord.bbu htest).symm
  rw [completeTest_eq]
  exact (hclosed.raiseTest _ _).changeBbu _

theorem anchorBbu (h : BbuStep i s t) : BbuStep i s (anchorBbu i t) := ((h.setBbu _).moveBbu _).raise _ _

theorem judgeCharging (h : BbuStep i s t) : BbuStep i s (judgeCharging i t) := by
  unfold Machine.judgeCharging
  simp only
  split
  · split
    · split
      · exact h.anchorBbu
      · exact h.setBbu _
    · exact h.setBbu _
  · split
    · exact h.changeBbu _
    · exact h.setBbu _

theorem judgeBbu (h : BbuStep i s t) : BbuStep i s (judgeBbu i t) := by
  have hite {c : Prop} {_ : Decidable c} {u v : State} (hu : BbuStep i s u) (hv : BbuStep i s v) : BbuStep i s (if c then u else v) :=
    ite_keeps hu hv
  unfold Machine.judgeBbu
  simp only
  refine hite h (hite (hite (h.changeBbu _) h) (hite (h.failBbu _) ?_))
  split
  · exact hite (h.changeBbu _) (hite (h.changeBbu _) h)
  · exact hite (h.changeBbu _) h.judgeCharging
  · exact hite (h.changeBbu _) (hite h (h.changeBbu _))
  · split
    · next hdone =>
      rw [Bool.and_eq_true] at hdone
      exact h.completeTest hdone.1
    · exact h
  · exact hite (h.changeBbu _) h
  · exact h
  · exact h

theorem sampleBbu (h : BbuStep i s t) (fresh : Bool) : BbuStep i s (sampleBbu fresh i t) := by
  have hrefresh : BbuStep i s (refreshBbu i t) := h.setBbu _
  have hclass : BbuStep i s (if fresh then Machine.driveBbu i (Machine.changeBbu i ((refreshBbu i t).classOf i) (refreshBbu i t))
      else refreshBbu i t) := ite_keeps (hrefresh.changeBbu _).driveBbu hrefresh
  have hjudge := hclass.integrateBbu.judgeBbu
  exact ite_keeps ((hjudge.report _).raise _ _) hjudge

end BbuStep

end Sys2Proof.Machine
end

section
/-! PROOFS. O33: the part on a sample set up to the holdup controller, and the AC judgement of the set (R60 to R76). -/

namespace Sys2Proof.Machine

/-! ### The steps of a sample set (R1) -/

theorem Tells.budget {s t : State} (h : Tells s t) : t.budget = s.budget := by
  unfold Tells at h
  rw [h]

theorem Tells.setBudget {s t : State} (h : Tells s t) (x : Budget) : Tells (s.setBudget x) (t.setBudget x) := by
  unfold Tells at h ⊢
  conv_lhs => rw [h]
  rfl

section Phases
variable (codes : Vector (BitVec 12) 29) (s : State)

/-- The part with the interval passed and the set published. -/
def State.scanned : State := scanSet codes (passInterval s)

/-- The part with the PSUs classified. -/
def State.psusClassed : State := psuIds.foldl (fun s k => reclassifyPsu k s) s

/-- The part with the four BBUs judged, before the recompute of the reserve. -/
def State.bbusSampled (fresh : Bool) : State := bbuIds.foldl (fun s i => sampleBbu fresh i s) s

/-- The part as the holdup controller finds it on a sample set. -/
def State.readied : State := sampleCharge (!s.sense.seen) (sampleBudget (s.scanned codes))

theorem sampleSet_eq : sampleSet codes s = sampleRegulator (sampleLeak (sampleHoldup (s.readied codes))) := rfl

theorem sampleBudget_eq : sampleBudget s = recompute (recomputeCapacity s.psusClassed) := rfl

theorem sampleCharge_eq (fresh : Bool) : sampleCharge fresh s = recomputeReserve (s.bbusSampled fresh) := rfl

theorem scanned_scans : Scans (passInterval s) (s.scanned codes) := scanSet_scans codes _

theorem psusClassed_tells : Tells (s.setBudget { s.budget with psus := s.psusClassed.budget.psus }) s.psusClassed := by
  unfold State.psusClassed
  refine List.foldlRecOn (motive := fun u : State => Tells (s.setBudget { s.budget with psus := u.budget.psus }) u) psuIds _ rfl
    fun u hu k _ => ?_
  have hk := reclassifyPsu_tells k u
  have hpsus := reclassifyPsu_psus k u
  have hclassed : Tells (s.setBudget { s.budget with psus := u.budget.psus.set k { u.budget.psus[k] with state := u.psuClassOf k } })
      (u.psuClassed k) := by
    have hbudget : u.budget = { s.budget with psus := u.budget.psus } := hu.budget
    have hset := hu.setBudget { s.budget with psus := u.budget.psus.set k { u.budget.psus[k] with state := u.psuClassOf k } }
    unfold State.psuClassed State.setPsu
    generalize u.budget.psus.set k { u.budget.psus[k] with state := u.psuClassOf k } = x at hset ⊢
    rw [show ({ u.budget with psus := x } : Budget) = { s.budget with psus := x } by rw [hbudget]]
    exact hset
  rw [hpsus]
  exact hclassed.trans hk

end Phases

/-- What the four BBUs on a sample set leave. -/
structure BbusStep (s t : State) : Prop where
  frame :
    t = { s with
          charge := t.charge
          settings := { s.settings with bbus := t.settings.bbus }
          store := { s.store with unstored := t.store.unstored }
          causes := t.causes
          link := { s.link with replies := t.link.replies, tx := t.link.tx } }
  charge :
    t.charge =
      { s.charge with bbus := t.charge.bbus, armed := t.charge.armed, halted := t.charge.halted, test := t.charge.test }
  armed : s.charge.armed = false → t.charge.armed = false
  halted : s.charge.halted = true → t.charge.halted = true

theorem BbusStep.trans {s t u : State} (h : BbusStep s t) (k : BbusStep t u) : BbusStep s u where
  frame := by
    have hk := k.frame
    rw [h.frame] at hk
    exact hk
  charge := by
    have hk := k.charge
    rw [h.charge] at hk
    exact hk
  armed hs := k.armed (h.armed hs)
  halted hs := k.halted (h.halted hs)

theorem BbuStep.weaken {i : BbuId} {s t : State} (h : BbuStep i s t) : BbusStep s t := ⟨h.frame, h.charge, h.armed, h.halted⟩

theorem bbusSampled_step (s : State) (fresh : Bool) : BbusStep s (s.bbusSampled fresh) :=
  List.foldlRecOn (motive := BbusStep s) bbuIds _ ⟨rfl, rfl, id, id⟩ fun u hu i _ => hu.trans ((BbuStep.refl i u).sampleBbu fresh).weaken

/-! ### After the holdup controller -/

/-- What the leak monitor, its sheds and the regulator leave alone. -/
structure LateFrame (s t : State) : Prop where
  holdup : t.holdup = s.holdup
  settings : t.settings = s.settings
  sense : t.sense = s.sense
  pins : t.pins = s.pins
  store : t.store = s.store
  clock : t.clock = s.clock
  charge : t.charge = { s.charge with bbus := t.charge.bbus }
  bbus : ∀ i : BbuId, t.charge.bbus[i] = { s.charge.bbus[i] with out := t.charge.bbus[i].out }

namespace LateFrame
variable {s t u : State}

theorem refl (s : State) : LateFrame s s := ⟨rfl, rfl, rfl, rfl, rfl, rfl, rfl, fun _ => rfl⟩

theorem trans (h : LateFrame s t) (k : LateFrame t u) : LateFrame s u :=
  ⟨k.holdup.trans h.holdup, k.settings.trans h.settings, k.sense.trans h.sense, k.pins.trans h.pins, k.store.trans h.store,
    k.clock.trans h.clock, by rw [k.charge, h.charge], fun i => by rw [k.bbus i, h.bbus i]⟩

theorem of_base (hbase : t.base = s.base) (hholdup : t.holdup = s.holdup) (hcharge : t.charge = s.charge) : LateFrame s t :=
  ⟨hholdup, base_settings hbase, base_sense hbase, base_pins hbase, base_store hbase, congrArg Base.clock hbase, by rw [hcharge],
    fun i => by rw [hcharge]⟩

theorem driveBbu (h : LateFrame s t) (i : BbuId) : LateFrame s (driveBbu i t) := by
  have hbase := driveBbu_base i t
  exact h.trans ⟨driveBbu_holdup i t, base_settings hbase, base_sense hbase, base_pins hbase, base_store hbase, congrArg Base.clock hbase,
    driveBbu_charge i t, fun j => driveBbu_bbus i j t⟩

theorem report (h : LateFrame s t) (c : CauseId) (a : Bool) : LateFrame s (reportCondition c a t) :=
  h.trans (of_base (reportCondition_base _ _ _) (reportCondition_holdup _ _ _) (reportCondition_charge _ _ _))

theorem raise (h : LateFrame s t) (c : CauseId) (v : Int) (code : Byte) : LateFrame s (raise c v code t) :=
  h.trans (of_base (raise_base _ _ _ _) (raise_holdup _ _ _ _) (raise_charge _ _ _ _))

theorem shed (s : State) : ShedInvariant (LateFrame s) where
  setBudget h := h.trans (of_base rfl rfl rfl)
  setRecharge h := h.trans (of_base rfl rfl rfl)
  setSeq h := h.trans (of_base rfl rfl rfl)
  setLine h := h.trans (of_base rfl rfl rfl)
  driveBbu h := h.driveBbu _
  reportCondition _ h := h.report _ _
  raise _ h := h.raise _ _ _

theorem leak (s : State) : LeakInvariant (LateFrame s) where
  lineWatch h := (shed s).lineWatch h
  lockZone h := (shed s).lockZone h _
  shedZone h := (shed s).shedZone h _
  setZone h := h.trans ⟨rfl, rfl, rfl, rfl, rfl, rfl, rfl, fun _ => rfl⟩
  spendFree h := h.trans ⟨rfl, rfl, rfl, rfl, rfl, rfl, rfl, fun _ => rfl⟩
  reportZone h := h.report _ _
  raiseZone h := h.raise _ _ _
  reportRope h := h.report _ _
  raiseRope h := h.raise _ _ _

/-- The ropes and the regulator on a sample set. -/
theorem sampleLater (s : State) : LateFrame s (sampleRegulator (sampleLeak s)) :=
  (shed s).sampleRegulator ((leak s).sampleLeak (.refl s))

end LateFrame

theorem Cut.leak (k : Nat) : LeakInvariant (Cut k) where
  lineWatch h := (Cut.ease k).lineWatch h
  lockZone h := (Cut.ease k).lockZone h _
  shedZone h := (Cut.ease k).shedZone h _
  setZone h := h.of_same rfl rfl rfl rfl
  spendFree h := h.of_same rfl rfl rfl rfl
  reportZone h := h.report _ _
  raiseZone h := h.raise _ _ _
  reportRope h := h.report _ _
  raiseRope h := h.raise _ _ _

/-- How the part stands when the holdup controller takes a sample set. -/
structure Readied (codes : Vector (BitVec 12) 29) (s c : State) : Prop where
  holdup : (passInterval s).holdup.Matches c.holdup
  settings : c.settings = { s.settings with bbus := c.settings.bbus }
  pins : c.pins = s.pins
  sense : c.sense = (s.scanned codes).sense
  leak : c.leak = s.leak
  asked : c.budget.selAsked = s.budget.selAsked
  answers : c.budget.answers = s.budget.answers

theorem readied_spec (codes : Vector (BitVec 12) 29) (s : State) : Readied codes s (s.readied codes) := by
  have hscan := scanned_scans codes s
  unfold State.readied
  have hb : Swell (recomputeCapacity (s.scanned codes).psusClassed) (sampleBudget (s.scanned codes)) := by
    rw [sampleBudget_eq]
    exact (Swell.refl _).recompute
  have hclass := psusClassed_tells (s.scanned codes)
  have hbefore : (recomputeCapacity (s.scanned codes).psusClassed).holdup = (passInterval s).holdup ∧
      (recomputeCapacity (s.scanned codes).psusClassed).settings = s.settings ∧
      (recomputeCapacity (s.scanned codes).psusClassed).pins = s.pins ∧
      (recomputeCapacity (s.scanned codes).psusClassed).sense = (s.scanned codes).sense ∧
      (recomputeCapacity (s.scanned codes).psusClassed).leak = s.leak ∧
      (recomputeCapacity (s.scanned codes).psusClassed).budget.selAsked = s.budget.selAsked ∧
      (recomputeCapacity (s.scanned codes).psusClassed).budget.answers = s.budget.answers := by
    unfold Scans Tells at hscan
    unfold Tells at hclass
    generalize s.scanned codes = c at hscan hclass ⊢
    generalize c.psusClassed = d at hclass ⊢
    rw [hclass, hscan]
    exact ⟨rfl, rfl, rfl, rfl, rfl, rfl, rfl⟩
  obtain ⟨hholdup, hset, hpins, hsense, hleak, hasked, hanswers⟩ := hbefore
  generalize recomputeCapacity (s.scanned codes).psusClassed = v at hb hholdup hset hpins hsense hleak hasked hanswers
  generalize sampleBudget (s.scanned codes) = b at hb ⊢
  have hsteps := bbusSampled_step b (!s.sense.seen)
  rw [sampleCharge_eq]
  generalize b.bbusSampled (!s.sense.seen) = d at hsteps ⊢
  have hr := (Swell.refl d).recomputeReserve
  generalize recomputeReserve d = c at hr ⊢
  have hdh : d.holdup = b.holdup := by rw [hsteps.frame]
  have hds : d.settings = { b.settings with bbus := d.settings.bbus } := congrArg State.settings hsteps.frame
  have hdp : d.pins = b.pins := by rw [hsteps.frame]
  have hde : d.sense = b.sense := by rw [hsteps.frame]
  have hdl : d.leak = b.leak := by rw [hsteps.frame]
  have hdb : d.budget = b.budget := by rw [hsteps.frame]
  refine ⟨?_, ?_, ?_, ?_, ?_, ?_, ?_⟩
  · have h := hb.matches
    rw [hholdup, ← hdh] at h
    exact h.trans hr.matches
  · rw [hr.settings, hds, hb.settings, hset]
  · rw [base_pins hr.base, hdp, base_pins hb.base, hpins]
  · rw [hr.sense, hde, hb.sense, hsense]
  · rw [base_leak hr.base, hdl, base_leak hb.base, hleak]
  · rw [hr.budget, hdb, hb.budget, ← hasked]
  · rw [hr.budget, hdb, hb.budget, ← hanswers]

end Sys2Proof.Machine
end

section
/-! PROOFS. O33, concluded: the AC judgement of a sample set, state by state. -/

namespace Sys2Proof.Machine

/-! ### The holdup controller on a sample set -/

/-- The transfer record after one sample set (R76). -/
def State.followed (s : State) : Transfer :=
  if s.holdup.record.isOpen then
    { s.holdup.record with
      duration := min 4294967295 (s.holdup.record.duration + 1)
      minBusV := if s.sense.pub[busVPoint].stale then s.holdup.record.minBusV else min s.holdup.record.minBusV s.busV }
  else s.holdup.record

theorem followRecord_eq (s : State) : followRecord s = s.setHoldup { s.holdup with record := s.followed } := by
  unfold followRecord State.followed
  dsimp only
  split <;> rfl

theorem followed_closed {s : State} (h : s.holdup.record.isOpen = false) : s.followed = s.holdup.record := if_neg (by rw [h]; exact nofun)

theorem followed_open {s : State} (h : s.holdup.record.isOpen = true) :
    s.followed =
      { s.holdup.record with
        duration := min 4294967295 (s.holdup.record.duration + 1)
        minBusV := if s.sense.pub[busVPoint].stale then s.holdup.record.minBusV else min s.holdup.record.minBusV s.busV } := if_pos h

theorem followed_fields (s : State) :
    s.followed.valid = s.holdup.record.valid ∧ s.followed.isOpen = s.holdup.record.isOpen ∧ s.followed.since = s.holdup.record.since ∧
      s.followed.flickers = s.holdup.record.flickers := by
  unfold State.followed
  split <;> exact ⟨rfl, rfl, rfl, rfl⟩

/-- The part with the record followed and AC evaluated (R60, R76). -/
def State.acTaken (s : State) : State :=
  s.setHoldup
    { s.holdup with
      record := s.followed, acCount := s.acPinCount, acEval := acEvaluation s.settings.holdup s.acPinCount s.busV }

theorem sampleHoldup_eq (s : State) :
    sampleHoldup s =
      if s.holdup.state = .starting then noteFirstSet s.acTaken
      else if s.holdup.state = .bridging ∧ (judgeAc s.acTaken).holdup.state = .bridging then judgeCollapse (judgeAc s.acTaken)
      else judgeAc s.acTaken := by
  have h : evaluateAc (followRecord s) = s.acTaken := by
    rw [followRecord_eq]
    rfl
  unfold sampleHoldup
  rw [h]

theorem judgeCollapse_low {s : State} (h : s.busV < s.settings.holdup.vCollapse) :
    (judgeCollapse s).holdup =
      { s.holdup with collapse := some (s.holdup.collapse.getD (s.settings.holdup.collapseTime * 10)) } := by
  unfold judgeCollapse
  dsimp only
  rw [if_pos h]
  cases hc : s.holdup.collapse with
  | none => rfl
  | some x =>
    show s.holdup = { s.holdup with collapse := some x }
    rw [← hc]

theorem judgeCollapse_high {s : State} (h : ¬ s.busV < s.settings.holdup.vCollapse) :
    (judgeCollapse s).holdup = { s.holdup with collapse := none } := by
  unfold judgeCollapse
  dsimp only
  rw [if_neg h]
  rfl

theorem noteFirstSet_holdup (s : State) :
    (noteFirstSet s).holdup =
      { s.holdup with
        first := some (s.holdup.first.getD
          ⟨s.holdup.acEval, s.triggerOf s.holdup.acCount, decide (s.settings.holdup.vCollapse ≤ s.busV)⟩) } := by
  unfold noteFirstSet
  cases hf : s.holdup.first with
  | none => rfl
  | some f =>
    show s.holdup = { s.holdup with first := some f }
    rw [← hf]

/-- The holdup record after the set, by the state found and the evaluation (R60 to R76). -/
structure Taken (c : State) (x : Holdup) : Prop where
  starting : c.holdup.state = .starting →
    x = { c.acTaken.holdup with
          first := some (c.holdup.first.getD
            ⟨c.acTaken.holdup.acEval, c.triggerOf c.acPinCount, decide (c.settings.holdup.vCollapse ≤ c.busV)⟩) }
  calm : c.holdup.state ≠ .starting → c.holdup.state ≠ .bridging →
    (c.holdup.state = .online → c.acTaken.holdup.acEval ≠ .failed) → (c.holdup.state = .blackout → c.acTaken.holdup.acEval ≠ .good) →
      (c.holdup.state = .returning → c.acTaken.holdup.acEval ≠ .failed) → x = c.acTaken.holdup
  opens : c.holdup.state = .online → c.acTaken.holdup.acEval = .failed → (c.acTaken.opened (c.triggerOf c.acPinCount)).bridges x
  returns : c.holdup.state = .bridging ∨ c.holdup.state = .blackout → c.acTaken.holdup.acEval = .good →
    x = { c.acTaken.settling with state := .returning }
  low : c.holdup.state = .bridging → c.acTaken.holdup.acEval ≠ .good → c.busV < c.settings.holdup.vCollapse →
    x = { c.acTaken.holdup with collapse := some (c.holdup.collapse.getD (c.settings.holdup.collapseTime * 10)) }
  high : c.holdup.state = .bridging → c.acTaken.holdup.acEval ≠ .good → ¬ c.busV < c.settings.holdup.vCollapse →
    x = { c.acTaken.holdup with collapse := none }
  flickers : c.holdup.state = .returning → c.acTaken.holdup.acEval = .failed → c.holdup.lastCounted ≠ 0 →
    x = { c.acTaken.holdup.flickered with state := .bridging }
  falls : c.holdup.state = .returning → c.acTaken.holdup.acEval = .failed → c.holdup.lastCounted = 0 →
    x = { c.acTaken.holdup.flickered.ended .blackout with state := .blackout }

theorem sampleHoldup_starting {c : State} (h : c.holdup.state = .starting) : sampleHoldup c = noteFirstSet c.acTaken := by
  rw [sampleHoldup_eq, if_pos h]

theorem sampleHoldup_judges {c : State} (h : c.holdup.state ≠ .starting)
    (hb : ¬ (c.holdup.state = .bridging ∧ (judgeAc c.acTaken).holdup.state = .bridging)) : sampleHoldup c = judgeAc c.acTaken := by
  rw [sampleHoldup_eq, if_neg h, if_neg hb]

theorem sampleHoldup_bridging {c : State} (h : c.holdup.state = .bridging) (hac : c.acTaken.holdup.acEval ≠ .good) :
    sampleHoldup c = judgeCollapse c.acTaken := by
  have hcalm : judgeAc c.acTaken = c.acTaken := by
    have hst : c.acTaken.holdup.state = .bridging := h
    exact judgeAc_stays (fun e => absurd (hst.symm.trans e) nofun) (fun _ => hac) fun e => absurd (hst.symm.trans e) nofun
  rw [sampleHoldup_eq, if_neg (by rw [h]; exact nofun), hcalm, if_pos ⟨h, h⟩]

theorem sampleHoldup_taken (c : State) : Taken c (sampleHoldup c).holdup := by
  have hmoves := judgeAc_moves c.acTaken
  have hother {a b : HoldupState} (h : c.holdup.state = a) (hne : a ≠ b) : c.holdup.state ≠ b := by rw [h]; exact hne
  refine ⟨fun h => ?_, fun hs hb ho hk hr => ?_, fun h hac => ?_, fun h hac => ?_, fun h hac hlow => ?_, fun h hac hhigh => ?_, fun h hac hc => ?_,
    fun h hac hc => ?_⟩
  · rw [sampleHoldup_starting h]
    exact noteFirstSet_holdup c.acTaken
  · rw [sampleHoldup_judges hs fun e => hb e.1, hmoves.calm ho (fun e => hk (e.resolve_left hb)) hr]
  · rw [sampleHoldup_judges (hother (b := .starting) h nofun) fun e => hother (b := .bridging) h nofun e.1]
    exact (hmoves.opens h hac).1
  · have hret := (hmoves.returns h hac).1
    have hne : (judgeAc c.acTaken).holdup.state ≠ .bridging := by rw [hret]; exact nofun
    have hs : c.holdup.state ≠ .starting := h.elim (fun e => hother e nofun) fun e => hother e nofun
    rw [sampleHoldup_judges hs fun e => hne e.2]
    exact hret
  · rw [sampleHoldup_bridging h hac]
    exact judgeCollapse_low (s := c.acTaken) hlow
  · rw [sampleHoldup_bridging h hac]
    exact judgeCollapse_high (s := c.acTaken) hhigh
  · rw [sampleHoldup_judges (hother (b := .starting) h nofun) fun e => hother (b := .bridging) h nofun e.1]
    exact (hmoves.flickers h hac hc).1
  · rw [sampleHoldup_judges (hother (b := .starting) h nofun) fun e => hother (b := .bridging) h nofun e.1]
    exact hmoves.falls h hac (not_not.2 hc)

theorem sampleHoldup_cut {c : State} (h : c.holdup.state = .online) (hac : c.acTaken.holdup.acEval = .failed) :
    Cut (c.budget.selAsked + c.budget.answers.length) (sampleHoldup c) := by
  rw [sampleHoldup_judges (by rw [h]; exact nofun) fun e => absurd (h.symm.trans e.1) nofun]
  exact ((judgeAc_moves c.acTaken).opens h hac).2

/-- Every set leaves the count and the evaluation as taken. -/
theorem sampleHoldup_evaluated (c : State) :
    (sampleHoldup c).holdup.acCount = c.acPinCount ∧ (sampleHoldup c).holdup.acEval = acEvaluation c.settings.holdup c.acPinCount c.busV := by
  have hmoves := judgeAc_moves c.acTaken
  rw [sampleHoldup_eq]
  split
  · rw [noteFirstSet_holdup]
    exact ⟨rfl, rfl⟩
  · split
    · by_cases hlow : (judgeAc c.acTaken).busV < (judgeAc c.acTaken).settings.holdup.vCollapse
      · rw [judgeCollapse_low hlow]
        exact ⟨hmoves.count, hmoves.eval⟩
      · rw [judgeCollapse_high hlow]
        exact ⟨hmoves.count, hmoves.eval⟩
    · exact ⟨hmoves.count, hmoves.eval⟩

end Sys2Proof.Machine

open Sys2Proof Sys2Proof.Machine

/-- Settles O33: the record is followed and AC evaluated, the state's transition is the evaluation's, and the ropes and the regulator
come after. -/
theorem sampleSetJudgesAc : Obligations.SampleSetJudgesAc := by
  intro codes s hrun
  refine ⟨sampleSet codes s, exec_sampleSet_running codes hrun, ?_⟩
  rw [sampleSet_eq]
  obtain ⟨hmatches, hsettings, hpins, -, -, hasked, hanswers⟩ := readied_spec codes s
  generalize s.readied codes = c at hmatches hsettings hpins hasked hanswers
  have hlate := LateFrame.sampleLater (sampleHoldup c)
  have hsense : (sampleHoldup c).sense = c.sense := base_sense (sampleHoldup_base c)
  have hcut {k : Nat} (h : Cut k (sampleHoldup c)) : Cut k (sampleRegulator (sampleLeak (sampleHoldup c))) :=
    ((Cut.leak k).sampleLeak h).sampleRegulator
  generalize sampleRegulator (sampleLeak (sampleHoldup c)) = t at hlate hcut
  beta_reduce
  intro set count failed good carried hreturn
  have hpub : t.sense = c.sense := hlate.sense.trans hsense
  have hbus : t.busV = c.busV := by rw [State.busV, State.pubValue, hpub]; rfl
  have hset : c.settings.holdup = set := by rw [hsettings]
  have hcount : c.acPinCount = count := by rw [State.acPinCount, hpins]
  have hstate : c.holdup.state = s.holdup.state := hmatches.state
  have hlast : c.holdup.lastCounted = s.holdup.lastCounted := by rw [hmatches.open_]; rfl
  have hvalid : c.holdup.record.valid = s.holdup.record.valid := by rw [hmatches.open_]; rfl
  have hopen : c.holdup.record.isOpen = s.holdup.record.isOpen := by rw [hmatches.open_]; rfl
  have hcEvents : c.holdup.events = s.holdup.events := by rw [hmatches.open_]; rfl
  have hcLast : c.holdup.lastR = s.holdup.lastR := by rw [hmatches.open_]; rfl
  have hcSince : c.holdup.record.since = s.holdup.record.since := by rw [hmatches.open_]; rfl
  have hcFlickers : c.holdup.record.flickers = s.holdup.record.flickers := by rw [hmatches.open_]; rfl
  have hcCollapse : c.holdup.collapse = Timer.pass s.holdup.collapse := by rw [hmatches.open_]; rfl
  have hcFirst : c.holdup.first = s.holdup.first := by rw [hmatches.open_]; rfl
  have hfields := followed_fields c
  have htaken := sampleHoldup_taken c
  obtain ⟨hacCount, hacEval⟩ := sampleHoldup_evaluated c
  rw [← hlate.holdup] at htaken hacCount hacEval
  have hfailed : c.acTaken.holdup.acEval = .failed ↔ failed := by
    refine acEvaluation_failed.trans ?_
    rw [hcount, hset, ← hbus]
  have hgood : c.acTaken.holdup.acEval = .good ↔ good := by
    refine acEvaluation_good.trans ?_
    rw [hcount, hset, ← hbus]
    show (¬ (count < set.nAcMin ∨ t.busV < set.vBridge) ∧ set.vReturn ≤ t.busV) ↔ (set.nAcMin ≤ count ∧ set.vReturn ≤ t.busV)
    omega
  have hthe {a b : HoldupState} (ha : s.holdup.state = a) (hne : a ≠ b) : c.holdup.state ≠ b := by rw [hstate, ha]; exact hne
  have hnot {a b : HoldupState} (ha : s.holdup.state = a) (hb : s.holdup.state = b) (hne : a ≠ b) {p : Prop} : p := absurd (ha.symm.trans hb) hne
  have hcalm : s.holdup.state ≠ .starting → s.holdup.state ≠ .bridging → (s.holdup.state = .online → ¬ failed) →
      (s.holdup.state = .blackout → ¬ good) → (s.holdup.state = .returning → ¬ failed) → t.holdup = c.acTaken.holdup := by
    rw [← hstate]
    exact fun hs hb ho hk hr => htaken.calm hs hb (fun h e => ho h (hfailed.1 e)) (fun h e => hk h (hgood.1 e)) fun h e => hr h (hfailed.1 e)
  have htrigger : c.triggerOf c.acPinCount = if count < set.nAcMin then .acCount else .busSag := by
    rw [State.triggerOf, hcount, hset]
  have hflicker (hr : s.holdup.state = .returning) (hf : failed) (hc : carried) :=
    htaken.flickers (hstate.trans hr) (hfailed.2 hf) (by rw [hlast]; exact hc)
  have hfall (hr : s.holdup.state = .returning) (hf : failed) (hc : ¬ carried) :=
    htaken.falls (hstate.trans hr) (hfailed.2 hf) (hlast.trans (not_not.1 hc))
  refine ⟨hacCount.trans hcount, ?_, fun ho hf => ?_, fun ho hf => ?_, fun hb hg => ?_, fun hb hg => ?_, ?_, fun hk hg => ?_, fun hr hf => ?_,
    fun hr hf => ?_, fun hs => ?_, fun hs => ?_⟩
  · rw [hacEval, acEvaluation_eq, hcount, hset, ← hbus]
    show (if failed then _ else if ¬ failed ∧ set.vReturn ≤ t.busV then _ else _) = if failed then _ else if good then _ else _
    refine if_congr Iff.rfl rfl (if_congr ?_ rfl rfl)
    show (¬ (count < set.nAcMin ∨ t.busV < set.vBridge) ∧ set.vReturn ≤ t.busV) ↔ (set.nAcMin ≤ count ∧ set.vReturn ≤ t.busV)
    omega
  · rw [hcalm (by rw [ho]; exact nofun) (by rw [ho]; exact nofun) (fun _ => hf) (fun e => hnot ho e nofun) fun e => hnot ho e nofun]
    exact hstate.trans ho
  · have hbridges := htaken.opens (hstate.trans ho) (hfailed.2 hf)
    have hdone := hcut (sampleHoldup_cut (hstate.trans ho) (hfailed.2 hf))
    rw [hasked, hanswers] at hdone
    obtain ⟨hst, hevents, heventOpen, hsettle, hcollapse, hbridging, -, -, -, hsince, hrecord, -⟩ := opened_bridges hbridges
    rw [show c.acTaken.holdup.lastCounted = s.holdup.lastCounted from hlast] at hst heventOpen hbridging hrecord
    rw [show c.acTaken.settings.holdup = set from hset] at hbridging
    refine ⟨hst, hevents.trans (congrArg (fun n => min 65535 (n + 1)) hcEvents), heventOpen, hsettle, hcollapse, hbridging, hdone.idle,
      hdone.timer, hdone.off, hdone.idleSet, hdone.stale, fun hv => ?_, fun hv ho' hc => ?_⟩
    · rw [hsince (hfields.1.trans (hvalid.trans hv)), show c.acTaken.holdup.record.since = s.holdup.record.since from hfields.2.2.1.trans hcSince]
    · obtain ⟨h1, h2, h3, h4, h5⟩ := hrecord (hfields.1.trans (hvalid.trans hv)) (hfields.2.1.trans (hopen.trans ho')) hc
      exact ⟨h1, h2, h3.trans (congrArg some htrigger), h4.trans hcLast, h5⟩
  · rw [htaken.returns (hb.imp hstate.trans hstate.trans) (hgood.2 hg)]
    exact ⟨rfl, congrArg (fun x : HoldupSettings => some (x.tSettle * 100)) hset, rfl⟩
  · have hno : c.acTaken.holdup.acEval ≠ .good := fun e => hg (hgood.1 e)
    have hlowTaken (h : t.busV < set.vCollapse) := htaken.low (hstate.trans hb) hno (by rw [← hbus, hset]; exact h)
    have hhighTaken (h : ¬ t.busV < set.vCollapse) := htaken.high (hstate.trans hb) hno (by rw [← hbus, hset]; exact h)
    refine ⟨?_, fun hlow => ?_, fun hhigh => ?_⟩
    · by_cases h : t.busV < set.vCollapse
      · rw [hlowTaken h]
        exact hstate.trans hb
      · rw [hhighTaken h]
        exact hstate.trans hb
    · rw [hlowTaken hlow]
      show some (c.holdup.collapse.getD (c.settings.holdup.collapseTime * 10)) = _
      rw [hcCollapse, hset]
      cases s.holdup.collapse <;> rfl
    · rw [hhighTaken (by omega)]
  · intro old new opens
    have hkept : ¬ opens → ¬ (s.holdup.state = .returning ∧ failed) → new = c.followed := fun ho hr => by
      show t.holdup.record = _
      cases hs : s.holdup.state with
      | starting => rw [htaken.starting (hstate.trans hs)]; rfl
      | online =>
        rw [hcalm (by rw [hs]; exact nofun) (by rw [hs]; exact nofun) (fun _ hf => ho ⟨hs, hf⟩) (fun e => hnot hs e nofun) fun e => hnot hs e nofun]
        rfl
      | bridging =>
        by_cases hg : good
        · rw [htaken.returns (.inl (hstate.trans hs)) (hgood.2 hg)]
          rfl
        · have hno : c.acTaken.holdup.acEval ≠ .good := fun e => hg (hgood.1 e)
          by_cases h : c.busV < c.settings.holdup.vCollapse
          · rw [htaken.low (hstate.trans hs) hno h]
            rfl
          · rw [htaken.high (hstate.trans hs) hno h]
            rfl
      | returning =>
        rw [hcalm (by rw [hs]; exact nofun) (by rw [hs]; exact nofun) (fun e => hnot hs e nofun) (fun e => hnot hs e nofun) fun _ hf => hr ⟨hs, hf⟩]
        rfl
      | blackout =>
        by_cases hg : good
        · rw [htaken.returns (.inr (hstate.trans hs)) (hgood.2 hg)]
          rfl
        · rw [hcalm (by rw [hs]; exact nofun) (by rw [hs]; exact nofun) (fun e => hnot hs e nofun) (fun _ => hg) fun e => hnot hs e nofun]
          rfl
    refine ⟨fun hclosed ho => ?_, fun hopened hblack => ?_⟩
    · have hfollowed : c.followed = old := by
        have hsame : c.holdup.record = old := (congrArg Holdup.record (hmatches.closed hclosed)).trans rfl
        rw [followed_closed (by rw [hsame]; exact hclosed), hsame]
      by_cases hr : s.holdup.state = .returning ∧ failed
      · have hflat : c.acTaken.holdup.flickered.record = old := by
          have hno : c.acTaken.holdup.record.isOpen ≠ true := by
            show c.followed.isOpen ≠ true
            rw [hfollowed, show old.isOpen = false from hclosed]
            exact nofun
          exact (if_neg hno).trans hfollowed
        by_cases hc : carried
        · show t.holdup.record = old
          rw [hflicker hr.1 hr.2 hc]
          exact hflat
        · show t.holdup.record = old
          rw [hfall hr.1 hr.2 hc]
          show c.acTaken.holdup.flickered.record.close _ _ = old
          rw [hflat]
          exact if_neg (by rw [show old.isOpen = false from hclosed]; exact nofun)
      · exact (hkept ho hr).trans hfollowed
    · have hduration : c.followed.duration = min 4294967295 (old.duration + 1) := by
        rw [followed_open (hopen.trans hopened), hmatches.open_]
        rfl
      have hmin : c.followed.minBusV = if t.sense.pub[busVPoint].stale = true then old.minBusV else min old.minBusV t.busV := by
        rw [followed_open (hopen.trans hopened), hbus, hpub, hmatches.open_]
        rfl
      have hisOpen : c.followed.isOpen = true := hfields.2.1.trans (hopen.trans hopened)
      have hflickers : c.followed.flickers = old.flickers := hfields.2.2.2.trans hcFlickers
      by_cases hr : s.holdup.state = .returning ∧ failed
      · have hc : carried := by
          by_contra hc
          exact hblack (by rw [hfall hr.1 hr.2 (not_not.2 hc)])
        have hnew : new = { c.followed with flickers := min 255 (c.followed.flickers + 1) } := by
          show t.holdup.record = _
          rw [hflicker hr.1 hr.2 hc]
          exact if_pos hisOpen
        rw [hnew, if_pos hr]
        exact ⟨hisOpen, hduration, hmin, by rw [hflickers]⟩
      · rw [if_neg hr]
        by_cases ho : opens
        · obtain ⟨hst, -, -, -, -, -, -, -, -, -, -, hold⟩ := opened_bridges (htaken.opens (hstate.trans ho.1) (hfailed.2 ho.2))
          have hc : c.acTaken.holdup.lastCounted ≠ 0 := by
            by_contra hc
            exact hblack (hst.trans (if_neg (not_not.2 hc)))
          obtain ⟨h1, h2, h3, h4⟩ := hold hisOpen hc
          exact ⟨h1, h2.trans hduration, h3.trans hmin, h4.trans hflickers⟩
        · rw [hkept ho hr]
          exact ⟨hisOpen, hduration, hmin, hflickers⟩
  · rw [hcalm (by rw [hk]; exact nofun) (by rw [hk]; exact nofun) (fun e => hnot hk e nofun) (fun _ => hg) fun e => hnot hk e nofun]
    exact hstate.trans hk
  · rw [hcalm (by rw [hr]; exact nofun) (by rw [hr]; exact nofun) (fun e => hnot hr e nofun) (fun e => hnot hr e nofun) fun _ => hf]
    exact hstate.trans hr
  · by_cases hc : carried
    · rw [hflicker hr hf hc, if_pos hc]
      exact ⟨rfl, rfl, hcEvents⟩
    · rw [hfall hr hf hc, if_neg hc]
      exact ⟨rfl, rfl, hcEvents⟩
  · rw [htaken.starting (hstate.trans hs)]
    exact hstate.trans hs
  · have hfirst := congrArg Holdup.first (htaken.starting (hstate.trans hs))
    rw [hfirst, htrigger, hset, hcFirst, hacEval, hbus]
    cases s.holdup.first <;> rfl
end

section
/-! PROOFS. O53, the regulator: each of its transitions with the recompute that follows, and what it makes of a headroom
publication. -/

namespace Sys2Proof.Machine

/-! ### Its transitions (R80, R83, R84, R89, R90) -/

/-- R80, R83: OFF, whose recompute never pauses. -/
theorem regulatorOff_spec (s : State) : RegulatorStep s (regulatorOff s) ∧ (regulatorOff s).recharge = (s.recharge.stopped .off).shared := by
  refine ⟨.regulatorOff s, ?_⟩
  rw [regulatorOff_eq]
  generalize hu : reportCondition causeRecharge false (reshare (s.setRecharge (s.recharge.stopped .off))) = u
  have hbefore : RegulatorStep s u := hu ▸ (((RegulatorStep.refl s).sets _ rfl).report _ _)
  have hrec : u.recharge = (s.recharge.stopped .off).shared := by
    rw [← hu, reportCondition_recharge, reshare_recharge, State.setRecharge_recharge]
  obtain ⟨-, hbears, -⟩ := hbefore.recomputes s.recharge.iSet
  refine (hbears (.inr ?_)).1.trans hrec
  rw [hrec]
  exact not_shortOf_zero s _

/-- R84, R89: THERMAL_HOLD at I_floor, or PAUSED when the headroom does not bear it. -/
theorem enterThermal_spec (s : State) :
    let t := enterThermal s
    let iFloor := s.settings.recharge.iFloor
    RegulatorStep s t ∧
      (iFloor = s.recharge.iSet ∨ ¬ s.shortOf (chargePower iFloor s.busV) →
        t.recharge = (s.recharge.heldBack iFloor).shared ∧ RaisedFrom s t causeRecharge s.sourceTemp codeThermal) ∧
      (iFloor ≠ s.recharge.iSet → s.shortOf (chargePower iFloor s.busV) →
        t.recharge = ((s.recharge.heldBack iFloor).shared.stopped .paused).shared) := by
  intro t iFloor
  have e : t = _ := enterThermal_eq s
  generalize hv : reshare (s.setRecharge (s.recharge.heldBack s.settings.recharge.iFloor)) = v at e
  have hset : RegulatorStep s v := hv ▸ (RegulatorStep.refl s).sets _ rfl
  have htouches : Touches (fun _ => False) s v := hv ▸ ((Touches.refl _ s).setRecharge _).reshare
  have hrec : v.recharge = (s.recharge.heldBack iFloor).shared := by
    rw [← hv, reshare_recharge, State.setRecharge_recharge]
  generalize hu : raise causeRecharge s.sourceTemp codeThermal (reportCondition causeRecharge true v) = u at e
  have hbefore : RegulatorStep s u := hu ▸ ((hset.report _ _).raise _ _ _)
  have hraised : RaisedFrom s u causeRecharge s.sourceTemp codeThermal := hu ▸ reported_raised _ _ _ _ htouches
  have hurec : u.recharge = (s.recharge.heldBack iFloor).shared := by
    rw [← hu, raise_recharge, reportCondition_recharge, hrec]
  have hsends : Touches (· = causeRecharge) s u := by
    rw [← hu]
    exact ((htouches.mono (Q := (· = causeRecharge)) fun _ h => h.elim).report (c := causeRecharge) rfl _).raise (c := causeRecharge) rfl _ _
  obtain ⟨hstep, hbears, hshort⟩ := hbefore.recomputes s.recharge.iSet
  rw [hurec] at hbears hshort
  rw [e]
  refine ⟨hstep, fun h => ⟨(hbears h).1, ?_⟩, hshort⟩
  exact hraised.widen (hsends _ causeDeficit_ne_recharge).sending (Quiet.refl _ s).toUnraised
    ((hbears h).2 causeRecharge causeRecharge_ne_deficit).toUnraised

/-- R90: a yield is a step on the regulator. -/
theorem tryYield_step (s : State) : RegulatorStep s (tryYield s) := by
  rcases tryYield_cases s with e | ⟨need, -, -, -, -, e⟩ <;> rw [e]
  · exact .refl s
  · exact ((RegulatorStep.refl s).sets _ rfl).recomputeIfSet _

theorem restartIfRoom_step (s : State) : RegulatorStep s (restartIfRoom s) := ite_keeps (.startRegulator s) (.refl s)

theorem restartIfRoom_room {s : State} (h : s.restartThreshold ≤ s.recharge.lastH) : restartIfRoom s = startRegulator s := if_pos h

theorem restartIfRoom_stays {s : State} (h : ¬ s.restartThreshold ≤ s.recharge.lastH) : restartIfRoom s = s := if_neg h

/-! ### START by its four outcomes (R84) -/

/-- The last H leaves no room for a start (R84). -/
def State.roomless (s : State) : Prop := s.recharge.lastH - s.chargePowerOf s.settings.recharge.iStart < (s.settings.recharge.hTgt : Int)

theorem startRegulator_roomless {s : State} (h : memberCount s.recharge.members ≠ 0) (hroom : s.roomless) :
    startRegulator s = pauseRegulator codeNoRoom s := by
  unfold State.roomless at hroom
  unfold startRegulator
  dsimp only
  rw [if_neg h, if_pos hroom]

theorem startRegulator_hot {s : State} (h : memberCount s.recharge.members ≠ 0) (hroom : ¬ s.roomless)
    (hhot : s.recharge.tChgLimInForce < s.sourceTemp) : startRegulator s = enterThermal s := by
  unfold State.roomless at hroom
  unfold startRegulator
  dsimp only
  rw [if_neg h, if_neg hroom, if_pos hhot]

theorem startRegulator_cruises {s : State} (h : memberCount s.recharge.members ≠ 0) (hroom : ¬ s.roomless)
    (hhot : ¬ s.recharge.tChgLimInForce < s.sourceTemp) : startRegulator s = enterCruise s.settings.recharge.iStart s := by
  unfold State.roomless at hroom
  unfold startRegulator
  dsimp only
  rw [if_neg h, if_neg hroom, if_neg hhot]

theorem memberCount_ne_zero_iff {m : Vector Bool 4} : memberCount m ≠ 0 ↔ ∃ i : BbuId, m[i] = true := by
  rw [memberCount, ← Nat.pos_iff_ne_zero, List.countP_pos_iff]
  exact ⟨fun ⟨i, _, h⟩ => ⟨i, h⟩, fun ⟨i, h⟩ => ⟨i, mem_bbuIds i, h⟩⟩

/-! ### A headroom publication (R26, R86, R87, R90, R101) -/

theorem regulatorHeadroom_step (h : Int) (s : State) :
    RegulatorStep (s.setRecharge { s.recharge with lastH := h }) (regulatorHeadroom h s) := by
  unfold regulatorHeadroom
  generalize s.setRecharge { s.recharge with lastH := h } = v
  dsimp only
  cases v.recharge.state with
  | off | thermalHold => exact .refl v
  | floor => exact ite_keeps (enterCruise_spec _ v).1 (.refl v)
  | paused => exact restartIfRoom_step v
  | cruise => exact tryYield_step v

/-- The regulator of a part that stands in CRUISE at `iSet`, or is paused by the recompute. -/
theorem enterCruise_bears {i : Nat} {s : State} (h : ¬ s.shortOf (chargePower i s.busV)) :
    (enterCruise i s).recharge = (s.recharge.cruising i s.stepTime).shared := (enterCruise_spec i s).2.1 (.inr h)

/-- The part as the sequencer has taken a headroom publication. -/
def State.headroomHeard (s : State) (h : Int) : State := seqEvent (s.setSeq { s.seq with lastH := h })

theorem headroomHeard_lastH (s : State) (h : Int) : (s.headroomHeard h).seq.lastH = h :=
  (Heard.refl (s.setSeq { s.seq with lastH := h })).seqEvent.lastH

theorem deliverHeadroom_eq (p : Int × Int) (s : State) :
    deliverHeadroom p s = (regulatorHeadroom p.1 (s.headroomHeard p.1)).setShed ⟨p.1, p.2⟩ := rfl

theorem deliverHeadroom_seq (p : Int × Int) (s : State) : (deliverHeadroom p s).seq = (s.headroomHeard p.1).seq :=
  (regulatorHeadroom_step p.1 (s.headroomHeard p.1)).seq

theorem deliverHeadroom_told (p : Int × Int) (s : State) :
    (deliverHeadroom p s).seq.lastH = p.1 ∧ (deliverHeadroom p s).recharge.lastH = p.1 ∧ (deliverHeadroom p s).shed = ⟨p.1, p.2⟩ := by
  refine ⟨(congrArg Sequencer.lastH (deliverHeadroom_seq p s)).trans (headroomHeard_lastH s p.1), ?_, rfl⟩
  show (regulatorHeadroom p.1 (s.headroomHeard p.1)).recharge.lastH = p.1
  rw [(regulatorHeadroom_step p.1 (s.headroomHeard p.1)).ripple.recharge]
  rfl

/-- The part with its headroom publications taken out. -/
def State.headroomTaken (s : State) : State := s.setBudget { s.budget with pubs := [] }

theorem headroomPublication_last {s : State} {p : Int × Int} (h : s.budget.pubs.getLast? = some p) :
    ∃ u, headroomPublication s = deliverHeadroom p u := by
  obtain ⟨init, hinit⟩ := List.getLast?_eq_some_iff.1 h
  unfold headroomPublication
  rw [hinit, List.foldl_append]
  exact ⟨_, rfl⟩

theorem headroomPublication_single {s : State} {p : Int × Int} (h : s.budget.pubs = [p]) :
    headroomPublication s = deliverHeadroom p s.headroomTaken := by
  unfold headroomPublication
  rw [h]
  rfl

theorem headroomPublication_none {s : State} (h : s.budget.pubs = []) : headroomPublication s = s := by
  unfold headroomPublication
  rw [h]
  show s.setBudget { s.budget with pubs := [] } = s
  rw [← h]
  rfl

end Sys2Proof.Machine
end

section
/-! PROOFS. O53, the headroom publication by the state of the queue and of the regulator that it finds. -/

namespace Sys2Proof.Machine

section Headroom
variable {s : State} {h : Int}

/-- The regulator has the headroom and has not judged it. -/
def State.regulatorHeard (s : State) (h : Int) : State := s.setRecharge { s.recharge with lastH := h }

theorem regulatorHeadroom_idle (hst : s.recharge.state = .off ∨ s.recharge.state = .thermalHold) :
    regulatorHeadroom h s = s.regulatorHeard h := by
  have hv : (s.regulatorHeard h).recharge.state = .off ∨ (s.regulatorHeard h).recharge.state = .thermalHold := hst
  unfold regulatorHeadroom
  unfold State.regulatorHeard at hv ⊢
  generalize s.setRecharge { s.recharge with lastH := h } = v at hv ⊢
  rcases hv with hv | hv <;> simp only [hv]

theorem regulatorHeadroom_floor (hst : s.recharge.state = .floor) :
    regulatorHeadroom h s = if s.bandLow ≤ h then enterCruise s.recharge.iSet (s.regulatorHeard h) else s.regulatorHeard h := by
  have hv : (s.regulatorHeard h).recharge.state = .floor := hst
  have hset : (s.regulatorHeard h).recharge.iSet = s.recharge.iSet := rfl
  have hband : (s.regulatorHeard h).bandLow = s.bandLow := rfl
  rw [← hset, ← hband]
  unfold regulatorHeadroom
  unfold State.regulatorHeard at hv ⊢
  generalize s.setRecharge { s.recharge with lastH := h } = v at hv ⊢
  simp only [hv]

theorem regulatorHeadroom_paused (hst : s.recharge.state = .paused) : regulatorHeadroom h s = restartIfRoom (s.regulatorHeard h) := by
  have hv : (s.regulatorHeard h).recharge.state = .paused := hst
  unfold regulatorHeadroom
  unfold State.regulatorHeard at hv ⊢
  generalize s.setRecharge { s.recharge with lastH := h } = v at hv ⊢
  simp only [hv]

theorem headroomHeard_calm (hq : s.seq.queue = []) : ∃ y : Sequencer, y.slots = s.seq.slots ∧ s.headroomHeard h = s.setSeq y := by
  have e : s.headroomHeard h = reportHead (s.setSeq { s.seq with lastH := h }) :=
    seqEvent_ungranted fun n hn => by
      rw [show (s.setSeq { s.seq with lastH := h }).seq.queue = [] from hq] at hn
      cases hn
  rw [e]
  unfold reportHead
  split
  · exact ⟨{ s.seq with lastH := h }, rfl, rfl⟩
  · exact ⟨(sendReport (s.setSeq { s.seq with lastH := h })).seq, rfl, rfl⟩

/-- A restart threshold that is met leaves room for a start (R84, R87). -/
theorem not_roomless_of_threshold (hthr : s.restartThreshold ≤ s.recharge.lastH) : ¬ s.roomless := by
  unfold State.roomless
  unfold State.restartThreshold at hthr
  omega

/-- R86, R87: what the publication leaves of the regulator in FLOOR and PAUSED, and in the states that do not judge it. -/
theorem regulatorHeadroom_judges (h : Int) (s : State) :
    let t := regulatorHeadroom h s
    let x := s.recharge
    let v := s.regulatorHeard h
    (x.state = .off ∨ x.state = .thermalHold → t.recharge = { x with lastH := h }) ∧
      (x.state = .floor → h < s.bandLow → t.recharge = { x with lastH := h }) ∧
      (x.state = .floor → s.bandLow ≤ h → t.recharge = (v.recharge.cruising x.iSet s.stepTime).shared) ∧
      (x.state = .paused → h < s.restartThreshold → t.recharge = { x with lastH := h }) ∧
      (x.state = .paused → s.restartThreshold ≤ h → (∃ i : BbuId, x.members[i] = true) → s.sourceTemp ≤ x.tChgLimInForce →
        ¬ s.shortOf (chargePower s.settings.recharge.iStart s.busV) →
          t.recharge = (v.recharge.cruising s.settings.recharge.iStart s.stepTime).shared) := by
  intro t x v
  refine ⟨fun hst => ?_, fun hst hlow => ?_, fun hst hlow => ?_, fun hst hthr => ?_, fun hst hthr hsome hcool hbears => ?_⟩
  · show (regulatorHeadroom h s).recharge = _
    rw [regulatorHeadroom_idle hst]
    rfl
  · show (regulatorHeadroom h s).recharge = _
    rw [regulatorHeadroom_floor hst, if_neg (Int.not_le.2 hlow)]
    rfl
  · show (regulatorHeadroom h s).recharge = _
    rw [regulatorHeadroom_floor hst, if_pos hlow]
    exact (enterCruise_spec s.recharge.iSet v).2.1 (.inl rfl)
  · show (regulatorHeadroom h s).recharge = _
    have hno : ¬ v.restartThreshold ≤ v.recharge.lastH := Int.not_le.2 hthr
    rw [regulatorHeadroom_paused hst, restartIfRoom_stays hno]
    rfl
  · show (regulatorHeadroom h s).recharge = _
    have hroom : v.restartThreshold ≤ v.recharge.lastH := hthr
    have hcount : memberCount v.recharge.members ≠ 0 := memberCount_ne_zero_iff.2 hsome
    rw [regulatorHeadroom_paused hst, restartIfRoom_room hroom,
      startRegulator_cruises hcount (not_roomless_of_threshold hroom) (Int.not_lt.2 hcool)]
    exact enterCruise_bears (s := v) hbears

end Headroom

/-- A grant of the head of a queue that names it once, and nothing of the queue else (R100, R101). -/
theorem headroomHeard_grants {s : State} {h : Int} {m : SlotId} {rest : List SlotId} (hq : s.seq.queue = m :: rest) (hm : m ∉ rest) :
    let t := s.headroomHeard h
    let granted := s.grantable = true ∧ ((s.settings.slots[m].pReq + s.settings.slots[m].pInrush : Nat) : Int) ≤ h
    (granted →
      t.seq.queue = rest ∧ t.seq.stagger = some (s.settings.sequence.staggerCount * s.settings.sequence.staggerUnit) ∧
        t.seq.slots =
          s.seq.slots.set m
            { s.seq.slots[m] with
              state := .soak, en := true, adoptedOff := false, soak := some (s.settings.slots[m].soak * 100) }) ∧
      (¬ granted → t.seq.queue = s.seq.queue ∧ t.seq.stagger = s.seq.stagger ∧ t.seq.slots = s.seq.slots) := by
  intro t granted
  have hqueue : (s.setSeq { s.seq with lastH := h }).seq.queue = m :: rest := hq
  have hgrants : (s.setSeq { s.seq with lastH := h }).grantsHead m = true ↔ granted := grantsHead_iff
  refine ⟨fun hyes => ?_, fun hno => ?_⟩
  · have e : t.seq = _ := seqEvent_granted_seq hqueue (hgrants.2 hyes)
    rw [e]
    refine ⟨granted_queue hqueue hm, rfl, ?_⟩
    show ((s.setSeq { s.seq with lastH := h }).granted m).slots = _
    rw [State.granted, Slot.moved_eq _ (st := .soak) nofun]
    rfl
  · have hsame := seqEvent_same (s := s.setSeq { s.seq with lastH := h }) fun n hn => by
      rw [hqueue] at hn
      cases hn
      exact Bool.eq_false_iff.2 fun e => hno (hgrants.1 e)
    exact ⟨hsame.queue, hsame.stagger, hsame.slots⟩

end Sys2Proof.Machine
end

section
/-! PROOFS. O53: what the regulator and the sequencer have been told stands through the steps of the other blocks, and the reserve
publication. -/

namespace Sys2Proof.Machine

/-! ### The copies of the regulator and the sequencer (R47, R51) -/

/-- What the regulator has been told but the holdup state, its charging set, and the inhibit at the sequencer are those of `s`. -/
structure Copies (s t : State) : Prop where
  inhibit : t.seq.lastInhibit = s.seq.lastInhibit
  recharge :
    t.recharge =
      { s.recharge with
        state := t.recharge.state, iSet := t.recharge.iSet, shares := t.recharge.shares, step := t.recharge.step
        floorTimer := t.recharge.floorTimer, yielded := t.recharge.yielded, lastHoldup := t.recharge.lastHoldup }

namespace Copies
variable {s t u : State}

theorem refl (s : State) : Copies s s := ⟨rfl, rfl⟩

theorem trans (h : Copies s t) (k : Copies t u) : Copies s u := by
  refine ⟨k.inhibit.trans h.inhibit, ?_⟩
  have hk := k.recharge
  rw [h.recharge] at hk
  exact hk

theorem of_eq (hseq : t.seq.lastInhibit = s.seq.lastInhibit) (hrecharge : t.recharge = s.recharge) : Copies s t :=
  ⟨hseq, by rw [hrecharge]⟩

theorem of_swell (h : Swell s t) : Copies s t :=
  ⟨by rw [h.seq], by rw [h.rechargeLastHoldup]; exact h.recharge⟩

theorem report (h : Copies s t) (c : CauseId) (a : Bool) : Copies s (reportCondition c a t) :=
  h.trans (of_eq (by rw [reportCondition_seq]) (reportCondition_recharge _ _ _))

theorem raise (h : Copies s t) (c : CauseId) (v : Int) (code : Byte) : Copies s (raise c v code t) :=
  h.trans (of_eq (by rw [raise_seq]) (raise_recharge _ _ _ _))

theorem ease (s : State) : EaseInvariant (Copies s) where
  seqEvent h := h.trans (of_swell (Swell.refl _).seqEvent)
  setSlot h _ := h.trans (of_eq rfl rfl)
  leaveQueue h := h.trans (of_eq rfl rfl)
  lineWatch h := ite_keeps (h.trans (of_eq rfl rfl)) h
  report h := h.report _ _
  recompute h := h.trans (of_swell (Swell.refl _).recompute)

theorem joins (s : State) : Joins (Copies s) := fun h => h.trans (of_eq rfl rfl)

theorem reserve (s : State) : ReserveInvariant (Copies s) where
  targetAction h := (ease s).targetAction (joins s) (fun h => h.trans (of_eq rfl rfl)) h _
  setMatched h _ := h.trans (of_eq rfl rfl)
  reckon h := h.trans (of_eq rfl rfl)
  raiseTarget h := h.raise _ _ _
  reportRange h := h.report _ _
  raiseRange h := h.raise _ _ _

theorem holdup (s : State) : HoldupInvariant (Copies s) where
  reserve := reserve s
  seqEvent h := h.trans (of_swell (Swell.refl _).seqEvent)
  shedAll h := h.trans (of_swell (Swell.refl _).shedAll)
  regulatorOff h := h.trans (of_swell (.of_regulator (.regulatorOff _)))
  leaveDeficit h := h.trans (of_eq (by rw [leaveDeficit_seq]) (leaveDeficit_recharge _))
  tell h := h.trans ⟨rfl, rfl⟩
  setHoldup h := h.trans (of_eq rfl rfl)
  reportHoldup h := h.report _ _
  raiseHoldup h := h.raise _ _ _
  changeBbu h := h.trans (of_swell ((Swell.refl _).changeBbu _ _))
  abortTestForAc {t} h := by
    obtain ⟨x, hx⟩ := abortTestForAc_swell t
    exact h.trans ((of_eq (s := t) (t := t.setCharge { t.charge with test := x }) rfl rfl).trans (of_swell hx))

theorem leak (s : State) : LeakInvariant (Copies s) where
  lineWatch h := (ease s).lineWatch h
  lockZone h := (ease s).lockZone h _
  shedZone h := (ease s).shedZone h _
  setZone h := h.trans (of_eq rfl rfl)
  spendFree h := h.trans (of_eq rfl rfl)
  reportZone h := h.report _ _
  raiseZone h := h.raise _ _ _
  reportRope h := h.report _ _
  raiseRope h := h.raise _ _ _

theorem enterOnline (s : State) : Copies s (enterOnline s) := by
  have hmoved : Copies s s.onlined := ⟨by rw [onlined_seq], by rw [onlined_recharge]⟩
  exact hmoved.trans (of_swell (enterOnline_swell s))

end Copies

/-! ### The charging set (R80) -/

/-- The part with the charging set taken, before the shares and what it starts or stops. -/
def State.gathered (s : State) : State := s.setRecharge { s.recharge with members := s.chargingSet }

theorem RegulatorStep.trans {s t u : State} (h : RegulatorStep s t) (k : RegulatorStep t u) : RegulatorStep s u :=
  ⟨h.ripple.trans k.ripple, k.seq.trans h.seq, k.line.trans h.line⟩

theorem takeSet_step (s : State) : RegulatorStep s.gathered (takeSet s) := by
  by_cases h : s.chargingSet = s.recharge.members
  · have e : takeSet s = s := if_pos h
    have hsame : s.gathered = s := by
      unfold State.gathered
      rw [h]
      rfl
    rw [e, hsame]
    exact .refl s
  · have e : takeSet s = reshare s.gathered := if_neg h
    rw [e]
    exact (RegulatorStep.refl s.gathered).sets s.gathered.recharge rfl

theorem formSet_step (s : State) : RegulatorStep s.gathered (formSet s) := by
  have htake := takeSet_step s
  rw [formSet_eq]
  exact ite_keeps (ite_keeps htake (htake.trans (.regulatorOff _))) (ite_keeps (htake.trans (.startRegulator _)) htake)

/-! ### A reserve publication (R47, R53, R70, R73, R80, R101) -/

theorem sequencerReserve_swell (b : Bool) (s : State) : Swell (s.setSeq { s.seq with lastInhibit := b }) (sequencerReserve b s) := by
  by_cases h : s.seq.lastInhibit = b
  · have e : sequencerReserve b s = s := if_pos h
    have hsame : s.setSeq { s.seq with lastInhibit := b } = s := by
      rw [← h]
      rfl
    rw [e, hsame]
    exact .refl s
  · have e : sequencerReserve b s = seqEvent (s.setSeq { s.seq with lastInhibit := b }) := if_neg h
    rw [e]
    exact (Swell.refl _).seqEvent

theorem regulatorReserve_step (p : ReservePub) (s : State) :
    RegulatorStep (s.setRecharge { s.recharge with lastBand := p.band, lastInhibit := p.inhibit }).gathered (regulatorReserve p s) := by
  unfold regulatorReserve
  dsimp only
  exact ite_keeps ((formSet_step _).trans (tryYield_step _)) (formSet_step _)

/-- The part as the holdup controller finds it on a reserve publication. -/
def State.reserveHeard (s : State) (p : ReservePub) : State := regulatorReserve p (sequencerReserve p.inhibit s)

theorem reserveHeard_spec (p : ReservePub) (s : State) :
    let u := s.reserveHeard p
    u.holdup = s.holdup ∧ u.seq.lastInhibit = p.inhibit ∧ u.recharge.lastBand = p.band ∧ u.recharge.lastInhibit = p.inhibit := by
  have hseq := sequencerReserve_swell p.inhibit s
  have hholdup : (sequencerReserve p.inhibit s).holdup = s.holdup := by
    unfold sequencerReserve
    split
    · rfl
    · exact (Ripple.refl _).seqEvent.holdup
  intro u
  have hstep : RegulatorStep _ u := regulatorReserve_step p (sequencerReserve p.inhibit s)
  refine ⟨hstep.ripple.holdup.trans hholdup, ?_, ?_, ?_⟩
  · rw [hstep.seq]
    show (sequencerReserve p.inhibit s).seq.lastInhibit = p.inhibit
    rw [hseq.seq]
    rfl
  · rw [hstep.ripple.recharge]
    rfl
  · rw [hstep.ripple.recharge]
    rfl

/-- The holdup controller with the publication taken (R47). -/
def State.reserveTold (s : State) (p : ReservePub) : State :=
  s.setHoldup { s.holdup with lastR := p.r, lastTEst := p.tEst, lastCounted := p.counted }

theorem reserveHoldup_starting_noted {p : ReservePub} {s : State} {f : FirstSet} (hst : s.holdup.state = .starting)
    (hf : s.holdup.first = some f) (hp : p.afterSet = true) : reserveHoldup p s = startDecision f (s.reserveTold p) := by
  have hv : (s.reserveTold p).holdup.state = .starting := hst
  have hw : (s.reserveTold p).holdup.first = some f := hf
  unfold reserveHoldup
  unfold State.reserveTold at hv hw ⊢
  generalize s.setHoldup { s.holdup with lastR := p.r, lastTEst := p.tEst, lastCounted := p.counted } = v at hv hw ⊢
  simp only [hv, hw, hp, if_true]

theorem reserveHoldup_starting_waits {p : ReservePub} {s : State} (hst : s.holdup.state = .starting)
    (h : s.holdup.first = none ∨ p.afterSet = false) : reserveHoldup p s = s.reserveTold p := by
  have hv : (s.reserveTold p).holdup.state = .starting := hst
  have hw : (s.reserveTold p).holdup.first = none ∨ p.afterSet = false := h
  unfold reserveHoldup
  unfold State.reserveTold at hv hw ⊢
  generalize s.setHoldup { s.holdup with lastR := p.r, lastTEst := p.tEst, lastCounted := p.counted } = v at hv hw ⊢
  rcases hw with hw | hw
  · simp only [hv, hw]
  · cases hf : v.holdup.first <;> simp [hv, hf, hw]

theorem reserveHoldup_bridging {p : ReservePub} {s : State} (hst : s.holdup.state = .bridging) :
    reserveHoldup p s = judgeCounted (s.reserveTold p) := by
  have hv : (s.reserveTold p).holdup.state = .bridging := hst
  unfold reserveHoldup
  unfold State.reserveTold at hv ⊢
  generalize s.setHoldup { s.holdup with lastR := p.r, lastTEst := p.tEst, lastCounted := p.counted } = v at hv ⊢
  simp only [hv]

theorem reserveHoldup_calm {p : ReservePub} {s : State} (hst : s.holdup.state ≠ .starting) (hb : s.holdup.state ≠ .bridging) :
    reserveHoldup p s = s.reserveTold p := by
  have hv : (s.reserveTold p).holdup.state ≠ .starting := hst
  have hw : (s.reserveTold p).holdup.state ≠ .bridging := hb
  unfold reserveHoldup
  unfold State.reserveTold at hv hw ⊢
  generalize s.setHoldup { s.holdup with lastR := p.r, lastTEst := p.tEst, lastCounted := p.counted } = v at hv hw ⊢
  cases hc : v.holdup.state with
  | starting => exact absurd hc hv
  | bridging => exact absurd hc hw
  | online | returning | blackout => simp only [hc]

end Sys2Proof.Machine
end

section
/-! PROOFS. O53, the holdup controller on a reserve publication and the regulator on a head report. -/

namespace Sys2Proof.Machine

/-! ### The holdup controller on a reserve publication (R47, R70, R73) -/

/-- The holdup controller holds the reserve as published. -/
structure Holdup.Takes (p : ReservePub) (x : Holdup) : Prop where
  r : x.lastR = p.r
  tEst : x.lastTEst = p.tEst
  counted : x.lastCounted = p.counted

theorem Holdup.Takes.matches {p : ReservePub} {x y : Holdup} (h : x.Takes p) (k : x.Matches y) : y.Takes p := by
  have e := k.open_
  exact ⟨by rw [e]; exact h.r, by rw [e]; exact h.tEst, by rw [e]; exact h.counted⟩

theorem Holdup.Takes.bridges {p : ReservePub} {x y : Holdup} (h : x.Takes p) (k : x.bridges y) : y.Takes p := by
  have hx : ({ x with state := .bridging } : Holdup).Takes p := ⟨h.r, h.tEst, h.counted⟩
  by_cases hc : x.lastCounted = 0
  · obtain ⟨w, hw, e⟩ := k.2 hc
    obtain ⟨hr, ht, hcount⟩ := hx.matches hw
    rw [e]
    exact ⟨hr, ht, hcount⟩
  · exact hx.matches (k.1 hc)

theorem enterBlackout_takes {p : ReservePub} {s : State} (h : s.holdup.Takes p) : (enterBlackout s).holdup.Takes p := by
  rw [enterBlackout_holdup]
  exact ⟨h.r, h.tEst, h.counted⟩

theorem judgeCounted_takes {p : ReservePub} {s : State} (h : s.holdup.Takes p) : (judgeCounted s).holdup.Takes p := by
  by_cases hc : s.holdup.lastCounted = 0
  · rw [judgeCounted_blackout hc]
    exact enterBlackout_takes h
  · rw [judgeCounted_stays hc]
    exact h

theorem startDecision_good {f : FirstSet} {s : State} (h : f.acEval = .good) : startDecision f s = enterOnline s := if_pos h

theorem startDecision_bridge {f : FirstSet} {s : State} (h : f.acEval ≠ .good) (hc : s.holdup.lastCounted ≠ 0) (hb : f.busHeld = true) :
    startDecision f s = openEvent f.trigger s := by
  unfold startDecision
  rw [if_neg h, if_pos ⟨Nat.pos_of_ne_zero hc, hb⟩]

theorem startDecision_dark {f : FirstSet} {s : State} (h : f.acEval ≠ .good) (hc : s.holdup.lastCounted = 0 ∨ f.busHeld = false) :
    startDecision f s = enterBlackout s := by
  unfold startDecision
  rw [if_neg h, if_neg fun e => hc.elim (fun e' => absurd e.1 (by rw [e']; exact Nat.lt_irrefl 0)) fun e' => Bool.noConfusion (e'.symm.trans e.2)]

theorem startDecision_takes {p : ReservePub} {f : FirstSet} {s : State} (h : s.holdup.Takes p) :
    (startDecision f s).holdup.Takes p ∧ Copies s (startDecision f s) := by
  unfold startDecision
  by_cases hg : f.acEval = .good
  · rw [if_pos hg]
    refine ⟨?_, .enterOnline s⟩
    rw [enterOnline_holdup]
    exact ⟨h.r, h.tEst, h.counted⟩
  · rw [if_neg hg]
    split
    · exact ⟨Holdup.Takes.bridges (x := s.opened f.trigger) ⟨h.r, h.tEst, h.counted⟩ (openEvent_spec f.trigger s).1,
        (Copies.holdup s).openEvent (.refl s) _⟩
    · exact ⟨enterBlackout_takes h, (Copies.holdup s).enterBlackout (.refl s)⟩

theorem reserveHoldup_takes (p : ReservePub) (s : State) : (reserveHoldup p s).holdup.Takes p ∧ Copies s (reserveHoldup p s) := by
  have htold : (s.reserveTold p).holdup.Takes p := ⟨rfl, rfl, rfl⟩
  have hcopies : Copies s (s.reserveTold p) := .of_eq rfl rfl
  by_cases hst : s.holdup.state = .starting
  · by_cases hw : s.holdup.first = none ∨ p.afterSet = false
    · rw [reserveHoldup_starting_waits hst hw]
      exact ⟨htold, hcopies⟩
    · obtain ⟨f, hf⟩ := Option.ne_none_iff_exists'.1 fun e => hw (.inl e)
      rw [reserveHoldup_starting_noted hst hf (Bool.eq_true_of_not_eq_false fun e => hw (.inr e))]
      obtain ⟨htakes, hkept⟩ := startDecision_takes (f := f) htold
      exact ⟨htakes, hcopies.trans hkept⟩
  · by_cases hb : s.holdup.state = .bridging
    · rw [reserveHoldup_bridging hb]
      exact ⟨judgeCounted_takes htold, (Copies.holdup s).judgeCounted hcopies⟩
    · rw [reserveHoldup_calm hst hb]
      exact ⟨htold, hcopies⟩

/-- R47: what each consumer holds after one publication. -/
theorem deliverReserve_told (p : ReservePub) (s : State) :
    let t := deliverReserve p s
    t.seq.lastInhibit = p.inhibit ∧ t.recharge.lastBand = p.band ∧ t.recharge.lastInhibit = p.inhibit ∧
      t.holdup.lastR = p.r ∧ t.holdup.lastTEst = p.tEst ∧ t.holdup.lastCounted = p.counted := by
  intro t
  obtain ⟨-, hseq, hband, hinhibit⟩ := reserveHeard_spec p s
  have e : t = reserveHoldup p (s.reserveHeard p) := rfl
  generalize s.reserveHeard p = u at hseq hband hinhibit e
  obtain ⟨⟨hr, htEst, hcounted⟩, hkept⟩ := reserveHoldup_takes p u
  rw [e]
  refine ⟨hkept.inhibit.trans hseq, ?_, ?_, hr, htEst, hcounted⟩
  · rw [hkept.recharge]
    exact hband
  · rw [hkept.recharge]
    exact hinhibit

/-- R70, R73: what one publication makes of the holdup state. -/
theorem deliverReserve_judges (p : ReservePub) (s : State) :
    let t := deliverReserve p s
    (s.holdup.state = .starting → s.holdup.first = none ∨ p.afterSet = false → t.holdup.state = .starting) ∧
      (∀ f, s.holdup.state = .starting → s.holdup.first = some f → p.afterSet = true →
        (f.acEval = .good → t.holdup.state = .online) ∧
          (f.acEval ≠ .good → p.counted ≠ 0 → f.busHeld = true →
            t.holdup.state = .bridging ∧ t.holdup.eventOpen = true ∧ t.holdup.events = min 65535 (s.holdup.events + 1)) ∧
          (f.acEval ≠ .good → p.counted = 0 ∨ f.busHeld = false →
            t.holdup.state = .blackout ∧ t.holdup.events = s.holdup.events)) ∧
      (s.holdup.state = .bridging → t.holdup.state = if p.counted = 0 then .blackout else .bridging) ∧
      (s.holdup.state = .returning ∨ s.holdup.state = .online → t.holdup.state = s.holdup.state) := by
  intro t
  have hholdup := (reserveHeard_spec p s).1
  have e : t = reserveHoldup p (s.reserveHeard p) := rfl
  generalize s.reserveHeard p = u at hholdup e
  rw [e, ← hholdup]
  refine ⟨fun hst hw => ?_, fun f hst hf hp => ?_, fun hst => ?_, fun hst => ?_⟩
  · rw [reserveHoldup_starting_waits hst hw]
    exact hst
  · rw [reserveHoldup_starting_noted hst hf hp]
    refine ⟨fun hg => ?_, fun hg hc hb => ?_, fun hg hc => ?_⟩
    · rw [startDecision_good hg, enterOnline_holdup]
    · rw [startDecision_bridge (s := u.reserveTold p) hg hc hb]
      obtain ⟨hstate, hevents, hopen, -⟩ := opened_bridges (openEvent_spec f.trigger (u.reserveTold p)).1
      exact ⟨hstate.trans (if_pos hc), hopen.2 hc, hevents⟩
    · rw [startDecision_dark (s := u.reserveTold p) hg hc, enterBlackout_holdup]
      exact ⟨rfl, rfl⟩
  · rw [reserveHoldup_bridging hst]
    by_cases hc : p.counted = 0
    · rw [judgeCounted_blackout (s := u.reserveTold p) hc, enterBlackout_holdup, if_pos hc]
    · rw [judgeCounted_stays (s := u.reserveTold p) hc, if_neg hc]
      exact hst
  · rw [reserveHoldup_calm (fun e => hst.elim (fun e' => absurd (e'.symm.trans e) nofun) fun e' => absurd (e'.symm.trans e) nofun)
      fun e => hst.elim (fun e' => absurd (e'.symm.trans e) nofun) fun e' => absurd (e'.symm.trans e) nofun]
    rfl

/-- The part with its reserve publications taken out. -/
def State.reserveTaken (s : State) : State := s.setCharge { s.charge with pubs := [] }

theorem reservePublication_last {s : State} {p : ReservePub} (h : s.charge.pubs.getLast? = some p) :
    ∃ u, reservePublication s = deliverReserve p u := by
  obtain ⟨init, hinit⟩ := List.getLast?_eq_some_iff.1 h
  unfold reservePublication
  rw [hinit, List.foldl_append]
  exact ⟨_, rfl⟩

theorem reservePublication_single {s : State} {p : ReservePub} (h : s.charge.pubs = [p]) :
    reservePublication s = deliverReserve p s.reserveTaken := by
  unfold reservePublication
  rw [h]
  rfl

theorem reservePublication_none {s : State} (h : s.charge.pubs = []) : reservePublication s = s := by
  unfold reservePublication
  rw [h]
  show s.setCharge { s.charge with pubs := [] } = s
  rw [← h]
  rfl

/-! ### A head report (R90, R91, R102) -/

/-- The regulator with the report taken, which ends a yield for another head (R91). -/
def State.headTold (s : State) (r : Option Nat) : State :=
  s.setRecharge { s.recharge with lastHead := r, yielded := s.recharge.yielded && (r.isSome && r == s.recharge.lastHead) }

theorem regulatorHead_eq (r : Option Nat) (s : State) : regulatorHead r s = tryYield (s.headTold r) := rfl

theorem regulatorHead_step (r : Option Nat) (s : State) : RegulatorStep (s.headTold r) (regulatorHead r s) := tryYield_step _

theorem regulatorHead_lastHead (r : Option Nat) (s : State) : (regulatorHead r s).recharge.lastHead = r := by
  rw [(regulatorHead_step r s).ripple.recharge]
  rfl

/-- The regulator yields to a need (R90). -/
def State.yields (s : State) : Prop :=
  s.recharge.state = .cruise ∧ s.recharge.lastInhibit = false ∧ s.settings.recharge.iFloor < s.recharge.iSet

theorem tryYield_stays {s : State} (h : s.recharge.lastHead = none ∨ ¬ s.yields) : tryYield s = s := by
  rcases tryYield_cases s with e | ⟨need, hhead, hst, hinhibit, hlow, -⟩
  · exact e
  · exact h.elim (fun e => absurd (hhead.symm.trans e) nofun) fun hno => absurd ⟨hst, hinhibit, hlow⟩ hno

theorem tryYield_yields {s : State} {need : Nat} (hhead : s.recharge.lastHead = some need) (h : s.yields) :
    tryYield s = recomputeIfSet s.recharge.iSet (reshare (s.setRecharge
      { s.recharge with iSet := s.yieldTo need, step := s.stepTime, yielded := true })) := by
  unfold tryYield
  rw [hhead]
  exact if_pos h

theorem tryYield_recharge {s : State} {need : Nat} (hhead : s.recharge.lastHead = some need) (h : s.yields)
    (hbears : ¬ s.shortOf (chargePower (s.yieldTo need) s.busV)) :
    (tryYield s).recharge =
      ({ s.recharge with iSet := s.yieldTo need, step := s.stepTime, yielded := true } : Recharge).shared := by
  rw [tryYield_yields hhead h]
  generalize hx : ({ s.recharge with iSet := s.yieldTo need, step := s.stepTime, yielded := true } : Recharge) = x
  have hset : x.iSet = s.yieldTo need := by rw [← hx]
  have hbefore : RegulatorStep s (reshare (s.setRecharge x)) := (RegulatorStep.refl s).sets x (by rw [← hx])
  have hrec : (reshare (s.setRecharge x)).recharge = x.shared := by rw [reshare_recharge, State.setRecharge_recharge]
  obtain ⟨-, hkeeps, -⟩ := hbefore.recomputes s.recharge.iSet
  refine (hkeeps (.inr ?_)).1.trans hrec
  rw [hrec]
  show ¬ s.shortOf (chargePower x.iSet s.busV)
  rw [hset]
  exact hbears

/-- The part with its head reports taken out. -/
def State.reportsTaken (s : State) : State := s.setSeq { s.seq with reports := [] }

theorem headReport_last {s : State} {r : Option Nat} (h : s.seq.reports.getLast? = some r) : ∃ u, headReport s = regulatorHead r u := by
  obtain ⟨init, hinit⟩ := List.getLast?_eq_some_iff.1 h
  unfold headReport
  rw [hinit, List.foldl_append]
  exact ⟨_, rfl⟩

theorem headReport_single {s : State} {r : Option Nat} (h : s.seq.reports = [r]) : headReport s = regulatorHead r s.reportsTaken := by
  unfold headReport
  rw [h]
  rfl

theorem headReport_none {s : State} (h : s.seq.reports = []) : headReport s = s := by
  unfold headReport
  rw [h]
  show s.setSeq { s.seq with reports := [] } = s
  rw [← h]
  rfl

end Sys2Proof.Machine
end

section
/-! PROOFS. O53, a sample set at the regulator: the charging set with its shares, and what the regulator has been told. -/

namespace Sys2Proof.Machine

/-! ### The shares (R81) -/

/-- The shares are those of the charging set and of I_set. -/
def Shared (s : State) : Prop := s.recharge.shares = sharesOf s.recharge.members s.recharge.iSet

namespace Shared
variable {s t : State}

theorem of_eq (h : Shared s) (e : t.recharge = s.recharge) : Shared t := by
  unfold Shared
  rw [e]
  exact h

theorem of_fields (h : Shared s) (hm : t.recharge.members = s.recharge.members) (hi : t.recharge.iSet = s.recharge.iSet)
    (hs : t.recharge.shares = s.recharge.shares) : Shared t := by
  unfold Shared
  rw [hm, hi, hs]
  exact h

theorem of_shared {x : Recharge} (e : t.recharge = x.shared) : Shared t := by
  unfold Shared
  rw [e]
  rfl

theorem recompute (h : Shared s) : Shared (recompute s) := by
  by_cases hp : s.mustPause
  · exact .of_shared (recompute_recharge_pause hp)
  · exact h.of_eq (recompute_recharge_same hp)

theorem recomputeIfSet (h : Shared s) (before : Nat) : Shared (recomputeIfSet before s) := ite_keeps h h.recompute

theorem reshare (s : State) : Shared (reshare s) := .of_shared (reshare_recharge s)

theorem report (h : Shared s) (c : CauseId) (a : Bool) : Shared (reportCondition c a s) := h.of_eq (reportCondition_recharge _ _ _)

theorem raise (h : Shared s) (c : CauseId) (v : Int) (code : Byte) : Shared (raise c v code s) := h.of_eq (raise_recharge _ _ _ _)

theorem regulatorOff (s : State) : Shared (regulatorOff s) := .of_shared (regulatorOff_spec s).2

theorem enterCruise (i : Nat) (s : State) : Shared (enterCruise i s) := by
  rw [enterCruise_eq]
  exact ((reshare _).report _ _).recomputeIfSet _

theorem enterThermal (s : State) : Shared (enterThermal s) := by
  rw [enterThermal_eq]
  exact (((reshare _).report _ _).raise _ _ _).recomputeIfSet _

theorem startRegulator (s : State) : Shared (startRegulator s) :=
  ite_keeps (regulatorOff s) (ite_keeps (.of_shared (pauseRegulator_spec _ s).2.1) (ite_keeps (enterThermal s) (enterCruise _ s)))

theorem takeSet (h : Shared s) : Shared (takeSet s) := ite_keeps h (reshare _)

theorem formSet (h : Shared s) : Shared (formSet s) := by
  rw [formSet_eq]
  exact ite_keeps (ite_keeps h.takeSet (regulatorOff _)) (ite_keeps (startRegulator _) h.takeSet)

theorem sampleRegulator (h : Shared s) : Shared (sampleRegulator s) := by
  have hset : Shared (Machine.formSet (refreshRecharge s)) := formSet (s := refreshRecharge s) h
  unfold Machine.sampleRegulator
  dsimp only
  cases (Machine.formSet (refreshRecharge s)).recharge.state with
  | off => exact hset
  | cruise | floor => exact ite_keeps (enterThermal _) hset
  | paused => exact ite_keeps (startRegulator _) hset
  | thermalHold => exact ite_keeps (enterCruise _ _) hset

theorem moveSlot (h : Shared s) {n : SlotId} {st : SlotState} {upd : Slot → Slot} : Shared (moveSlot n st upd s) := by
  rw [moveSlot_eq]
  have hset : Shared (s.setSlot n ((upd s.seq.slots[n]).moved st)) := h.of_eq rfl
  have hreport := hset.report (causeSlot n) (st == .faulted)
  exact ite_keeps (P := Shared) (hreport.of_eq rfl) hreport

theorem seqEvent (h : Shared s) : Shared (seqEvent s) := by
  have hreport {u : State} (hu : Shared u) : Shared (reportHead u) := ite_keeps (P := Shared) hu (hu.of_eq (t := sendReport u) rfl)
  rcases grantCheck_cases s with ⟨-, hno⟩ | ⟨n, rest, hq, hg, -⟩
  · rw [seqEvent_ungranted hno]
    exact hreport h
  · rw [seqEvent_granted hq hg]
    have hleft : Shared ((leaveQueue n s).setSeq { (leaveQueue n s).seq with
        stagger := some ((leaveQueue n s).settings.sequence.staggerCount * (leaveQueue n s).settings.sequence.staggerUnit) }) := h
    have hgranted : Shared (grant n s) := hleft.moveSlot.recompute
    exact hgranted.of_eq rfl

theorem ease : EaseInvariant Shared where
  seqEvent h := h.seqEvent
  setSlot h _ := h.of_eq rfl
  leaveQueue h := h.of_eq rfl
  lineWatch h := ite_keeps (P := Shared) (h.of_eq rfl) h
  report h := h.report _ _
  recompute h := h.recompute

theorem joins : Joins Shared := fun h => h.of_eq rfl

theorem reserve : ReserveInvariant Shared where
  targetAction h := ease.targetAction joins (fun h => h.of_eq rfl) h _
  setMatched h _ := h.of_eq rfl
  reckon h := h.of_eq rfl
  raiseTarget h := h.raise _ _ _
  reportRange h := h.report _ _
  raiseRange h := h.raise _ _ _

theorem changeBbu (h : Shared s) (i : BbuId) (st : BbuState) : Shared (changeBbu i st s) := by
  have hset : Shared (s.setBbu i { s.charge.bbus[i] with state := st, taper := 0 }) := h.of_eq rfl
  have hdriven := hset.of_eq (driveBbu_recharge i (s.setBbu i { s.charge.bbus[i] with state := st, taper := 0 }))
  exact ite_keeps (P := Shared) h ((hdriven.report _ _).raise _ _ _)

theorem abortTestForAc (h : Shared s) : Shared (abortTestForAc s) := by
  have habort : Shared (abortTest .abortedAc (fun _ _ => .discharging) s) := by
    unfold abortTest
    dsimp only
    split
    · exact h
    · refine changeBbu (raise (of_eq h ?_) _ _ _) _ _
      rfl
  exact ite_keeps (P := Shared) (reserve.recomputeReserve habort) h

theorem holdup : HoldupInvariant Shared where
  reserve := reserve
  seqEvent h := h.seqEvent
  shedAll h := ease.foldl_shedSlot (fun _ => joins) slotIds h
  regulatorOff _ := regulatorOff _
  leaveDeficit h := h.of_eq (leaveDeficit_recharge _)
  tell h := h.of_fields rfl rfl rfl
  setHoldup h := h.of_eq rfl
  reportHoldup h := h.report _ _
  raiseHoldup h := h.raise _ _ _
  changeBbu h := h.changeBbu _ _
  abortTestForAc h := h.abortTestForAc

theorem leak : LeakInvariant Shared where
  lineWatch h := ease.lineWatch h
  lockZone h := ease.lockZone h _
  shedZone h := ease.shedZone h _
  setZone h := h.of_eq rfl
  spendFree h := h.of_eq rfl
  reportZone h := h.report _ _
  raiseZone h := h.raise _ _ _
  reportRope h := h.report _ _
  raiseRope h := h.raise _ _ _

end Shared

/-! ### The sample set up to the regulator -/

section Sampled
variable (codes : Vector (BitVec 12) 29) (s : State)

/-- The part on a sample set with its capacity reckoned, before the recompute of the headroom (R24, R26). -/
def State.capacitated : State := recomputeCapacity (s.scanned codes).psusClassed

/-- The part as the regulator finds it on a sample set. -/
def State.lateSampled : State := sampleLeak (sampleHoldup (s.readied codes))

theorem sampleSet_lateSampled : sampleSet codes s = sampleRegulator (s.lateSampled codes) := sampleSet_eq codes s

theorem readied_capacitated :
    s.readied codes = recomputeReserve ((recompute (s.capacitated codes)).bbusSampled (!s.sense.seen)) := rfl

/-- What the PSUs and the capacity leave of the passed interval. -/
structure Capacitated (codes : Vector (BitVec 12) 29) (s v : State) : Prop where
  recharge : v.recharge = (passInterval s).recharge
  seq : v.seq = (passInterval s).seq
  holdup : v.holdup = (passInterval s).holdup
  charge : v.charge = (passInterval s).charge
  settings : v.settings = s.settings
  sense : v.sense = (s.scanned codes).sense

theorem capacitated_spec : Capacitated codes s (s.capacitated codes) := by
  have hscan := scanned_scans codes s
  have hclass := psusClassed_tells (s.scanned codes)
  have h : (s.capacitated codes).recharge = (passInterval s).recharge ∧ (s.capacitated codes).seq = (passInterval s).seq ∧
      (s.capacitated codes).holdup = (passInterval s).holdup ∧ (s.capacitated codes).charge = (passInterval s).charge ∧
      (s.capacitated codes).settings = s.settings ∧ (s.capacitated codes).sense = (s.scanned codes).sense := by
    unfold State.capacitated
    unfold Scans Tells at hscan
    unfold Tells at hclass
    generalize s.scanned codes = c at hscan hclass ⊢
    generalize c.psusClassed = d at hclass ⊢
    rw [hclass, hscan]
    exact ⟨rfl, rfl, rfl, rfl, rfl, rfl⟩
  obtain ⟨hrecharge, hseq, hholdup, hcharge, hset, hsense⟩ := h
  exact ⟨hrecharge, hseq, hholdup, hcharge, hset, hsense⟩

theorem passInterval_recharge : (passInterval s).recharge =
    { s.recharge with step := Timer.pass s.recharge.step, floorTimer := Timer.pass s.recharge.floorTimer } := by
  simp only [passInterval]

theorem passInterval_copies : Copies s (passInterval s) :=
  ⟨by simp only [passInterval], by rw [passInterval_recharge]⟩

theorem passInterval_shared (h : Shared s) : Shared (passInterval s) := by
  refine h.of_fields ?_ ?_ ?_ <;> rw [passInterval_recharge]

theorem lateSampled_copies : Copies s (s.lateSampled codes) := by
  have hcap := capacitated_spec codes s
  have hready : Copies s (s.readied codes) := by
    rw [readied_capacitated]
    generalize s.capacitated codes = v at hcap ⊢
    have hfirst : Copies s v := (passInterval_copies s).trans (.of_eq (congrArg Sequencer.lastInhibit hcap.seq) hcap.recharge)
    have hsteps := bbusSampled_step (recompute v) (!s.sense.seen)
    have hb := hfirst.trans (.of_swell (Swell.refl v).recompute)
    generalize recompute v = b at hb hsteps ⊢
    have hd : Copies b (b.bbusSampled (!s.sense.seen)) := .of_eq (by rw [hsteps.frame]) (by rw [hsteps.frame])
    exact (hb.trans hd).trans (.of_swell (Swell.refl _).recomputeReserve)
  exact (Copies.leak s).sampleLeak ((Copies.holdup s).sampleHoldup hready)

theorem lateSampled_shared (h : Shared s) : Shared (s.lateSampled codes) := by
  have hcap := capacitated_spec codes s
  have hready : Shared (s.readied codes) := by
    rw [readied_capacitated]
    generalize s.capacitated codes = v at hcap ⊢
    have hfirst : Shared v := (passInterval_shared s h).of_eq hcap.recharge
    have hsteps := bbusSampled_step (recompute v) (!s.sense.seen)
    have hb := hfirst.recompute
    generalize recompute v = b at hb hsteps ⊢
    exact Shared.reserve.recomputeReserve (hb.of_eq (by rw [hsteps.frame]))
  exact Shared.leak.sampleLeak (Shared.holdup.sampleHoldup hready)

theorem lateSampled_settings : (s.lateSampled codes).settings = { s.settings with bbus := (s.lateSampled codes).settings.bbus } := by
  have hready := (readied_spec codes s).settings
  have hholdup := sampleHoldup_base (s.readied codes)
  have hleak := (LateFrame.leak _).sampleLeak (.refl (sampleHoldup (s.readied codes)))
  have e : (s.lateSampled codes).settings = (s.readied codes).settings := hleak.settings.trans (base_settings hholdup)
  rw [e]
  exact hready

end Sampled

/-! ### The regulator on a sample set -/

/-- The part with the source and T_chg_lim in force and the charging set taken (R80, R82). -/
def State.assembled (s : State) : State := (refreshRecharge s).gathered

theorem sampleRegulator_step (s : State) : RegulatorStep s.assembled (sampleRegulator s) := by
  have hform : RegulatorStep s.assembled (formSet (refreshRecharge s)) := formSet_step (refreshRecharge s)
  unfold sampleRegulator
  dsimp only
  generalize formSet (refreshRecharge s) = u at hform ⊢
  cases u.recharge.state with
  | off => exact hform
  | cruise | floor => exact ite_keeps (hform.trans (.enterThermal u)) hform
  | paused => exact hform.trans (restartIfRoom_step u)
  | thermalHold => exact ite_keeps (hform.trans (enterCruise_spec _ u).1) hform

/-- The charging set after the set is the one its BBUs and alarms give (R80). -/
theorem sampleRegulator_members (s : State) (i : BbuId) :
    (sampleRegulator s).recharge.members[i] =
      ((sampleRegulator s).charge.bbus[i].state == .charging && !(sampleRegulator s).sense.pub[bbuTPoint i].alarm) := by
  have hstep := sampleRegulator_step s
  have hmembers : (sampleRegulator s).recharge.members = s.chargingSet := by
    rw [hstep.ripple.recharge]
    rfl
  rw [hmembers, hstep.bbu_state i, hstep.ripple.sense]
  exact get_ofFn _ i

end Sys2Proof.Machine
end

section
/-! PROOFS. O53: on a sample set that leaves the holdup state and grants no head, the regulator finds the state that the recompute of the
headroom left it in, for the sheds that follow only lower the commitments. -/

namespace Sys2Proof.Machine

/-! ### Steps that grant nothing and commit no more power (R25, R101) -/

/-- The regulator is that of `b`, which commits at least as much power, and no head can be granted: the stagger timer runs, or the
queue is empty. -/
structure Eased (staggered : Bool) (b t : State) : Prop where
  still : if staggered then t.seq.stagger.isSome = true else t.seq.queue = []
  recharge : t.recharge = b.recharge
  sum : t.commitmentSum ≤ b.commitmentSum
  cap : t.budget.cap = b.budget.cap
  online : t.online = b.online
  busV : t.busV = b.busV

namespace Eased
variable {w : Bool} {b t u : State}

theorem of_same (h : Eased w b t) (hstagger : u.seq.stagger = t.seq.stagger) (hqueue : t.seq.queue = [] → u.seq.queue = [])
    (hslots : u.seq.slots = t.seq.slots) (hset : u.settings.slots = t.settings.slots) (hrecharge : u.recharge = t.recharge)
    (hcap : u.budget.cap = t.budget.cap) (hholdup : u.online = t.online) (hbus : u.busV = t.busV) : Eased w b u := by
  have hsum : u.commitmentSum = t.commitmentSum := by rw [State.commitmentSum, State.commitmentSum, hset, hslots]
  refine ⟨?_, hrecharge.trans h.recharge, hsum.le.trans h.sum, hcap.trans h.cap, hholdup.trans h.online, hbus.trans h.busV⟩
  have hstill := h.still
  cases w with
  | true => exact (congrArg Option.isSome hstagger).trans hstill
  | false => exact hqueue hstill

theorem of_outer (h : Eased w b t) (hseq : u.seq = t.seq) (hbase : u.base = t.base) (hrecharge : u.recharge = t.recharge)
    (hbudget : u.budget.cap = t.budget.cap) (hholdup : u.holdup = t.holdup) : Eased w b u := by
  have hbus : u.busV = t.busV := by rw [State.busV, State.pubValue, base_sense hbase]; rfl
  have honline : u.online = t.online := by rw [State.online, hholdup]; rfl
  exact h.of_same (by rw [hseq]) (by rw [hseq]; exact id) (by rw [hseq]) (by rw [base_settings hbase]) hrecharge hbudget honline hbus

theorem report (h : Eased w b t) (c : CauseId) (a : Bool) : Eased w b (reportCondition c a t) :=
  h.of_outer (reportCondition_seq _ _ _) (reportCondition_base _ _ _) (reportCondition_recharge _ _ _)
    (by rw [reportCondition_budget]) (reportCondition_holdup _ _ _)

theorem raise (h : Eased w b t) (c : CauseId) (v : Int) (code : Byte) : Eased w b (raise c v code t) :=
  h.of_outer (raise_seq _ _ _ _) (raise_base _ _ _ _) (raise_recharge _ _ _ _) (by rw [raise_budget]) (raise_holdup _ _ _ _)

theorem bears (h : Eased w b t) (hb : ¬ b.mustPause) : ¬ t.mustPause := by
  rw [mustPause_iff, State.shortOf] at hb ⊢
  rw [h.recharge, h.online, h.cap, h.busV]
  have hsum := h.sum
  rintro ⟨hon, hneg, hpos⟩
  exact hb ⟨hon, by omega, hpos⟩

theorem recompute (h : Eased w b t) (hb : ¬ b.mustPause) : Eased w b (recompute t) := by
  have hr := (Ripple.refl t).recompute
  exact h.of_outer (recompute_seq t) hr.base (recompute_recharge_same (h.bears hb)) (by rw [hr.budget]) hr.holdup

theorem ungranted (h : Eased w b t) : ∀ n ∈ t.seq.queue.head?, t.grantsHead n = false := by
  have hstill := h.still
  intro n hn
  cases w with
  | true => exact grantsHead_false hstill n
  | false =>
    rw [show t.seq.queue = [] from hstill] at hn
    cases hn

theorem commitmentSum_setSlot_le {n : SlotId} {x : Slot}
    (hx : commitment t.settings.slots[n] x ≤ commitment t.settings.slots[n] t.seq.slots[n]) :
    (t.setSlot n x).commitmentSum ≤ t.commitmentSum := by
  refine List.sum_le_sum fun m _ => ?_
  show commitment t.settings.slots[m] (t.setSlot n x).seq.slots[m] ≤ _
  rw [setSlot_slots]
  by_cases hnm : n = m
  · subst hnm
    rw [if_pos rfl]
    exact hx
  · rw [if_neg hnm]

theorem ease (hb : ¬ b.mustPause) : EaseInvariant (Eased w b) where
  seqEvent h := seqEvent_of_ungranted h.ungranted h (h.of_same rfl id rfl rfl rfl rfl rfl rfl)
  setSlot h hx := ⟨h.still, h.recharge, (commitmentSum_setSlot_le hx).trans h.sum, h.cap, h.online, h.busV⟩
  leaveQueue {t n} h := h.of_same rfl (fun e => by
    show t.seq.queue.filter _ = []
    rw [e]
    rfl) rfl rfl rfl rfl rfl rfl
  lineWatch h := ite_keeps (h.of_same rfl id rfl rfl rfl rfl rfl rfl) h
  report h := h.report _ _
  recompute h := h.recompute hb

theorem joins (b : State) : Joins (Eased true b) := fun h => ⟨h.still, h.recharge, h.sum, h.cap, h.online, h.busV⟩

theorem reserve (hb : ¬ b.mustPause) : ReserveInvariant (Eased true b) where
  targetAction h := (ease hb).targetAction (joins b) (fun h => h.of_same rfl id rfl rfl rfl rfl rfl rfl) h _
  setMatched h _ := h.of_same rfl id rfl rfl rfl rfl rfl rfl
  reckon h := h.of_same rfl id rfl rfl rfl rfl rfl rfl
  raiseTarget h := h.raise _ _ _
  reportRange h := h.report _ _
  raiseRange h := h.raise _ _ _

theorem leak (hb : ¬ b.mustPause) : LeakInvariant (Eased w b) where
  lineWatch h := (ease hb).lineWatch h
  lockZone h := (ease hb).lockZone h _
  shedZone h := (ease hb).shedZone h _
  setZone h := h.of_same rfl id rfl rfl rfl rfl rfl rfl
  spendFree h := h.of_same rfl id rfl rfl rfl rfl rfl rfl
  reportZone h := h.report _ _
  raiseZone h := h.raise _ _ _
  reportRope h := h.report _ _
  raiseRope h := h.raise _ _ _

theorem reckon (h : Eased w b t) : Eased w b (reckon t) := by
  have htells := reckon_tells t
  unfold Tells at htells
  generalize Machine.reckon t = u at htells ⊢
  refine h.of_outer ?_ ?_ ?_ ?_ ?_ <;> rw [htells] <;> rfl

theorem recomputeReserve_disarmed (h : Eased w b t) (harmed : t.charge.armed = false) : Eased w b (recomputeReserve t) := by
  have hreckon : (Machine.reckon t).charge.armed = false := by rw [reckon_charge]; exact harmed
  have hsame : compareTargets (Machine.reckon t) = Machine.reckon t := by simp [compareTargets, hreckon]
  have hr := h.reckon
  rw [recomputeReserve_eq, hsame]
  generalize Machine.reckon t = u at hr ⊢
  exact hr.of_same rfl id rfl rfl rfl rfl rfl rfl

theorem setHoldup (h : Eased w b t) {x : Holdup} (hx : x.state = t.holdup.state) : Eased w b (t.setHoldup x) :=
  h.of_same rfl id rfl rfl rfl rfl (by rw [State.online, State.setHoldup_holdup, hx]; rfl) rfl

end Eased

/-! ### A set that leaves the holdup state (R60 to R72) -/

theorem judgeCollapse_eq (s : State) : ∃ x : Holdup, x.state = s.holdup.state ∧ judgeCollapse s = s.setHoldup x := by
  unfold judgeCollapse
  dsimp only
  split
  · split
    · exact ⟨s.holdup, rfl, rfl⟩
    · exact ⟨{ s.holdup with collapse := some (s.settings.holdup.collapseTime * 10) }, rfl, rfl⟩
  · exact ⟨{ s.holdup with collapse := none }, rfl, rfl⟩

theorem noteFirstSet_eq (s : State) : ∃ x : Holdup, x.state = s.holdup.state ∧ noteFirstSet s = s.setHoldup x := by
  unfold noteFirstSet
  dsimp only
  split
  · exact ⟨s.holdup, rfl, rfl⟩
  · exact ⟨{ s.holdup with
      first := some ⟨s.holdup.acEval, s.triggerOf s.holdup.acCount, decide (s.settings.holdup.vCollapse ≤ s.busV)⟩ }, rfl, rfl⟩

/-- The AC judgement that leaves the holdup state does nothing else. -/
theorem sampleHoldup_still {c : State} (h : (sampleHoldup c).holdup.state = c.holdup.state) :
    ∃ x : Holdup, x.state = c.holdup.state ∧ sampleHoldup c = c.setHoldup x := by
  have htaken := sampleHoldup_taken c
  by_cases hs : c.holdup.state = .starting
  · obtain ⟨x, hx, e⟩ := noteFirstSet_eq c.acTaken
    exact ⟨x, hx, (sampleHoldup_starting hs).trans e⟩
  have hmoved {st : HoldupState} {y : HoldupState} (hst : c.holdup.state = st) (e : (sampleHoldup c).holdup.state = y) (hne : st ≠ y) : False :=
    hne (hst.symm.trans (h.symm.trans e))
  have hcalm : judgeAc c.acTaken = c.acTaken := by
    refine judgeAc_stays (fun hst hac => ?_) (fun hst hac => ?_) fun hst hac => ?_
    · have hopen := (opened_bridges (htaken.opens hst hac)).1
      by_cases hc : c.acTaken.holdup.lastCounted ≠ 0
      · exact hmoved hst (hopen.trans (if_pos hc)) nofun
      · exact hmoved hst (hopen.trans (if_neg hc)) nofun
    · have e := congrArg Holdup.state (htaken.returns hst hac)
      exact hst.elim (fun hst => hmoved hst e nofun) fun hst => hmoved hst e nofun
    · by_cases hc : c.holdup.lastCounted = 0
      · exact hmoved hst (congrArg Holdup.state (htaken.falls hst hac hc)) nofun
      · exact hmoved hst (congrArg Holdup.state (htaken.flickers hst hac hc)) nofun
  rw [sampleHoldup_eq, if_neg hs, hcalm]
  split
  · obtain ⟨x, hx, e⟩ := judgeCollapse_eq c.acTaken
    exact ⟨x, hx, e⟩
  · exact ⟨c.acTaken.holdup, rfl, rfl⟩

/-! ### The part as the regulator finds it -/

section Quiet
variable {codes : Vector (BitVec 12) 29} {s : State}

theorem not_mustPause_recompute (v : State) : ¬ (recompute v).mustPause := by
  have hr := (Ripple.refl v).recompute
  rw [mustPause_iff, State.shortOf, hr.online, hr.cap, hr.busV, commitmentSum_congr hr.settings (by rw [recompute_seq])]
  by_cases hp : v.mustPause
  · rw [recompute_recharge_pause hp]
    exact not_shortOf_zero v _
  · rw [recompute_recharge_same hp]
    exact hp

theorem Eased.refl {w : Bool} {b : State} (h : if w then b.seq.stagger.isSome = true else b.seq.queue = []) : Eased w b b :=
  ⟨h, rfl, Nat.le_refl _, rfl, rfl, rfl⟩

/-- The four BBUs and the reserve, of a part whose table is disarmed or whose stagger timer runs. -/
theorem Eased.sampleCharge {w : Bool} {b : State} (hb : ¬ b.mustPause)
    (hstill : if w then b.seq.stagger.isSome = true else b.seq.queue = []) (harmed : w = true ∨ b.charge.armed = false) (fresh : Bool) :
    Eased w b (sampleCharge fresh b) := by
  have hsteps := bbusSampled_step b fresh
  rw [sampleCharge_eq]
  have hd : Eased w b (b.bbusSampled fresh) := by
    refine (Eased.refl hstill).of_same ?_ ?_ ?_ ?_ ?_ ?_ ?_ ?_ <;> rw [hsteps.frame] <;> try rfl
    exact id
  have hkept : b.charge.armed = false → (b.bbusSampled fresh).charge.armed = false := hsteps.armed
  generalize b.bbusSampled fresh = d at hd hkept ⊢
  rcases harmed with rfl | harmed
  · exact (Eased.reserve hb).recomputeReserve hd
  · exact hd.recomputeReserve_disarmed (hkept harmed)

theorem recompute_armed (v : State) : (recompute v).charge.armed = v.charge.armed := by rw [(Ripple.refl v).recompute.charge]

theorem passInterval_armed (s : State) : (passInterval s).charge.armed = s.charge.armed := by simp only [passInterval]

theorem passInterval_staggered (s : State) : (passInterval s).seq.stagger.isSome = s.seq.stagger.isSome := by
  simp [passInterval, Timer.pass]

/-- No head is granted on a sample set. -/
def State.grantless (s : State) : Prop := s.seq.stagger.isSome = true ∨ (s.seq.queue = [] ∧ s.charge.armed = false)

theorem lateSampled_eased (hstate : (sampleSet codes s).holdup.state = s.holdup.state) (hquiet : s.grantless) :
    ∃ w, Eased w (recompute (s.capacitated codes)) (s.lateSampled codes) := by
  have hcap := capacitated_spec codes s
  have hready := (readied_spec codes s).holdup.state
  have hlate : (sampleHoldup (s.readied codes)).holdup.state = (s.readied codes).holdup.state := by
    have hframe : (sampleSet codes s).holdup = (sampleHoldup (s.readied codes)).holdup := by
      rw [sampleSet_eq]
      exact (LateFrame.sampleLater _).holdup
    have hpass : (passInterval s).holdup.state = s.holdup.state := by simp only [passInterval]
    rw [← hframe, hstate, hready, hpass]
  obtain ⟨x, hx, e⟩ := sampleHoldup_still hlate
  have hseq : (recompute (s.capacitated codes)).seq = (passInterval s).seq := (recompute_seq _).trans hcap.seq
  have hb := not_mustPause_recompute (s.capacitated codes)
  have harmed : (recompute (s.capacitated codes)).charge.armed = s.charge.armed :=
    (recompute_armed _).trans ((congrArg Charge.armed hcap.charge).trans (passInterval_armed s))
  have hcharged : ∃ w, Eased w (recompute (s.capacitated codes)) (s.readied codes) := by
    rcases hquiet with hstag | ⟨hq, hdis⟩
    · refine ⟨true, Eased.sampleCharge hb ?_ (.inl rfl) _⟩
      rw [hseq]
      exact (passInterval_staggered s).trans hstag
    · refine ⟨false, Eased.sampleCharge hb ?_ (.inr (harmed.trans hdis)) _⟩
      rw [hseq]
      exact (passInterval_queue s).trans hq
  obtain ⟨w, hw⟩ := hcharged
  refine ⟨w, (Eased.leak hb).sampleLeak ?_⟩
  rw [e]
  exact hw.setHoldup hx

end Quiet

end Sys2Proof.Machine
end

section
/-! PROOFS. O53: START, the temperature and the charging set on a sample set, state by state (R80, R84, R87, R89). -/

namespace Sys2Proof.Machine

/-! ### The outcomes of a setpoint (R84, R88, R89) -/

/-- The regulator rests at a setpoint: no timer runs and no yield stands. -/
def Recharge.rests (y : Recharge) (i : Nat) : Prop := y.iSet = i ∧ y.step = none ∧ y.floorTimer = none ∧ y.yielded = false

/-- CRUISE at a setpoint that the headroom of `w` bears, PAUSED at one that it does not. -/
structure Cruises (w : State) (i : Nat) (y : Recharge) : Prop where
  short : w.shortOf (chargePower i w.busV) → y.state = .paused ∧ y.rests 0
  bears : ¬ w.shortOf (chargePower i w.busV) → y.state = .cruise ∧ y.iSet = i ∧ y.step = w.stepTime ∧ y.floorTimer = none

/-- THERMAL_HOLD, or PAUSED when the headroom of `w` does not bear I_floor. -/
structure Heats (w t : State) : Prop where
  short : w.shortOf (chargePower w.settings.recharge.iFloor w.busV) → t.recharge.state = .paused ∧ t.recharge.rests 0
  bears : ¬ w.shortOf (chargePower w.settings.recharge.iFloor w.busV) →
    t.recharge.state = .thermalHold ∧ t.recharge.rests w.settings.recharge.iFloor ∧ RaisedFrom w t causeRecharge w.sourceTemp codeThermal

theorem Recharge.stopped_rests (x : Recharge) (st : RegState) : (x.stopped st).shared.state = st ∧ (x.stopped st).shared.rests 0 :=
  ⟨rfl, rfl, rfl, rfl, rfl⟩

section Outcomes
variable {w u t : State} {i : Nat}

theorem enterCruise_outcome (h : i = w.recharge.iSet → ¬ w.shortOf (chargePower i w.busV)) :
    Cruises w i (enterCruise i w).recharge := by
  obtain ⟨-, hbears, hshort⟩ := enterCruise_spec i w
  refine ⟨fun hs => ?_, fun hb => ?_⟩
  · rw [hshort (fun e => h e hs) hs]
    exact Recharge.stopped_rests _ _
  · rw [hbears (.inr hb)]
    exact ⟨rfl, rfl, rfl, rfl⟩

theorem enterThermal_outcome (h : w.settings.recharge.iFloor = w.recharge.iSet →
    ¬ w.shortOf (chargePower w.settings.recharge.iFloor w.busV)) : Heats w (enterThermal w) := by
  obtain ⟨-, hbears, hshort⟩ := enterThermal_spec w
  refine ⟨fun hs => ?_, fun hb => ?_⟩
  · rw [hshort (fun e => h e hs) hs]
    exact Recharge.stopped_rests _ _
  · obtain ⟨hrec, hraised⟩ := hbears (.inr hb)
    rw [hrec]
    exact ⟨rfl, ⟨rfl, rfl, rfl, rfl⟩, hraised⟩

/-- A part that stands at no setpoint is never short of the one it stands at. -/
theorem not_shortOf_of_idle (h : w.recharge.iSet = 0) : i = w.recharge.iSet → ¬ w.shortOf (chargePower i w.busV) := fun e => by
  rw [e, h]
  exact not_shortOf_zero w _

theorem RegulatorStep.members (h : RegulatorStep w u) : u.recharge.members = w.recharge.members := by rw [h.ripple.recharge]

theorem RegulatorStep.lastH (h : RegulatorStep w u) : u.recharge.lastH = w.recharge.lastH := by rw [h.ripple.recharge]

theorem RegulatorStep.limit (h : RegulatorStep w u) : u.recharge.tChgLimInForce = w.recharge.tChgLimInForce := by
  rw [h.ripple.recharge]

theorem RegulatorStep.sourceTemp (h : RegulatorStep w u) : u.sourceTemp = w.sourceTemp := by
  have hsource : u.recharge.sourceInForce = w.recharge.sourceInForce := by rw [h.ripple.recharge]
  unfold State.sourceTemp State.hottestMember State.pubValue
  rw [hsource, h.members, h.ripple.sense]

theorem RegulatorStep.roomless (h : RegulatorStep w u) : u.roomless ↔ w.roomless := by
  unfold State.roomless State.chargePowerOf
  rw [h.lastH, h.ripple.settings, h.ripple.busV]

theorem RegulatorStep.threshold (h : RegulatorStep w u) : u.restartThreshold = w.restartThreshold := by
  unfold State.restartThreshold State.chargePowerOf
  rw [h.ripple.settings, h.ripple.busV]

/-- The judgement of the temperature and of the restart, after the charging set is formed (R87, R89). -/
def temper (s : State) : State :=
  match s.recharge.state with
  | .off => s
  | .cruise | .floor => if s.recharge.tChgLimInForce < s.sourceTemp then enterThermal s else s
  | .paused => restartIfRoom s
  | .thermalHold => if s.sourceTemp ≤ s.recharge.tChgLimInForce - 2 then enterCruise s.settings.recharge.iFloor s else s

theorem sampleRegulator_eq (s : State) : sampleRegulator s = temper (formSet (refreshRecharge s)) := rfl

theorem temper_off (h : w.recharge.state = .off) : temper w = w := by simp only [temper, h]

theorem temper_running (h : w.recharge.state = .cruise ∨ w.recharge.state = .floor) :
    temper w = if w.recharge.tChgLimInForce < w.sourceTemp then enterThermal w else w := by
  rcases h with h | h <;> simp only [temper, h]

theorem temper_paused (h : w.recharge.state = .paused) : temper w = restartIfRoom w := by simp only [temper, h]

theorem temper_thermal (h : w.recharge.state = .thermalHold) :
    temper w = if w.sourceTemp ≤ w.recharge.tChgLimInForce - 2 then enterCruise w.settings.recharge.iFloor w else w := by
  simp only [temper, h]

section Start
variable (hsome : memberCount w.recharge.members ≠ 0) (hroom : ¬ w.roomless) (hidle : w.recharge.iSet = 0)
include hsome hroom hidle

theorem startRegulator_heats (hhot : w.recharge.tChgLimInForce < w.sourceTemp) : Heats w (startRegulator w) := by
  rw [startRegulator_hot hsome hroom hhot]
  exact enterThermal_outcome (not_shortOf_of_idle hidle)

theorem startRegulator_outcome (hcool : ¬ w.recharge.tChgLimInForce < w.sourceTemp) :
    Cruises w w.settings.recharge.iStart (startRegulator w).recharge := by
  rw [startRegulator_cruises hsome hroom hcool]
  exact enterCruise_outcome (not_shortOf_of_idle hidle)

/-- A start that the headroom does not bear is not taken up again in the same set with another end. -/
theorem temper_start_heats (hhot : w.recharge.tChgLimInForce < w.sourceTemp) : Heats w (temper (startRegulator w)) := by
  have hstep := RegulatorStep.startRegulator w
  have hheats := startRegulator_heats hsome hroom hidle hhot
  generalize startRegulator w = u at hstep hheats ⊢
  have huhot : u.recharge.tChgLimInForce < u.sourceTemp := by rw [hstep.limit, hstep.sourceTemp]; exact hhot
  by_cases hs : w.shortOf (chargePower w.settings.recharge.iFloor w.busV)
  · refine ⟨fun _ => ?_, fun hb => absurd hs hb⟩
    obtain ⟨hpaused, hrests⟩ := hheats.short hs
    rw [temper_paused hpaused]
    have hagain := startRegulator_heats (by rw [hstep.members]; exact hsome) (fun h => hroom (hstep.roomless.1 h)) hrests.1 huhot
    have hus : u.shortOf (chargePower u.settings.recharge.iFloor u.busV) := by
      rw [hstep.shortOf, hstep.ripple.settings, hstep.ripple.busV]
      exact hs
    exact ite_keeps (P := fun v : State => v.recharge.state = .paused ∧ v.recharge.rests 0) (hagain.short hus) ⟨hpaused, hrests⟩
  · obtain ⟨hthermal, hrests, hraised⟩ := hheats.bears hs
    rw [temper_thermal hthermal, if_neg (by omega)]
    exact ⟨fun h => absurd h hs, fun _ => ⟨hthermal, hrests, hraised⟩⟩

theorem temper_start_cruises (hcool : ¬ w.recharge.tChgLimInForce < w.sourceTemp) :
    Cruises w w.settings.recharge.iStart (temper (startRegulator w)).recharge := by
  have hstep := RegulatorStep.startRegulator w
  have hcruises := startRegulator_outcome hsome hroom hidle hcool
  generalize startRegulator w = u at hstep hcruises ⊢
  have hucool : ¬ u.recharge.tChgLimInForce < u.sourceTemp := by rw [hstep.limit, hstep.sourceTemp]; exact hcool
  by_cases hs : w.shortOf (chargePower w.settings.recharge.iStart w.busV)
  · refine ⟨fun _ => ?_, fun hb => absurd hs hb⟩
    obtain ⟨hpaused, hrests⟩ := hcruises.short hs
    rw [temper_paused hpaused]
    have hagain := startRegulator_outcome (by rw [hstep.members]; exact hsome) (fun h => hroom (hstep.roomless.1 h)) hrests.1 hucool
    have hus : u.shortOf (chargePower u.settings.recharge.iStart u.busV) := by
      rw [hstep.shortOf, hstep.ripple.settings, hstep.ripple.busV]
      exact hs
    exact ite_keeps (P := fun v : State => v.recharge.state = .paused ∧ v.recharge.rests 0) (hagain.short hus) ⟨hpaused, hrests⟩
  · obtain ⟨hcruise, hrest⟩ := hcruises.bears hs
    rw [temper_running (.inl hcruise), if_neg hucool]
    exact ⟨fun h => absurd h hs, fun _ => ⟨hcruise, hrest⟩⟩

end Start

end Outcomes

/-! ### What is being sent up to the regulator (R161) -/

theorem RaisedFrom.late {s t u : State} {c : CauseId} {v : Int} {code : Byte} (h : RaisedFrom t u c v code) (k : KeepsSending s t) :
    RaisedFrom s u c v code := ⟨h.1, h.2.1, h.2.2.imp_right fun ⟨hfree, hn⟩ => ⟨k.free hfree, hn⟩⟩

theorem KeepsSending.raise {s t : State} (h : KeepsSending s t) (c : CauseId) (v : Int) (code : Byte) :
    KeepsSending s (raise c v code t) := h.trans (raise_sending c v code t)

theorem KeepsSending.of_link {s t u : State} (h : KeepsSending s t) (e : u.link = t.link) : KeepsSending s u := fun hs => by
  rw [e]
  exact h hs

theorem KeepsSending.report {s t : State} (h : KeepsSending s t) (c : CauseId) (a : Bool) : KeepsSending s (reportCondition c a t) :=
  h.of_link (by rw [reportCondition_eq]; rfl)

theorem scanAnalog_sending (p : AnalogId) (c : BitVec 12) {s t : State} (h : KeepsSending s t) : KeepsSending s (scanAnalog p c t) := by
  have hpoint (x : Point) : KeepsSending s (reportCondition (causePoint (AnalogId.point p)) x.alarming (t.setPoint (AnalogId.point p) x)) :=
    (h.of_link (u := t.setPoint (AnalogId.point p) x) rfl).report _ _
  exact ite_keeps (ite_keeps ((hpoint _).raise _ _ _) (hpoint _)) (ite_keeps ((hpoint _).raise _ _ _) (hpoint _))

theorem scanRope_sending (z : ZoneId) (c : BitVec 12) {s t : State} (h : KeepsSending s t) : KeepsSending s (scanRope z c t) := by
  have hpoint (x : Point) : KeepsSending s (reportCondition (causePoint (ropePoint z)) (railCode c) (t.setPoint (ropePoint z) x)) :=
    (h.of_link (u := t.setPoint (ropePoint z) x) rfl).report _ _
  exact ite_keeps ((hpoint _).raise _ _ _) (hpoint _)

theorem scanned_sending (codes : Vector (BitVec 12) 29) (s : State) : KeepsSending s (s.scanned codes) := by
  have hpass : KeepsSending s (passInterval s) := fun _ => by simp only [passInterval]
  have hanalog := List.foldlRecOn (motive := KeepsSending s) analogIds (fun s p => scanAnalog p codes[AnalogId.point p] s) hpass
    fun u hu p _ => scanAnalog_sending p _ hu
  have hropes := List.foldlRecOn (motive := KeepsSending s) zoneIds (fun s z => scanRope z codes[ropePoint z] s) hanalog
    fun u hu z _ => scanRope_sending z _ hu
  exact hropes.of_link rfl

theorem lateSampled_sending (codes : Vector (BitVec 12) 29) (s : State) : KeepsSending s (s.lateSampled codes) := by
  have hleaves : LeavesPoints (s.scanned codes) (s.lateSampled codes) :=
    sampleLeak_leaves (sampleHoldup_leaves (sampleCharge_leaves (sampleBudget_leaves (.refl _))))
  exact (scanned_sending codes s).trans (hleaves.cause ⟨0, by decide⟩ (by decide)).sending

end Sys2Proof.Machine
end

section
/-! PROOFS. O53, concluded: the regulator on a sample set by the state it finds, and the four commands assembled. -/

namespace Sys2Proof.Machine

/-! ### The charging set formed (R80) -/

theorem takeSet_recharge (s : State) :
    (takeSet s).recharge = { s.recharge with members := s.chargingSet, shares := (takeSet s).recharge.shares } := by
  by_cases h : s.chargingSet = s.recharge.members
  · have e : takeSet s = s := if_pos h
    rw [e, h]
  · have e : takeSet s = reshare (s.setRecharge { s.recharge with members := s.chargingSet }) := if_neg h
    rw [e, reshare_recharge]
    rfl

theorem formSet_empty_off {s : State} (h : memberCount s.chargingSet = 0) (hst : (takeSet s).recharge.state = .off) :
    formSet s = takeSet s := by
  rw [formSet_eq, if_pos h, if_pos hst]

theorem formSet_empty {s : State} (h : memberCount s.chargingSet = 0) (hst : (takeSet s).recharge.state ≠ .off) :
    formSet s = regulatorOff (takeSet s) := by
  rw [formSet_eq, if_pos h, if_neg hst]

theorem formSet_starts {s : State} (h : memberCount s.chargingSet ≠ 0) (hhad : memberCount s.recharge.members = 0)
    (hst : (takeSet s).recharge.state = .off) (hon : (takeSet s).recharge.lastHoldup = .online) :
    formSet s = startRegulator (takeSet s) := by
  rw [formSet_eq, if_neg h, if_pos ⟨hhad, hst, hon⟩]

theorem formSet_keeps {s : State} (h : memberCount s.chargingSet ≠ 0)
    (hno : ¬ (memberCount s.recharge.members = 0 ∧ (takeSet s).recharge.state = .off ∧ (takeSet s).recharge.lastHoldup = .online)) :
    formSet s = takeSet s := by
  rw [formSet_eq, if_neg h, if_neg hno]

theorem temper_step (s : State) : RegulatorStep s (temper s) := by
  unfold temper
  cases s.recharge.state with
  | off => exact .refl s
  | cruise | floor => exact ite_keeps (.enterThermal s) (.refl s)
  | paused => exact restartIfRoom_step s
  | thermalHold => exact ite_keeps (enterCruise_spec _ s).1 (.refl s)

/-- The part with the charging set and its shares taken on a sample set. -/
def State.setTaken (s : State) : State := takeSet (refreshRecharge s)

theorem setTaken_recharge (s : State) :
    s.setTaken.recharge =
      { s.recharge with
        sourceInForce := s.settings.recharge.source, tChgLimInForce := s.settings.recharge.tChgLim
        members := s.chargingSet, shares := s.setTaken.recharge.shares } := takeSet_recharge (refreshRecharge s)

theorem setTaken_assembled (s : State) : RegulatorStep s.assembled s.setTaken := takeSet_step (refreshRecharge s)

theorem sampleRegulator_taken (s : State) : RegulatorStep s.setTaken (sampleRegulator s) := by
  have hform : RegulatorStep s.setTaken (formSet (refreshRecharge s)) := by
    rw [formSet_eq]
    exact ite_keeps (ite_keeps (.refl _) (.regulatorOff _)) (ite_keeps (.startRegulator _) (.refl _))
  exact hform.trans (temper_step _)

/-! ### The regulator by the state it finds (R80, R84, R87, R89) -/

/-- The set that the regulator finds takes START (R80, R87). -/
def State.startsOn (s : State) : Prop :=
  (memberCount s.recharge.members = 0 ∧ s.recharge.state = .off ∧ s.recharge.lastHoldup = .online) ∨
    (s.recharge.state = .paused ∧ s.restartThreshold ≤ s.recharge.lastH)

/-- What a sample set makes of the regulator found in `s`, from the part `w` with its charging set taken. -/
structure Regulated (s w t : State) : Prop where
  empty : memberCount s.chargingSet = 0 →
    t.recharge.state = .off ∧ t.recharge.iSet = 0 ∧ (s.recharge.state ≠ .off → t.recharge.rests 0)
  noRoom : memberCount s.chargingSet ≠ 0 → s.startsOn → s.roomless →
    t.recharge.state = .paused ∧ t.recharge.rests 0 ∧ RaisedFrom w t causeRecharge s.recharge.lastH codeNoRoom
  startHot : memberCount s.chargingSet ≠ 0 → s.startsOn → ¬ s.roomless → s.settings.recharge.tChgLim < w.sourceTemp → Heats w t
  start : memberCount s.chargingSet ≠ 0 → s.startsOn → ¬ s.roomless → ¬ s.settings.recharge.tChgLim < w.sourceTemp →
    Cruises w s.settings.recharge.iStart t.recharge
  idle : memberCount s.chargingSet ≠ 0 → ¬ s.startsOn → s.recharge.state = .off ∨ s.recharge.state = .paused →
    t.recharge.state = s.recharge.state ∧ t.recharge.iSet = 0
  hot : memberCount s.chargingSet ≠ 0 → s.recharge.state = .cruise ∨ s.recharge.state = .floor →
    s.settings.recharge.tChgLim < w.sourceTemp → Heats w t
  runs : memberCount s.chargingSet ≠ 0 → s.recharge.state = .cruise ∨ s.recharge.state = .floor →
    ¬ s.settings.recharge.tChgLim < w.sourceTemp →
      t.recharge.state = s.recharge.state ∧ t.recharge.iSet = s.recharge.iSet ∧ t.recharge.yielded = s.recharge.yielded
  cooled : memberCount s.chargingSet ≠ 0 → s.recharge.state = .thermalHold → w.sourceTemp ≤ s.settings.recharge.tChgLim - 2 →
    Cruises w s.settings.recharge.iFloor t.recharge
  holds : memberCount s.chargingSet ≠ 0 → s.recharge.state = .thermalHold → ¬ w.sourceTemp ≤ s.settings.recharge.tChgLim - 2 →
    t.recharge.state = .thermalHold ∧ t.recharge.iSet = s.recharge.iSet

section Judged
variable {s : State} (hidle : s.recharge.state = .off ∨ s.recharge.state = .paused → s.recharge.iSet = 0) (hbears : ¬ s.mustPause)
include hidle hbears

theorem sampleRegulator_regulated : Regulated s s.setTaken (sampleRegulator s) := by
  have hw := setTaken_recharge s
  have hstep := setTaken_assembled s
  have hset : s.setTaken.settings = s.settings := hstep.ripple.settings
  have hroom : s.setTaken.roomless ↔ s.roomless := hstep.roomless
  have hthreshold : s.setTaken.restartThreshold = s.restartThreshold := hstep.threshold
  have hbus : s.setTaken.busV = s.busV := hstep.ripple.busV
  have hbear : ¬ s.setTaken.shortOf (chargePower s.recharge.iSet s.setTaken.busV) := by
    rw [hbus]
    exact fun h => hbears ((mustPause_iff s).2 ((hstep.shortOf _).1 h))
  have hstate : s.setTaken.recharge.state = s.recharge.state := by rw [hw]
  have hholdup : s.setTaken.recharge.lastHoldup = s.recharge.lastHoldup := by rw [hw]
  have hempty : memberCount s.chargingSet = 0 → s.recharge.state = .off → formSet (refreshRecharge s) = s.setTaken :=
    fun h hst => formSet_empty_off h (hstate.trans hst)
  have hstops : memberCount s.chargingSet = 0 → s.recharge.state ≠ .off → formSet (refreshRecharge s) = regulatorOff s.setTaken :=
    fun h hst => formSet_empty h fun e => hst (hstate.symm.trans e)
  have hstarts : memberCount s.chargingSet ≠ 0 → memberCount s.recharge.members = 0 → s.recharge.state = .off →
      s.recharge.lastHoldup = .online → formSet (refreshRecharge s) = startRegulator s.setTaken :=
    fun h hhad hst hon => formSet_starts h hhad (hstate.trans hst) (hholdup.trans hon)
  have hkeeps : memberCount s.chargingSet ≠ 0 →
      ¬ (memberCount s.recharge.members = 0 ∧ s.recharge.state = .off ∧ s.recharge.lastHoldup = .online) →
        formSet (refreshRecharge s) = s.setTaken :=
    fun h hno => formSet_keeps h fun ⟨hhad, hst, hon⟩ =>
      hno ⟨hhad, hstate.symm.trans hst, hholdup.symm.trans hon⟩
  have hrunning : memberCount s.chargingSet ≠ 0 → s.recharge.state ≠ .off → formSet (refreshRecharge s) = s.setTaken :=
    fun h hne => hkeeps h fun e => hne e.2.1
  rw [sampleRegulator_eq]
  have hiSet : s.setTaken.recharge.iSet = s.recharge.iSet := by rw [hw]
  have hlastH : s.setTaken.recharge.lastH = s.recharge.lastH := by rw [hw]
  have hyielded : s.setTaken.recharge.yielded = s.recharge.yielded := by rw [hw]
  have hlimit : s.setTaken.recharge.tChgLimInForce = s.settings.recharge.tChgLim := by rw [hw]
  have hmembers : s.setTaken.recharge.members = s.chargingSet := by rw [hw]
  have hsame : s.settings.recharge.iFloor = s.setTaken.recharge.iSet →
      ¬ s.setTaken.shortOf (chargePower s.settings.recharge.iFloor s.setTaken.busV) := fun e => by
    rw [e, hiSet]
    exact hbear
  generalize s.setTaken = w at *
  have hne {a b : RegState} (hst : s.recharge.state = a) (h : a ≠ b) : s.recharge.state ≠ b := by rw [hst]; exact h
  refine ⟨fun hc => ?_, fun hc hon hr => ?_, fun hc hon hr hhot => ?_, fun hc hon hr hcool => ?_, fun hc hno hst => ?_,
    fun hc hst hhot => ?_, fun hc hst hcool => ?_, fun hc hst hcool => ?_, fun hc hst hwarm => ?_⟩
  · by_cases hst : s.recharge.state = .off
    · rw [hempty hc hst, temper_off (hstate.trans hst)]
      exact ⟨hstate.trans hst, hiSet.trans (hidle (.inl hst)), fun h => absurd hst h⟩
    · have hoff := (regulatorOff_spec w).2
      rw [hstops hc hst, temper_off (by rw [hoff]; rfl), hoff]
      exact ⟨rfl, rfl, fun _ => (Recharge.stopped_rests _ _).2⟩
  · have hcount : memberCount w.recharge.members ≠ 0 := by rw [hmembers]; exact hc
    obtain ⟨hpstep, hrec, hraised, -⟩ := pauseRegulator_spec codeNoRoom w
    have hstays : startRegulator w = pauseRegulator codeNoRoom w := startRegulator_roomless hcount (hroom.2 hr)
    have hthr : ¬ s.restartThreshold ≤ s.recharge.lastH := fun h => not_roomless_of_threshold h hr
    rcases hon with ⟨hhad, hst, honline⟩ | ⟨-, hreached⟩
    · have hpaused : (pauseRegulator codeNoRoom w).recharge.state = .paused := by rw [hrec]; rfl
      rw [hstarts hc hhad hst honline, hstays, temper_paused hpaused,
        restartIfRoom_stays (by rw [hpstep.threshold, hpstep.lastH, hthreshold, hlastH]; exact hthr), hrec]
      rw [hlastH] at hraised
      exact ⟨rfl, (Recharge.stopped_rests _ _).2, hraised⟩
    · exact absurd hreached hthr
  · have hcount : memberCount w.recharge.members ≠ 0 := by rw [hmembers]; exact hc
    have hnr : ¬ w.roomless := fun h => hr (hroom.1 h)
    have hhot' : w.recharge.tChgLimInForce < w.sourceTemp := by rw [hlimit]; exact hhot
    rcases hon with ⟨hhad, hst, honline⟩ | ⟨hst, hreached⟩
    · rw [hstarts hc hhad hst honline]
      exact temper_start_heats hcount hnr (hiSet.trans (hidle (.inl hst))) hhot'
    · rw [hrunning hc (hne hst nofun), temper_paused (hstate.trans hst), restartIfRoom_room (by rw [hthreshold, hlastH]; exact hreached)]
      exact startRegulator_heats hcount hnr (hiSet.trans (hidle (.inr hst))) hhot'
  · have hcount : memberCount w.recharge.members ≠ 0 := by rw [hmembers]; exact hc
    have hnr : ¬ w.roomless := fun h => hr (hroom.1 h)
    have hcool' : ¬ w.recharge.tChgLimInForce < w.sourceTemp := by rw [hlimit]; exact hcool
    rw [← hset]
    rcases hon with ⟨hhad, hst, honline⟩ | ⟨hst, hreached⟩
    · rw [hstarts hc hhad hst honline]
      exact temper_start_cruises hcount hnr (hiSet.trans (hidle (.inl hst))) hcool'
    · rw [hrunning hc (hne hst nofun), temper_paused (hstate.trans hst), restartIfRoom_room (by rw [hthreshold, hlastH]; exact hreached)]
      exact startRegulator_outcome hcount hnr (hiSet.trans (hidle (.inr hst))) hcool'
  · have hform : formSet (refreshRecharge s) = w := hkeeps hc fun e => hno (.inl e)
    rw [hform]
    rcases hst with hst | hst
    · rw [temper_off (hstate.trans hst)]
      exact ⟨hstate, hiSet.trans (hidle (.inl hst))⟩
    · rw [temper_paused (hstate.trans hst),
        restartIfRoom_stays (by rw [hthreshold, hlastH]; exact fun h => hno (.inr ⟨hst, h⟩))]
      exact ⟨hstate, hiSet.trans (hidle (.inr hst))⟩
  · have hoff : s.recharge.state ≠ .off := hst.elim (fun e => hne e nofun) fun e => hne e nofun
    rw [hrunning hc hoff, temper_running (by rw [hstate]; exact hst), if_pos (by rw [hlimit]; exact hhot)]
    exact enterThermal_outcome (by rw [hset]; exact hsame)
  · have hoff : s.recharge.state ≠ .off := hst.elim (fun e => hne e nofun) fun e => hne e nofun
    rw [hrunning hc hoff, temper_running (by rw [hstate]; exact hst), if_neg (by rw [hlimit]; exact hcool)]
    exact ⟨hstate, hiSet, hyielded⟩
  · rw [hrunning hc (hne hst nofun), temper_thermal (hstate.trans hst), if_pos (by rw [hlimit]; exact hcool), hset]
    exact enterCruise_outcome hsame
  · rw [hrunning hc (hne hst nofun), temper_thermal (hstate.trans hst), if_neg (by rw [hlimit]; exact hwarm)]
    exact ⟨hstate.trans hst, hiSet⟩

end Judged

end Sys2Proof.Machine
end

section
/-! PROOFS. O53, assembled. -/

namespace Sys2Proof.Machine

theorem shortOf_int (s : State) (p : Nat) :
    s.shortOf p ↔ s.online = true ∧ (s.budget.cap : Int) - s.commitmentSum - (p : Int) < 0 ∧ (0 : Int) < (p : Int) := by
  rw [State.shortOf, Int.natCast_pos]

theorem passInterval_commitmentSum (s : State) : (passInterval s).commitmentSum = s.commitmentSum := by
  refine congrArg List.sum (List.map_congr_left fun n _ => ?_)
  have hset : (passInterval s).settings = s.settings := by simp only [passInterval]
  rw [hset, passInterval_slots]
  exact commitment_congr _ rfl rfl

theorem exec_headroomPublication {s : State} (h : s.running) : exec .headroomPublication s = .next (headroomPublication s) := by
  show execHeadroomPublication s = _
  rw [execHeadroomPublication, whenRunning_of_running h]

theorem exec_reservePublication {s : State} (h : s.running) : exec .reservePublication s = .next (reservePublication s) := by
  show execReservePublication s = _
  rw [execReservePublication, whenRunning_of_running h]

theorem exec_headReport {s : State} (h : s.running) : exec .headReport s = .next (headReport s) := by
  show execHeadReport s = _
  rw [execHeadReport, whenRunning_of_running h]

section Sampled
variable {codes : Vector (BitVec 12) 29} {s : State}

/-- R88: the state in which the regulator is found on a sample set that leaves the holdup state and grants no head. -/
theorem lateSampled_found (hstate : (sampleSet codes s).holdup.state = s.holdup.state) (hquiet : s.grantless) :
    let l := s.lateSampled codes
    let lacks := s.online = true ∧ (l.budget.cap : Int) - s.commitmentSum - (chargePower s.recharge.iSet l.busV : Int) < 0 ∧
      (0 : Int) < (chargePower s.recharge.iSet l.busV : Int)
    l.online = s.online ∧ ¬ l.mustPause ∧ (lacks → l.recharge.state = .paused ∧ l.recharge.iSet = 0) ∧
      (¬ lacks → l.recharge.state = s.recharge.state ∧ l.recharge.iSet = s.recharge.iSet ∧ l.recharge.yielded = s.recharge.yielded) ∧
      l.recharge.lastHoldup = s.recharge.lastHoldup := by
  intro l
  obtain ⟨w, he⟩ := lateSampled_eased hstate hquiet
  have hcap := capacitated_spec codes s
  have hl : Eased w (recompute (s.capacitated codes)) l := he
  generalize s.capacitated codes = v at hcap hl
  generalize l = l' at hl ⊢
  intro lacks
  have hr := (Ripple.refl v).recompute
  have hpass : (passInterval s).holdup.state = s.holdup.state := by simp only [passInterval]
  have honline : v.online = s.online := by rw [State.online, hcap.holdup, hpass]; rfl
  have hsum : v.commitmentSum = s.commitmentSum := by
    have hset : (passInterval s).settings = s.settings := by simp only [passInterval]
    rw [← passInterval_commitmentSum s]
    exact commitmentSum_congr (hcap.settings.trans hset.symm) (congrArg Sequencer.slots hcap.seq)
  have hrec := hcap.recharge.trans (passInterval_recharge s)
  have hpause : v.mustPause ↔ lacks := by
    have hcapv : l'.budget.cap = v.budget.cap := hl.cap.trans hr.cap
    have hbusv : l'.busV = v.busV := hl.busV.trans hr.busV
    have hiSet : v.recharge.iSet = s.recharge.iSet := by rw [hrec]
    rw [mustPause_iff, shortOf_int, honline, hsum, hiSet, ← hcapv, ← hbusv]
  have hlast : (recompute v).recharge.lastHoldup = s.recharge.lastHoldup := by
    rw [hr.recharge]
    show v.recharge.lastHoldup = _
    rw [hrec]
  refine ⟨hl.online.trans (hr.online.trans honline), hl.bears (not_mustPause_recompute v), fun h => ?_, fun h => ?_,
    (congrArg Recharge.lastHoldup hl.recharge).trans hlast⟩
  · rw [hl.recharge, recompute_recharge_pause (hpause.2 h)]
    exact ⟨rfl, rfl⟩
  · rw [hl.recharge, recompute_recharge_same (fun hp => h (hpause.1 hp)), hrec]
    exact ⟨rfl, rfl, rfl⟩

theorem lateSampled_rechargeSettings (codes : Vector (BitVec 12) 29) (s : State) :
    (s.lateSampled codes).settings.recharge = s.settings.recharge := by
  rw [lateSampled_settings codes s]

theorem setTaken_sending (s : State) : KeepsSending s s.setTaken := by
  have htouches : Touches (· = causeRecharge) (refreshRecharge s) s.setTaken := by
    unfold State.setTaken takeSet
    split
    · exact .refl _ _
    · exact ((Touches.refl _ _).setRecharge _).reshare
  exact (KeepsSending.of_touches htouches causeDeficit_ne_recharge : KeepsSending (refreshRecharge s) s.setTaken)

/-- What the regulator has been told stands on a sample set, but for what the set refreshes (R82). -/
theorem sampleSet_told (codes : Vector (BitVec 12) 29) (s : State) :
    let y := (sampleSet codes s).recharge
    y.members = (s.lateSampled codes).chargingSet ∧ y.sourceInForce = s.settings.recharge.source ∧
      y.tChgLimInForce = s.settings.recharge.tChgLim ∧ y.lastH = s.recharge.lastH ∧ y.lastBand = s.recharge.lastBand ∧
      y.lastInhibit = s.recharge.lastInhibit ∧ y.lastHead = s.recharge.lastHead := by
  intro y
  have hcopies := lateSampled_copies codes s
  have hset := lateSampled_rechargeSettings codes s
  have hy : y = (sampleRegulator (s.lateSampled codes)).recharge := rfl
  generalize s.lateSampled codes = l at hcopies hset hy ⊢
  have hrec := (sampleRegulator_taken l).ripple.recharge
  rw [← hy, setTaken_recharge, hset] at hrec
  have hl := hcopies.recharge
  generalize l.recharge = z at hl hrec
  generalize l.setTaken.recharge.shares = shares at hrec
  rw [hrec, hl]
  exact ⟨rfl, rfl, rfl, rfl, rfl, rfl, rfl⟩

theorem sampleSet_members (codes : Vector (BitVec 12) 29) (s : State) (i : BbuId) :
    (sampleSet codes s).recharge.members[i] =
      ((sampleSet codes s).charge.bbus[i].state == .charging && !(sampleSet codes s).sense.pub[bbuTPoint i].alarm) := by
  rw [sampleSet_lateSampled]
  exact sampleRegulator_members _ i

theorem sampleSet_shared (codes : Vector (BitVec 12) 29) (s : State) (h : Shared s) : Shared (sampleSet codes s) := by
  rw [sampleSet_lateSampled]
  exact (lateSampled_shared codes s h).sampleRegulator

/-- The cases of `Regulated`, for the regulator as a sample set finds it. -/
theorem sampleSet_regulated (hstate : (sampleSet codes s).holdup.state = s.holdup.state) (hquiet : s.grantless)
    (hidle : s.recharge.state = .off ∨ s.recharge.state = .paused → s.recharge.iSet = 0) :
    Regulated (s.lateSampled codes) (s.lateSampled codes).setTaken (sampleSet codes s) := by
  obtain ⟨-, hbears, hlacks, hkeeps, -⟩ := lateSampled_found hstate hquiet
  refine sampleRegulator_regulated (fun h => ?_) hbears
  by_cases hl : s.online = true ∧ ((s.lateSampled codes).budget.cap : Int) - s.commitmentSum -
      (chargePower s.recharge.iSet (s.lateSampled codes).busV : Int) < 0 ∧
      (0 : Int) < (chargePower s.recharge.iSet (s.lateSampled codes).busV : Int)
  · exact (hlacks hl).2
  · obtain ⟨hst, hi, -⟩ := hkeeps hl
    rw [hi]
    rw [hst] at h
    exact hidle h

/-- How the regulator stands on a sample set: `l` as it is found, `w` with the charging set taken, `t` at the end. -/
structure SetJudged (s l w t : State) : Prop where
  step : RegulatorStep w t
  base : RegulatorStep l.assembled t
  taken : RegulatorStep l.assembled w
  sends : KeepsSending s w
  settings : l.settings.recharge = s.settings.recharge
  copies : Copies s l
  members : t.recharge.members = l.chargingSet
  regulated : t.holdup.state = s.holdup.state → s.grantless → (s.recharge.state = .off ∨ s.recharge.state = .paused → s.recharge.iSet = 0) →
    Regulated l w t
  found : t.holdup.state = s.holdup.state → s.grantless →
    let lacks := s.online = true ∧ (l.budget.cap : Int) - s.commitmentSum - (chargePower s.recharge.iSet l.busV : Int) < 0 ∧
      (0 : Int) < (chargePower s.recharge.iSet l.busV : Int)
    l.online = s.online ∧ ¬ l.mustPause ∧ (lacks → l.recharge.state = .paused ∧ l.recharge.iSet = 0) ∧
      (¬ lacks → l.recharge.state = s.recharge.state ∧ l.recharge.iSet = s.recharge.iSet ∧ l.recharge.yielded = s.recharge.yielded) ∧
      l.recharge.lastHoldup = s.recharge.lastHoldup

theorem sampleSet_judged (codes : Vector (BitVec 12) 29) (s : State) :
    SetJudged s (s.lateSampled codes) (s.lateSampled codes).setTaken (sampleSet codes s) where
  step := by
    rw [sampleSet_lateSampled]
    exact sampleRegulator_taken _
  base := by
    rw [sampleSet_lateSampled]
    exact sampleRegulator_step _
  taken := setTaken_assembled _
  sends := (lateSampled_sending codes s).trans (setTaken_sending _)
  settings := lateSampled_rechargeSettings codes s
  copies := lateSampled_copies codes s
  members := (sampleSet_told codes s).1
  regulated hstate hquiet hidle := sampleSet_regulated hstate hquiet hidle
  found hstate hquiet := lateSampled_found hstate hquiet

end Sampled

end Sys2Proof.Machine

open Sys2Proof Sys2Proof.Machine

/-- Settles O53: each publication is delivered by its consumers' steps, the last of them standing in their copies; on a sample set the
regulator finds the state the recompute left it in, and goes on by the cases of `Regulated`. -/
theorem publicationsReachTheirConsumers : Obligations.PublicationsReachTheirConsumers := by
  intro s hrun set x power short
  refine ⟨⟨headroomPublication s, exec_headroomPublication hrun, headroomPublication_none, fun p hp => ?_,
    fun p m rest hp hq hm => ?_, fun p hp hq => ?_⟩,
    ⟨reservePublication s, exec_reservePublication hrun, reservePublication_none, fun p hp => ?_, fun p hp => ?_⟩,
    ⟨headReport s, exec_headReport hrun, headReport_none, fun r hr => ?_, fun r hr => ?_⟩,
    fun codes => ⟨sampleSet codes s, exec_sampleSet_running codes hrun, ?_⟩⟩
  · obtain ⟨u, e⟩ := headroomPublication_last hp
    rw [e]
    exact deliverHeadroom_told p u
  · rw [headroomPublication_single hp, deliverHeadroom_seq]
    exact headroomHeard_grants (s := s.headroomTaken) hq hm
  · obtain ⟨y, hy, e⟩ := headroomHeard_calm (s := s.headroomTaken) (h := p.1) hq
    have hjudged := regulatorHeadroom_judges p.1 (s.headroomTaken.setSeq y)
    have hrecharge : (headroomPublication s).recharge = (regulatorHeadroom p.1 (s.headroomTaken.setSeq y)).recharge := by
      rw [headroomPublication_single hp, deliverHeadroom_eq, e]
      rfl
    have hsum : (s.headroomTaken.setSeq y).commitmentSum = s.commitmentSum := commitmentSum_congr (s := s) rfl hy
    obtain ⟨hidle, hlow, hfloor, hwaits, hstarts⟩ := hjudged
    intro threshold
    rw [hrecharge]
    refine ⟨hidle, hlow, fun hst hband => ?_, hwaits, fun hst hthr hsome hcool hbears => ?_⟩
    · rw [hfloor hst hband]
      exact ⟨rfl, rfl, rfl, rfl⟩
    · rw [hstarts hst hthr hsome hcool fun h => hbears ?_]
      · exact ⟨rfl, rfl, rfl⟩
      · rw [shortOf_int, hsum] at h
        exact h
  · obtain ⟨u, e⟩ := reservePublication_last hp
    rw [e]
    exact deliverReserve_told p u
  · rw [reservePublication_single hp]
    exact deliverReserve_judges p s.reserveTaken
  · obtain ⟨u, e⟩ := headReport_last hr
    rw [e]
    exact regulatorHead_lastHead r u
  · intro yields
    rw [headReport_single hr, regulatorHead_eq]
    refine ⟨fun h => ?_, fun need hneed hyields => ?_⟩
    · rw [tryYield_stays h]
      show (s.reportsTaken.setRecharge _ : State) = _
      rw [← Bool.and_assoc]
      rfl
    · intro target new
      refine ⟨Ripple.trans (((Ripple.refl _).setSeq _).setSetpoint _ rfl) (tryYield_step _).ripple, fun hbears => ?_⟩
      rw [tryYield_recharge (s := s.reportsTaken.headTold r) hneed hyields fun h => hbears ?_]
      · rfl
      · rw [shortOf_int] at h
        exact h
  · have hjudged := sampleSet_judged codes s
    have htold := sampleSet_told codes s
    have hmembers := sampleSet_members codes s
    have hshared := sampleSet_shared codes s
    beta_reduce
    generalize (s.lateSampled codes).setTaken = w at hjudged
    generalize s.lateSampled codes = l at hjudged htold
    generalize sampleSet codes s = t at hjudged htold hmembers hshared ⊢
    intro y draws lacks rests had has found hot starts room cruises heats
    obtain ⟨-, hsource, hlimit, hlastH, hlastBand, hinhibit, hhead⟩ := htold
    refine ⟨hmembers, hshared, hsource, hlimit, hlastH, hlastBand, hinhibit, hhead, fun hstate hquiet hidle => ?_⟩
    obtain ⟨hstep, hbase, htaken, hsends, hset, hcopies, hcharging, hregulated, hfoundAt⟩ := hjudged
    obtain ⟨honline, -, hlacks, hkept, hholdup⟩ := hfoundAt hstate hquiet
    have hlacksNow (i : Nat) : lacks t.commitmentSum i ↔ w.shortOf (chargePower i w.busV) := by
      have hsum := commitmentSum_congr hstep.ripple.settings (congrArg Sequencer.slots hstep.seq)
      rw [shortOf_int, htaken.ripple.online.trans honline, ← hsum, ← hstep.ripple.cap, ← hstep.ripple.busV]
      rfl
    have hlacksThen : lacks s.commitmentSum x.iSet ↔ s.online = true ∧ (l.budget.cap : Int) - s.commitmentSum -
        (chargePower s.recharge.iSet l.busV : Int) < 0 ∧ (0 : Int) < (chargePower s.recharge.iSet l.busV : Int) := by
      rw [show l.budget.cap = t.budget.cap from hbase.ripple.cap.symm, show l.busV = t.busV from hbase.ripple.busV.symm]
      rfl
    rw [← hlacksThen] at hlacks hkept
    have hstateAt : l.recharge.state = found := by
      by_cases hl : lacks s.commitmentSum x.iSet
      · exact (hlacks hl).1.trans (if_pos hl).symm
      · exact (hkept hl).1.trans (if_neg hl).symm
    have hiSetAt (h : found ≠ .paused) : l.recharge.iSet = x.iSet ∧ l.recharge.yielded = x.yielded := by
      have hl : ¬ lacks s.commitmentSum x.iSet := fun hl => h (if_pos hl)
      exact (hkept hl).2
    have hlastHAt : l.recharge.lastH = x.lastH := by rw [hcopies.recharge]
    have hmembersAt : l.recharge.members = x.members := by rw [hcopies.recharge]
    have hdraws (i : Nat) : l.chargePowerOf i = draws i := by
      show (chargePower i l.busV : Int) = _
      rw [show l.busV = t.busV from hbase.ripple.busV.symm]
      rfl
    have hhas : has ↔ memberCount l.chargingSet ≠ 0 := by
      rw [← hcharging]
      exact memberCount_ne_zero_iff.symm
    have hhad : ¬ had ↔ memberCount l.recharge.members = 0 := by
      rw [hmembersAt, ← not_iff_not, not_not]
      exact memberCount_ne_zero_iff.symm
    have hstarts : starts ↔ l.startsOn := by
      unfold State.startsOn State.restartThreshold
      rw [← hhad, hstateAt, hholdup, hlastHAt, hset, hdraws]
    have hroom : room ↔ ¬ l.roomless := by
      unfold State.roomless
      rw [hlastHAt, hset, hdraws, Int.not_lt]
    have htemp : t.sourceTemp = w.sourceTemp := hstep.sourceTemp
    have hwset : w.settings.recharge = set := (congrArg Settings.recharge htaken.ripple.settings).trans hset
    have hcruises {i : Nat} (h : Cruises w i y) : cruises i := by
      refine ⟨fun hl => h.short ((hlacksNow i).1 hl), fun hl => ?_⟩
      have hb := h.bears fun e => hl ((hlacksNow i).2 e)
      rw [State.stepTime, hwset] at hb
      exact hb
    have hheats (h : Heats w t) : heats := by
      obtain ⟨hshort, hbears⟩ := h
      rw [hwset, ← hlacksNow] at hshort hbears
      refine ⟨hshort, fun hl => ?_⟩
      obtain ⟨hst, hrests, hraised⟩ := hbears hl
      rw [← htemp] at hraised
      exact ⟨hst, hrests, hraised.late hsends⟩
    obtain ⟨hempty, hnoRoom, hstartHot, hstart, hidleAt, hhotAt, hruns, hcooled, hholds⟩ := hregulated hstate hquiet hidle
    rw [hstateAt] at hempty hidleAt hhotAt hruns hcooled hholds
    rw [← hhas] at hnoRoom hstartHot hstart hidleAt hhotAt hruns hcooled hholds
    rw [← hstarts] at hnoRoom hstartHot hstart hidleAt
    rw [hset, ← htemp] at hstartHot hstart hhotAt hruns hcooled hholds
    refine ⟨fun hno => hempty (not_not.1 fun e => hno (hhas.2 e)), fun hh hs hr => ?_, fun hh hs hr hhot => ?_, fun hh hs hr hcool => ?_,
      hidleAt, fun hh hst hhot => hheats (hhotAt hh hst hhot), fun hh hst hcool => ?_, fun hh hst hcool => hcruises (hcooled hh hst hcool),
      fun hh hst hwarm => ?_⟩
    · obtain ⟨hst, hrests, hraised⟩ := hnoRoom hh hs (not_not.1 fun e => hr (hroom.2 e))
      rw [hlastHAt] at hraised
      exact ⟨hst, hrests, hraised.late hsends⟩
    · exact hheats (hstartHot hh hs (hroom.1 hr) hhot)
    · exact hcruises (hstart hh hs (hroom.1 hr) hcool)
    · have hne : found ≠ .paused := hst.elim (fun e => by rw [e]; exact nofun) fun e => by rw [e]; exact nofun
      obtain ⟨hi, hy⟩ := hiSetAt hne
      rw [hi, hy] at hruns
      exact hruns hh hst hcool
    · obtain ⟨hi, -⟩ := hiSetAt (by rw [hst]; exact nofun)
      rw [hi] at hholds
      exact hholds hh hst (Int.not_le.2 hwarm)
end

section
/-! PROOFS. O32, the budget unit on a sample set: the class of each PSU and the capacity (R19, R20, R23, R24). -/

namespace Sys2Proof.Machine

/-- In a fold over distinct items the steps around that of `a` are related by `R`. -/
theorem foldl_around {α : Type} {R : State → State → Prop} (hrefl : ∀ u, R u u) (htrans : ∀ {t u v}, R t u → R u v → R t v)
    {f : State → α → State} {l : List α} {a : α} (ha : a ∈ l) (hl : l.Nodup) (h : ∀ b, b ≠ a → ∀ u, R u (f u b)) (s : State) :
    ∃ u, R s u ∧ R (f u a) (l.foldl f s) := by
  obtain ⟨before, after, rfl⟩ := List.append_of_mem ha
  rw [List.nodup_middle, List.nodup_cons, List.mem_append, not_or] at hl
  obtain ⟨⟨hbefore, hafter⟩, -⟩ := hl
  refine ⟨before.foldl f s, ?_, ?_⟩
  · exact List.foldlRecOn (motive := R s) before f (hrefl s) fun u hu b hb => htrans hu (h b (fun e => hbefore (e ▸ hb)) u)
  · rw [List.foldl_append, List.foldl_cons]
    exact List.foldlRecOn (motive := R _) after f (hrefl _) fun u hu b hb => htrans hu (h b (fun e => hafter (e ▸ hb)) u)

/-! ### The PSUs (R19, R20) -/

/-- PSU `k` and the published set are those of `s`. -/
structure KeepsPsu (k : PsuId) (s t : State) : Prop where
  psu : t.budget.psus[k] = s.budget.psus[k]
  sense : t.sense = s.sense

theorem reclassifyPsu_sense (k : PsuId) (s : State) : (reclassifyPsu k s).sense = s.sense := base_sense (reclassifyPsu_base k s)

theorem psuIds_nodup : psuIds.Nodup := by decide

theorem mem_psuIds (k : PsuId) : k ∈ psuIds := by revert k; decide

/-- R19: the class of each PSU. -/
theorem psusClassed_psu (k : PsuId) (s : State) :
    s.psusClassed.budget.psus[k] = { s.budget.psus[k] with state := s.psuClassOf k } := by
  have hothers (b : PsuId) (hb : b ≠ k) (u : State) : KeepsPsu k u (reclassifyPsu b u) :=
    ⟨by rw [reclassifyPsu_psus, get_set_other _ _ hb], reclassifyPsu_sense b u⟩
  obtain ⟨u, hbefore, hafter⟩ := foldl_around (R := KeepsPsu k) (f := fun s k => reclassifyPsu k s) (fun u => ⟨rfl, rfl⟩)
    (fun h h' => ⟨h'.psu.trans h.psu, h'.sense.trans h.sense⟩) (mem_psuIds k) psuIds_nodup hothers s
  have hclass : u.psuClassOf k = s.psuClassOf k := by rw [State.psuClassOf, State.psuClassOf, hbefore.psu, hbefore.sense]
  unfold State.psusClassed
  generalize psuIds.foldl (fun s k => reclassifyPsu k s) s = v at hafter ⊢
  rw [hafter.psu, reclassifyPsu_psus, get_set_same, hclass, hbefore.psu]

/-! ### What follows leaves the PSUs and the capacity -/

section Refigures
variable {s t : State}

/-- The capacity and the PSUs are those of `s`. -/
def Refigures (s t : State) : Prop := s.budget.Refigured t.budget

theorem Refigures.of_eq (h : Refigures s t) {u : State} (e : u.budget = t.budget) : Refigures s u := h.trans (.of_eq e)

theorem Refigures.swell {u : State} (h : Refigures s t) (k : Swell t u) : Refigures s u := h.trans k.refigured

theorem Refigures.ease (s : State) : EaseInvariant (Refigures s) where
  seqEvent h := h.swell (Swell.refl _).seqEvent
  setSlot h _ := h.of_eq rfl
  leaveQueue h := h.of_eq rfl
  lineWatch h := ite_keeps (P := Refigures s) (h.of_eq rfl) h
  report h := h.of_eq (reportCondition_budget _ _ _)
  recompute h := h.swell (Swell.refl _).recompute

theorem Refigures.leak (s : State) : LeakInvariant (Refigures s) where
  lineWatch h := (ease s).lineWatch h
  lockZone h := (ease s).lockZone h _
  shedZone h := (ease s).shedZone h _
  setZone h := h.of_eq rfl
  spendFree h := h.of_eq rfl
  reportZone h := h.of_eq (reportCondition_budget _ _ _)
  raiseZone h := h.of_eq (raise_budget _ _ _ _)
  reportRope h := h.of_eq (reportCondition_budget _ _ _)
  raiseRope h := h.of_eq (raise_budget _ _ _ _)

theorem sampleHoldup_refigured (c : State) : c.budget.Refigured (sampleHoldup c).budget := by
  have hjudged := judgeAc_refigured c.acTaken
  have hnoted : (noteFirstSet c.acTaken).budget = c.budget := by
    obtain ⟨x, -, e⟩ := noteFirstSet_eq c.acTaken
    rw [e]
    rfl
  have hcollapse (u : State) : (judgeCollapse u).budget = u.budget := by
    obtain ⟨x, -, e⟩ := judgeCollapse_eq u
    rw [e]
    rfl
  rw [sampleHoldup_eq]
  split
  · exact .of_eq hnoted
  · split
    · exact hjudged.trans (.of_eq (hcollapse _))
    · exact hjudged

theorem lateSampled_refigured (codes : Vector (BitVec 12) 29) (s : State) :
    (s.capacitated codes).budget.Refigured (sampleSet codes s).budget := by
  rw [sampleSet_lateSampled]
  have hready : Refigures (s.capacitated codes) (s.readied codes) := by
    rw [readied_capacitated]
    generalize s.capacitated codes = v
    have hb : Refigures v (recompute v) := (Swell.refl v).recompute.refigured
    have hsteps := bbusSampled_step (recompute v) (!s.sense.seen)
    generalize recompute v = b at hb hsteps ⊢
    exact (hb.of_eq (by rw [hsteps.frame])).swell (Swell.refl _).recomputeReserve
  have hholdup : Refigures (s.capacitated codes) (sampleHoldup (s.readied codes)) := hready.trans (sampleHoldup_refigured _)
  have hlate : Refigures (s.capacitated codes) (s.lateSampled codes) := (Refigures.leak _).sampleLeak hholdup
  generalize s.capacitated codes = v at hlate ⊢
  generalize s.lateSampled codes = l at hlate ⊢
  have hstep := Swell.of_regulator (sampleRegulator_step l)
  have hassembled : l.assembled.budget = l.budget := rfl
  exact (hlate.of_eq hassembled).swell hstep

end Refigures

end Sys2Proof.Machine
end

section
/-! PROOFS. O32: the judgement of one BBU on a sample set, as a verdict on its record and what enacting it leaves (R37 to R45, R56). -/

namespace Sys2Proof.Machine

/-! ### The verdict -/

/-- What the judgement of a BBU comes to. -/
inductive Verdict where
  | stays
  | moves (st : BbuState)
  | fails
  | anchors
  | tapers (k : Nat)
  | completes

/-- The anchor condition on a voltage and a current (R45). -/
def BbuSettings.floats (set : BbuSettings) (volt c : Int) : Bool :=
  decide ((set.vFloat : Int) ≤ volt ∧ 0 ≤ c ∧ c ≤ (set.iTaper : Int))

/-- The verdict on a BBU in CHARGING that is not discharging (R39, R45). -/
def chargingVerdict (set : BbuSettings) (b : Bbu) (c volt : Int) : Verdict :=
  if set.anchor then
    if set.floats volt c then (if set.taperTime ≤ b.taper + 1 then .anchors else .tapers (b.taper + 1)) else .tapers 0
  else if b.full then .moves .standby else .tapers 0

/-- The verdict by the state of the BBU, after integration (R38 to R40, R56). -/
def verdictOf (set : BbuSettings) (b : Bbu) (c volt temp : Int) (tests online : Bool) : Verdict :=
  if b.state = .absent then .stays
  else if b.state = .fault then
    if b.faultIn = false ∧ temp < set.tCrit then .moves (restState set b.q) else .stays
  else if set.tCrit ≤ temp then .fails
  else
    match b.state with
    | .standby =>
      if c ≤ -(set.detect : Int) then .moves .discharging else if b.q ≤ set.rechargePoint then .moves .charging else .stays
    | .charging => if c ≤ -(set.detect : Int) then .moves .discharging else chargingVerdict set b c volt
    | .discharging =>
      if volt ≤ (set.vCutoff : Int) then .moves .depleted
      else if c ≤ -(set.detect : Int) then .stays else .moves (restState set b.q)
    | .testing => if tests = true ∧ volt ≤ (set.vCutoff : Int) then .completes else .stays
    | .depleted => if online then .moves .charging else .stays
    | .absent | .fault => .stays

/-- The verdict on BBU `i` (R38 to R40). -/
def State.verdict (s : State) (i : BbuId) : Verdict :=
  verdictOf s.settings.bbus[i] s.charge.bbus[i] (s.pubValue (bbuIPoint i)) (s.pubValue (bbuVPoint i)) (s.pubValue (bbuTPoint i))
    (s.testing i) s.online

/-- The verdict carried out. -/
def Verdict.enact (w : Verdict) (i : BbuId) (s : State) : State :=
  match w with
  | .stays => s
  | .moves st => changeBbu i st s
  | .fails => failBbu i .fault s
  | .anchors => anchorBbu i s
  | .tapers k => s.setBbu i { s.charge.bbus[i] with taper := k }
  | .completes => completeTest i s

theorem enact_ite {c : Prop} {_ : Decidable c} (w w' : Verdict) (i : BbuId) (s : State) :
    (if c then w else w').enact i s = if c then w.enact i s else w'.enact i s := by split <;> rfl

theorem judgeCharging_verdict (i : BbuId) (s : State) :
    judgeCharging i s =
      (chargingVerdict s.settings.bbus[i] s.charge.bbus[i] (s.pubValue (bbuIPoint i)) (s.pubValue (bbuVPoint i))).enact i s := by
  unfold chargingVerdict judgeCharging
  simp only [enact_ite]
  rfl

theorem judgeBbu_verdict (i : BbuId) (s : State) : judgeBbu i s = (s.verdict i).enact i s := by
  unfold State.verdict verdictOf judgeBbu
  simp only [enact_ite, judgeCharging_verdict, Bool.and_eq_true, Bool.not_eq_true', decide_eq_true_eq]
  cases s.charge.bbus[i].state with
  | standby | charging | discharging | testing | depleted => simp only [enact_ite]; rfl
  | absent | fault => rfl

/-- The state that a verdict leaves. -/
def Verdict.next (w : Verdict) (st : BbuState) : BbuState :=
  match w with
  | .stays | .tapers _ => st
  | .moves st' => st'
  | .fails => .fault
  | .anchors => .standby
  | .completes => .charging

/-- A verdict that moves the BBU moves it to another state. -/
def Verdict.Sound (w : Verdict) (st : BbuState) : Prop :=
  match w with
  | .stays | .tapers _ | .anchors => True
  | .moves st' => st ≠ st'
  | .fails => st ≠ .fault
  | .completes => st = .testing

theorem restState_cases (set : BbuSettings) (q : Nat) : restState set q = .standby ∨ restState set q = .charging := by
  unfold restState
  split
  · exact .inl rfl
  · exact .inr rfl

theorem restState_ne {set : BbuSettings} {q : Nat} {st : BbuState} (hs : st ≠ .standby) (hc : st ≠ .charging) : st ≠ restState set q := by
  rcases restState_cases set q with e | e <;> rw [e]
  · exact hs
  · exact hc

section Cases
variable {set : BbuSettings} {b : Bbu} {c volt temp : Int} {tests online : Bool}

theorem verdictOf_absent (h : b.state = .absent) : verdictOf set b c volt temp tests online = .stays := if_pos h

theorem verdictOf_fault (h : b.state = .fault) :
    verdictOf set b c volt temp tests online =
      if b.faultIn = false ∧ temp < set.tCrit then .moves (restState set b.q) else .stays := by
  unfold verdictOf
  rw [if_neg (by rw [h]; exact nofun), if_pos h]

theorem verdictOf_hot (ha : b.state ≠ .absent) (hf : b.state ≠ .fault) (hot : set.tCrit ≤ temp) :
    verdictOf set b c volt temp tests online = .fails := by
  unfold verdictOf
  rw [if_neg ha, if_neg hf, if_pos hot]

theorem verdictOf_standby (h : b.state = .standby) (cool : ¬ set.tCrit ≤ temp) :
    verdictOf set b c volt temp tests online =
      if c ≤ -(set.detect : Int) then .moves .discharging else if b.q ≤ set.rechargePoint then .moves .charging else .stays := by
  unfold verdictOf
  simp only [h, if_neg cool]
  rfl

theorem verdictOf_charging (h : b.state = .charging) (cool : ¬ set.tCrit ≤ temp) :
    verdictOf set b c volt temp tests online =
      if c ≤ -(set.detect : Int) then .moves .discharging else chargingVerdict set b c volt := by
  unfold verdictOf
  simp only [h, if_neg cool]
  rfl

theorem verdictOf_discharging (h : b.state = .discharging) (cool : ¬ set.tCrit ≤ temp) :
    verdictOf set b c volt temp tests online =
      if volt ≤ (set.vCutoff : Int) then .moves .depleted
      else if c ≤ -(set.detect : Int) then .stays else .moves (restState set b.q) := by
  unfold verdictOf
  simp only [h, if_neg cool]
  rfl

theorem verdictOf_testing (h : b.state = .testing) (cool : ¬ set.tCrit ≤ temp) :
    verdictOf set b c volt temp tests online = if tests = true ∧ volt ≤ (set.vCutoff : Int) then .completes else .stays := by
  unfold verdictOf
  simp only [h, if_neg cool]
  rfl

theorem verdictOf_depleted (h : b.state = .depleted) (cool : ¬ set.tCrit ≤ temp) :
    verdictOf set b c volt temp tests online = if online then .moves .charging else .stays := by
  unfold verdictOf
  simp only [h, if_neg cool]
  rfl

theorem chargingVerdict_sound : (chargingVerdict set b c volt).Sound .charging := by
  unfold chargingVerdict
  split
  · split
    · split <;> exact trivial
    · exact trivial
  · split
    · exact nofun
    · exact trivial

theorem verdictOf_sound : (verdictOf set b c volt temp tests online).Sound b.state := by
  have hrest : BbuState.fault ≠ restState set b.q ∧ BbuState.discharging ≠ restState set b.q :=
    ⟨restState_ne nofun nofun, restState_ne nofun nofun⟩
  by_cases ha : b.state = .absent
  · rw [verdictOf_absent ha]
    exact trivial
  by_cases hf : b.state = .fault
  · rw [verdictOf_fault hf, hf]
    split
    · exact hrest.1
    · exact trivial
  by_cases hot : set.tCrit ≤ temp
  · rw [verdictOf_hot ha hf hot]
    exact hf
  cases hst : b.state with
  | absent => exact absurd hst ha
  | fault => exact absurd hst hf
  | standby =>
    rw [verdictOf_standby hst hot]
    split
    · exact nofun
    · split
      · exact nofun
      · exact trivial
  | charging =>
    rw [verdictOf_charging hst hot]
    split
    · exact nofun
    · exact chargingVerdict_sound
  | discharging =>
    rw [verdictOf_discharging hst hot]
    split
    · exact nofun
    · split
      · exact trivial
      · exact hrest.2
  | testing =>
    rw [verdictOf_testing hst hot]
    split
    · exact rfl
    · exact trivial
  | depleted =>
    rw [verdictOf_depleted hst hot]
    split
    · exact nofun
    · exact trivial

end Cases

end Sys2Proof.Machine
end

section
/-! PROOFS. O32: what the verdict on a BBU leaves of its record, its test, its settings and its cause (R41 to R45, R56, R57). -/

namespace Sys2Proof.Machine

/-- The same record but for the outputs (R41). -/
def Bbu.Drives (x y : Bbu) : Prop := y = { x with out := y.out }

theorem Bbu.Drives.refl (x : Bbu) : x.Drives x := rfl

theorem Bbu.Drives.trans {x y z : Bbu} (h : x.Drives y) (k : y.Drives z) : x.Drives z := by
  unfold Bbu.Drives at h k ⊢
  rw [h] at k
  exact k

/-- The record of a BBU after a verdict; `d` is the charge that its test has delivered. -/
def Verdict.record (w : Verdict) (set : BbuSettings) (b : Bbu) (d : Nat) : Bbu :=
  match w with
  | .stays => b
  | .moves st => { b with state := st, taper := 0 }
  | .fails => { b with state := .fault, taper := 0 }
  | .anchors =>
    { b with q := set.qFull, r := 0, calibrated := true, full := true, bottomed := false, state := .standby, taper := 0 }
  | .tapers k => { b with taper := k }
  | .completes => { b.tested set.qFloor (min 255 (d * 100 / set.dRated)) with state := .charging, taper := 0 }

theorem record_state (w : Verdict) (set : BbuSettings) (b : Bbu) (d : Nat) : (w.record set b d).state = w.next b.state := by
  cases w <;> rfl

section Enact
variable {i : BbuId} {s : State}

theorem changeBbu_record {st : BbuState} (h : s.charge.bbus[i].state ≠ st) :
    ({ s.charge.bbus[i] with state := st, taper := 0 } : Bbu).Drives (changeBbu i st s).charge.bbus[i] := by
  unfold Bbu.Drives
  have e : (changeBbu i st s).charge = (moveBbu i st s).charge := by rw [changeBbu_of_ne h, raise_charge]
  have hmoved := moveBbu_bbus i i st s
  rw [if_pos rfl] at hmoved
  rw [e]
  exact hmoved

/-- What a change of state leaves of the rest of the part. -/
theorem changeBbu_rest (st : BbuState) :
    (changeBbu i st s).settings = s.settings ∧ (changeBbu i st s).store = s.store ∧ (changeBbu i st s).charge.test = s.charge.test ∧
      (changeBbu i st s).charge.armed = s.charge.armed ∧ (changeBbu i st s).charge.halted = s.charge.halted := by
  have hbase := changeBbu_base i st s
  have hcharge := changeBbu_charge i st s
  exact ⟨base_settings hbase, base_store hbase, by rw [hcharge], by rw [hcharge], by rw [hcharge]⟩

theorem changeBbu_sending (st : BbuState) : KeepsSending s (changeBbu i st s) :=
  (changeBbu_touches i st s causeHoldup (causeHoldup_ne_bbu i).symm).sending

/-- The part with the counter of BBU `i` anchored (R45). -/
def State.anchorTaken (s : State) (i : BbuId) : State :=
  s.setBbu i
    { s.charge.bbus[i] with q := s.settings.bbus[i].qFull, r := 0, calibrated := true, full := true, bottomed := false }

theorem anchorBbu_eq :
    anchorBbu i s = raise (causeBbu i) s.settings.bbus[i].qFull codeAnchored (moveBbu i .standby (s.anchorTaken i)) := rfl

theorem anchorTaken_bbu : (s.anchorTaken i).charge.bbus[i] =
    { s.charge.bbus[i] with q := s.settings.bbus[i].qFull, r := 0, calibrated := true, full := true, bottomed := false } :=
  get_set_same _ _ _

theorem anchorBbu_record :
    (Verdict.anchors.record s.settings.bbus[i] s.charge.bbus[i] s.charge.test.d).Drives (anchorBbu i s).charge.bbus[i] := by
  have hmoved := moveBbu_bbus i i .standby (s.anchorTaken i)
  rw [if_pos rfl, anchorTaken_bbu] at hmoved
  unfold Bbu.Drives
  rw [anchorBbu_eq, raise_charge]
  exact hmoved

theorem anchorBbu_rest :
    (anchorBbu i s).settings = s.settings ∧ (anchorBbu i s).store = s.store ∧ (anchorBbu i s).charge.test = s.charge.test ∧
      (anchorBbu i s).charge.armed = s.charge.armed ∧ (anchorBbu i s).charge.halted = s.charge.halted := by
  have hbase := anchorBbu_base i s
  have hcharge := moveBbu_charge i .standby (s.anchorTaken i)
  rw [anchorBbu_eq] at hbase ⊢
  rw [raise_charge, hcharge]
  exact ⟨base_settings hbase, base_store hbase, rfl, rfl, rfl⟩

theorem anchorTaken_touches : Touches (fun _ => False) s (s.anchorTaken i) := .of_same rfl rfl

theorem anchorBbu_touches : Touches (· = causeBbu i) s (anchorBbu i s) := by
  rw [anchorBbu_eq]
  exact ((anchorTaken_touches.mono (Q := (· = causeBbu i)) fun _ h => h.elim).trans (moveBbu_touches i .standby _)).raise rfl _ _

theorem anchorBbu_raised : RaisedFrom s (anchorBbu i s) (causeBbu i) s.settings.bbus[i].qFull 2 := by
  rw [anchorBbu_eq, moveBbu_eq]
  exact reported_raised _ _ _ _ (anchorTaken_touches.trans (moveBbu_frame i _ (s.anchorTaken i)))

/-! ### Failing and completing (R37, R38, R56, R57) -/

theorem testEnded_charge : (s.testEnded i).charge = { s.charge with test := (s.testEnded i).charge.test } := by
  unfold State.testEnded
  split
  · rw [testTold_charge]
    rfl
  · rfl

theorem testEnded_other (h : s.testing i = false) : s.testEnded i = s := if_neg (by rw [h]; exact nofun)

theorem testEnded_testing (h : s.testing i = true) : s.testEnded i = s.testTold .abortedFault := if_pos h

theorem failBbu_record (h : s.charge.bbus[i].state ≠ .fault) :
    (Verdict.fails.record s.settings.bbus[i] s.charge.bbus[i] s.charge.test.d).Drives (failBbu i .fault s).charge.bbus[i] := by
  have hbbus := (testEnded_fields s i).1
  have hrecord := changeBbu_record (i := i) (s := s.testEnded i) (st := .fault) (by rw [hbbus]; exact h)
  rw [hbbus] at hrecord
  rw [failBbu_eq]
  exact hrecord

/-- The part with a test complete, before its cause tells of it (R56). -/
def State.testTaken (s : State) (i : BbuId) : State :=
  (takeTest i s).setCharge { (takeTest i s).charge with
    test := { s.charge.test with running := false, timer := none, result := .complete } }

/-- The part at the end of a test, before the BBU charges again (R56). -/
def State.testCompleted (s : State) (i : BbuId) : State :=
  raise causeTest s.charge.test.d (BitVec.ofNat 8 TestResult.complete.code) (s.testTaken i)

theorem completeTest_completed : completeTest i s = changeBbu i .charging (s.testCompleted i) := completeTest_eq i s

theorem testCompleted_charge : (s.testCompleted i).charge =
    { s.charge with
      bbus := s.charge.bbus.set i (s.charge.bbus[i].tested s.settings.bbus[i].qFloor
        (min 255 (s.charge.test.d * 100 / s.settings.bbus[i].dRated)))
      test := { s.charge.test with running := false, timer := none, result := .complete } } := raise_charge _ _ _ _

theorem testCompleted_settings : (s.testCompleted i).settings =
    { s.settings with bbus := s.settings.bbus.set i (s.settings.bbus[i].tested s.charge.test.d) } := base_settings (raise_base _ _ _ _)

theorem testCompleted_store : (s.testCompleted i).store =
    { s.store with
      unstored := s.store.unstored || (s.settings.bbus[i].tested s.charge.test.d).qFull != s.settings.bbus[i].qFull } :=
  base_store (raise_base _ _ _ _)

theorem completeTest_record (h : s.charge.bbus[i].state = .testing) :
    (Verdict.completes.record s.settings.bbus[i] s.charge.bbus[i] s.charge.test.d).Drives (completeTest i s).charge.bbus[i] := by
  have hbbu : (s.testCompleted i).charge.bbus[i] =
      s.charge.bbus[i].tested s.settings.bbus[i].qFloor (min 255 (s.charge.test.d * 100 / s.settings.bbus[i].dRated)) := by
    rw [testCompleted_charge]
    exact get_set_same _ _ _
  have hrecord := changeBbu_record (i := i) (s := s.testCompleted i) (st := .charging) (by
    rw [hbbu]
    show s.charge.bbus[i].state ≠ _
    rw [h]
    exact nofun)
  rw [hbbu] at hrecord
  rw [completeTest_completed]
  exact hrecord

theorem testEnded_rest : (s.testEnded i).settings = s.settings ∧ (s.testEnded i).store = s.store :=
  have hbase := (testEnded_fields s i).2.1
  ⟨base_settings hbase, base_store hbase⟩

theorem testEnded_sending : KeepsSending s (s.testEnded i) := ((testEnded_fields s i).2.2 causeHoldup (by decide)).sending

theorem testCompleted_touches : Touches (· = causeTest) s (s.testCompleted i) := by
  have htaken : Touches (· = causeTest) s (s.testTaken i) := .of_same rfl rfl
  exact htaken.raise rfl _ _

theorem testCompleted_sending : KeepsSending s (s.testCompleted i) := (testCompleted_touches causeHoldup (by decide)).sending

theorem testCompleted_raised : RaisedFrom s (s.testCompleted i) causeTest s.charge.test.d 1 :=
  (raise_raisedFrom causeTest s.charge.test.d _ (s.testTaken i)).congr rfl rfl rfl

theorem changeBbu_quiet_test (st : BbuState) : Quiet causeTest s (changeBbu i st s) :=
  changeBbu_touches i st s causeTest (causeBbu_ne_test i).symm

/-- What a verdict leaves, once it is carried out. -/
structure Enacted (w : Verdict) (i : BbuId) (s t : State) : Prop where
  record : (w.record s.settings.bbus[i] s.charge.bbus[i] s.charge.test.d).Drives t.charge.bbus[i]
  armed : t.charge.armed = s.charge.armed
  halted : t.charge.halted = s.charge.halted
  sending : KeepsSending s t
  calm : w ≠ .completes → (w = .fails → s.testing i = false) → t.charge.test = s.charge.test ∧ Touches (· = causeBbu i) s t
  ended : w = .fails → s.testing i = true →
    t.charge.test.running = false ∧ t.charge.test.result = .abortedFault ∧ RaisedFrom s t causeTest 0 5
  kept : w ≠ .completes → t.settings = s.settings ∧ t.store = s.store
  completed : w = .completes →
    t.charge.test = { s.charge.test with running := false, timer := none, result := .complete } ∧
      t.settings = { s.settings with bbus := s.settings.bbus.set i (s.settings.bbus[i].tested s.charge.test.d) } ∧
      t.store.unstored = (s.store.unstored || (s.settings.bbus[i].tested s.charge.test.d).qFull != s.settings.bbus[i].qFull) ∧
      RaisedFrom s t causeTest s.charge.test.d 1
  moved : w ≠ .anchors → w.next s.charge.bbus[i].state ≠ s.charge.bbus[i].state →
    RaisedFrom s t (causeBbu i) (w.record s.settings.bbus[i] s.charge.bbus[i] s.charge.test.d).q
      (stateCode (w.next s.charge.bbus[i].state).code)
  anchored : w = .anchors → RaisedFrom s t (causeBbu i) s.settings.bbus[i].qFull 2

theorem enacted_moves {st : BbuState} (h : s.charge.bbus[i].state ≠ st) : Enacted (.moves st) i s (changeBbu i st s) := by
  obtain ⟨hset, hstore, htest, harmed, hhalted⟩ := changeBbu_rest (i := i) (s := s) st
  exact
    { record := changeBbu_record h, armed := harmed, halted := hhalted, sending := changeBbu_sending st
      calm := fun _ _ => ⟨htest, changeBbu_touches i st s⟩, ended := nofun, kept := fun _ => ⟨hset, hstore⟩
      completed := nofun, moved := fun _ _ => changeBbu_raised h, anchored := nofun }

theorem enacted_fails (h : s.charge.bbus[i].state ≠ .fault) : Enacted .fails i s (failBbu i .fault s) := by
  have hbbus := (testEnded_fields s i).1
  have hne : (s.testEnded i).charge.bbus[i].state ≠ .fault := by rw [hbbus]; exact h
  have hcharge := testEnded_charge (i := i) (s := s)
  obtain ⟨hset', hstore'⟩ := testEnded_rest (i := i) (s := s)
  obtain ⟨hset, hstore, htest, harmed, hhalted⟩ := changeBbu_rest (i := i) (s := s.testEnded i) .fault
  have hsends := (testEnded_sending (i := i) (s := s)).trans (changeBbu_sending (i := i) .fault)
  have hraised := changeBbu_raised hne
  rw [hbbus] at hraised
  have hrecord := failBbu_record h
  rw [failBbu_eq] at hrecord ⊢
  refine
    { record := hrecord, armed := harmed.trans (by rw [hcharge]), halted := hhalted.trans (by rw [hcharge]), sending := hsends
      calm := fun _ hno => ?_, ended := fun _ ht => ?_, kept := fun _ => ⟨hset.trans hset', hstore.trans hstore'⟩
      completed := nofun, moved := fun _ _ => hraised.late testEnded_sending, anchored := nofun }
  · have e := testEnded_other (hno rfl)
    rw [e] at htest ⊢
    exact ⟨htest, changeBbu_touches i .fault s⟩
  · have e := testEnded_testing ht
    have htold := testTold_charge s .abortedFault
    have htaught : RaisedFrom s (s.testTold .abortedFault) causeTest 0 5 := testTold_raised s .abortedFault
    have hsend : KeepsSending s (s.testTold .abortedFault) := e ▸ testEnded_sending
    have hstops : (s.testTold .abortedFault).charge.test.running = false ∧ (s.testTold .abortedFault).charge.test.result = .abortedFault := by
      rw [htold]
      exact ⟨rfl, rfl⟩
    rw [e] at htest ⊢
    generalize s.testTold .abortedFault = u at htest htaught hsend hstops ⊢
    rw [htest]
    exact ⟨hstops.1, hstops.2, htaught.widen hsend (Quiet.refl _ s).toUnraised (changeBbu_quiet_test .fault).toUnraised⟩

theorem enacted_anchors : Enacted .anchors i s (anchorBbu i s) := by
  obtain ⟨hset, hstore, htest, harmed, hhalted⟩ := anchorBbu_rest (i := i) (s := s)
  exact
    { record := anchorBbu_record, armed := harmed, halted := hhalted
      sending := (anchorBbu_touches causeHoldup (causeHoldup_ne_bbu i).symm).sending
      calm := fun _ _ => ⟨htest, anchorBbu_touches⟩, ended := nofun, kept := fun _ => ⟨hset, hstore⟩
      completed := nofun, moved := fun h => absurd rfl h, anchored := fun _ => anchorBbu_raised }

theorem enacted_tapers (k : Nat) : Enacted (.tapers k) i s (s.setBbu i { s.charge.bbus[i] with taper := k }) where
  record := by
    rw [setBbu_bbus, if_pos rfl]
    exact .refl _
  armed := rfl
  halted := rfl
  sending := fun h => rfl
  calm := fun _ _ => ⟨rfl, .of_same rfl rfl⟩
  ended := nofun
  kept := fun _ => ⟨rfl, rfl⟩
  completed := nofun
  moved := fun _ h => absurd rfl h
  anchored := nofun

theorem enacted_stays : Enacted .stays i s s where
  record := .refl _
  armed := rfl
  halted := rfl
  sending := fun _ => rfl
  calm := fun _ _ => ⟨rfl, .refl _ s⟩
  ended := nofun
  kept := fun _ => ⟨rfl, rfl⟩
  completed := nofun
  moved := fun _ h => absurd rfl h
  anchored := nofun

theorem enacted_completes (h : s.charge.bbus[i].state = .testing) : Enacted .completes i s (completeTest i s) := by
  have hrecord := completeTest_record h
  have hbbu : (s.testCompleted i).charge.bbus[i] =
      s.charge.bbus[i].tested s.settings.bbus[i].qFloor (min 255 (s.charge.test.d * 100 / s.settings.bbus[i].dRated)) := by
    rw [testCompleted_charge]
    exact get_set_same _ _ _
  have hne : (s.testCompleted i).charge.bbus[i].state ≠ .charging := by
    rw [hbbu]
    show s.charge.bbus[i].state ≠ _
    rw [h]
    exact nofun
  obtain ⟨hset, hstore, htest, harmed, hhalted⟩ := changeBbu_rest (i := i) (s := s.testCompleted i) .charging
  have hraised := changeBbu_raised hne
  rw [hbbu] at hraised
  have hcharge := testCompleted_charge (i := i) (s := s)
  rw [completeTest_completed] at hrecord ⊢
  refine
    { record := hrecord, armed := harmed.trans (by rw [hcharge]), halted := hhalted.trans (by rw [hcharge])
      sending := testCompleted_sending.trans (changeBbu_sending .charging), calm := fun hno => absurd rfl hno, ended := nofun
      kept := fun hno => absurd rfl hno, completed := fun _ => ⟨htest.trans (by rw [hcharge]), hset.trans testCompleted_settings, ?_, ?_⟩
      moved := fun _ _ => hraised.late testCompleted_sending, anchored := nofun }
  · rw [hstore, testCompleted_store]
  · exact testCompleted_raised.widen testCompleted_sending (Quiet.refl _ s).toUnraised (changeBbu_quiet_test .charging).toUnraised

theorem enacted {w : Verdict} (h : w.Sound s.charge.bbus[i].state) : Enacted w i s (w.enact i s) := by
  cases w with
  | stays => exact enacted_stays
  | moves st => exact enacted_moves h
  | fails => exact enacted_fails h
  | anchors => exact enacted_anchors
  | tapers k => exact enacted_tapers k
  | completes => exact enacted_completes h

end Enact

end Sys2Proof.Machine
end

section
/-! PROOFS. O32: one BBU on one sample set, from its classification to its cause (R36 to R45, R52, R55). -/

namespace Sys2Proof.Machine

/-! ### The integration (R43, R44) -/

/-- The charge of the counter with the sample in it, in units of its residue (R43). -/
def tally (set : BbuSettings) (b : Bbu) (c : Int) : Int := (b.q : Int) * 25600 + b.r + (if 0 < c then c * set.eta else c * 256)

theorem integrate_eq (set : BbuSettings) (b : Bbu) (c : Int) :
    integrate set b c =
      if tally set b c < 0 then ({ b with q := 0, r := 0, full := false, bottomed := true }, true)
      else if (set.qFull : Int) ≤ tally set b c / 25600 then ({ b with q := set.qFull, r := 0, full := true }, false)
      else ({ b with q := (tally set b c / 25600).toNat, r := (tally set b c % 25600).toNat, full := false }, false) := rfl

theorem integrate_bottoms {set : BbuSettings} {b : Bbu} {c : Int} (h : tally set b c < 0) :
    integrate set b c = ({ b with q := 0, r := 0, full := false, bottomed := true }, true) := by
  rw [integrate_eq, if_pos h]

theorem integrate_fills {set : BbuSettings} {b : Bbu} {c : Int} (h : ¬ tally set b c < 0) (hf : (set.qFull : Int) ≤ tally set b c / 25600) :
    integrate set b c = ({ b with q := set.qFull, r := 0, full := true }, false) := by
  rw [integrate_eq, if_neg h, if_pos hf]

theorem integrate_counts {set : BbuSettings} {b : Bbu} {c : Int} (h : ¬ tally set b c < 0) (hf : ¬ (set.qFull : Int) ≤ tally set b c / 25600) :
    integrate set b c =
      ({ b with q := (tally set b c / 25600).toNat, r := (tally set b c % 25600).toNat, full := false }, false) := by
  rw [integrate_eq, if_neg h, if_neg hf]

/-! ### The record that is judged -/

section Entry
variable (u : State) (fresh : Bool) (i : BbuId)

/-- The record of BBU `i` with T_crit and the discharge-detect current as they are set (R36). -/
def State.refreshed : Bbu :=
  { u.charge.bbus[i] with critInForce := u.settings.bbus[i].tCrit, detectInForce := u.settings.bbus[i].detect }

/-- The state in which BBU `i` is judged: the first set after a reset classifies it (R37). -/
def State.startOf : BbuState :=
  if fresh then bbuClass u.settings.bbus[i] (u.refreshed i) (u.pubValue (bbuTPoint i)) (u.pubValue (bbuIPoint i)) else u.charge.bbus[i].state

/-- The record in which BBU `i` is integrated. -/
def State.entryOf : Bbu := { u.refreshed i with state := u.startOf fresh i }

/-- The record in which BBU `i` is judged, and whether its counter bottomed (R43, R44). -/
def State.countOf : Bbu × Bool :=
  if u.startOf fresh i = .absent then (u.entryOf fresh i, false)
  else integrate u.settings.bbus[i] (u.entryOf fresh i) (u.pubValue (bbuIPoint i))

/-- The test record in which BBU `i` is judged (R55). -/
def State.testOf : TestRecord := if u.testing i = true ∧ u.startOf fresh i ≠ .absent then u.testDelivered i else u.charge.test

/-- The verdict on BBU `i` of the set. -/
def State.verdictOn : Verdict :=
  verdictOf u.settings.bbus[i] (u.countOf fresh i).1 (u.pubValue (bbuIPoint i)) (u.pubValue (bbuVPoint i)) (u.pubValue (bbuTPoint i))
    (u.testing i) u.online

/-- The record that the set leaves of BBU `i`. -/
def State.recordOf : Bbu := (u.verdictOn fresh i).record u.settings.bbus[i] (u.countOf fresh i).1 (u.testOf fresh i).d

/-- The part with BBU `i` refreshed and, on the first set, classified (R36, R37). -/
def State.entered : State := if fresh then driveBbu i (changeBbu i ((refreshBbu i u).classOf i) (refreshBbu i u)) else refreshBbu i u

theorem sampleBbu_entered :
    sampleBbu fresh i u =
      if (integrateBbu i (u.entered fresh i)).2 then raiseBottomed i (judgeBbu i (integrateBbu i (u.entered fresh i)).1)
      else judgeBbu i (integrateBbu i (u.entered fresh i)).1 := rfl

end Entry

section Facts
variable {u : State} {fresh : Bool} {i : BbuId}

/-- What the classification leaves of BBU `i` and of the rest of the part. -/
structure Enters (u : State) (fresh : Bool) (i : BbuId) (e : State) : Prop where
  record : (u.entryOf fresh i).Drives e.charge.bbus[i]
  base : e.base = u.base
  holdup : e.holdup = u.holdup
  test : e.charge.test = u.charge.test
  touches : Touches (· = causeBbu i) u e

theorem refreshBbu_bbu : (refreshBbu i u).charge.bbus[i] = u.refreshed i := get_set_same _ _ _

theorem entered_spec (hfresh : fresh = true → u.charge.bbus[i].state = .absent ∧ u.charge.bbus[i].taper = 0) :
    Enters u fresh i (u.entered fresh i) := by
  have hset : Touches (· = causeBbu i) u (refreshBbu i u) := .of_same rfl rfl
  cases fresh with
  | false =>
    refine ⟨?_, rfl, rfl, rfl, hset⟩
    show Bbu.Drives _ (refreshBbu i u).charge.bbus[i]
    rw [refreshBbu_bbu]
    exact .refl _
  | true =>
    obtain ⟨habsent, htaper⟩ := hfresh rfl
    have hclass : (refreshBbu i u).classOf i = u.startOf true i := by
      unfold State.classOf
      rw [refreshBbu_bbu]
      rfl
    have e : u.entered true i = driveBbu i (changeBbu i ((refreshBbu i u).classOf i) (refreshBbu i u)) := rfl
    rw [e, hclass]
    have hentry : (u.entryOf true i).Drives (changeBbu i (u.startOf true i) (refreshBbu i u)).charge.bbus[i] := by
      by_cases h : (refreshBbu i u).charge.bbus[i].state = u.startOf true i
      · rw [changeBbu_of_same h, refreshBbu_bbu]
        rw [refreshBbu_bbu] at h
        unfold State.entryOf
        rw [← h]
        exact .refl _
      · have hrecord := changeBbu_record h
        rw [refreshBbu_bbu] at hrecord
        unfold State.entryOf
        have htaper' : (u.refreshed i).taper = 0 := htaper
        rw [← htaper'] at hrecord
        exact hrecord
    have hbase := changeBbu_base i (u.startOf true i) (refreshBbu i u)
    have hholdup := congrArg State.holdup ((BbuStep.refl i (refreshBbu i u)).changeBbu (u.startOf true i)).frame
    have htest := (changeBbu_rest (i := i) (s := refreshBbu i u) (u.startOf true i)).2.2.1
    have htouches := hset.trans (changeBbu_touches i (u.startOf true i) (refreshBbu i u))
    generalize changeBbu i (u.startOf true i) (refreshBbu i u) = v at hentry hbase hholdup htest htouches
    refine ⟨hentry.trans (driveBbu_bbus i i v), (driveBbu_base i v).trans hbase, (driveBbu_holdup i v).trans hholdup, ?_, htouches.driveBbu i⟩
    rw [driveBbu_charge]
    exact htest

theorem integrate_drives {set : BbuSettings} {x y : Bbu} {c : Int} (h : x.Drives y) :
    (integrate set x c).1.Drives (integrate set y c).1 ∧ (integrate set y c).2 = (integrate set x c).2 := by
  have htally : tally set y c = tally set x c := by
    rw [show y = { x with out := y.out } from h]
    rfl
  rw [integrate_eq, integrate_eq, htally, show y = { x with out := y.out } from h]
  split
  · exact ⟨rfl, rfl⟩
  · split <;> exact ⟨rfl, rfl⟩

theorem verdictOf_drives {set : BbuSettings} {x y : Bbu} {c volt temp : Int} {tests online : Bool} (h : x.Drives y) :
    verdictOf set y c volt temp tests online = verdictOf set x c volt temp tests online := by
  unfold Bbu.Drives at h
  rw [h]
  rfl

theorem record_drives {w : Verdict} {set : BbuSettings} {x y : Bbu} {d : Nat} (h : x.Drives y) : (w.record set x d).Drives (w.record set y d) := by
  unfold Bbu.Drives at h
  rw [h]
  cases w <;> rfl

end Facts

end Sys2Proof.Machine
end

section
/-! PROOFS. O32: one BBU on one sample set, concluded: the record it leaves, its test, its cause and the target table. -/

namespace Sys2Proof.Machine

section Sample
variable {u e : State} {fresh : Bool} {i : BbuId}

theorem pubValue_base {s t : State} (h : t.base = s.base) (p : PointId) : t.pubValue p = s.pubValue p := by
  rw [State.pubValue, base_sense h]
  rfl

theorem seconds_base {s t : State} (h : t.base = s.base) : t.seconds = s.seconds := by
  unfold State.seconds
  rw [base_clock h]

/-- What the integration leaves of BBU `i` and of the rest of the part. -/
structure Counts (u : State) (fresh : Bool) (i : BbuId) (v : State) : Prop where
  record : (u.countOf fresh i).1.Drives v.charge.bbus[i]
  test : v.charge.test = u.testOf fresh i
  base : v.base = u.base
  holdup : v.holdup = u.holdup
  touches : Touches (· = causeBbu i) u v
  halts : (u.countOf fresh i).2 = true → (u.startOf fresh i).counted = true → v.charge.armed = false ∧ v.charge.halted = true

theorem entry_state (h : Enters u fresh i e) : e.charge.bbus[i].state = u.startOf fresh i := by
  rw [h.record]
  rfl

theorem counterTaken_bbu (s : State) (i : BbuId) : (s.counterTaken i).charge.bbus[i] = (s.integral i).1 := by
  unfold State.counterTaken
  split
  · exact get_set_same _ _ _
  · exact get_set_same _ _ _

theorem counterTaken_base (s : State) (i : BbuId) : (s.counterTaken i).base = s.base := by
  unfold State.counterTaken
  split <;> rfl

theorem counterTaken_holdup (s : State) (i : BbuId) : (s.counterTaken i).holdup = s.holdup := by
  unfold State.counterTaken
  split <;> rfl

theorem counterTaken_touches (s : State) (i : BbuId) : Touches (· = causeBbu i) s (s.counterTaken i) := by
  unfold State.counterTaken
  split <;> exact .of_same rfl rfl

theorem counterTaken_halts {s : State} (hb : (s.integral i).2 = true) (hc : s.charge.bbus[i].state.counted = true) :
    (s.counterTaken i).charge.armed = false ∧ (s.counterTaken i).charge.halted = true := by
  unfold State.counterTaken
  rw [hb, hc]
  exact ⟨rfl, rfl⟩

theorem integrated_spec (h : Enters u fresh i e) :
    Counts u fresh i (integrateBbu i e).1 ∧ (integrateBbu i e).2 = (u.countOf fresh i).2 := by
  have hstate := entry_state h
  have htesting : e.testing i = u.testing i := testing_of_test h.test i
  by_cases hst : u.startOf fresh i = .absent
  · have hcount : u.countOf fresh i = (u.entryOf fresh i, false) := if_pos hst
    have htest : u.testOf fresh i = u.charge.test := if_neg fun hn => hn.2 hst
    rw [integrateBbu_absent (hstate.trans hst)]
    refine ⟨⟨?_, h.test.trans htest.symm, h.base, h.holdup, h.touches, fun hb => ?_⟩, by rw [hcount]⟩
    · rw [hcount]
      exact h.record
    · rw [hcount] at hb
      cases hb
  · have hcount : u.countOf fresh i = integrate u.settings.bbus[i] (u.entryOf fresh i) (u.pubValue (bbuIPoint i)) := if_neg hst
    have hintegral : e.integral i = integrate u.settings.bbus[i] e.charge.bbus[i] (u.pubValue (bbuIPoint i)) := by
      rw [State.integral, base_settings h.base, pubValue_base h.base]
    obtain ⟨hdrives, hflag⟩ := integrate_drives (set := u.settings.bbus[i]) (c := u.pubValue (bbuIPoint i)) h.record
    rw [← hintegral, ← hcount] at hdrives hflag
    have hdelivered : e.testDelivered i = u.testDelivered i := by
      unfold State.testDelivered
      rw [h.test, pubValue_base h.base, seconds_base h.base]
    have hhalts : (u.countOf fresh i).2 = true → (u.startOf fresh i).counted = true →
        (e.counterTaken i).charge.armed = false ∧ (e.counterTaken i).charge.halted = true := fun hb hc =>
      counterTaken_halts (hflag.trans hb) (by rw [hstate]; exact hc)
    have hbbu := counterTaken_bbu e i
    have hbase := (counterTaken_base e i).trans h.base
    have hholdup := (counterTaken_holdup e i).trans h.holdup
    have htouches := h.touches.trans (counterTaken_touches e i)
    have htest := (counterTaken_test e i).trans h.test
    rw [integrateBbu_present (by rw [hstate]; exact hst), htesting, hdelivered]
    generalize e.counterTaken i = v at hhalts hbbu hbase hholdup htouches htest
    rw [← hbbu] at hdrives
    refine ⟨?_, hflag⟩
    by_cases ht : u.testing i = true
    · rw [if_pos ht]
      exact ⟨hdrives, (if_pos ⟨ht, hst⟩ : u.testOf fresh i = _).symm, hbase, hholdup, htouches.trans (.of_same rfl rfl), hhalts⟩
    · rw [if_neg ht]
      exact ⟨hdrives, htest.trans (if_neg fun hn => ht hn.1 : u.testOf fresh i = _).symm, hbase, hholdup, htouches, hhalts⟩

/-! ### The judgement and the cause -/

theorem testOf_bbu (u : State) (fresh : Bool) (i : BbuId) :
    (u.testOf fresh i).bbu = u.charge.test.bbu ∧ (u.testOf fresh i).running = u.charge.test.running := by
  have hrunning (t : TestRecord) (c : Int) : (t.deliver c).running = t.running := by
    unfold TestRecord.deliver
    dsimp only
    split
    · rfl
    · split <;> rfl
  unfold State.testOf State.testDelivered
  split
  · exact ⟨deliver_bbu _ _, hrunning _ _⟩
  · exact ⟨rfl, rfl⟩

/-- BBU `i` judged: its record, its test and its settings. -/
structure JudgedBbu (u : State) (fresh : Bool) (i : BbuId) (t : State) : Prop where
  record : (u.recordOf fresh i).Drives t.charge.bbus[i]
  sending : KeepsSending u t
  calm : u.verdictOn fresh i ≠ .completes → (u.verdictOn fresh i = .fails → u.testing i = false) →
    t.charge.test = u.testOf fresh i ∧ Touches (· = causeBbu i) u t
  ended : u.verdictOn fresh i = .fails → u.testing i = true →
    t.charge.test.running = false ∧ t.charge.test.result = .abortedFault ∧ RaisedFrom u t causeTest 0 5
  kept : u.verdictOn fresh i ≠ .completes → t.settings = u.settings ∧ t.store = u.store
  completed : u.verdictOn fresh i = .completes →
    t.charge.test = { u.testOf fresh i with running := false, timer := none, result := .complete } ∧
      t.settings = { u.settings with bbus := u.settings.bbus.set i (u.settings.bbus[i].tested (u.testOf fresh i).d) } ∧
      t.store.unstored = (u.store.unstored || (u.settings.bbus[i].tested (u.testOf fresh i).d).qFull != u.settings.bbus[i].qFull) ∧
      RaisedFrom u t causeTest (u.testOf fresh i).d 1

/-- BBU `i` after one sample set: judged, and its cause and the target table told. -/
structure SampledBbu (u : State) (fresh : Bool) (i : BbuId) (t : State) : Prop extends JudgedBbu u fresh i t where
  halts : (u.countOf fresh i).2 = true → (u.startOf fresh i).counted = true → t.charge.armed = false ∧ t.charge.halted = true
  moved : (u.countOf fresh i).2 = false → u.verdictOn fresh i ≠ .anchors →
    (u.verdictOn fresh i).next (u.startOf fresh i) ≠ u.startOf fresh i →
      RaisedFrom u t (causeBbu i) (u.recordOf fresh i).q (stateCode ((u.verdictOn fresh i).next (u.startOf fresh i)).code)
  anchored : (u.countOf fresh i).2 = false → u.verdictOn fresh i = .anchors →
    RaisedFrom u t (causeBbu i) u.settings.bbus[i].qFull 2
  bottomed : (u.countOf fresh i).2 = true → RaisedFrom u t (causeBbu i) 0 1

theorem countOf_state (u : State) (fresh : Bool) (i : BbuId) : (u.countOf fresh i).1.state = u.startOf fresh i := by
  have hstate (set : BbuSettings) (b : Bbu) (c : Int) : (integrate set b c).1.state = b.state := by
    rw [integrate_eq]
    split
    · rfl
    · split <;> rfl
  unfold State.countOf
  split
  · rfl
  · exact hstate _ _ _

/-- The counted record, judged. -/
theorem judged_spec {v : State} (h : Counts u fresh i v) :
    Enacted (u.verdictOn fresh i) i v (judgeBbu i v) ∧ v.charge.bbus[i].state = u.startOf fresh i := by
  have hstate : v.charge.bbus[i].state = u.startOf fresh i := by
    rw [← countOf_state, h.record]
  obtain ⟨hbbu, hrunning⟩ := testOf_bbu u fresh i
  have htesting : v.testing i = u.testing i := by
    rw [State.testing, State.testing, h.test, hbbu, hrunning]
  have hverdict : v.verdict i = u.verdictOn fresh i := by
    have honline : v.online = u.online := by rw [State.online, h.holdup]; rfl
    rw [State.verdict, base_settings h.base, pubValue_base h.base, pubValue_base h.base, pubValue_base h.base, htesting, honline,
      verdictOf_drives h.record]
    rfl
  have hsound : (v.verdict i).Sound v.charge.bbus[i].state := verdictOf_sound
  have henacted := enacted hsound
  rw [← judgeBbu_verdict, hverdict] at henacted
  exact ⟨henacted, hstate⟩

theorem raiseBottomed_charge (s : State) : (raiseBottomed i s).charge = s.charge := by
  unfold raiseBottomed
  rw [raise_charge, reportBbu_charge]

theorem raiseBottomed_touches (s : State) : Touches (· = causeBbu i) s (raiseBottomed i s) := by
  have hreported : Touches (· = causeBbu i) s (reportBbu i s) := (Touches.refl (· = causeBbu i) s).report rfl _
  exact hreported.raise rfl _ _

theorem raiseBottomed_raised (s : State) : RaisedFrom s (raiseBottomed i s) (causeBbu i) 0 1 := reported_raised _ _ _ _ (.refl _ s)

theorem raiseBottomed_sending (s : State) : KeepsSending s (raiseBottomed i s) :=
  (raiseBottomed_touches s causeHoldup (causeHoldup_ne_bbu i).symm).sending

theorem raiseBottomed_store (s : State) : (raiseBottomed i s).store = s.store := base_store (raiseBottomed_base i s)

theorem raiseBottomed_settings (s : State) : (raiseBottomed i s).settings = s.settings := base_settings (raiseBottomed_base i s)

theorem Counts.sending {v : State} (h : Counts u fresh i v) : KeepsSending u v :=
  (h.touches causeHoldup (causeHoldup_ne_bbu i).symm).sending

theorem Counts.recordOf {v : State} (h : Counts u fresh i v) :
    (u.recordOf fresh i).Drives ((u.verdictOn fresh i).record v.settings.bbus[i] v.charge.bbus[i] v.charge.test.d) := by
  rw [base_settings h.base, h.test]
  exact record_drives h.record

theorem judgeBbu_judged {v : State} (h : Counts u fresh i v) : JudgedBbu u fresh i (judgeBbu i v) := by
  obtain ⟨hj, hstate⟩ := judged_spec h
  have hset := base_settings h.base
  have hstore := base_store h.base
  have hquiet : Unraised causeTest u v := (h.touches causeTest (causeBbu_ne_test i).symm).toUnraised
  have htesting : v.testing i = u.testing i := by
    obtain ⟨hbbu, hrunning⟩ := testOf_bbu u fresh i
    rw [State.testing, State.testing, h.test, hbbu, hrunning]
  refine
    { record := h.recordOf.trans hj.record, sending := h.sending.trans hj.sending
      calm := fun hc hf => ?_, ended := fun hf ht => ?_, kept := fun hc => ?_, completed := fun hc => ?_ }
  · obtain ⟨htest, htouches⟩ := hj.calm hc fun e => htesting.trans (hf e)
    exact ⟨htest.trans h.test, h.touches.trans htouches⟩
  · obtain ⟨hstop, hresult, hraised⟩ := hj.ended hf (htesting.trans ht)
    exact ⟨hstop, hresult, hraised.widen hj.sending hquiet (Quiet.refl _ _).toUnraised⟩
  · obtain ⟨hk, hs⟩ := hj.kept hc
    exact ⟨hk.trans hset, hs.trans hstore⟩
  · obtain ⟨htest, hk, hs, hraised⟩ := hj.completed hc
    rw [h.test, hset] at hk hs
    rw [h.test] at htest hraised
    rw [hstore] at hs
    exact ⟨htest, hk, hs, hraised.widen hj.sending hquiet (Quiet.refl _ _).toUnraised⟩

theorem JudgedBbu.raiseBottomed {t : State} (h : JudgedBbu u fresh i t) : JudgedBbu u fresh i (raiseBottomed i t) := by
  have hcharge := raiseBottomed_charge (i := i) t
  have hset := raiseBottomed_settings (i := i) t
  have hstore := raiseBottomed_store (i := i) t
  have hsend := raiseBottomed_sending (i := i) t
  have htouches := raiseBottomed_touches (i := i) t
  have hquiet : Unraised causeTest t (Machine.raiseBottomed i t) := (htouches causeTest (causeBbu_ne_test i).symm).toUnraised
  refine
    { record := by rw [hcharge]; exact h.record, sending := h.sending.trans hsend
      calm := fun hc hf => ?_, ended := fun hf ht => ?_, kept := fun hc => ?_, completed := fun hc => ?_ }
  · obtain ⟨htest, htouched⟩ := h.calm hc hf
    exact ⟨by rw [hcharge]; exact htest, htouched.trans htouches⟩
  · obtain ⟨hstop, hresult, hraised⟩ := h.ended hf ht
    rw [hcharge]
    exact ⟨hstop, hresult, hraised.widen h.sending (Quiet.refl _ _).toUnraised hquiet⟩
  · rw [hset, hstore]
    exact h.kept hc
  · obtain ⟨htest, hk, hs, hraised⟩ := h.completed hc
    rw [hcharge, hset, hstore]
    exact ⟨htest, hk, hs, hraised.widen h.sending (Quiet.refl _ _).toUnraised hquiet⟩

theorem sampleBbu_sampled (hfresh : fresh = true → u.charge.bbus[i].state = .absent ∧ u.charge.bbus[i].taper = 0) :
    SampledBbu u fresh i (sampleBbu fresh i u) := by
  obtain ⟨hcounts, hflag⟩ := integrated_spec (entered_spec hfresh)
  rw [sampleBbu_entered, hflag]
  generalize (integrateBbu i (u.entered fresh i)).1 = v at hcounts
  have hjudged := judgeBbu_judged hcounts
  obtain ⟨hj, hstate⟩ := judged_spec hcounts
  have hq : ((u.verdictOn fresh i).record v.settings.bbus[i] v.charge.bbus[i] v.charge.test.d).q = (u.recordOf fresh i).q := by
    rw [hcounts.recordOf]
  have hset := base_settings hcounts.base
  have hmoved := hj.moved
  rw [hq, hstate] at hmoved
  have hanchored := hj.anchored
  rw [hset] at hanchored
  cases hb : (u.countOf fresh i).2 with
  | false =>
    exact
      { hjudged with
        halts := fun h => absurd (hb.symm.trans h) nofun, bottomed := fun h => absurd (hb.symm.trans h) nofun
        moved := fun _ ha hm => (hmoved ha hm).late hcounts.sending
        anchored := fun _ ha => (hanchored ha).late hcounts.sending }
  | true =>
    rw [if_pos rfl]
    have hraised := raiseBottomed_raised (i := i) (judgeBbu i v)
    exact
      { hjudged.raiseBottomed with
        halts := fun _ hc => by
          rw [raiseBottomed_charge, hj.armed, hj.halted]
          exact hcounts.halts hb hc
        moved := fun h => absurd (hb.symm.trans h) nofun, anchored := fun h => absurd (hb.symm.trans h) nofun
        bottomed := fun _ => hraised.late hjudged.sending }

end Sample

end Sys2Proof.Machine
end

section
/-! PROOFS. O32: the judgement of one BBU on a sample set, put as the readings that it is taken by. -/

namespace Sys2Proof.Machine

/-- What the judgement of a BBU on a sample set reads. -/
structure BbuCase where
  seen : Bool
  holdup : HoldupState
  set : BbuSettings
  b : Bbu
  test : TestRecord
  i : BbuId
  c : Int
  volt : Int
  temp : Int

namespace BbuCase
variable (k : BbuCase)

/-- The current discharges the BBU (R37). -/
abbrev Draws : Prop := k.c ≤ -(k.set.detect : Int)

/-- The voltage is at the cut-off (R40). -/
abbrev Cut : Prop := k.volt ≤ (k.set.vCutoff : Int)

/-- The temperature is at T_crit (R38). -/
abbrev Hot : Prop := k.set.tCrit ≤ k.temp

/-- The anchor condition (R45). -/
abbrev Floats : Prop := (k.set.vFloat : Int) ≤ k.volt ∧ 0 ≤ k.c ∧ k.c ≤ (k.set.iTaper : Int)

/-- The taper run is long enough with this sample (R45). -/
abbrev Ripe : Prop := k.set.taperTime ≤ k.b.taper + 1

/-- The charge with this sample, in units of the residue (R43). -/
abbrev a : Int := (k.b.q : Int) * 25600 + k.b.r + (if 0 < k.c then k.c * k.set.eta else k.c * 256)

/-- The counter with this sample (R43, R44). -/
abbrev q : Nat := min k.set.qFull (k.a / 25600).toNat

/-- The state by a charge alone (R37 to R39). -/
abbrev restAt (q : Nat) : BbuState := if k.set.qFull - k.set.margin < q then .standby else .charging

/-- The state in which the BBU is judged (R37). -/
abbrev start : BbuState :=
  if k.seen = true then k.b.state
  else if k.b.present = false then .absent
  else if k.b.faultIn = true ∨ k.Hot then .fault
  else if k.Draws then .discharging
  else k.restAt k.b.q

/-- The BBU is the one under test (R55). -/
abbrev Tests : Prop := k.test.running = true ∧ k.test.bbu = some k.i

/-- The state that follows (R37 to R40, R45, R56). -/
abbrev next : BbuState :=
  if k.start = .absent then .absent
  else if k.start = .fault then (if k.b.faultIn = false ∧ k.temp < k.set.tCrit then k.restAt k.q else .fault)
  else if k.Hot then .fault
  else if k.start = .standby then (if k.Draws then .discharging else if k.q ≤ k.set.qFull - k.set.margin then .charging else .standby)
  else if k.start = .charging then
    if k.Draws then .discharging
    else if k.set.anchor = true then (if k.Floats ∧ k.Ripe then .standby else .charging)
    else if (k.set.qFull : Int) ≤ k.a / 25600 then .standby else .charging
  else if k.start = .discharging then (if k.Cut then .depleted else if k.Draws then .discharging else k.restAt k.q)
  else if k.start = .testing then (if k.Tests ∧ k.Cut then .charging else .testing)
  else (if k.holdup = .online then .charging else .depleted)

/-- The residue with this sample (R43, R44). -/
def residue : Nat := if k.a < 0 ∨ (k.set.qFull : Int) ≤ k.a / 25600 then 0 else (k.a % 25600).toNat

/-- The record of the BBU with this sample counted (R36, R43, R44). -/
def counted : Bbu :=
  { k.b with
    critInForce := k.set.tCrit, detectInForce := k.set.detect, state := k.start
    q := k.q, r := k.residue
    full := decide ((k.set.qFull : Int) ≤ k.a / 25600)
    bottomed := k.b.bottomed || decide (k.a < 0) }

end BbuCase

/-- What the judgement of BBU `i` reads in `u`. -/
def State.caseOf (u : State) (fresh : Bool) (i : BbuId) : BbuCase :=
  ⟨!fresh, u.holdup.state, u.settings.bbus[i], u.charge.bbus[i], u.charge.test, i, u.pubValue (bbuIPoint i), u.pubValue (bbuVPoint i),
    u.pubValue (bbuTPoint i)⟩

section Read
variable {u : State} {fresh : Bool} {i : BbuId}

theorem startOf_case : u.startOf fresh i = (u.caseOf fresh i).start := by
  cases fresh with
  | false => rfl
  | true =>
    show bbuClass _ (u.refreshed i) _ _ = if u.charge.bbus[i].present = false then _ else _
    by_cases hp : u.charge.bbus[i].present = false
    · rw [if_pos hp]
      unfold bbuClass
      rw [show (u.refreshed i).present = false from hp]
      rfl
    · rw [if_neg hp, bbuClass_present (show (u.refreshed i).present = true from Bool.eq_true_of_not_eq_false hp)]
      rfl

theorem testing_case : u.testing i = true ↔ (u.caseOf fresh i).Tests := testing_iff

theorem countOf_absent (h : u.startOf fresh i = .absent) : u.countOf fresh i = (u.entryOf fresh i, false) := if_pos h

theorem countOf_present (h : u.startOf fresh i ≠ .absent) :
    u.countOf fresh i = ((u.caseOf fresh i).counted, decide ((u.caseOf fresh i).a < 0)) := by
  have hcount : u.countOf fresh i = integrate u.settings.bbus[i] (u.entryOf fresh i) (u.pubValue (bbuIPoint i)) := if_neg h
  have htally : tally u.settings.bbus[i] (u.entryOf fresh i) (u.pubValue (bbuIPoint i)) = (u.caseOf fresh i).a := rfl
  have hentry : u.entryOf fresh i =
      { u.charge.bbus[i] with
        critInForce := u.settings.bbus[i].tCrit, detectInForce := u.settings.bbus[i].detect, state := (u.caseOf fresh i).start } := by
    rw [← startOf_case]
    rfl
  have hset : u.settings.bbus[i] = (u.caseOf fresh i).set := rfl
  have hb : u.charge.bbus[i] = (u.caseOf fresh i).b := rfl
  rw [hcount]
  rw [hentry, hb, hset] at htally ⊢
  unfold BbuCase.counted BbuCase.residue BbuCase.q
  generalize u.caseOf fresh i = k at htally ⊢
  generalize u.pubValue (bbuIPoint i) = c at htally ⊢
  generalize k.start = st at htally ⊢
  generalize k.a = a at htally ⊢
  by_cases hneg : a < 0
  · have hq : min k.set.qFull (a / 25600).toNat = 0 := by omega
    have hlow : ¬ (k.set.qFull : Int) ≤ a / 25600 := by omega
    rw [integrate_bottoms (by rw [htally]; exact hneg), hq, if_pos (.inl hneg), decide_eq_true hneg, decide_eq_false hlow, Bool.or_true]
  · by_cases hfull : (k.set.qFull : Int) ≤ a / 25600
    · have hq : min k.set.qFull (a / 25600).toNat = k.set.qFull := by omega
      rw [integrate_fills (by rw [htally]; exact hneg) (by rw [htally]; exact hfull), hq, if_pos (.inr hfull), decide_eq_false hneg,
        decide_eq_true hfull, Bool.or_false]
    · have hq : min k.set.qFull (a / 25600).toNat = (a / 25600).toNat := by omega
      rw [integrate_counts (by rw [htally]; exact hneg) (by rw [htally]; exact hfull), hq, if_neg (not_or.mpr ⟨hneg, hfull⟩),
        decide_eq_false hneg, decide_eq_false hfull, Bool.or_false, htally]

end Read

end Sys2Proof.Machine
end

section
/-! PROOFS. O32: the verdict on a BBU by the state in which it is judged, and the record it leaves (R37 to R40, R45, R56). -/

namespace Sys2Proof.Machine

section Verdicts
variable {u : State} {fresh : Bool} {i : BbuId}

theorem countOf_judged (h : u.startOf fresh i ≠ .absent) : (u.countOf fresh i).1 = (u.caseOf fresh i).counted := by
  rw [countOf_present h]

theorem verdictOn_case :
    u.verdictOn fresh i =
      verdictOf (u.caseOf fresh i).set (u.countOf fresh i).1 (u.caseOf fresh i).c (u.caseOf fresh i).volt (u.caseOf fresh i).temp
        (u.testing i) ((u.caseOf fresh i).holdup == .online) := rfl

theorem verdictOn_absent (h : u.startOf fresh i = .absent) : u.verdictOn fresh i = .stays :=
  verdictOf_absent ((countOf_state u fresh i).trans h)

theorem verdictOn_fault (h : u.startOf fresh i = .fault) :
    u.verdictOn fresh i =
      if (u.caseOf fresh i).b.faultIn = false ∧ (u.caseOf fresh i).temp < (u.caseOf fresh i).set.tCrit then
        .moves ((u.caseOf fresh i).restAt (u.caseOf fresh i).q) else .stays := by
  rw [verdictOn_case, verdictOf_fault ((countOf_state u fresh i).trans h), countOf_judged (by rw [h]; exact nofun)]
  rfl

theorem verdictOn_hot (ha : u.startOf fresh i ≠ .absent) (hf : u.startOf fresh i ≠ .fault) (hot : (u.caseOf fresh i).Hot) :
    u.verdictOn fresh i = .fails :=
  verdictOf_hot (by rw [countOf_state]; exact ha) (by rw [countOf_state]; exact hf) hot

theorem verdictOn_standby (h : u.startOf fresh i = .standby) (cool : ¬ (u.caseOf fresh i).Hot) :
    u.verdictOn fresh i =
      if (u.caseOf fresh i).Draws then .moves .discharging
      else if (u.caseOf fresh i).q ≤ (u.caseOf fresh i).set.qFull - (u.caseOf fresh i).set.margin then .moves .charging else .stays := by
  rw [verdictOn_case, verdictOf_standby ((countOf_state u fresh i).trans h) cool, countOf_judged (by rw [h]; exact nofun)]
  rfl

theorem verdictOn_charging (h : u.startOf fresh i = .charging) (cool : ¬ (u.caseOf fresh i).Hot) :
    u.verdictOn fresh i =
      if (u.caseOf fresh i).Draws then .moves .discharging
      else if (u.caseOf fresh i).set.anchor = true then
        if (u.caseOf fresh i).Floats then
          if (u.caseOf fresh i).Ripe then .anchors else .tapers ((u.caseOf fresh i).b.taper + 1)
        else .tapers 0
      else if ((u.caseOf fresh i).set.qFull : Int) ≤ (u.caseOf fresh i).a / 25600 then .moves .standby else .tapers 0 := by
  rw [verdictOn_case, verdictOf_charging ((countOf_state u fresh i).trans h) cool, countOf_judged (by rw [h]; exact nofun)]
  unfold chargingVerdict BbuSettings.floats BbuCase.counted
  simp only [decide_eq_true_eq]

theorem verdictOn_discharging (h : u.startOf fresh i = .discharging) (cool : ¬ (u.caseOf fresh i).Hot) :
    u.verdictOn fresh i =
      if (u.caseOf fresh i).Cut then .moves .depleted
      else if (u.caseOf fresh i).Draws then .stays else .moves ((u.caseOf fresh i).restAt (u.caseOf fresh i).q) := by
  rw [verdictOn_case, verdictOf_discharging ((countOf_state u fresh i).trans h) cool, countOf_judged (by rw [h]; exact nofun)]
  rfl

theorem verdictOn_testing (h : u.startOf fresh i = .testing) (cool : ¬ (u.caseOf fresh i).Hot) :
    u.verdictOn fresh i = if (u.caseOf fresh i).Tests ∧ (u.caseOf fresh i).Cut then .completes else .stays := by
  rw [verdictOn_case, verdictOf_testing ((countOf_state u fresh i).trans h) cool]
  exact if_congr (and_congr_left' (testing_case (fresh := fresh))) rfl rfl

theorem verdictOn_depleted (h : u.startOf fresh i = .depleted) (cool : ¬ (u.caseOf fresh i).Hot) :
    u.verdictOn fresh i = if (u.caseOf fresh i).holdup = .online then .moves .charging else .stays := by
  rw [verdictOn_case, verdictOf_depleted ((countOf_state u fresh i).trans h) cool]
  exact if_congr beq_iff_eq rfl rfl

theorem next_ite {c : Prop} {_ : Decidable c} (w w' : Verdict) (st : BbuState) :
    (if c then w else w').next st = if c then w.next st else w'.next st := by split <;> rfl

/-- R37 to R40, R45, R56: the state that the verdict leaves. -/
theorem verdictOn_next : (u.verdictOn fresh i).next (u.startOf fresh i) = (u.caseOf fresh i).next := by
  have hstart := startOf_case (u := u) (fresh := fresh) (i := i)
  by_cases hot : (u.caseOf fresh i).Hot
  · by_cases ha : u.startOf fresh i = .absent
    · rw [verdictOn_absent ha, BbuCase.next, ← hstart, ha]
      rfl
    by_cases hf : u.startOf fresh i = .fault
    · rw [verdictOn_fault hf, BbuCase.next, ← hstart, hf, next_ite]
      rfl
    rw [verdictOn_hot ha hf hot, BbuCase.next, ← hstart, if_neg ha, if_neg hf, if_pos hot]
    rfl
  · cases hst : u.startOf fresh i with
    | absent =>
      rw [verdictOn_absent hst, BbuCase.next, ← hstart, hst]
      rfl
    | fault =>
      rw [verdictOn_fault hst, BbuCase.next, ← hstart, hst, next_ite]
      rfl
    | standby =>
      rw [verdictOn_standby hst hot, BbuCase.next, ← hstart, hst, if_neg hot, next_ite, next_ite]
      rfl
    | charging =>
      rw [verdictOn_charging hst hot, BbuCase.next, ← hstart, hst, if_neg hot]
      simp only [next_ite, ite_and]
      rfl
    | discharging =>
      rw [verdictOn_discharging hst hot, BbuCase.next, ← hstart, hst, if_neg hot, next_ite, next_ite]
      rfl
    | testing =>
      rw [verdictOn_testing hst hot, BbuCase.next, ← hstart, hst, if_neg hot, next_ite]
      rfl
    | depleted =>
      rw [verdictOn_depleted hst hot, BbuCase.next, ← hstart, hst, if_neg hot, next_ite]
      rfl

end Verdicts

end Sys2Proof.Machine
end

section
/-! PROOFS. O32: the record that a sample set leaves of a BBU, by what the judgement reads (R36 to R45, R55, R56). -/

namespace Sys2Proof.Machine

namespace BbuCase
variable (k : BbuCase)

/-- In CHARGING, cool and not discharging, the BBU is judged for its anchor (R45). -/
abbrev Judged : Prop := k.start = .charging ∧ k.temp < k.set.tCrit ∧ ¬ k.Draws ∧ k.set.anchor = true

/-- The charge delivered by the test with this sample, in units of the residue (R55). -/
abbrev delivered : Int := (k.test.d : Int) * 25600 + k.test.residue - k.c * 256

/-- D with this sample (R55). -/
abbrev d : Nat := min 16777215 (k.delivered / 25600).toNat

theorem not_hot : ¬ k.Hot ↔ k.temp < k.set.tCrit := Int.not_le

end BbuCase

section Record
variable {u : State} {fresh : Bool} {i : BbuId}

theorem recordOf_state : (u.recordOf fresh i).state = (u.caseOf fresh i).next := by
  unfold State.recordOf
  rw [record_state, countOf_state, verdictOn_next]

theorem record_inForce (w : Verdict) (set : BbuSettings) (b : Bbu) (d : Nat) :
    (w.record set b d).critInForce = b.critInForce ∧ (w.record set b d).detectInForce = b.detectInForce := by
  cases w <;> exact ⟨rfl, rfl⟩

theorem countOf_inForce :
    (u.countOf fresh i).1.critInForce = u.settings.bbus[i].tCrit ∧ (u.countOf fresh i).1.detectInForce = u.settings.bbus[i].detect := by
  by_cases h : u.startOf fresh i = .absent
  · rw [countOf_absent h]
    exact ⟨rfl, rfl⟩
  · rw [countOf_present h]
    exact ⟨rfl, rfl⟩

theorem recordOf_inForce :
    (u.recordOf fresh i).critInForce = u.settings.bbus[i].tCrit ∧ (u.recordOf fresh i).detectInForce = u.settings.bbus[i].detect := by
  obtain ⟨hc, hd⟩ := record_inForce (u.verdictOn fresh i) u.settings.bbus[i] (u.countOf fresh i).1 (u.testOf fresh i).d
  obtain ⟨hc', hd'⟩ := countOf_inForce (u := u) (fresh := fresh) (i := i)
  exact ⟨hc.trans hc', hd.trans hd'⟩

/-! ### The counter (R43, R44) -/

theorem record_counter {w : Verdict} (ha : w ≠ .anchors) (hc : w ≠ .completes) (set : BbuSettings) (b : Bbu) (d : Nat) :
    (w.record set b d).q = b.q ∧ (w.record set b d).r = b.r ∧ (w.record set b d).full = b.full ∧
      (w.record set b d).bottomed = b.bottomed := by
  cases w with
  | anchors => exact absurd rfl ha
  | completes => exact absurd rfl hc
  | stays | moves | fails | tapers => exact ⟨rfl, rfl, rfl, rfl⟩

theorem recordOf_counter (h : u.startOf fresh i ≠ .absent) (ha : u.verdictOn fresh i ≠ .anchors) (hc : u.verdictOn fresh i ≠ .completes) :
    (u.recordOf fresh i).q = (u.caseOf fresh i).q ∧ (u.recordOf fresh i).r = (u.caseOf fresh i).residue ∧
      (u.recordOf fresh i).full = decide (((u.caseOf fresh i).set.qFull : Int) ≤ (u.caseOf fresh i).a / 25600) ∧
      (u.recordOf fresh i).bottomed = ((u.caseOf fresh i).b.bottomed || decide ((u.caseOf fresh i).a < 0)) := by
  have e := record_counter ha hc u.settings.bbus[i] (u.countOf fresh i).1 (u.testOf fresh i).d
  rw [countOf_judged h] at e
  unfold State.recordOf
  rw [countOf_judged h]
  exact e

theorem recordOf_absent (h : u.startOf fresh i = .absent) : u.recordOf fresh i = u.entryOf fresh i := by
  unfold State.recordOf
  rw [verdictOn_absent h, countOf_absent h]
  rfl

/-! ### The taper run and the anchor (R45) -/

theorem verdictOn_judged (h : (u.caseOf fresh i).Judged) :
    u.verdictOn fresh i =
      if (u.caseOf fresh i).Floats then
        if (u.caseOf fresh i).Ripe then .anchors else .tapers ((u.caseOf fresh i).b.taper + 1)
      else .tapers 0 := by
  obtain ⟨hst, hcool, hrests, hanchor⟩ := h
  rw [verdictOn_charging (startOf_case.trans hst) ((BbuCase.not_hot _).mpr hcool), if_neg hrests, if_pos hanchor]

theorem verdictOn_anchors (h : u.verdictOn fresh i = .anchors) :
    (u.caseOf fresh i).Judged ∧ (u.caseOf fresh i).Floats ∧ (u.caseOf fresh i).Ripe := by
  have hmoves {st : BbuState} : Verdict.moves st ≠ .anchors := nofun
  by_cases hot : (u.caseOf fresh i).Hot
  · by_cases ha : u.startOf fresh i = .absent
    · exact absurd ((verdictOn_absent ha).symm.trans h) nofun
    by_cases hf : u.startOf fresh i = .fault
    · rw [verdictOn_fault hf, if_neg fun hr => absurd hot ((BbuCase.not_hot _).mpr hr.2)] at h
      cases h
    exact absurd ((verdictOn_hot ha hf hot).symm.trans h) nofun
  · cases hst : u.startOf fresh i with
    | absent => exact absurd ((verdictOn_absent hst).symm.trans h) nofun
    | fault =>
      rw [verdictOn_fault hst] at h
      split at h <;> cases h
    | standby =>
      rw [verdictOn_standby hst hot] at h
      split at h
      · cases h
      · split at h <;> cases h
    | charging =>
      rw [verdictOn_charging hst hot] at h
      split at h
      · cases h
      next hrests =>
      split at h
      · next hanchor =>
        split at h
        · next hfloats =>
          split at h
          · next hripe => exact ⟨⟨startOf_case.symm.trans hst, (BbuCase.not_hot _).mp hot, hrests, hanchor⟩, hfloats, hripe⟩
          · cases h
        · cases h
      · split at h <;> cases h
    | discharging =>
      rw [verdictOn_discharging hst hot] at h
      split at h
      · cases h
      · split at h <;> cases h
    | testing =>
      rw [verdictOn_testing hst hot] at h
      split at h <;> cases h
    | depleted =>
      rw [verdictOn_depleted hst hot] at h
      split at h <;> cases h

theorem recordOf_unfloating (h : (u.caseOf fresh i).Judged) (hf : ¬ (u.caseOf fresh i).Floats) : (u.recordOf fresh i).taper = 0 := by
  unfold State.recordOf
  rw [verdictOn_judged h, if_neg hf]
  rfl

theorem recordOf_unanchored (h : (u.caseOf fresh i).start = .charging) (ha : (u.caseOf fresh i).set.anchor = false) :
    (u.recordOf fresh i).taper = 0 := by
  have hst : u.startOf fresh i = .charging := startOf_case.trans h
  unfold State.recordOf
  by_cases hot : (u.caseOf fresh i).Hot
  · rw [verdictOn_hot (by rw [hst]; exact nofun) (by rw [hst]; exact nofun) hot]
    rfl
  · rw [verdictOn_charging hst hot, if_neg (c := (u.caseOf fresh i).set.anchor = true) (by rw [ha]; exact nofun)]
    split
    · rfl
    · split <;> rfl

theorem recordOf_tapers (h : (u.caseOf fresh i).Judged) (hf : (u.caseOf fresh i).Floats) (hr : ¬ (u.caseOf fresh i).Ripe) :
    (u.recordOf fresh i).taper = (u.caseOf fresh i).b.taper + 1 := by
  unfold State.recordOf
  rw [verdictOn_judged h, if_pos hf, if_neg hr]
  rfl

theorem verdictOn_anchored (h : (u.caseOf fresh i).Judged) (hf : (u.caseOf fresh i).Floats) (hr : (u.caseOf fresh i).Ripe) :
    u.verdictOn fresh i = .anchors := by
  rw [verdictOn_judged h, if_pos hf, if_pos hr]

/-! ### The test (R55, R56) -/

theorem verdictOn_completes (h : u.verdictOn fresh i = .completes) :
    (u.caseOf fresh i).start = .testing ∧ (u.caseOf fresh i).temp < (u.caseOf fresh i).set.tCrit ∧ (u.caseOf fresh i).Tests ∧
      (u.caseOf fresh i).Cut := by
  have hsound := verdictOf_sound (set := u.settings.bbus[i]) (b := (u.countOf fresh i).1) (c := u.pubValue (bbuIPoint i))
    (volt := u.pubValue (bbuVPoint i)) (temp := u.pubValue (bbuTPoint i)) (tests := u.testing i) (online := u.online)
  have hst : u.startOf fresh i = .testing := by
    rw [show verdictOf _ _ _ _ _ _ _ = Verdict.completes from h, countOf_state] at hsound
    exact hsound
  by_cases hot : (u.caseOf fresh i).Hot
  · exact absurd ((verdictOn_hot (by rw [hst]; exact nofun) (by rw [hst]; exact nofun) hot).symm.trans h) nofun
  · rw [verdictOn_testing hst hot] at h
    split at h
    · next hdone => exact ⟨startOf_case.symm.trans hst, (BbuCase.not_hot _).mp hot, hdone⟩
    · cases h

theorem deliver_eq (t : TestRecord) (c : Int) :
    t.deliver c =
      { t with
        d := min 16777215 (((t.d : Int) * 25600 + t.residue - c * 256) / 25600).toNat
        residue :=
          if (t.d : Int) * 25600 + t.residue - c * 256 < 0 ∨ 16777215 < ((t.d : Int) * 25600 + t.residue - c * 256) / 25600 then 0
          else (((t.d : Int) * 25600 + t.residue - c * 256) % 25600).toNat } := by
  unfold TestRecord.deliver
  dsimp only
  generalize (t.d : Int) * 25600 + t.residue - c * 256 = a
  by_cases hneg : a < 0
  · rw [if_pos hneg, if_pos (.inl hneg), show min 16777215 (a / 25600).toNat = 0 by omega]
  · rw [if_neg hneg]
    by_cases hfull : 16777215 < (a / 25600).toNat
    · rw [if_pos hfull, if_pos (.inr (by omega)), show min 16777215 (a / 25600).toNat = 16777215 by omega]
    · rw [if_neg hfull, if_neg (not_or.mpr ⟨hneg, by omega⟩), show min 16777215 (a / 25600).toNat = (a / 25600).toNat by omega]

theorem testOf_tested (h : (u.caseOf fresh i).start = .testing) (ht : (u.caseOf fresh i).Tests) :
    u.testOf fresh i =
      { u.charge.test with
        d := (u.caseOf fresh i).d
        residue :=
          if (u.caseOf fresh i).delivered < 0 ∨ 16777215 < (u.caseOf fresh i).delivered / 25600 then 0
          else ((u.caseOf fresh i).delivered % 25600).toNat
        elapsed := u.seconds - u.charge.test.start } := by
  have hst : u.startOf fresh i ≠ .absent := by
    rw [startOf_case, h]
    exact nofun
  have e : u.testOf fresh i = u.testDelivered i := if_pos ⟨testing_case.mpr ht, hst⟩
  rw [e]
  unfold State.testDelivered
  rw [deliver_eq]
  rfl

theorem verdictOn_tested (h : (u.caseOf fresh i).start = .testing) (ht : (u.caseOf fresh i).Tests)
    (hcool : (u.caseOf fresh i).temp < (u.caseOf fresh i).set.tCrit) :
    u.verdictOn fresh i = if (u.caseOf fresh i).Cut then .completes else .stays := by
  rw [verdictOn_testing (startOf_case.trans h) ((BbuCase.not_hot _).mpr hcool)]
  exact if_congr (and_iff_right ht) rfl rfl

theorem verdictOn_overheated (h : (u.caseOf fresh i).start = .testing) (hot : (u.caseOf fresh i).Hot) :
    u.verdictOn fresh i = .fails :=
  verdictOn_hot (by rw [startOf_case, h]; exact nofun) (by rw [startOf_case, h]; exact nofun) hot

end Record

end Sys2Proof.Machine
end

section
/-! PROOFS. O32: the other BBUs on a sample set, and what follows them, leave a BBU as its own sample left it. -/

namespace Sys2Proof.Machine

section Untested
variable {u : State} {fresh : Bool} {j : BbuId}

/-- What neither completes nor fails a test leaves of it, of the store and of its cause. -/
structure Untested (s t : State) : Prop where
  test : t.charge.test = s.charge.test
  store : t.store = s.store
  quiet : Quiet causeTest s t

theorem Untested.trans {s t v : State} (h : Untested s t) (k : Untested t v) : Untested s v :=
  ⟨k.test.trans h.test, k.store.trans h.store, h.quiet.trans k.quiet⟩

theorem Untested.of_touches {s t : State} (htest : t.charge.test = s.charge.test) (hbase : t.base = s.base)
    (h : Touches (· = causeBbu j) s t) : Untested s t := ⟨htest, base_store hbase, h causeTest (causeBbu_ne_test j).symm⟩

theorem entered_calm (u : State) (fresh : Bool) (j : BbuId) : Untested u (u.entered fresh j) := by
  have hset : Untested u (refreshBbu j u) := ⟨rfl, rfl, .of_eq rfl rfl⟩
  cases fresh with
  | false => exact hset
  | true =>
    have e : u.entered true j = driveBbu j (changeBbu j ((refreshBbu j u).classOf j) (refreshBbu j u)) := rfl
    have hchanged := Untested.of_touches (changeBbu_rest (i := j) (s := refreshBbu j u) ((refreshBbu j u).classOf j)).2.2.1
      (changeBbu_base j _ _) (changeBbu_touches j ((refreshBbu j u).classOf j) (refreshBbu j u))
    rw [e]
    refine (hset.trans hchanged).trans (Untested.of_touches (j := j) ?_ (driveBbu_base j _) ((Touches.refl _ _).driveBbu j))
    rw [driveBbu_charge]

theorem integrateBbu_calm (h : u.testing j = false) : Untested u (integrateBbu j u).1 := by
  by_cases hst : u.charge.bbus[j].state = .absent
  · rw [integrateBbu_absent hst]
    exact ⟨rfl, rfl, .refl _ u⟩
  · rw [integrateBbu_present hst, if_neg (by rw [h]; exact nofun)]
    exact .of_touches (counterTaken_test u j) (counterTaken_base u j) (counterTaken_touches u j)

theorem verdictOf_completes {set : BbuSettings} {b : Bbu} {c volt temp : Int} {tests online : Bool}
    (h : verdictOf set b c volt temp tests online = .completes) : tests = true := by
  have hsound := verdictOf_sound (set := set) (b := b) (c := c) (volt := volt) (temp := temp) (tests := tests) (online := online)
  rw [h] at hsound
  have hst : b.state = .testing := hsound
  by_cases hot : set.tCrit ≤ temp
  · exact absurd ((verdictOf_hot (by rw [hst]; exact nofun) (by rw [hst]; exact nofun) hot).symm.trans h) nofun
  · rw [verdictOf_testing hst hot] at h
    split at h
    · next hdone => exact hdone.1
    · cases h

theorem judgeBbu_calm (h : u.testing j = false) : Untested u (judgeBbu j u) := by
  have henacted := enacted (i := j) (s := u) (w := u.verdict j) verdictOf_sound
  rw [← judgeBbu_verdict] at henacted
  have hno : u.verdict j ≠ .completes := fun hc => absurd (h.symm.trans (verdictOf_completes hc)) nofun
  obtain ⟨htest, htouches⟩ := henacted.calm hno fun _ => h
  exact ⟨htest, (henacted.kept hno).2, htouches causeTest (causeBbu_ne_test j).symm⟩

/-- R55, R56: the sample of a BBU that is not under test leaves the test. -/
theorem sampleBbu_calm (h : u.testing j = false) : Untested u (sampleBbu fresh j u) := by
  have hentered := entered_calm u fresh j
  have htests {v : State} (hv : Untested u v) : v.testing j = false := (testing_of_test hv.test j).trans h
  have hcounted := hentered.trans (integrateBbu_calm (htests hentered))
  have hjudged := hcounted.trans (judgeBbu_calm (htests hcounted))
  rw [sampleBbu_entered]
  split
  · refine hjudged.trans (Untested.of_touches ?_ (raiseBottomed_base j _) (raiseBottomed_touches _))
    rw [raiseBottomed_charge]
  · exact hjudged

end Untested

/-! ### Around one BBU -/

/-- What the other BBUs and the operations after them leave of BBU `i`, of its test and of its cause. -/
structure Rests (i : BbuId) (s t : State) : Prop where
  record : s.charge.bbus[i].Drives t.charge.bbus[i]
  setting : t.settings.bbus[i] = s.settings.bbus[i]
  owner : t.charge.test.bbu = s.charge.test.bbu
  owned : s.charge.test.bbu = some i → Untested s t
  quiet : Quiet (causeBbu i) s t
  armed : s.charge.armed = false → t.charge.armed = false
  halted : s.charge.halted = true → t.charge.halted = true

namespace Rests
variable {i : BbuId} {s t v : State}

theorem refl (i : BbuId) (s : State) : Rests i s s := ⟨.refl _, rfl, rfl, fun _ => ⟨rfl, rfl, .refl _ s⟩, .refl _ s, id, id⟩

theorem trans (h : Rests i s t) (k : Rests i t v) : Rests i s v where
  record := h.record.trans k.record
  setting := k.setting.trans h.setting
  owner := k.owner.trans h.owner
  owned e := (h.owned e).trans (k.owned (h.owner.trans e))
  quiet := h.quiet.trans k.quiet
  armed e := k.armed (h.armed e)
  halted e := k.halted (h.halted e)

theorem testing (h : Rests i s t) : t.testing i = s.testing i := by
  by_cases e : s.charge.test.bbu = some i
  · exact testing_of_test (h.owned e).test i
  · rw [Bool.eq_iff_iff, testing_iff, testing_iff, h.owner]
    exact ⟨fun hr => absurd hr.2 e, fun hr => absurd hr.2 e⟩

end Rests

section Around
variable {i : BbuId}

theorem causeBbu_ne {j : BbuId} (h : j ≠ i) : causeBbu i ≠ causeBbu j := by
  revert h
  revert i j
  decide

/-- What the sample of another BBU leaves of BBU `i`. -/
structure Passes (i : BbuId) (s t : State) : Prop extends Rests i s t where
  same : t.charge.bbus[i] = s.charge.bbus[i]
  sense : t.sense = s.sense
  holdup : t.holdup = s.holdup
  clock : t.clock = s.clock

theorem sampleBbu_passes {j : BbuId} (h : j ≠ i) (fresh : Bool) (u : State) : Passes i u (sampleBbu fresh j u) := by
  have hstep := (BbuStep.refl j u).sampleBbu fresh
  have hsame := hstep.others i h
  have hcalm : u.charge.test.bbu = some i → Untested u (sampleBbu fresh j u) := fun e => by
    refine sampleBbu_calm (Bool.eq_false_iff.mpr fun ht => ?_)
    exact h (Option.some.inj ((testing_iff.mp ht).2.symm.trans e))
  have hquiet : Quiet (causeBbu i) u (sampleBbu fresh j u) :=
    hstep.touches _ fun e => e.elim (causeBbu_ne h) (causeBbu_ne_test i)
  have hframe := hstep.frame
  have hsets := hstep.sets i h
  have howner := hstep.owner
  have harmed := hstep.armed
  have hhalted := hstep.halted
  generalize sampleBbu fresh j u = t at hsame hcalm hquiet hframe hsets howner harmed hhalted ⊢
  refine ⟨⟨by rw [hsame]; exact .refl _, hsets, howner, hcalm, hquiet, harmed, hhalted⟩, hsame, ?_, ?_, ?_⟩
  · rw [hframe]
  · rw [hframe]
  · rw [hframe]

theorem Passes.trans {s t v : State} (h : Passes i s t) (k : Passes i t v) : Passes i s v :=
  ⟨h.toRests.trans k.toRests, k.same.trans h.same, k.sense.trans h.sense, k.holdup.trans h.holdup, k.clock.trans h.clock⟩

/-- The sample of BBU `i`, with those of the others around it. -/
theorem bbusSampled_around (s : State) (fresh : Bool) (i : BbuId) :
    ∃ u, Passes i s u ∧ Passes i (sampleBbu fresh i u) (s.bbusSampled fresh) :=
  foldl_around (R := Passes i) (f := fun s i => sampleBbu fresh i s) (fun u => ⟨.refl i u, rfl, rfl, rfl, rfl⟩) Passes.trans
    (mem_bbuIds i) bbuIds_nodup (fun _ hj u => sampleBbu_passes hj fresh u) s

end Around

end Sys2Proof.Machine
end

section
/-! PROOFS. O32: what follows the samples of the BBUs leaves their counters, and, on a set that leaves the holdup state, their records,
the test and the causes of both. -/

namespace Sys2Proof.Machine

/-! ### The ropes and the regulator -/

/-- The causes that the ropes, their sheds and the regulator may report or raise. -/
def LateCause (c : CauseId) : Prop := ShedCause c ∨ ∃ z : ZoneId, c = causeZoneWet z ∨ c = causeRopeFault z

theorem not_lateCause_bbu (i : BbuId) : ¬ LateCause (causeBbu i) := by
  rintro (h | ⟨z, h⟩)
  · exact h.ne_bbu i rfl
  · revert i z
    decide

theorem not_lateCause_test : ¬ LateCause causeTest := by
  rintro (h | ⟨z, h⟩)
  · exact not_reserveCause_test (.inl h)
  · revert z
    decide

theorem Touches.late (s : State) : LeakInvariant (Touches LateCause s) where
  lineWatch h := (Touches.shedInvariant (fun _ => .inl) s).lineWatch h
  lockZone h := (Touches.shedInvariant (fun _ => .inl) s).lockZone h _
  shedZone h := (Touches.shedInvariant (fun _ => .inl) s).shedZone h _
  setZone {t z x} h := h.trans (u := t.setZone z x) (.of_same rfl rfl)
  spendFree {t} h := h.trans (u := t.spendFree) (.of_same rfl rfl)
  reportZone h := h.report (.inr ⟨_, .inl rfl⟩) _
  raiseZone h := h.raise (.inr ⟨_, .inl rfl⟩) _ _
  reportRope h := h.report (.inr ⟨_, .inr rfl⟩) _
  raiseRope h := h.raise (.inr ⟨_, .inr rfl⟩) _ _

theorem sampleLater_touches (s : State) : Touches LateCause s (sampleRegulator (sampleLeak s)) :=
  (Touches.shedInvariant (fun _ => .inl) s).sampleRegulator ((Touches.late s).sampleLeak (.refl _ s))

theorem sampleLater_rests (i : BbuId) (s : State) : Rests i s (sampleRegulator (sampleLeak s)) := by
  have hframe := LateFrame.sampleLater s
  have htouches := sampleLater_touches s
  generalize sampleRegulator (sampleLeak s) = t at hframe htouches ⊢
  have htest : t.charge.test = s.charge.test := by rw [hframe.charge]
  exact ⟨hframe.bbus i, by rw [hframe.settings], by rw [htest], fun _ => ⟨htest, hframe.store, htouches _ not_lateCause_test⟩,
    htouches _ (not_lateCause_bbu i), fun h => by rw [hframe.charge]; exact h, fun h => by rw [hframe.charge]; exact h⟩

/-! ### The reserve and the holdup controller -/

theorem recomputeReserve_rests (i : BbuId) (s : State) : Rests i s (recomputeReserve s) := by
  have hrecord := recomputeReserve_bbu s i
  have hbase := recomputeReserve_base s
  have htest := recomputeReserve_test s
  have hquiet := recomputeReserve_quiet s i
  have htouches := recomputeReserve_touches s
  have harmed := recomputeReserve_armed s
  have hhalted : s.charge.halted = true → (recomputeReserve s).charge.halted = true := fun h => by
    rw [recomputeReserve_charge]
    exact h
  generalize recomputeReserve s = t at hrecord hbase htest hquiet htouches harmed hhalted ⊢
  exact ⟨hrecord, by rw [base_settings hbase], by rw [htest],
    fun _ => ⟨htest, base_store hbase, htouches _ not_reserveCause_test⟩, hquiet,
    fun h => Bool.eq_false_iff.mpr fun ht => absurd (h.symm.trans (harmed ht)) nofun, hhalted⟩

theorem setHoldup_rests (i : BbuId) (s : State) (x : Holdup) : Rests i s (s.setHoldup x) :=
  ⟨.refl _, rfl, rfl, fun _ => ⟨rfl, rfl, .of_eq rfl rfl⟩, .of_eq rfl rfl, id, id⟩

/-! ### The counters through a move of the holdup state -/

/-- The counter of BBU `i` and its flags are those of `s` (R43, R44). -/
def SameCounter (i : BbuId) (s t : State) : Prop :=
  t.charge.bbus[i].q = s.charge.bbus[i].q ∧ t.charge.bbus[i].r = s.charge.bbus[i].r ∧
    t.charge.bbus[i].full = s.charge.bbus[i].full ∧ t.charge.bbus[i].bottomed = s.charge.bbus[i].bottomed

namespace SameCounter
variable {i : BbuId} {s t u : State}

theorem refl (i : BbuId) (s : State) : SameCounter i s s := ⟨rfl, rfl, rfl, rfl⟩

theorem trans (h : SameCounter i s t) (k : SameCounter i t u) : SameCounter i s u :=
  ⟨k.1.trans h.1, k.2.1.trans h.2.1, k.2.2.1.trans h.2.2.1, k.2.2.2.trans h.2.2.2⟩

theorem of_drives (h : s.charge.bbus[i].Drives t.charge.bbus[i]) : SameCounter i s t := by
  unfold Bbu.Drives at h
  unfold SameCounter
  rw [h]
  exact ⟨rfl, rfl, rfl, rfl⟩

theorem of_charge (h : SameCounter i s t) (e : u.charge = t.charge) : SameCounter i s u := h.trans (.of_drives (by rw [e]; exact .refl _))

theorem report (h : SameCounter i s t) (c : CauseId) (a : Bool) : SameCounter i s (reportCondition c a t) :=
  h.of_charge (reportCondition_charge _ _ _)

theorem raise (h : SameCounter i s t) (c : CauseId) (v : Int) (code : Byte) : SameCounter i s (raise c v code t) :=
  h.of_charge (raise_charge _ _ _ _)

theorem shed (i : BbuId) (s : State) : ShedInvariant (SameCounter i s) where
  setBudget h := h.of_charge rfl
  setRecharge h := h.of_charge rfl
  setSeq h := h.of_charge rfl
  setLine h := h.of_charge rfl
  driveBbu h := h.trans (.of_drives (driveBbu_bbus _ _ _))
  reportCondition _ h := h.report _ _
  raise _ h := h.raise _ _ _

theorem reserve (i : BbuId) (s : State) : ReserveInvariant (SameCounter i s) where
  targetAction h := (shed i s).targetAction h
  setMatched h _ := h.of_charge rfl
  reckon h := h.trans ⟨rfl, rfl, rfl, rfl⟩
  raiseTarget h := h.raise _ _ _
  reportRange h := h.report _ _
  raiseRange h := h.raise _ _ _

theorem changeBbu (h : SameCounter i s t) (j : BbuId) (st : BbuState) : SameCounter i s (changeBbu j st t) := by
  by_cases hst : t.charge.bbus[j].state = st
  · rw [changeBbu_of_same hst]
    exact h
  · refine h.trans ?_
    unfold SameCounter
    rw [changeBbu_of_ne hst, raise_charge, moveBbu_bbus]
    split
    · next e =>
      subst e
      exact ⟨rfl, rfl, rfl, rfl⟩
    · exact ⟨rfl, rfl, rfl, rfl⟩

theorem abortTestForAc (h : SameCounter i s t) : SameCounter i s (abortTestForAc t) := by
  have habort : SameCounter i s (abortTest .abortedAc (fun _ _ => .discharging) t) := by
    unfold abortTest
    dsimp only
    split
    · exact h
    · have hclosed (x : TestRecord) : SameCounter i s (t.setCharge { t.charge with test := x }) := h.trans ⟨rfl, rfl, rfl, rfl⟩
      exact ((hclosed _).raise _ _ _).changeBbu _ _
  exact ite_keeps (P := SameCounter i s) ((reserve i s).recomputeReserve habort) h

theorem holdup (i : BbuId) (s : State) : HoldupInvariant (SameCounter i s) where
  reserve := reserve i s
  seqEvent h := (shed i s).seqEvent h
  shedAll h := (shed i s).foldl_shedSlot slotIds h
  regulatorOff h := (shed i s).regulatorOff h
  leaveDeficit h := (shed i s).leaveDeficit h
  tell h := h.of_charge rfl
  setHoldup h := h.of_charge rfl
  reportHoldup h := h.report _ _
  raiseHoldup h := h.raise _ _ _
  changeBbu h := h.changeBbu _ _
  abortTestForAc h := h.abortTestForAc

end SameCounter

end Sys2Proof.Machine
end

section
/-! PROOFS. O32: one BBU on a sample set, between what comes before its sample and what comes after. -/

namespace Sys2Proof.Machine

section Around
variable (codes : Vector (BitVec 12) 29) (s : State) (i : BbuId)

/-- How BBU `i` stands in `u`, just before its sample on a set taken in `s`. -/
structure Awaits (s : State) (i : BbuId) (u : State) : Prop where
  record : s.charge.bbus[i].Drives u.charge.bbus[i]
  setting : u.settings.bbus[i] = s.settings.bbus[i]
  owner : u.charge.test.bbu = s.charge.test.bbu
  owned : s.charge.test.bbu = some i →
    u.charge.test = { s.charge.test with timer := s.charge.test.timer.map (· - 10) } ∧ u.store.unstored = s.store.unstored
  sending : KeepsSending s u
  state : u.holdup.state = s.holdup.state

theorem capacitated_unstored : (s.capacitated codes).store.unstored = s.store.unstored := by
  have hscan := scanned_scans codes s
  have hclass := psusClassed_tells (s.scanned codes)
  unfold State.capacitated
  unfold Scans Tells at hscan
  unfold Tells at hclass
  generalize s.scanned codes = c at hscan hclass ⊢
  generalize c.psusClassed = d at hclass ⊢
  rw [hclass, hscan]
  show (passInterval s).store.unstored = s.store.unstored
  simp only [passInterval]

theorem passInterval_bbus : (passInterval s).charge.bbus = s.charge.bbus := by simp only [passInterval]

theorem passInterval_test :
    (passInterval s).charge.test = { s.charge.test with timer := s.charge.test.timer.map (· - 10) } := by
  simp only [passInterval]
  rfl

theorem budgeted_awaits : Awaits s i (recompute (s.capacitated codes)) := by
  have hcap := capacitated_spec codes s
  have hstore := capacitated_unstored codes s
  have hleaves : LeavesPoints (s.scanned codes) (recompute (s.capacitated codes)) :=
    (sampleBudget_leaves (.refl (s.scanned codes)) : LeavesPoints _ (sampleBudget (s.scanned codes)))
  have hsend := (scanned_sending codes s).trans (hleaves.cause ⟨0, by decide⟩ (by decide)).sending
  have hbbus := passInterval_bbus s
  have htest := passInterval_test s
  have hstate : (passInterval s).holdup.state = s.holdup.state := by simp only [passInterval]
  generalize s.capacitated codes = v at hcap hstore hsend ⊢
  have hr := (Ripple.refl v).recompute
  have hrtest : (recompute v).charge.test = v.charge.test := by rw [hr.charge]
  generalize recompute v = r at hr hrtest hsend ⊢
  rw [hcap.charge, htest] at hrtest
  refine ⟨?_, ?_, by rw [hrtest], fun _ => ⟨hrtest, (congrArg Store.unstored (base_store hr.base)).trans hstore⟩, hsend, ?_⟩
  · have hrecord := hr.bbus i
    rw [hcap.charge, hbbus] at hrecord
    exact hrecord
  · rw [base_settings hr.base, hcap.settings]
  · rw [hr.holdup, hcap.holdup, hstate]

theorem Awaits.passes {s u : State} {i : BbuId} {v : State} (h : Awaits s i v) (k : Passes i v u) : Awaits s i u where
  record := h.record.trans k.record
  setting := k.setting.trans h.setting
  owner := k.owner.trans h.owner
  owned e := by
    obtain ⟨htest, hstore⟩ := h.owned e
    have hk := k.owned (h.owner.trans e)
    exact ⟨hk.test.trans htest, (congrArg Store.unstored hk.store).trans hstore⟩
  sending := h.sending.trans k.quiet.sending
  state := (congrArg Holdup.state k.holdup).trans h.state

/-- What follows the BBUs keeps their readings, and on a set that leaves the holdup state their records. -/
structure Settles (s : State) (i : BbuId) (w t : State) : Prop where
  counter : SameCounter i w t
  sense : t.sense = w.sense
  clock : t.clock = w.clock
  rests : t.holdup.state = s.holdup.state → Rests i w t

theorem sampleSet_settles : Settles s i ((recompute (s.capacitated codes)).bbusSampled (!s.sense.seen)) (sampleSet codes s) := by
  have hready := readied_capacitated codes s
  have hlate := LateFrame.sampleLater (sampleHoldup (s.readied codes))
  have hrests := sampleLater_rests i (sampleHoldup (s.readied codes))
  have hstate : (s.readied codes).holdup.state = s.holdup.state := by
    rw [(readied_spec codes s).holdup.state]
    simp only [passInterval]
  rw [sampleSet_eq]
  generalize sampleRegulator (sampleLeak (sampleHoldup (s.readied codes))) = t at hlate hrests ⊢
  rw [hready] at hlate hrests hstate
  generalize (recompute (s.capacitated codes)).bbusSampled (!s.sense.seen) = d at hlate hrests hstate ⊢
  have hbase := (sampleHoldup_base (recomputeReserve d)).trans (recomputeReserve_base d)
  refine ⟨?_, hlate.sense.trans (base_sense hbase), hlate.clock.trans (congrArg Base.clock hbase), fun hsame => ?_⟩
  · have hholdup : SameCounter i d (sampleHoldup (recomputeReserve d)) :=
      (SameCounter.holdup i d).sampleHoldup (.of_drives (recomputeReserve_bbu d i))
    exact hholdup.trans (.of_drives (hlate.bbus i))
  · have hstill : (sampleHoldup (recomputeReserve d)).holdup.state = (recomputeReserve d).holdup.state := by
      rw [← hlate.holdup, hsame, hstate]
    obtain ⟨x, -, e⟩ := sampleHoldup_still hstill
    rw [e] at hrests
    exact ((recomputeReserve_rests i d).trans (setHoldup_rests i _ x)).trans hrests

/-- The sample of BBU `i` on a set, with what comes before it and after it. -/
theorem sampleSet_around :
    ∃ u, Awaits s i u ∧ u.sense = (sampleSet codes s).sense ∧ u.clock = (sampleSet codes s).clock ∧
      Settles s i (sampleBbu (!s.sense.seen) i u) (sampleSet codes s) := by
  have hawaits := budgeted_awaits codes s i
  have hsettles := sampleSet_settles codes s i
  generalize recompute (s.capacitated codes) = v at hawaits hsettles
  obtain ⟨u, hbefore, hafter⟩ := bbusSampled_around v (!s.sense.seen) i
  have hstep := (BbuStep.refl i u).sampleBbu (!s.sense.seen)
  generalize sampleSet codes s = t at hsettles ⊢
  generalize v.bbusSampled (!s.sense.seen) = d at hsettles hafter
  have hsense : (sampleBbu (!s.sense.seen) i u).sense = u.sense := by rw [hstep.frame]
  have hclock : (sampleBbu (!s.sense.seen) i u).clock = u.clock := by rw [hstep.frame]
  refine ⟨u, hawaits.passes hbefore, (hsettles.sense.trans (hafter.sense.trans hsense)).symm,
    (hsettles.clock.trans (hafter.clock.trans hclock)).symm, ?_⟩
  generalize sampleBbu (!s.sense.seen) i u = w at hafter ⊢
  exact
    ⟨(SameCounter.of_drives hafter.record).trans hsettles.counter, hsettles.sense.trans hafter.sense,
      hsettles.clock.trans hafter.clock, fun hsame => hafter.toRests.trans (hsettles.rests hsame)⟩

end Around

end Sys2Proof.Machine
end

section
/-! PROOFS. O32: what a sample set leaves of one BBU, by what the judgement reads. -/

namespace Sys2Proof.Machine

/-- R43, R44: the counter of a present BBU after the set. -/
structure CountsAs (k : BbuCase) (x : Bbu) : Prop where
  bottoms : k.a < 0 → x.q = 0 ∧ x.r = 0 ∧ x.full = false ∧ x.bottomed = true
  fills : 0 ≤ k.a → (k.set.qFull : Int) ≤ k.a / 25600 → x.q = k.set.qFull ∧ x.r = 0 ∧ x.full = true ∧ x.bottomed = k.b.bottomed
  counts : 0 ≤ k.a → k.a / 25600 < (k.set.qFull : Int) →
    (x.q : Int) = k.a / 25600 ∧ (x.r : Int) = k.a % 25600 ∧ x.full = false ∧ x.bottomed = k.b.bottomed

/-- R36 to R45: the state, the taper run and the cause of a BBU after the set. -/
structure MovesAs (k : BbuCase) (next : BbuState) (x : Bbu) (s t : State) : Prop where
  state : x.state = next
  crit : x.critInForce = k.set.tCrit
  detect : x.detectInForce = k.set.detect
  unfloating : k.Judged → ¬ k.Floats → x.taper = 0
  unanchored : k.start = .charging → k.set.anchor = false → x.taper = 0
  tapers : k.Judged ∧ k.Floats → k.b.taper + 1 < k.set.taperTime → x.taper = k.b.taper + 1
  anchors : k.Judged ∧ k.Floats → k.set.taperTime ≤ k.b.taper + 1 →
    x.q = k.set.qFull ∧ x.r = 0 ∧ x.full = true ∧
      x.calibrated = true ∧ x.bottomed = false ∧ RaisedFrom s t (causeBbu k.i) k.set.qFull 2
  bottoms : k.start ≠ .absent → k.a < 0 → RaisedFrom s t (causeBbu k.i) 0 1
  halts : k.a < 0 → k.start = .standby ∨ k.start = .charging ∨ k.start = .discharging ∨ k.start = .testing →
    t.charge.armed = false ∧ t.charge.halted = true
  moves : k.seen = true → k.b.state ≠ next → 0 ≤ k.a → ¬ ((k.Judged ∧ k.Floats) ∧ k.set.taperTime ≤ k.b.taper + 1) →
    RaisedFrom s t (causeBbu k.i) x.q (BitVec.ofNat 8 (16 + next.code))

/-- R55 to R57: the test of a BBU after the set. -/
structure TestsAs (k : BbuCase) (x : Bbu) (s t : State) : Prop where
  runs : k.start = .testing → k.Tests → k.temp < k.set.tCrit → ¬ k.Cut →
    t.charge.test =
      { k.test with
        d := k.d
        residue := if k.delivered < 0 ∨ 16777215 < k.delivered / 25600 then 0 else (k.delivered % 25600).toNat
        elapsed := t.seconds - k.test.start }
  completes : k.start = .testing → k.Tests → k.temp < k.set.tCrit → k.Cut →
    t.charge.test.running = false ∧ t.charge.test.result = .complete ∧ t.charge.test.d = k.d ∧ t.charge.test.timer = none ∧
      t.settings.bbus[k.i] = k.set.tested k.d ∧ t.store.unstored = (s.store.unstored || (k.set.tested k.d).qFull != k.set.qFull) ∧
      x.q = k.set.qFloor ∧ x.r = 0 ∧ x.calibrated = true ∧
      x.bottomed = false ∧ x.full = false ∧
      x.health = some (min 255 (k.d * 100 / k.set.dRated)) ∧ RaisedFrom s t causeTest k.d 1
  fails : k.start = .testing → k.Tests → k.set.tCrit ≤ k.temp →
    t.charge.test.running = false ∧ t.charge.test.result = .abortedFault ∧ RaisedFrom s t causeTest 0 5

section Judged
variable {s t u w : State} {fresh : Bool} {i : BbuId}

theorem counted_countsAs {x : Bbu} {k : BbuCase} (hq : x.q = k.q) (hr : x.r = k.residue)
    (hfull : x.full = decide ((k.set.qFull : Int) ≤ k.a / 25600)) (hbottomed : x.bottomed = (k.b.bottomed || decide (k.a < 0))) :
    CountsAs k x where
  bottoms hneg := by
    have hk : k.q = min k.set.qFull (k.a / 25600).toNat := rfl
    have hlow : ¬ (k.set.qFull : Int) ≤ k.a / 25600 := by omega
    rw [hq, hr, hfull, hbottomed, decide_eq_true hneg, decide_eq_false hlow, Bool.or_true, BbuCase.residue, if_pos (.inl hneg)]
    exact ⟨by omega, rfl, rfl, rfl⟩
  fills hpos hf := by
    have hk : k.q = min k.set.qFull (k.a / 25600).toNat := rfl
    rw [hq, hr, hfull, hbottomed, decide_eq_false (not_lt.mpr hpos), decide_eq_true hf, Bool.or_false, BbuCase.residue, if_pos (.inr hf)]
    exact ⟨by omega, rfl, rfl, rfl⟩
  counts hpos hl := by
    have hk : k.q = min k.set.qFull (k.a / 25600).toNat := rfl
    have hno : ¬ (k.a < 0 ∨ (k.set.qFull : Int) ≤ k.a / 25600) := by omega
    rw [hq, hr, hfull, hbottomed, decide_eq_false (not_lt.mpr hpos), decide_eq_false (not_le.mpr hl), Bool.or_false, BbuCase.residue,
      if_neg hno]
    exact ⟨by omega, by omega, rfl, rfl⟩

theorem sampled_countsAs (hs : SampledBbu u fresh i w) (hc : SameCounter i w t) (hst : u.startOf fresh i ≠ .absent)
    (ha : u.verdictOn fresh i ≠ .anchors) (hno : u.verdictOn fresh i ≠ .completes) : CountsAs (u.caseOf fresh i) t.charge.bbus[i] := by
  obtain ⟨hq, hr, hfull, hbottomed⟩ := recordOf_counter hst ha hno
  have hw := hs.record
  unfold Bbu.Drives at hw
  obtain ⟨hq', hr', hfull', hbottomed'⟩ := hc
  rw [hw] at hq' hr' hfull' hbottomed'
  exact counted_countsAs (hq'.trans hq) (hr'.trans hr) (hfull'.trans hfull) (hbottomed'.trans hbottomed)

theorem RaisedFrom.around {c : CauseId} {v : Int} {code : Byte} (h : RaisedFrom u w c v code) (before : KeepsSending s u)
    (sends : KeepsSending u w) (after : Quiet c w t) : RaisedFrom s t c v code :=
  (h.widen sends (Quiet.refl c u).toUnraised after.toUnraised).late before

theorem sampled_movesAs (hs : SampledBbu u fresh i w) (hr : Rests i w t) (hsend : KeepsSending s u) :
    MovesAs (u.caseOf fresh i) (u.caseOf fresh i).next t.charge.bbus[i] s t := by
  have hrecord := hs.record.trans hr.record
  unfold Bbu.Drives at hrecord
  have hset : u.settings.bbus[i] = (u.caseOf fresh i).set := rfl
  have hraise {v : Int} {code : Byte} (h : RaisedFrom u w (causeBbu i) v code) : RaisedFrom s t (causeBbu i) v code :=
    h.around hsend hs.sending hr.quiet
  obtain ⟨hcrit, hdetect⟩ := recordOf_inForce (u := u) (fresh := fresh) (i := i)
  have hbottomed (h : (u.countOf fresh i).2 = true) : RaisedFrom s t (causeBbu i) 0 1 := hraise (hs.bottomed h)
  refine ⟨?_, ?_, ?_, ?_, ?_, ?_, ?_, ?_, ?_, ?_⟩
  · rw [hrecord]
    exact recordOf_state
  · rw [hrecord]
    exact hcrit
  · rw [hrecord]
    exact hdetect
  · intro hj hf
    rw [hrecord]
    exact recordOf_unfloating hj hf
  · intro hst hanchor
    rw [hrecord]
    exact recordOf_unanchored hst hanchor
  · rintro ⟨hj, hf⟩ hlt
    rw [hrecord]
    exact recordOf_tapers hj hf (not_le.mpr hlt)
  · rintro ⟨hj, hf⟩ hripe
    have hv := verdictOn_anchored hj hf hripe
    have hpresent : u.startOf fresh i ≠ .absent := by
      rw [startOf_case, hj.1]
      exact nofun
    have hpos : (u.countOf fresh i).2 = false := by
      obtain ⟨-, hc, -⟩ := hf
      rw [countOf_present hpresent]
      refine decide_eq_false (not_lt.mpr ?_)
      have hd : (0 : Int) ≤ if 0 < (u.caseOf fresh i).c then (u.caseOf fresh i).c * (u.caseOf fresh i).set.eta
          else (u.caseOf fresh i).c * 256 := by
        split
        · exact Int.mul_nonneg hc (Int.natCast_nonneg _)
        · exact Int.mul_nonneg hc (by decide)
      show (0 : Int) ≤ (_ : Int) * 25600 + _ + _
      omega
    rw [hrecord]
    have e : u.recordOf fresh i = Verdict.anchors.record u.settings.bbus[i] (u.countOf fresh i).1 (u.testOf fresh i).d := by
      rw [State.recordOf, hv]
    rw [e]
    exact ⟨rfl, rfl, rfl, rfl, rfl, hraise (hs.anchored hpos hv)⟩
  · intro hst hneg
    have hpresent : u.startOf fresh i ≠ .absent := by rw [startOf_case]; exact hst
    refine hbottomed ?_
    rw [countOf_present hpresent]
    exact decide_eq_true hneg
  · intro hneg hst
    rw [← startOf_case] at hst
    have hcounted : (u.startOf fresh i).counted = true := by
      rcases hst with e | e | e | e <;> rw [e] <;> rfl
    have hpresent : u.startOf fresh i ≠ .absent := fun e => by
      rw [e] at hcounted
      cases hcounted
    have hflag : (u.countOf fresh i).2 = true := by
      rw [countOf_present hpresent]
      exact decide_eq_true hneg
    obtain ⟨harmed, hhalted⟩ := hs.halts hflag hcounted
    exact ⟨hr.armed harmed, hr.halted hhalted⟩
  · intro hseen hne hpos hno
    have hst : u.startOf fresh i = (u.caseOf fresh i).b.state := startOf_case.trans (if_pos hseen)
    have hflag : (u.countOf fresh i).2 = false := by
      by_cases hab : u.startOf fresh i = .absent
      · rw [countOf_absent hab]
      · rw [countOf_present hab]
        exact decide_eq_false (not_lt.mpr hpos)
    have hv : u.verdictOn fresh i ≠ .anchors := fun e => by
      obtain ⟨hj, hf, hripe⟩ := verdictOn_anchors e
      exact hno ⟨⟨hj, hf⟩, hripe⟩
    have hmoved := hs.moved hflag hv (by rw [verdictOn_next, hst]; exact hne.symm)
    rw [verdictOn_next] at hmoved
    rw [hrecord]
    exact hraise hmoved

theorem sampled_testsAs (hs : SampledBbu u fresh i w) (hr : Rests i w t) (hsend : KeepsSending s u)
    (howner : w.charge.test.bbu = u.charge.test.bbu) (hsecs : t.seconds = u.seconds)
    (hstore : u.charge.test.bbu = some i → u.store.unstored = s.store.unstored) : TestsAs (u.caseOf fresh i) t.charge.bbus[i] s t := by
  have hrecord := hs.record.trans hr.record
  unfold Bbu.Drives at hrecord
  have howned (ht : (u.caseOf fresh i).Tests) : Untested w t := hr.owned (howner.trans ht.2)
  have hset : u.settings.bbus[i] = (u.caseOf fresh i).set := rfl
  refine ⟨fun hst ht hcool hcut => ?_, fun hst ht hcool hcut => ?_, fun hst ht hot => ?_⟩
  · have hv := verdictOn_tested hst ht hcool
    rw [if_neg hcut] at hv
    obtain ⟨htest, -⟩ := hs.calm (by rw [hv]; exact nofun) fun e => absurd (hv.symm.trans e) nofun
    rw [(howned ht).test, htest, testOf_tested hst ht, hsecs]
    rfl
  · have hv := verdictOn_tested hst ht hcool
    rw [if_pos hcut] at hv
    have htest := testOf_tested hst ht
    obtain ⟨hended, hsets, hunstored, hraised⟩ := hs.completed hv
    have hw := howned ht
    have hd : (u.testOf fresh i).d = (u.caseOf fresh i).d := by rw [htest]
    have e : u.recordOf fresh i = Verdict.completes.record u.settings.bbus[i] (u.countOf fresh i).1 (u.testOf fresh i).d := by
      rw [State.recordOf, hv]
    rw [hd] at e hsets hunstored hraised
    have hset' : t.settings.bbus[i] = (u.caseOf fresh i).set.tested (u.caseOf fresh i).d := by
      rw [hr.setting, hsets]
      exact get_set_same _ _ _
    refine ⟨?_, ?_, ?_, ?_, hset', ?_, ?_⟩
    · rw [hw.test, hended]
    · rw [hw.test, hended]
    · rw [hw.test, hended]
      exact hd
    · rw [hw.test, hended]
    · rw [hw.store, hunstored, hstore ht.2]
      rfl
    · rw [hrecord, e]
      exact ⟨rfl, rfl, rfl, rfl, rfl, rfl, hraised.around hsend hs.sending hw.quiet⟩
  · have hv := verdictOn_overheated hst hot
    obtain ⟨hstop, hresult, hraised⟩ := hs.ended hv (testing_case.mpr ht)
    have hw := howned ht
    rw [hw.test]
    exact ⟨hstop, hresult, hraised.around hsend hs.sending hw.quiet⟩

end Judged

end Sys2Proof.Machine
end

section
/-! PROOFS. O32: the capacity on a sample set, and each BBU by what the judgement reads on the set. -/

namespace Sys2Proof.Machine

/-! ### Capacity (R19, R20, R23, R24) -/

/-- The PSUs and the capacity of a budget that is refigured. -/
theorem Budget.Refigured.capacity {x y : Budget} (h : x.Refigured y) :
    y.psus = x.psus ∧ y.nGood = x.nGood ∧ y.cRaw = x.cRaw ∧ y.f = x.f ∧ y.cap = x.cap := by
  unfold Budget.Refigured at h
  rw [h]
  exact ⟨rfl, rfl, rfl, rfl, rfl⟩

theorem recomputeCapacity_budget (d : State) :
    let b := (recomputeCapacity d).budget
    let f := derateFactor d.settings.budget.derate (d.pubValue inletPoint)
    let raw := (d.goodPsus - d.settings.budget.nRed) * d.settings.budget.pRate
    b.psus = d.budget.psus ∧ b.nGood = d.goodPsus ∧ b.cRaw = raw ∧ b.f = f ∧ b.cap = raw * f / 256 := ⟨rfl, rfl, rfl, rfl, rfl⟩

section Capacity
variable (codes : Vector (BitVec 12) 29) (s : State)

theorem sampleSet_sense : (sampleSet codes s).sense = (s.scanned codes).sense := by
  have hlate := LateFrame.sampleLater (sampleHoldup (s.readied codes))
  rw [sampleSet_eq, hlate.sense, base_sense (sampleHoldup_base _), (readied_spec codes s).sense]

theorem scanned_psus : (s.scanned codes).budget.psus = s.budget.psus := by
  have hscan := scanned_scans codes s
  unfold Scans Tells at hscan
  rw [hscan]
  show (passInterval s).budget.psus = s.budget.psus
  simp only [passInterval]

theorem scanned_settings : (s.scanned codes).settings = s.settings := by
  have hscan := scanned_scans codes s
  unfold Scans Tells at hscan
  rw [hscan]
  show (passInterval s).settings = s.settings
  simp only [passInterval]

/-- The reckoning of the capacity from the classes of the PSUs. -/
structure Reckoned (s t : State) : Prop where
  nGood : t.budget.nGood = psuIds.countP fun k => t.budget.psus[k].state == .good
  cRaw : t.budget.cRaw = (t.budget.nGood - s.settings.budget.nRed) * s.settings.budget.pRate
  f : t.budget.f = derateFactor s.settings.budget.derate (t.pubValue inletPoint)
  cap : t.budget.cap = t.budget.cRaw * t.budget.f / 256

/-- The budget on a sample set is reckoned from the PSUs as classified. -/
theorem sampleSet_capacity :
    let d := (s.scanned codes).psusClassed
    let y := (sampleSet codes s).budget
    let f := derateFactor d.settings.budget.derate (d.pubValue inletPoint)
    let raw := (d.goodPsus - d.settings.budget.nRed) * d.settings.budget.pRate
    y.psus = d.budget.psus ∧ y.nGood = d.goodPsus ∧ y.cRaw = raw ∧ y.f = f ∧ y.cap = raw * f / 256 := by
  obtain ⟨hpsus, hgood, hraw, hf, hcap⟩ := (lateSampled_refigured codes s).capacity
  unfold State.capacitated at hpsus hgood hraw hf hcap
  generalize (sampleSet codes s).budget = y at hpsus hgood hraw hf hcap ⊢
  generalize (s.scanned codes).psusClassed = d at hpsus hgood hraw hf hcap ⊢
  obtain ⟨hpsus', hgood', hraw', hf', hcap'⟩ := recomputeCapacity_budget d
  exact ⟨hpsus.trans hpsus', hgood.trans hgood', hraw.trans hraw', hf.trans hf', hcap.trans hcap'⟩

theorem sampleSet_psu (k : PsuId) :
    (sampleSet codes s).budget.psus[k] =
      { s.budget.psus[k] with state := psuClass s.budget.psus[k] (sampleSet codes s).sense.pub[psuIPoint k].alarm } := by
  obtain ⟨hpsus, -⟩ := sampleSet_capacity codes s
  have hpsu := psusClassed_psu k (s.scanned codes)
  have hclass : (s.scanned codes).psuClassOf k = psuClass s.budget.psus[k] (sampleSet codes s).sense.pub[psuIPoint k].alarm := by
    rw [State.psuClassOf, scanned_psus, sampleSet_sense]
  rw [hpsus, hpsu, hclass, scanned_psus]

theorem psusClassed_reads (c : State) : c.psusClassed.sense = c.sense ∧ c.psusClassed.settings = c.settings := by
  have hclass := psusClassed_tells c
  unfold Tells at hclass
  generalize c.psusClassed = d at hclass ⊢
  rw [hclass]
  exact ⟨rfl, rfl⟩

theorem sampleSet_reckoned : Reckoned s (sampleSet codes s) := by
  obtain ⟨hpsus, hgood, hraw, hf, hcap⟩ := sampleSet_capacity codes s
  obtain ⟨hsense, hset⟩ := psusClassed_reads (s.scanned codes)
  have hscanned := scanned_settings codes s
  have hpub := sampleSet_sense codes s
  have hvalue : (s.scanned codes).psusClassed.pubValue inletPoint = (sampleSet codes s).pubValue inletPoint := by
    rw [State.pubValue, State.pubValue, hpub, hsense]
  generalize sampleSet codes s = t at hpsus hgood hraw hf hcap hvalue ⊢
  rw [hscanned] at hset
  generalize (s.scanned codes).psusClassed = d at hpsus hgood hraw hf hcap hvalue hset
  rw [← hraw, ← hf] at hcap
  rw [← hgood, hset] at hraw
  rw [hset, hvalue] at hf
  refine ⟨?_, hraw, hf, hcap⟩
  rw [hgood, hpsus]
  rfl

theorem sampleSet_budgetSettings : (sampleSet codes s).settings.budget = s.settings.budget := by
  have hlate := LateFrame.sampleLater (sampleHoldup (s.readied codes))
  rw [sampleSet_eq, hlate.settings, base_settings (sampleHoldup_base _), (readied_spec codes s).settings]

end Capacity

end Sys2Proof.Machine
end

section
/-! PROOFS. O32, assembled. -/

namespace Sys2Proof.Machine

/-- What the judgement of BBU `i` reads on a set taken in `s` that ends in `t`. -/
def State.readOn (s t : State) (i : BbuId) : BbuCase :=
  ⟨s.sense.seen, s.holdup.state, s.settings.bbus[i], s.charge.bbus[i], s.charge.test, i, t.pubValue (bbuIPoint i),
    t.pubValue (bbuVPoint i), t.pubValue (bbuTPoint i)⟩

/-- The same readings of another output and another test record. -/
def BbuCase.with (k : BbuCase) (o : BbuOut) (x : TestRecord) : BbuCase := { k with b := { k.b with out := o }, test := x }

theorem BbuCase.next_with {k : BbuCase} {o : BbuOut} {x : TestRecord} (h : (k.with o x).Tests ↔ k.Tests) : (k.with o x).next = k.next := by
  have hcompletes : (if (k.with o x).Tests ∧ (k.with o x).Cut then BbuState.charging else .testing) =
      if k.Tests ∧ k.Cut then BbuState.charging else .testing := if_congr (and_congr_left' h) rfl rfl
  unfold BbuCase.next
  rw [hcompletes]
  rfl

section Set
variable {codes : Vector (BitVec 12) 29} {s : State} {i : BbuId}

theorem Awaits.caseOf {u t : State} (h : Awaits s i u) (hsense : u.sense = t.sense) :
    ∃ o, u.caseOf (!s.sense.seen) i = (s.readOn t i).with o u.charge.test := by
  have hb := h.record
  have hholdup := h.state
  have hpub (p : PointId) : u.pubValue p = t.pubValue p := by rw [State.pubValue, State.pubValue, hsense]
  unfold Bbu.Drives at hb
  refine ⟨u.charge.bbus[i].out, ?_⟩
  unfold State.caseOf State.readOn BbuCase.with
  rw [← hb, h.setting, hpub, hpub, hpub, hholdup, Bool.not_not]

theorem sampleSet_bbu (codes : Vector (BitVec 12) 29) (s : State) (i : BbuId)
    (hfresh : s.sense.seen = false → s.charge.bbus[i].state = .absent ∧ s.charge.bbus[i].taper = 0) :
    ∃ u w, Awaits s i u ∧ SampledBbu u (!s.sense.seen) i w ∧ Settles s i w (sampleSet codes s) ∧
      (∃ o, u.caseOf (!s.sense.seen) i = (s.readOn (sampleSet codes s) i).with o u.charge.test) ∧
      w.charge.test.bbu = u.charge.test.bbu ∧ (sampleSet codes s).seconds = u.seconds := by
  obtain ⟨u, hawaits, hsense, hclock, hsettles⟩ := sampleSet_around codes s i
  have hcase := hawaits.caseOf hsense
  have hrecord := hawaits.record
  unfold Bbu.Drives at hrecord
  have hu : (!s.sense.seen) = true → u.charge.bbus[i].state = .absent ∧ u.charge.bbus[i].taper = 0 := fun h => by
    rw [hrecord]
    exact hfresh (Bool.not_eq_true' _ ▸ h)
  have howner := ((BbuStep.refl i u).sampleBbu (!s.sense.seen)).owner
  have hsecs : (sampleSet codes s).seconds = u.seconds := by
    unfold State.seconds
    rw [hclock]
  exact ⟨u, _, hawaits, sampleBbu_sampled hu, hsettles, hcase, howner, hsecs⟩

/-- R43, R44: the counter of BBU `i`, when it is neither anchored nor its test completes. -/
theorem sampleSet_counts {k : BbuCase} (hk : k = s.readOn (sampleSet codes s) i) (hseen : s.sense.seen = true)
    (hst : s.charge.bbus[i].state ≠ .absent) (hanchors : ¬ (k.Judged ∧ k.Floats ∧ k.Ripe))
    (hcompletes : ¬ (k.start = .testing ∧ k.temp < k.set.tCrit ∧ k.Tests ∧ k.Cut)) :
    CountsAs k (sampleSet codes s).charge.bbus[i] := by
  obtain ⟨u, w, hawaits, hsampled, hsettles, ⟨o, hcase⟩, -, -⟩ :=
    sampleSet_bbu codes s i fun h => absurd (hseen.symm.trans h) nofun
  have hstart : u.startOf (!s.sense.seen) i = s.charge.bbus[i].state := by
    rw [startOf_case, hcase]
    exact if_pos hseen
  have howned := hawaits.owned
  have howner := hawaits.owner
  have htest : k.test = s.charge.test := by rw [hk]; rfl
  have hki : k.i = i := by rw [hk]; rfl
  rw [← hk] at hcase
  have hno : u.verdictOn (!s.sense.seen) i ≠ .completes := fun e => by
    have hdone := verdictOn_completes e
    rw [hcase] at hdone
    obtain ⟨hst', hcool, ht, hcut⟩ := hdone
    have ht' : u.charge.test.running = true ∧ u.charge.test.bbu = some k.i := ht
    rw [(howned (howner.symm.trans (ht'.2.trans (congrArg some hki)))).1, ← htest] at ht'
    exact hcompletes ⟨hst', hcool, ht', hcut⟩
  have hna : u.verdictOn (!s.sense.seen) i ≠ .anchors := fun e => by
    have hanchored := verdictOn_anchors e
    rw [hcase] at hanchored
    exact hanchors hanchored
  have hcounts := sampled_countsAs hsampled hsettles.counter (by rw [hstart]; exact hst) hna hno
  rw [hcase] at hcounts
  exact ⟨hcounts.bottoms, hcounts.fills, hcounts.counts⟩

theorem sampleSet_absent (hseen : s.sense.seen = true) (hst : s.charge.bbus[i].state = .absent) :
    SameCounter i s (sampleSet codes s) := by
  obtain ⟨u, w, hawaits, hsampled, hsettles, ⟨o, hcase⟩, -, -⟩ :=
    sampleSet_bbu codes s i fun h => absurd (hseen.symm.trans h) nofun
  have hstart : u.startOf (!s.sense.seen) i = .absent := by
    rw [startOf_case, hcase]
    exact (if_pos hseen).trans hst
  have hrecord := hsampled.record
  rw [recordOf_absent hstart] at hrecord
  have hentered : SameCounter i u w := by
    unfold Bbu.Drives at hrecord
    unfold SameCounter
    rw [hrecord]
    exact ⟨rfl, rfl, rfl, rfl⟩
  exact ((SameCounter.of_drives hawaits.record).trans hentered).trans hsettles.counter

/-- R36 to R45, R55 to R57: BBU `i` on a set that leaves the holdup state. -/
theorem sampleSet_moves {k : BbuCase} (hk : k = s.readOn (sampleSet codes s) i)
    (hstate : (sampleSet codes s).holdup.state = s.holdup.state)
    (hfresh : s.sense.seen = false → s.charge.bbus[i].state = .absent ∧ s.charge.bbus[i].taper = 0) :
    MovesAs k k.next (sampleSet codes s).charge.bbus[i] s (sampleSet codes s) ∧
      TestsAs { k with test := { k.test with timer := k.test.timer.map (· - 10) } } (sampleSet codes s).charge.bbus[i] s (sampleSet codes s) := by
  obtain ⟨u, w, hawaits, hsampled, hsettles, ⟨o, hcase⟩, howner', hsecs⟩ := sampleSet_bbu codes s i hfresh
  have hrests := hsettles.rests hstate
  have hmoves := sampled_movesAs hsampled hrests hawaits.sending
  have htests := sampled_testsAs hsampled hrests hawaits.sending howner' hsecs fun e => (hawaits.owned (hawaits.owner.symm.trans e)).2
  have howned := hawaits.owned
  have howner := hawaits.owner
  have htest : k.test = s.charge.test := by rw [hk]; rfl
  have hki : k.i = i := by rw [hk]; rfl
  rw [← hk] at hcase
  rw [hcase] at hmoves htests
  have hiff : (k.with o u.charge.test).Tests ↔ k.Tests := by
    show (u.charge.test.running = true ∧ u.charge.test.bbu = some k.i) ↔ (k.test.running = true ∧ k.test.bbu = some k.i)
    rw [htest, hki]
    by_cases e : s.charge.test.bbu = some i
    · rw [(howned e).1]
    · rw [howner]
      exact ⟨fun h => absurd h.2 e, fun h => absurd h.2 e⟩
  rw [BbuCase.next_with hiff] at hmoves
  refine ⟨⟨hmoves.state, hmoves.crit, hmoves.detect, hmoves.unfloating, hmoves.unanchored, hmoves.tapers, hmoves.anchors, hmoves.bottoms,
    hmoves.halts, hmoves.moves⟩, ?_⟩
  by_cases e : s.charge.test.bbu = some i
  · rw [(howned e).1, ← htest] at htests
    exact ⟨htests.runs, htests.completes, htests.fails⟩
  · have hno (ht : k.Tests) : False := e (by rw [← htest, ← hki]; exact ht.2)
    exact ⟨fun _ ht => (hno ht).elim, fun _ ht => (hno ht).elim, fun _ ht => (hno ht).elim⟩

end Set

end Sys2Proof.Machine

open Sys2Proof Sys2Proof.Machine

/-- Settles O32: the PSUs and the capacity by the classes of the set, and each BBU by its own sample: the samples of the other BBUs and
what follows them leave its counter, and on a set that leaves the holdup state its record, its test and their causes. -/
theorem sampleSetReckonsCapacityAndCharge : Obligations.SampleSetReckonsCapacityAndCharge := by
  intro codes s hrun
  refine ⟨sampleSet codes s, exec_sampleSet_running codes hrun, ?_⟩
  have hpsu := sampleSet_psu codes s
  have hreckoned := sampleSet_reckoned codes s
  have hbudget := sampleSet_budgetSettings codes s
  have habsent := fun i => sampleSet_absent (codes := codes) (s := s) (i := i)
  have hcounts := fun i => sampleSet_counts (codes := codes) (s := s) (i := i) rfl
  have hmoves := fun i => sampleSet_moves (codes := codes) (s := s) (i := i) rfl
  generalize sampleSet codes s = t at hpsu hreckoned hbudget habsent hcounts hmoves ⊢
  beta_reduce
  intro set reached
  refine ⟨fun k => ?_, hreckoned.nGood, hreckoned.cRaw, ?_, hreckoned.cap, hbudget, ?_, ?_⟩
  · intro u
    rw [hpsu k, psuClass_eq]
  · rw [hreckoned.f, derateFactor_eq]
    show reached.getLast?.elim 256 _ = _
    cases reached.getLast? <;> rfl
  · intro hseen i set b c d a x volt cool test anchors completes
    refine ⟨fun hst => habsent i hseen hst, fun hst hna hno => ?_⟩
    have hc := hcounts i hseen hst (fun h => hna ?_) fun h => hno ?_
    · exact ⟨hc.bottoms, hc.fills, hc.counts⟩
    · obtain ⟨⟨hcharging, hcool, hrests, hanchor⟩, ⟨hv, hpos, htaper⟩, hripe⟩ := h
      have hstart : (s.readOn t i).start = b.state := if_pos hseen
      exact ⟨hstart.symm.trans hcharging, hanchor, hcool, not_le.mp hrests, hv, hpos, htaper, hripe⟩
    · obtain ⟨htesting, hcool, ⟨hrunning, hbbu⟩, hcut⟩ := h
      have hstart : (s.readOn t i).start = b.state := if_pos hseen
      exact ⟨hstart.symm.trans htesting, hrunning, hbbu, hcool, hcut⟩
  · intro hstate i set b x test c volt temp draws cut tests point a q rest floats start next judged tapers delivered d new hfresh
    obtain ⟨hm, ht⟩ := hmoves i hstate hfresh
    have hnext : (s.readOn t i).next = next := rfl
    rw [hnext] at hm
    exact ⟨hm.state, hm.crit, hm.detect, hm.unfloating, hm.unanchored, hm.tapers, hm.anchors, hm.bottoms, hm.halts, hm.moves,
      ht.runs, ht.completes, ht.fails⟩
end

section
/-! PROOFS. A WET entry's sheds while no head is granted: the slots of the zone, one by one, and the others as they were (R97, R113 to
R119, R124). -/

namespace Sys2Proof.Machine

/-! ### The elementary steps of one slot's shed -/

/-- Every elementary step of the drain, of the hand-over and of the leak shed of slot `n` keeps `P`. -/
structure SlotSteps (n : SlotId) (P : State → Prop) : Prop where
  setSlot : ∀ {t : State} {x : Slot}, P t → P (t.setSlot n x)
  leaveQueue : ∀ {t : State}, P t → P (leaveQueue n t)
  joinQueue : ∀ {t : State}, P t → P (joinQueue n t)
  seqEvent : ∀ {t : State}, P t → P (seqEvent t)
  lineWatch : ∀ {t : State}, P t → P (lineWatch t)
  report : ∀ {t : State} {a : Bool}, P t → P (reportCondition (causeSlot n) a t)
  recompute : ∀ {t : State}, P t → P (recompute t)

namespace SlotSteps
variable {n : SlotId} {P : State → Prop} {t : State} {st : SlotState} {upd : Slot → Slot}

theorem moveSlot (inv : SlotSteps n P) (h : P t) : P (moveSlot n st upd t) := by
  rw [moveSlot_eq]
  exact inv.lineWatch (inv.report (inv.setSlot h))

theorem handOver (inv : SlotSteps n P) (h : P t) : P (handOver n t) := by
  have henter : P (enterQueue n t) := ite_keeps (inv.moveSlot h) (inv.joinQueue (inv.moveSlot h))
  have hrestore : P (restoreSlot n t) := ite_keeps (ite_keeps henter (inv.setSlot h)) h
  exact ite_keeps (inv.seqEvent hrestore) h

theorem completeDrain (inv : SlotSteps n P) (h : P t) : P (completeDrain n t) := by
  rcases completeDrain_cases n t with ⟨-, e⟩ | ⟨-, restore, e⟩ <;> rw [e]
  · exact inv.recompute (inv.moveSlot h)
  · exact inv.handOver (inv.recompute (inv.moveSlot h))

theorem enterDraining (inv : SlotSteps n P) (h : P t) : P (enterDraining n t) :=
  ite_keeps (inv.recompute (inv.moveSlot h)) (inv.completeDrain (inv.moveSlot h))

theorem shedUnpowered_leak (n : SlotId) (t : State) :
    shedUnpowered n .leak t = seqEventIf (t.seq.slots[n].state == .queued) (unpowerSlot n .leak (Machine.leaveQueue n t)) := rfl

theorem unpowerSlot_leak (n : SlotId) (t : State) :
    unpowerSlot n .leak t =
      Machine.moveSlot n .locked (fun x => { x with reason := .leak, urgency := .immediate, restore := false }) t := rfl

theorem shedLeak (inv : SlotSteps n P) (h : P t) : P (shedSlot n .leak .immediate t) := by
  have hnamed := inv.enterDraining (inv.setSlot h (x := { t.seq.slots[n] with reason := .leak, urgency := .immediate }))
  have hunpowered : P (shedUnpowered n .leak t) := by
    rw [shedUnpowered_leak, unpowerSlot_leak]
    exact ite_keeps (inv.seqEvent (inv.moveSlot (inv.leaveQueue h))) (inv.moveSlot (inv.leaveQueue h))
  unfold shedSlot
  cases t.seq.slots[n].state with
  | off | queued => exact hunpowered
  | soak => exact inv.seqEvent hnamed
  | on => exact hnamed
  | notice | held | draining =>
    rcases shedInFlight_cases n .leak .immediate t with e | ⟨-, -, e⟩ | ⟨-, -, e, -⟩
    · show P (shedInFlight n .leak .immediate t)
      rw [e]
      exact h
    · show P (shedInFlight n .leak .immediate t)
      rw [e]
      unfold escalate
      split
      · exact hnamed
      · exact hnamed
      · exact hnamed
      · exact inv.setSlot h
    · cases e
  | faulted | locked => exact inv.setSlot h

end SlotSteps

/-! ### While no head is granted -/

/-- No head can be granted: the stagger timer runs, or the shelf is not ONLINE (R100). -/
def State.withheld (s : State) : Prop := s.seq.stagger.isSome = true ∨ s.seq.lastHoldup ≠ .online

theorem State.withheld.grants {s : State} (h : s.withheld) (n : SlotId) : s.grantsHead n = false := by
  rw [← Bool.not_eq_true, grantsHead_iff, grantable_iff]
  rintro ⟨⟨hon, hstagger, -⟩, -⟩
  rcases h with h | h
  · rw [hstagger] at h
    cases h
  · exact h hon

theorem State.withheld.of_seq {s t : State} (h : s.withheld) (hstagger : t.seq.stagger = s.seq.stagger)
    (hlast : t.seq.lastHoldup = s.seq.lastHoldup) : t.withheld := by
  unfold State.withheld
  rw [hstagger, hlast]
  exact h

/-- While no head can be granted slot `m` keeps its record. -/
def Bides (m : SlotId) (s t : State) : Prop := s.withheld → t.withheld ∧ t.seq.slots[m] = s.seq.slots[m]

namespace Bides
variable {m n : SlotId} {s t u : State}

theorem refl (m : SlotId) (s : State) : Bides m s s := fun h => ⟨h, rfl⟩

theorem trans (h : Bides m s t) (k : Bides m t u) : Bides m s u := fun hs =>
  have ⟨ht, e⟩ := h hs
  have ⟨hu, e'⟩ := k ht
  ⟨hu, e'.trans e⟩

theorem of_same (hstagger : t.seq.stagger = s.seq.stagger) (hlast : t.seq.lastHoldup = s.seq.lastHoldup)
    (hslot : t.seq.slots[m] = s.seq.slots[m]) : Bides m s t := fun h => ⟨h.of_seq hstagger hlast, hslot⟩

theorem of_seq (h : t.seq = s.seq) : Bides m s t := .of_same (by rw [h]) (by rw [h]) (by rw [h])

theorem seqEvent (s : State) : Bides m s (seqEvent s) := fun h =>
  seqEvent_of_ungranted (P := fun t => t.withheld ∧ t.seq.slots[m] = s.seq.slots[m]) (fun n _ => h.grants n) ⟨h, rfl⟩
    ⟨h.of_seq rfl rfl, rfl⟩

/-- The steps of another slot. -/
theorem steps (hne : n ≠ m) (s : State) : SlotSteps n (Bides m s) where
  setSlot h := h.trans (.of_same rfl rfl (by rw [setSlot_slots, if_neg hne]))
  leaveQueue h := h.trans (.of_same rfl rfl rfl)
  joinQueue h := h.trans (.of_same rfl rfl rfl)
  seqEvent h := h.trans (.seqEvent _)
  lineWatch h := h.trans (.of_seq (lineWatch_seq _))
  report h := h.trans (.of_seq (reportCondition_seq _ _ _))
  recompute h := h.trans (.of_seq (recompute_seq _))

end Bides

theorem withheld_steps (n : SlotId) : SlotSteps n State.withheld where
  setSlot h := h.of_seq rfl rfl
  leaveQueue h := h.of_seq rfl rfl
  joinQueue h := h.of_seq rfl rfl
  seqEvent h := (Bides.seqEvent (m := n) _ h).1
  lineWatch {t} h := h.of_seq (by rw [lineWatch_seq]) (by rw [lineWatch_seq])
  report {t a} h := h.of_seq (by rw [reportCondition_seq]) (by rw [reportCondition_seq])
  recompute {t} h := h.of_seq (by rw [recompute_seq]) (by rw [recompute_seq])

end Sys2Proof.Machine
end

section
/-! PROOFS. What a WET entry makes of the slots of its zone while no head is granted (R97, R113 to R119, R124). -/

namespace Sys2Proof.Machine

/-! ### The leak shed of one slot (R113 to R115, R118, R119) -/

/-- The slot has power and no leak shed in flight. -/
def Slot.drainsForLeak (x : Slot) : Prop :=
  x.state = .soak ∨ x.state = .on ∨ ((x.state = .notice ∨ x.state = .held) ∧ x.reason ≠ .leak)

/-- What the leak shed makes of a record. -/
structure Slot.Leaked (x y : Slot) : Prop where
  off : x.state = .off → y.state = .locked ∧ y.reason = .leak ∧ y.restore = false
  drains : x.drainsForLeak → x.pg = true → y.state = .draining ∧ y.reason = .leak ∧ y.urgency = .immediate ∧ y.en = false
  locks : x.drainsForLeak → x.pg = false → y.state = .locked ∧ y.reason = .leak ∧ y.en = false
  draining : x.state = .draining →
    y.state = .draining ∧ y.reason = .leak ∧ (x.reason ≠ .leak → y.urgency = .immediate ∧ y.en = x.en)
  down : x.state = .faulted ∨ x.state = .locked → y.state = x.state ∧ y.reason = .leak ∧ y.restore = x.restore

section Slot
variable {n : SlotId} {s : State}

/-- The drain that a leak shed starts, by PG. -/
theorem leakDrain_slot (s : State) (n : SlotId) :
    let y := (enterDraining n (s.shedNamed n .leak .immediate)).seq.slots[n]
    (s.seq.slots[n].pg = true → y.state = .draining ∧ y.reason = .leak ∧ y.urgency = .immediate ∧ y.en = false) ∧
      (s.seq.slots[n].pg = false → y.state = .locked ∧ y.reason = .leak ∧ y.en = false) := by
  intro y
  refine ⟨fun hpg => ?_, fun hpg => ?_⟩
  · have e : y = (s.seq.slots[n].shedFor .leak .immediate).drainedBy s.settings.slots[n].drainLimit := by
      show (enterDraining n (s.shedNamed n .leak .immediate)).seq.slots[n] = _
      rw [shedNamed_drains hpg]
      exact get_set_same _ _ _
    rw [e]
    exact ⟨rfl, rfl, rfl, rfl⟩
  · have hslot : ((s.shedNamed n .leak .immediate).drainOpened n).seq.slots[n].reason = .leak := by
      rw [drainOpened_slot, shedNamed_slot]
      rfl
    have hlocked : (completeDrain n ((s.shedNamed n .leak .immediate).drainOpened n)).seq.slots[n] =
        ({ ((s.shedNamed n .leak .immediate).drainOpened n).seq.slots[n].quit with
          reason := .leak, urgency := .immediate, restore := false } : Slot).moved .locked := by
      rw [completeDrain_leak hslot, shiftSlot_seq]
      exact get_set_same _ _ _
    have e : y = _ := (congrArg (fun t : State => t.seq.slots[n]) (enterDraining_low (by rw [shedNamed_slot]; exact hpg))).trans hlocked
    rw [e]
    exact ⟨rfl, rfl, rfl⟩

theorem shedSlot_leak_off (h : s.withheld) (hst : s.seq.slots[n].state = .off) :
    (shedSlot n .leak .immediate s).seq.slots[n] =
      ({ s.seq.slots[n] with reason := .leak, urgency := .immediate, restore := false } : Slot).moved .locked := by
  have hmoved : (moveSlot n .locked (fun x => { x with reason := .leak, urgency := .immediate, restore := false })
      (leaveQueue n s)).seq.slots[n] =
        ({ s.seq.slots[n] with reason := .leak, urgency := .immediate, restore := false } : Slot).moved .locked := by
    rw [moveSlot_slots, if_pos rfl]
    rfl
  rw [shedSlot_unpowered (.inl hst), SlotSteps.shedUnpowered_leak, SlotSteps.unpowerSlot_leak, hst]
  exact hmoved

/-- R113 to R115, R118, R119: a leak shed while no head can be granted. -/
theorem shedSlot_leaked (h : s.withheld) : s.seq.slots[n].Leaked (shedSlot n .leak .immediate s).seq.slots[n] := by
  obtain ⟨hhigh, hlow⟩ := leakDrain_slot s n
  have hdrained : s.seq.slots[n].drainsForLeak →
      (shedSlot n .leak .immediate s).seq.slots[n] = (enterDraining n (s.shedNamed n .leak .immediate)).seq.slots[n] := by
    rintro (hst | hst | ⟨hst, hr⟩)
    · have hw : (enterDraining n (s.shedNamed n .leak .immediate)).withheld :=
        (withheld_steps n).enterDraining ((withheld_steps n).setSlot h)
      rw [shedSlot_soak hst, (Bides.seqEvent _ hw).2]
    · rw [shedSlot_on_immediate hst]
    · have hlevel : s.seq.slots[n].urgency.level ≤ Urgency.immediate.level := by cases s.seq.slots[n].urgency <;> decide
      rw [shedSlot_takes_over (hst.imp id .inl) hr hlevel, escalate_drains]
      rw [shedNamed_slot]
      exact hst.imp (⟨·, rfl⟩) (⟨·, .inr rfl⟩)
  refine ⟨fun hst => ?_, fun hp hpg => ?_, fun hp hpg => ?_, fun hst => ?_, fun hst => ?_⟩
  · rw [shedSlot_leak_off h hst]
    exact ⟨rfl, rfl, rfl⟩
  · rw [hdrained hp]
    exact hhigh hpg
  · rw [hdrained hp]
    exact hlow hpg
  · by_cases hr : s.seq.slots[n].reason = .leak
    · rw [shedSlot_leak_stands (.inr (.inr hst)) hr]
      exact ⟨hst, hr, fun hno => absurd hr hno⟩
    · have hlevel : s.seq.slots[n].urgency.level ≤ Urgency.immediate.level := by cases s.seq.slots[n].urgency <;> decide
      have hstays : shedSlot n .leak .immediate s = s.shedNamed n .leak .immediate := by
        rw [shedSlot_takes_over (.inr (.inr hst)) hr hlevel, escalate_stays]
        rw [shedNamed_slot]
        rintro (⟨e, -⟩ | ⟨e, -⟩)
        · exact absurd (hst.symm.trans e) nofun
        · exact absurd (hst.symm.trans e) nofun
      rw [hstays, shedNamed_slot]
      exact ⟨hst, rfl, fun _ => ⟨rfl, rfl⟩⟩
  · have hnamed : (shedSlot n .leak .immediate s).seq.slots[n] = { s.seq.slots[n] with reason := .leak } := by
      have e : shedSlot n .leak .immediate s = s.setSlot n { s.seq.slots[n] with reason := .leak } := by
        unfold shedSlot
        rcases hst with hst | hst <;> rw [hst] <;> exact if_pos rfl
      rw [e, setSlot_slots, if_pos rfl]
    rw [hnamed]
    exact ⟨rfl, rfl, rfl⟩

end Slot

/-! ### The slots of a zone (R97, R124) -/

section Zone
variable {s : State} {z : ZoneId} {m : SlotId}

theorem shedZone_withheld (h : s.withheld) : (shedZone z s).withheld :=
  List.foldlRecOn (motive := State.withheld) (s.zoneSlots z) _ h fun _ hu n _ => (withheld_steps n).shedLeak hu

theorem shedZone_bides (hm : s.settings.slots[m].zone ≠ some z) : Bides m s (shedZone z s) :=
  List.foldlRecOn (motive := Bides m s) (s.zoneSlots z) _ (.refl m s) fun _ hu _ hn =>
    (Bides.steps (by rintro rfl; exact hm (mem_zoneSlots.1 hn)) s).shedLeak hu

/-- R124: the slot's own shed, between those of the others. -/
theorem shedZone_leaked (h : s.withheld) (hm : s.settings.slots[m].zone = some z) :
    s.seq.slots[m].Leaked (shedZone z s).seq.slots[m] := by
  obtain ⟨u, hbefore, hafter⟩ := foldl_around (R := Bides m) (f := fun s n => shedSlot n .leak .immediate s) (Bides.refl m) Bides.trans
    (mem_zoneSlots.2 hm) (slotIds_nodup.filter _) (fun _ hne u => (Bides.steps hne u).shedLeak (.refl m u)) s
  obtain ⟨hu, hslot⟩ := hbefore h
  have hlast := (hafter ((withheld_steps m).shedLeak hu)).2
  have hleaked := shedSlot_leaked (n := m) hu
  rw [hslot] at hleaked
  unfold shedZone
  rw [hlast]
  exact hleaked

/-- One QUEUED slot leaves the queue for LOCKED (R97). -/
def barSlot (n : SlotId) (s : State) : State := moveSlot n .locked (fun x => { x with restore := false }) (leaveQueue n s)

theorem barSlot_steps {P : State → Prop} {n : SlotId} (inv : SlotSteps n P) {t : State} (h : P t) : P (barSlot n t) :=
  inv.moveSlot (inv.leaveQueue h)

/-- The QUEUED slots of the zone. -/
def State.zoneQueue (s : State) (z : ZoneId) : List SlotId := (s.zoneSlots z).filter fun n => s.seq.slots[n].state == .queued

theorem lockZone_eq (z : ZoneId) (s : State) :
    lockZone z s = if (s.zoneQueue z).isEmpty then s else seqEvent ((s.zoneQueue z).foldl (fun s n => barSlot n s) s) := rfl

theorem mem_zoneQueue : m ∈ s.zoneQueue z ↔ s.settings.slots[m].zone = some z ∧ s.seq.slots[m].state = .queued := by
  rw [State.zoneQueue, List.mem_filter, mem_zoneSlots, beq_iff_eq]

theorem lockZone_withheld (h : s.withheld) : (lockZone z s).withheld := by
  rw [lockZone_eq]
  refine ite_keeps h ((withheld_steps 0).seqEvent ?_)
  exact List.foldlRecOn (motive := State.withheld) _ _ h fun _ hu n _ => barSlot_steps (withheld_steps n) hu

/-- R97: the QUEUED slots of the zone are LOCKED, the others stay as they are. -/
theorem lockZone_bides (hm : s.settings.slots[m].zone = some z → s.seq.slots[m].state ≠ .queued) : Bides m s (lockZone z s) := by
  rw [lockZone_eq]
  refine ite_keeps (P := Bides m s) (.refl m s) (Bides.trans ?_ (.seqEvent _))
  refine List.foldlRecOn (motive := Bides m s) _ _ (.refl m s) fun _ hu n hn => barSlot_steps (Bides.steps ?_ s) hu
  rintro rfl
  obtain ⟨hz, hq⟩ := mem_zoneQueue.1 hn
  exact hm hz hq

theorem lockZone_locks (h : s.withheld) (hm : s.settings.slots[m].zone = some z) (hst : s.seq.slots[m].state = .queued) :
    (lockZone z s).seq.slots[m] = ({ s.seq.slots[m] with restore := false } : Slot).moved .locked := by
  have hmem : m ∈ s.zoneQueue z := mem_zoneQueue.2 ⟨hm, hst⟩
  have hne : (s.zoneQueue z).isEmpty = false := by
    rw [List.isEmpty_eq_false_iff]
    exact List.ne_nil_of_mem hmem
  obtain ⟨u, hbefore, hafter⟩ := foldl_around (R := Bides m) (f := fun s n => barSlot n s) (Bides.refl m) Bides.trans
    hmem ((slotIds_nodup.filter _).filter _) (fun _ hne u => barSlot_steps (Bides.steps hne u) (.refl m u)) s
  obtain ⟨hu, hslot⟩ := hbefore h
  have hlocked := hafter (barSlot_steps (withheld_steps m) hu)
  have hown : (barSlot m u).seq.slots[m] = ({ u.seq.slots[m] with restore := false } : Slot).moved .locked := by
    unfold barSlot
    rw [moveSlot_slots, if_pos rfl]
    rfl
  rw [lockZone_eq, hne, if_neg nofun, (Bides.seqEvent _ hlocked.1).2, hlocked.2, hown, hslot]

end Zone

end Sys2Proof.Machine
end

section
/-! PROOFS. One zone of the leak monitor: what its steps leave of the other zones, and what a WET entry leaves of its own (R144 to
R152). -/

namespace Sys2Proof.Machine

/-! ### The elementary steps of one zone -/

/-- Every elementary step of the counters, of the fallback and of the WET entry of zone `z` keeps `P`. -/
structure WetSteps (z : ZoneId) (P : State → Prop) : Prop where
  lineWatch : ∀ {t : State}, P t → P (lineWatch t)
  lockZone : ∀ {t : State}, P t → P (lockZone z t)
  shedZone : ∀ {t : State}, P t → P (shedZone z t)
  setZone : ∀ {t : State} {x : Zone}, P t → P (t.setZone z x)
  spendFree : ∀ {t : State}, P t → P t.spendFree
  reportZone : ∀ {t : State} {a : Bool}, P t → P (reportCondition (causeZoneWet z) a t)
  raiseZone : ∀ {t : State} {v : Int} {code : Byte}, P t → P (raise (causeZoneWet z) v code t)

/-- And so does every elementary step of the judgement of its rope. -/
structure RopeSteps (z : ZoneId) (P : State → Prop) : Prop extends WetSteps z P where
  reportRope : ∀ {t : State} {a : Bool}, P t → P (reportCondition (causeRopeFault z) a t)
  raiseRope : ∀ {t : State} {v : Int} {code : Byte}, P t → P (raise (causeRopeFault z) v code t)

namespace WetSteps
variable {P : State → Prop} {t : State} {z : ZoneId}

theorem moveZone (inv : WetSteps z P) (h : P t) (x : Zone) : P (moveZone z x t) := inv.lineWatch (inv.reportZone (inv.setZone h))

theorem spendRope (inv : WetSteps z P) (h : P t) : P (spendRope z t) := by
  unfold Machine.spendRope
  split
  · exact h
  · exact inv.spendFree h

theorem enterWet (inv : WetSteps z P) (h : P t) (how : Confirmation) : P (enterWet z how t) := by
  have hlock (x : Zone) (v : Int) (code : Byte) :
      P (Machine.lockZone z (raise (causeZoneWet z) v code (Machine.moveZone z x (Machine.spendRope z t)))) :=
    inv.lockZone (inv.raiseZone (inv.moveZone (inv.spendRope h) x))
  exact ite_keeps (inv.shedZone (hlock _ _ _)) (hlock _ _ _)

theorem judgeZone (inv : WetSteps z P) (h : P t) (how : Confirmation) : P (judgeZone z how t) :=
  ite_keeps (ite_keeps (inv.moveZone h _) h) (inv.enterWet h how)

theorem countRope (inv : WetSteps z P) (h : P t) (wet : Bool) : P (countRope z wet t) := by
  unfold Machine.countRope
  simp only
  split
  · exact ite_keeps (inv.moveZone h _) h
  · exact inv.setZone h
  · exact h
  · exact h

theorem countTray (inv : WetSteps z P) (h : P t) (accepted : Bool) : P (countTray z accepted t) := by
  unfold Machine.countTray
  simp only
  split
  · exact ite_keeps (inv.moveZone h _) h
  · exact ite_keeps (inv.moveZone h _) h
  · exact inv.setZone h
  · exact h

theorem cycleZone (inv : WetSteps z P) (h : P t) (report held : Bool) : P (cycleZone z report held t) :=
  ite_keeps (inv.setZone h) (inv.judgeZone (inv.countTray (inv.setZone h) _) _)

end WetSteps

namespace RopeSteps
variable {P : State → Prop} {t : State} {z : ZoneId}

theorem judgeRope (inv : RopeSteps z P) (h : P t) (old : RopeClass) : P (judgeRope z old t) := by
  unfold Machine.judgeRope
  simp only
  split
  · exact ite_keeps (ite_keeps (inv.raiseRope h) h) (inv.raiseRope (inv.reportRope (inv.moveZone h _)))
  · exact ite_keeps (inv.reportRope (inv.moveZone h _)) h

theorem sampleZone (inv : RopeSteps z P) (h : P t) : P (sampleZone z t) := by
  unfold Machine.sampleZone
  simp only
  split
  · exact h
  · exact ite_keeps (inv.setZone h) (inv.judgeZone (inv.countRope (inv.judgeRope (inv.setZone h) _) _) _)

end RopeSteps

/-! ### The causes of the zones -/

theorem causeRopeFault_not_shed (z : ZoneId) : ¬ ShedCause (causeRopeFault z) := by
  have hz := z.isLt
  rintro (h | h | ⟨n, h⟩)
  · have := congrArg Fin.val h
    change 40 + z.val = 131 at this
    omega
  · have := congrArg Fin.val h
    change 40 + z.val = 136 at this
    omega
  · have := congrArg Fin.val h
    change 40 + z.val = 72 + n.val at this
    omega

theorem causeRopeFault_ne_wet (z y : ZoneId) : causeRopeFault z ≠ causeZoneWet y := fun h => by
  have := congrArg Fin.val h
  change 40 + z.val = 32 + y.val at this
  omega

theorem causeZoneWet_injective {z y : ZoneId} (h : causeZoneWet z = causeZoneWet y) : z = y := by
  have := congrArg Fin.val h
  change 32 + z.val = 32 + y.val at this
  exact Fin.ext (by omega)

theorem causeRopeFault_injective {z y : ZoneId} (h : causeRopeFault z = causeRopeFault y) : z = y := by
  have := congrArg Fin.val h
  change 40 + z.val = 40 + y.val at this
  exact Fin.ext (by omega)

section Touched
variable {z : ZoneId} {s t : State} {Q : CauseId → Prop}

theorem Touches.lockZone (h : Touches Q s t) (hQ : ∀ c, ShedCause c → Q c) (z : ZoneId) : Touches Q s (lockZone z t) :=
  (Touches.shedInvariant hQ s).lockZone h z

theorem Touches.shedZone (h : Touches Q s t) (hQ : ∀ c, ShedCause c → Q c) (z : ZoneId) : Touches Q s (shedZone z t) :=
  (Touches.shedInvariant hQ s).shedZone h z

/-- The causes of a zone's counters, fallback and WET entry. -/
def WetCause (z : ZoneId) (c : CauseId) : Prop := ShedCause c ∨ c = causeZoneWet z

theorem Touches.wet (z : ZoneId) (s : State) : WetSteps z (Touches (WetCause z) s) where
  lineWatch h := h.trans (lineWatch_touches _ _)
  lockZone h := h.lockZone (fun _ => .inl) z
  shedZone h := h.shedZone (fun _ => .inl) z
  setZone {t x} h := h.trans (u := t.setZone z x) (.of_same rfl rfl)
  spendFree {t} h := h.trans (u := t.spendFree) (.of_same rfl rfl)
  reportZone h := h.report (.inr rfl) _
  raiseZone h := h.raise (.inr rfl) _ _

theorem not_wetCause_rope (z y : ZoneId) : ¬ WetCause y (causeRopeFault z) :=
  fun h => h.elim (causeRopeFault_not_shed z) (causeRopeFault_ne_wet z y)

/-- The causes of a zone's rope as well. -/
def ZoneCause (z : ZoneId) (c : CauseId) : Prop := WetCause z c ∨ c = causeRopeFault z

theorem Touches.zone (z : ZoneId) (s : State) : RopeSteps z (Touches (ZoneCause z) s) where
  lineWatch h := h.trans (lineWatch_touches _ _)
  lockZone h := h.lockZone (fun _ h => .inl (.inl h)) z
  shedZone h := h.shedZone (fun _ h => .inl (.inl h)) z
  setZone {t x} h := h.trans (u := t.setZone z x) (.of_same rfl rfl)
  spendFree {t} h := h.trans (u := t.spendFree) (.of_same rfl rfl)
  reportZone h := h.report (.inl (.inr rfl)) _
  raiseZone h := h.raise (.inl (.inr rfl)) _ _
  reportRope h := h.report (.inr rfl) _
  raiseRope h := h.raise (.inr rfl) _ _

theorem not_zoneCause_holdup (z : ZoneId) : ¬ ZoneCause z causeHoldup := by
  rintro ((h | h) | h)
  · exact not_shedCause_holdup h
  · revert z
    decide
  · revert z
    decide

end Touched

end Sys2Proof.Machine
end

section
/-! PROOFS. A WET entry of a zone (R97, R124, R151, R152), and what the steps of another zone leave of a zone. -/

namespace Sys2Proof.Machine

section Entry
variable {z : ZoneId} {how : Confirmation} {s : State}

/-- The record of a zone that enters WET (R151). -/
def Zone.wetted (set : ZoneSettings) (how : Confirmation) (x : Zone) : Zone :=
  (x.confirmed how set.policy).entered

/-- The part with a WET entry told, before what it does to the slots (R151, R152). -/
def State.wetTold (s : State) (z : ZoneId) (how : Confirmation) : State :=
  raise (causeZoneWet z) (s.ropeValue z) (BitVec.ofNat 8 how.code)
    (moveZone z (s.leak.zones[z].confirmed how s.settings.zones[z].policy) (spendRope z s))

theorem enterWet_told (z : ZoneId) (how : Confirmation) (s : State) :
    enterWet z how s =
      if s.settings.zones[z].policy = .valveAndShed then shedZone z (lockZone z (s.wetTold z how)) else lockZone z (s.wetTold z how) := rfl

theorem ropeValue_code {c : BitVec 12} (h : s.leak.zones[z].code = some c) : s.ropeValue z = c.toNat ∧ spendRope z s = s := by
  unfold State.ropeValue spendRope
  rw [h]
  exact ⟨rfl, rfl⟩

theorem spendRope_reads (z : ZoneId) (s : State) :
    (spendRope z s).leak = s.leak ∧ (spendRope z s).seq = s.seq ∧ (spendRope z s).settings = s.settings := by
  unfold spendRope
  split <;> exact ⟨rfl, rfl, rfl⟩

theorem moveZone_reads (z : ZoneId) (x : Zone) (s : State) :
    (moveZone z x s).leak.zones[z] = x.entered ∧ (moveZone z x s).seq = s.seq ∧ (moveZone z x s).settings = s.settings := by
  have hframe := (moveZone_frame z x s).all
  refine ⟨by rw [moveZone_zones, if_pos rfl], ?_, ?_⟩
  · rw [hframe]
  · rw [hframe]

theorem wetTold_leaves (s : State) (z : ZoneId) (how : Confirmation) :
    (s.wetTold z how).leak.zones[z] = s.leak.zones[z].wetted s.settings.zones[z] how ∧ (s.wetTold z how).seq = s.seq ∧
      (s.wetTold z how).settings = s.settings := by
  obtain ⟨hleak, hseq, hset⟩ := spendRope_reads z s
  obtain ⟨hleak', hseq', hset'⟩ := moveZone_reads z
    (s.leak.zones[z].confirmed how s.settings.zones[z].policy) (spendRope z s)
  unfold State.wetTold
  generalize moveZone z _ (spendRope z s) = u at hleak' hseq' hset' ⊢
  exact ⟨by rw [base_leak (raise_base _ _ _ _), hleak']; rfl, by rw [raise_seq, hseq', hseq],
    by rw [base_settings (raise_base _ _ _ _), hset', hset]⟩

theorem wetTold_condition : (s.wetTold z how).causes.recs[causeZoneWet z].condition = true := by
  unfold State.wetTold
  have hsource : eventSource (causeZoneWet z) = false := by
    revert z
    decide
  rw [raise_condition hsource, moveZone_eq, (lineWatch_quiet _ _).condition, reportCondition_condition]
  rfl

theorem wetTold_raised {c : BitVec 12} (h : s.leak.zones[z].code = some c) :
    RaisedFrom s (s.wetTold z how) (causeZoneWet z) c.toNat (BitVec.ofNat 8 how.code) := by
  obtain ⟨hvalue, hspent⟩ := ropeValue_code h
  have htouches : Touches (WetCause z) s (moveZone z (s.leak.zones[z].confirmed how s.settings.zones[z].policy) s) :=
    (Touches.wet z s).moveZone (.refl _ s) _
  have hsend := (htouches _ (not_wetCause_rope z z)).sending
  unfold State.wetTold
  rw [hspent, hvalue]
  exact (raise_raisedFrom _ _ _ _).late hsend

/-- What a WET entry makes of a slot of the zone. -/
structure Slot.Wetted (policy : Policy) (x y : Slot) : Prop where
  queued : x.state = .queued → y.state = .locked ∧ y.restore = false
  kept : policy ≠ .valveAndShed → x.state ≠ .queued → y = x
  shed : policy = .valveAndShed → x.state ≠ .queued → x.Leaked y

/-- What a WET entry leaves. -/
structure WetEntered (z : ZoneId) (how : Confirmation) (s t : State) : Prop where
  zone : t.leak.zones[z] = s.leak.zones[z].wetted s.settings.zones[z] how
  raised : ∀ c, s.leak.zones[z].code = some c → RaisedFrom s t (causeZoneWet z) c.toNat (BitVec.ofNat 8 how.code)
  condition : t.causes.recs[causeZoneWet z].condition = true
  slots : s.withheld → ∀ m : SlotId, s.settings.slots[m].zone = some z →
    s.seq.slots[m].Wetted s.settings.zones[z].policy t.seq.slots[m]

theorem lockZone_wetted (h : s.withheld) {m : SlotId} (hm : s.settings.slots[m].zone = some z) :
    (s.seq.slots[m].state = .queued → (lockZone z s).seq.slots[m].state = .locked ∧ (lockZone z s).seq.slots[m].restore = false) ∧
      (s.seq.slots[m].state ≠ .queued → (lockZone z s).seq.slots[m] = s.seq.slots[m]) :=
  ⟨fun hst => by
    rw [lockZone_locks h hm hst]
    exact ⟨rfl, rfl⟩, fun hst => (lockZone_bides (fun _ => hst) h).2⟩

theorem enterWet_entered (z : ZoneId) (how : Confirmation) (s : State) : WetEntered z how s (enterWet z how s) := by
  obtain ⟨hzone, hseq, hset⟩ := wetTold_leaves s z how
  have hcondition := wetTold_condition (s := s) (z := z) (how := how)
  have hraised : ∀ c, s.leak.zones[z].code = some c → RaisedFrom s (s.wetTold z how) (causeZoneWet z) c.toNat (BitVec.ofNat 8 how.code) :=
    fun c => wetTold_raised
  have hsend : KeepsSending s (s.wetTold z how) :=
    (((Touches.wet z s).raiseZone ((Touches.wet z s).moveZone ((Touches.wet z s).spendRope (.refl _ s)) _)) _ (not_wetCause_rope z z)).sending
  rw [enterWet_told]
  generalize s.wetTold z how = u at hzone hseq hset hcondition hraised hsend ⊢
  have hlock : Touches ShedCause u (lockZone z u) := (Touches.refl _ u).lockZone (fun _ => id) z
  have hshed : Touches ShedCause u (shedZone z (lockZone z u)) := hlock.shedZone (fun _ => id) z
  have hquiet {v : State} (h : Touches ShedCause u v) : Quiet (causeZoneWet z) u v := h _ (causeZoneWet_not_shed z)
  have hwithheld (hw : s.withheld) : u.withheld := hw.of_seq (by rw [hseq]) (by rw [hseq])
  have hleak := base_leak (lockZone_base z u)
  have hleak' := (base_leak (shedZone_base z (lockZone z u))).trans hleak
  have hslots (hw : s.withheld) (m : SlotId) (hm : s.settings.slots[m].zone = some z) := lockZone_wetted (hwithheld hw) (by rw [hset]; exact hm)
  by_cases hp : s.settings.zones[z].policy = .valveAndShed
  · rw [if_pos hp]
    refine ⟨by rw [hleak', hzone], fun c hc => (hraised c hc).widen hsend (Quiet.refl _ s).toUnraised (hquiet hshed).toUnraised,
      (hquiet hshed).condition.trans hcondition, fun hw m hm => ?_⟩
    obtain ⟨hqueued, hother⟩ := hslots hw m hm
    have hlockset : (lockZone z u).settings = s.settings := (base_settings (lockZone_base z u)).trans hset
    have hleaked := shedZone_leaked (z := z) (lockZone_withheld (hwithheld hw)) (m := m) (by rw [hlockset]; exact hm)
    rw [hseq] at hqueued hother
    refine ⟨fun hst => ?_, fun hno => absurd hp hno, fun _ hst => ?_⟩
    · obtain ⟨hlocked, hrestore⟩ := hqueued hst
      obtain ⟨hstate, -, hrest⟩ := hleaked.down (.inr hlocked)
      exact ⟨hstate.trans hlocked, hrest.trans hrestore⟩
    · rw [hother hst] at hleaked
      exact hleaked
  · rw [if_neg hp]
    refine ⟨by rw [hleak, hzone], fun c hc => (hraised c hc).widen hsend (Quiet.refl _ s).toUnraised (hquiet hlock).toUnraised,
      (hquiet hlock).condition.trans hcondition, fun hw m hm => ?_⟩
    obtain ⟨hqueued, hother⟩ := hslots hw m hm
    rw [hseq] at hqueued hother
    exact ⟨hqueued, fun _ => hother, fun hyes => absurd hyes hp⟩

end Entry

end Sys2Proof.Machine
end

section
/-! PROOFS. The record of a zone through the judgement of its rope, its counters, its confirmation and its fallback (R145 to R151). -/

namespace Sys2Proof.Machine

/-! ### The record alone -/

/-- The record after the fallback (R150). -/
def Zone.fallen (x : Zone) : Zone :=
  if x.state = .suspect ∧ x.ropeCount = 0 ∧ x.trayCount = 0 ∧ x.awaitSet = false ∧ x.awaitCycle = false then
    ({ x with state := if x.ropeFault then .fault else .dry } : Zone).entered
  else x

/-- The record after its confirmation or its fallback (R149, R150). -/
def Zone.judged (set : ZoneSettings) (how : Confirmation) (x : Zone) : Zone := if how = .none then x.fallen else x.wetted set how

/-- The record after its rope counter (R147, R148). -/
def Zone.ropeCounted (wet : Bool) (x : Zone) : Zone :=
  match x.state with
  | .dry => if wet then ({ x with state := .suspect, ropeCount := 1, trayCount := 0 } : Zone).entered else x
  | .suspect => { x with ropeCount := if wet then min 255 (x.ropeCount + 1) else 0, awaitSet := false }
  | .wet | .fault => x

/-- The record after its tray counter (R147, R148). -/
def Zone.trayCounted (accepted : Bool) (x : Zone) : Zone :=
  match x.state with
  | .dry | .fault => if accepted then ({ x with state := .suspect, ropeCount := 0, trayCount := 1 } : Zone).entered else x
  | .suspect => { x with trayCount := if accepted then min 255 (x.trayCount + 1) else 0, awaitCycle := false }
  | .wet => x

/-- The record after the judgement of its rope (R145). -/
def Zone.roped (x : Zone) : Zone :=
  if x.cls.broken = true then (if x.ropeFault = true then x else x.ropeBroken.entered)
  else if x.cls = .dry ∧ x.ropeFault = true then x.ropeMended.entered else x

/-- The record with the reading of its rope in it (R144). -/
def Zone.read (set : ZoneSettings) (c : BitVec 12) (x : Zone) : Zone := { x with code := some c, cls := ropeClass set x.cls c }

/-- The record with the reading judged and counted. -/
def Zone.evident (x : Zone) : Zone := x.roped.ropeCounted (x.roped.cls == .wet && !x.roped.ropeFault)

/-- The record after a sample set (R144 to R150). -/
def Zone.sampled (set : ZoneSettings) (c : BitVec 12) (x : Zone) : Zone :=
  if x.state = .wet then x.read set c
  else (x.read set c).evident.judged set (Machine.confirmation (x.read set c).evident (x.read set c).evident.ropeCount set.kRope .rope)

/-! ### The part -/

section Part
variable {z : ZoneId} {s : State}

theorem fallBack_fallen (z : ZoneId) (s : State) : (fallBack z s).leak.zones[z] = s.leak.zones[z].fallen := by
  unfold fallBack Zone.fallen
  dsimp only
  split
  · rw [moveZone_zones, if_pos rfl]
  · rfl

theorem judgeZone_zone (z : ZoneId) (how : Confirmation) (s : State) :
    (judgeZone z how s).leak.zones[z] = s.leak.zones[z].judged s.settings.zones[z] how := by
  unfold judgeZone Zone.judged
  split
  · exact fallBack_fallen z s
  · exact (enterWet_entered z how s).zone

theorem judgeZone_wet {how : Confirmation} (h : how ≠ .none) : judgeZone z how s = enterWet z how s := if_neg h

/-- What the counters and the rope judgement leave of the rest of the part. -/
structure ZoneStep (z : ZoneId) (x : Zone) (s t : State) : Prop where
  zone : t.leak.zones[z] = x
  seq : t.seq = s.seq
  settings : t.settings = s.settings

theorem ZoneStep.trans {x y : Zone} {t u : State} (h : ZoneStep z x s t) (k : ZoneStep z y t u) : ZoneStep z y s u :=
  ⟨k.zone, k.seq.trans h.seq, k.settings.trans h.settings⟩

theorem setZone_step (x : Zone) : ZoneStep z x s (s.setZone z x) := ⟨by rw [setZone_zones, if_pos rfl], rfl, rfl⟩

theorem moveZone_step (x : Zone) : ZoneStep z x.entered s (moveZone z x s) := by
  obtain ⟨hzone, hseq, hset⟩ := moveZone_reads z x s
  exact ⟨hzone, hseq, hset⟩

theorem ZoneStep.refl : ZoneStep z s.leak.zones[z] s s := ⟨rfl, rfl, rfl⟩

theorem countRope_step (wet : Bool) : ZoneStep z (s.leak.zones[z].ropeCounted wet) s (countRope z wet s) := by
  unfold countRope Zone.ropeCounted
  dsimp only
  cases s.leak.zones[z].state with
  | dry =>
    cases wet with
    | true => exact moveZone_step (z := z) (s := s) _
    | false => exact ZoneStep.refl (z := z) (s := s)
  | suspect => exact setZone_step (z := z) (s := s) _
  | wet | fault => exact ZoneStep.refl (z := z) (s := s)

theorem countTray_step (accepted : Bool) : ZoneStep z (s.leak.zones[z].trayCounted accepted) s (countTray z accepted s) := by
  unfold countTray Zone.trayCounted
  dsimp only
  cases s.leak.zones[z].state with
  | dry | fault =>
    cases accepted with
    | true => exact moveZone_step (z := z) (s := s) _
    | false => exact ZoneStep.refl (z := z) (s := s)
  | suspect => exact setZone_step (z := z) (s := s) _
  | wet => exact ZoneStep.refl (z := z) (s := s)

theorem reportRope_step {x : Zone} {t : State} (h : ZoneStep z x s t) (a : Bool) :
    ZoneStep z x s (reportCondition (causeRopeFault z) a t) :=
  h.trans ⟨by rw [reportCondition_leak]; exact h.zone, reportCondition_seq _ _ _, base_settings (reportCondition_base _ _ _)⟩

theorem raiseRope_step {x : Zone} {t : State} (h : ZoneStep z x s t) (v : Int) (code : Byte) :
    ZoneStep z x s (raise (causeRopeFault z) v code t) :=
  h.trans ⟨by rw [base_leak (raise_base _ _ _ _)]; exact h.zone, raise_seq _ _ _ _, base_settings (raise_base _ _ _ _)⟩

/-- What the judgement of a rope leaves (R145). -/
structure RopeJudged (z : ZoneId) (old : RopeClass) (s t : State) : Prop where
  step : ZoneStep z s.leak.zones[z].roped s t
  breaks : s.leak.zones[z].cls.broken = true → s.leak.zones[z].ropeFault = false →
    t.causes.recs[causeRopeFault z].condition = true
  stands : s.leak.zones[z].cls.broken = true → s.leak.zones[z].ropeFault = true →
    t.causes.recs[causeRopeFault z].condition = s.causes.recs[causeRopeFault z].condition
  mends : s.leak.zones[z].cls = .dry → s.leak.zones[z].ropeFault = true → t.causes.recs[causeRopeFault z].condition = false
  raised : ∀ c, s.leak.zones[z].code = some c → s.leak.zones[z].cls.broken = true →
    s.leak.zones[z].ropeFault = false ∨ (old.broken && old != s.leak.zones[z].cls) = true →
      RaisedFrom s t (causeRopeFault z) c.toNat (ropeFaultCode s.leak.zones[z].cls)

theorem eventSource_rope (z : ZoneId) : eventSource (causeRopeFault z) = false := by
  revert z
  decide

theorem ropeBroken_told (z : ZoneId) (s : State) :
    let u := reportCondition (causeRopeFault z) true (moveZone z s.leak.zones[z].ropeBroken s)
    ZoneStep z s.leak.zones[z].ropeBroken.entered s u ∧ KeepsSending s u :=
  have hreport := (Touches.zone z s).reportRope (a := true) ((Touches.zone z s).moveZone (.refl _ s) s.leak.zones[z].ropeBroken)
  ⟨reportRope_step (moveZone_step _) _, (hreport causeHoldup (not_zoneCause_holdup z)).sending⟩

theorem judgeRope_judged (z : ZoneId) (old : RopeClass) (s : State) : RopeJudged z old s (judgeRope z old s) := by
  have hroped {y : Zone} (h : s.leak.zones[z].roped = y) {t : State} (k : ZoneStep z y s t) : ZoneStep z s.leak.zones[z].roped s t := h ▸ k
  rw [judgeRope_eq]
  dsimp only
  by_cases hb : s.leak.zones[z].cls.broken = true
  · have hdry : s.leak.zones[z].cls ≠ .dry := fun e => by
      rw [e] at hb
      cases hb
    rw [if_pos hb]
    by_cases hf : s.leak.zones[z].ropeFault = true
    · have e : s.leak.zones[z].roped = s.leak.zones[z] := (if_pos hb).trans (if_pos hf)
      rw [if_pos hf]
      by_cases hold : (old.broken && old != s.leak.zones[z].cls) = true
      · rw [if_pos hold]
        refine ⟨hroped e (raiseRope_step .refl _ _), fun _ hno => absurd (hf.symm.trans hno) nofun,
          fun _ _ => raise_condition (eventSource_rope z) _ _ _, fun hd => absurd hd hdry, fun c hc _ _ => ?_⟩
        rw [(ropeValue_code hc).1]
        exact raise_raisedFrom _ _ _ _
      · rw [if_neg hold]
        exact ⟨hroped e .refl, fun _ hno => absurd (hf.symm.trans hno) nofun, fun _ _ => rfl, fun hd => absurd hd hdry,
          fun _ _ _ hr => hr.elim (fun hno => absurd (hf.symm.trans hno) nofun) fun h => absurd h hold⟩
    · have e : s.leak.zones[z].roped = s.leak.zones[z].ropeBroken.entered := (if_pos hb).trans (if_neg hf)
      obtain ⟨hstep, hsend⟩ := ropeBroken_told z s
      have hcondition := reportCondition_condition (causeRopeFault z) true (moveZone z s.leak.zones[z].ropeBroken s)
      obtain ⟨hzone, -, -⟩ := moveZone_reads z s.leak.zones[z].ropeBroken s
      rw [if_neg hf]
      generalize moveZone z s.leak.zones[z].ropeBroken s = v at hstep hsend hcondition hzone ⊢
      refine ⟨hroped e (raiseRope_step hstep _ _), fun _ _ => (raise_condition (eventSource_rope z) _ _ _).trans hcondition,
        fun _ h => absurd h hf, fun hd => absurd hd hdry, fun c hc _ _ => ?_⟩
      have hcode : v.leak.zones[z].code = some c := by
        rw [hzone]
        exact hc
      rw [(ropeValue_code hcode).1]
      exact (raise_raisedFrom _ _ _ _).late hsend
  · rw [if_neg hb]
    by_cases hd : s.leak.zones[z].cls = .dry ∧ s.leak.zones[z].ropeFault = true
    · have e : s.leak.zones[z].roped = s.leak.zones[z].ropeMended.entered := (if_neg hb).trans (if_pos hd)
      rw [if_pos hd]
      exact ⟨hroped e (reportRope_step (moveZone_step _) _), fun h => absurd h hb, fun h => absurd h hb,
        fun _ _ => reportCondition_condition _ _ _, fun _ _ h => absurd h hb⟩
    · have e : s.leak.zones[z].roped = s.leak.zones[z] := (if_neg hb).trans (if_neg hd)
      rw [if_neg hd]
      exact ⟨hroped e .refl, fun h => absurd h hb, fun h => absurd h hb, fun h h' => absurd ⟨h, h'⟩ hd, fun _ _ h => absurd h hb⟩

end Part

end Sys2Proof.Machine
end

section
/-! PROOFS. One zone on a sample set, and the steps of the other zones around it (R144 to R152). -/

namespace Sys2Proof.Machine

/-! ### A record that is not WET -/

section Record
variable {set : ZoneSettings} {c : BitVec 12} {x : Zone}

theorem Zone.roped_code (x : Zone) : x.roped.code = x.code := by
  unfold Zone.roped
  split
  · split <;> rfl
  · split <;> rfl

theorem Zone.roped_calm (h : x.state ≠ .wet) : x.roped.state ≠ .wet := by
  unfold Zone.roped
  split
  · split
    · exact h
    · show x.ropeBroken.state ≠ .wet
      rcases x.ropeBroken_state with e | ⟨-, e⟩ | ⟨e, -⟩
      · rw [e]
        exact nofun
      · rw [e]
        exact nofun
      · exact absurd e h
  · split
    · show (if x.state = .fault then ZoneState.dry else x.state) ≠ .wet
      split
      · exact nofun
      · exact h
    · exact h

theorem Zone.ropeCounted_code (wet : Bool) (x : Zone) : (x.ropeCounted wet).code = x.code := by
  unfold Zone.ropeCounted
  split
  · split <;> rfl
  · rfl
  · rfl
  · rfl

theorem Zone.ropeCounted_calm (wet : Bool) (h : x.state ≠ .wet) : (x.ropeCounted wet).state ≠ .wet := by
  unfold Zone.ropeCounted
  split
  · split
    · exact nofun
    · exact h
  · exact h
  · exact h
  · exact h

theorem Zone.fallen_calm (h : x.state ≠ .wet) : x.fallen.state ≠ .wet := by
  unfold Zone.fallen
  split
  · show (if x.ropeFault then ZoneState.fault else .dry) ≠ .wet
    split <;> exact nofun
  · exact h

theorem Zone.evident_code (x : Zone) : x.evident.code = x.code := (Zone.ropeCounted_code _ _).trans x.roped_code

theorem Zone.evident_calm (h : x.state ≠ .wet) : x.evident.state ≠ .wet := Zone.ropeCounted_calm _ (Zone.roped_calm h)

end Record

/-! ### The part -/

/-- What a confirmation of a zone leaves, once it is judged. -/
structure ZoneEntered (z : ZoneId) (s t : State) : Prop where
  raised : ∀ c, s.leak.zones[z].code = some c →
    RaisedFrom s t (causeZoneWet z) c.toNat (BitVec.ofNat 8 t.leak.zones[z].confirmation.code)
  condition : t.causes.recs[causeZoneWet z].condition = true
  slots : s.withheld → ∀ m : SlotId, s.settings.slots[m].zone = some z →
    s.seq.slots[m].Wetted s.settings.zones[z].policy t.seq.slots[m]

theorem judgeZone_entered {z : ZoneId} {how : Confirmation} {s : State} (hcalm : s.leak.zones[z].state ≠ .wet)
    (hwet : (judgeZone z how s).leak.zones[z].state = .wet) : ZoneEntered z s (judgeZone z how s) := by
  have hne : how ≠ .none := fun e => by
    rw [judgeZone_zone, Zone.judged, if_pos e] at hwet
    exact Zone.fallen_calm hcalm hwet
  have hentered := enterWet_entered z how s
  have hconfirmed : (enterWet z how s).leak.zones[z].confirmation = how := by
    rw [hentered.zone]
    rfl
  rw [judgeZone_wet hne]
  exact ⟨by rw [hconfirmed]; exact hentered.raised, hentered.condition, hentered.slots⟩

/-- The entry seen from before the steps that brought its evidence. -/
theorem ZoneEntered.after {z : ZoneId} {x : Zone} {s u t : State} (h : ZoneEntered z u t) (hstep : ZoneStep z x s u)
    (hcode : x.code = s.leak.zones[z].code) (hsend : KeepsSending s u) : ZoneEntered z s t where
  raised c hc := (h.raised c (by rw [hstep.zone, hcode]; exact hc)).late hsend
  condition := h.condition
  slots hw m hm := by
    have hslots := h.slots (hw.of_seq (by rw [hstep.seq]) (by rw [hstep.seq])) m (by rw [hstep.settings]; exact hm)
    rw [hstep.seq, hstep.settings] at hslots
    exact hslots

section Sample
variable {z : ZoneId} {c : BitVec 12} {s : State}

/-- The part with the reading of the rope taken (R144). -/
def State.ropeRead (s : State) (z : ZoneId) (c : BitVec 12) : State := s.setZone z (s.leak.zones[z].read s.settings.zones[z] c)

/-- The part with the rope of the zone judged and its counter moved (R145 to R148). -/
def State.ropeCounted (s : State) (z : ZoneId) (c : BitVec 12) : State :=
  let u := judgeRope z s.leak.zones[z].cls (s.ropeRead z c)
  countRope z (u.leak.zones[z].cls == .wet && !u.leak.zones[z].ropeFault) u

theorem sampleZone_eq (h : s.sense.pub[ropePoint z].raw = some c) :
    sampleZone z s =
      if s.leak.zones[z].state = .wet then s.ropeRead z c
      else
        judgeZone z
          (confirmation (s.ropeCounted z c).leak.zones[z] (s.ropeCounted z c).leak.zones[z].ropeCount s.settings.zones[z].kRope .rope)
          (s.ropeCounted z c) := by
  unfold sampleZone
  dsimp only
  rw [h]
  rfl

theorem ropeRead_step : ZoneStep z (s.leak.zones[z].read s.settings.zones[z] c) s (s.ropeRead z c) := setZone_step _

theorem judgeRope_read : RopeJudged z s.leak.zones[z].cls (s.ropeRead z c) (judgeRope z s.leak.zones[z].cls (s.ropeRead z c)) :=
  judgeRope_judged _ _ _

theorem ropeCounted_step : ZoneStep z (s.leak.zones[z].read s.settings.zones[z] c).evident s (s.ropeCounted z c) := by
  have hread := ropeRead_step (z := z) (c := c) (s := s)
  have hjudged := judgeRope_read (z := z) (c := c) (s := s)
  unfold State.ropeCounted
  dsimp only
  generalize s.ropeRead z c = r at hread hjudged ⊢
  have hrope := hjudged.step
  rw [hread.zone] at hrope
  generalize judgeRope z s.leak.zones[z].cls r = u at hrope ⊢
  have hcount := countRope_step (z := z) (s := u) (u.leak.zones[z].cls == .wet && !u.leak.zones[z].ropeFault)
  rw [hrope.zone] at hcount ⊢
  exact (hread.trans hrope).trans hcount

theorem ropeCounted_sending : KeepsSending s (s.ropeCounted z c) := by
  have hrope := (Touches.zone z s).judgeRope (t := s.ropeRead z c) ((Touches.zone z s).setZone (.refl _ s)) s.leak.zones[z].cls
  unfold State.ropeCounted
  dsimp only
  generalize judgeRope z s.leak.zones[z].cls (s.ropeRead z c) = u at hrope ⊢
  exact ((Touches.zone z s).countRope hrope _ causeHoldup (not_zoneCause_holdup z)).sending

/-- The rope cause of zone `z`, from `s` to `t`, by the record `r` with the reading in it. -/
structure RopeTold (z : ZoneId) (c : BitVec 12) (r : Zone) (s t : State) : Prop where
  breaks : r.cls.broken = true → r.ropeFault = false → t.causes.recs[causeRopeFault z].condition = true
  stands : r.cls.broken = true → r.ropeFault = true →
    t.causes.recs[causeRopeFault z].condition = s.causes.recs[causeRopeFault z].condition
  mends : r.cls = .dry → r.ropeFault = true → t.causes.recs[causeRopeFault z].condition = false
  raised : r.cls.broken = true → r.ropeFault = false ∨ (s.leak.zones[z].cls.broken && s.leak.zones[z].cls != r.cls) = true →
    RaisedFrom s t (causeRopeFault z) c.toNat (ropeFaultCode r.cls)

theorem ropeCounted_told : RopeTold z c (s.leak.zones[z].read s.settings.zones[z] c) s (s.ropeCounted z c) := by
  have hread := ropeRead_step (z := z) (c := c) (s := s)
  have hjudged := judgeRope_read (z := z) (c := c) (s := s)
  have hrecs : (s.ropeRead z c).causes = s.causes := rfl
  have hlink : (s.ropeRead z c).link = s.link := rfl
  have hrope := (Touches.zone z (s.ropeRead z c)).judgeRope (.refl _ _) s.leak.zones[z].cls
  have hsend := (hrope causeHoldup (not_zoneCause_holdup z)).sending
  unfold State.ropeCounted
  dsimp only
  generalize s.ropeRead z c = r at hread hjudged hrecs hlink hsend ⊢
  generalize judgeRope z s.leak.zones[z].cls r = u at hjudged hsend ⊢
  have hquiet : Quiet (causeRopeFault z) u (countRope z (u.leak.zones[z].cls == .wet && !u.leak.zones[z].ropeFault) u) :=
    (Touches.wet z u).countRope (.refl _ u) _ _ (not_wetCause_rope z z)
  have hzone := hread.zone
  rw [← hzone]
  refine ⟨fun hb hf => hquiet.condition.trans (hjudged.breaks hb hf), fun hb hf => ?_,
    fun hd hf => hquiet.condition.trans (hjudged.mends hd hf), fun hb hr => ?_⟩
  · rw [hquiet.condition, hjudged.stands hb hf, hrecs]
  · have hraised := hjudged.raised c (by rw [hzone]; rfl) hb hr
    exact ((hraised.widen hsend (Quiet.refl _ r).toUnraised hquiet.toUnraised).congr hlink.symm rfl rfl)

/-- One zone on a sample set. -/
structure ZoneSampled (z : ZoneId) (c : BitVec 12) (s t : State) : Prop where
  zone : t.leak.zones[z] = s.leak.zones[z].sampled s.settings.zones[z] c
  told : s.leak.zones[z].state ≠ .wet → RopeTold z c (s.leak.zones[z].read s.settings.zones[z] c) s t
  entered : s.leak.zones[z].state ≠ .wet → t.leak.zones[z].state = .wet →
    RaisedFrom s t (causeZoneWet z) c.toNat (BitVec.ofNat 8 t.leak.zones[z].confirmation.code) ∧
      t.causes.recs[causeZoneWet z].condition = true ∧
      (s.withheld → ∀ m : SlotId, s.settings.slots[m].zone = some z →
        s.seq.slots[m].Wetted s.settings.zones[z].policy t.seq.slots[m])

theorem sampleZone_sampled (h : s.sense.pub[ropePoint z].raw = some c) : ZoneSampled z c s (sampleZone z s) := by
  have hread := ropeRead_step (z := z) (c := c) (s := s)
  have hstep := ropeCounted_step (z := z) (c := c) (s := s)
  have hsend := ropeCounted_sending (z := z) (c := c) (s := s)
  have htold := ropeCounted_told (z := z) (c := c) (s := s)
  rw [sampleZone_eq h]
  by_cases hst : s.leak.zones[z].state = .wet
  · rw [if_pos hst]
    exact ⟨hread.zone.trans (if_pos hst).symm, fun hno => absurd hst hno, fun hno => absurd hst hno⟩
  · rw [if_neg hst]
    generalize s.ropeCounted z c = u at hstep hsend htold ⊢
    have hzone := judgeZone_zone z (confirmation u.leak.zones[z] u.leak.zones[z].ropeCount s.settings.zones[z].kRope .rope) u
    have hquiet : Quiet (causeRopeFault z) u
        (judgeZone z (confirmation u.leak.zones[z] u.leak.zones[z].ropeCount s.settings.zones[z].kRope .rope) u) :=
      (Touches.wet z u).judgeZone (.refl _ u) _ _ (not_wetCause_rope z z)
    have hentered := judgeZone_entered (z := z) (s := u)
      (how := confirmation u.leak.zones[z] u.leak.zones[z].ropeCount s.settings.zones[z].kRope .rope)
      (by rw [hstep.zone]; exact Zone.evident_calm hst)
    generalize judgeZone z (confirmation u.leak.zones[z] u.leak.zones[z].ropeCount s.settings.zones[z].kRope .rope) u = t
      at hzone hquiet hentered ⊢
    refine ⟨?_, fun _ => ⟨fun hb hf => hquiet.condition.trans (htold.breaks hb hf), fun hb hf => hquiet.condition.trans (htold.stands hb hf),
      fun hd hf => hquiet.condition.trans (htold.mends hd hf),
      fun hb hr => (htold.raised hb hr).widen hsend (Quiet.refl _ s).toUnraised hquiet.toUnraised⟩, fun _ hwet => ?_⟩
    · rw [hzone, hstep.zone, hstep.settings]
      exact (if_neg hst).symm
    · have hwetted := hentered hwet
      have hcode : u.leak.zones[z].code = some c := by
        rw [hstep.zone, Zone.evident_code]
        rfl
      refine ⟨(hwetted.raised c hcode).late hsend, hwetted.condition, fun hw m hm => ?_⟩
      have hslots := hwetted.slots (hw.of_seq (by rw [hstep.seq]) (by rw [hstep.seq])) m (by rw [hstep.settings]; exact hm)
      rw [hstep.seq, hstep.settings] at hslots
      exact hslots

end Sample

end Sys2Proof.Machine
end

section
/-! PROOFS. What the other zones, on a sample set or a cycle end, leave of a zone, of its causes and of its slots. -/

namespace Sys2Proof.Machine

/-- What the steps of the other zones leave of zone `z`. -/
structure ZoneRests (z : ZoneId) (s t : State) : Prop where
  zone : t.leak.zones[z] = s.leak.zones[z]
  settings : t.settings = s.settings
  sense : t.sense = s.sense
  leak : t.line.leak = s.line.leak
  held : t.line.leakHeld = s.line.leakHeld
  wet : Quiet (causeZoneWet z) s t
  rope : Quiet (causeRopeFault z) s t
  slots : ∀ m : SlotId, s.settings.slots[m].zone = some z → Bides m s t

namespace ZoneRests
variable {z y : ZoneId} {s t u : State}

theorem refl (z : ZoneId) (s : State) : ZoneRests z s s :=
  ⟨rfl, rfl, rfl, rfl, rfl, .refl _ s, .refl _ s, fun m _ => .refl m s⟩

theorem trans (h : ZoneRests z s t) (k : ZoneRests z t u) : ZoneRests z s u :=
  ⟨k.zone.trans h.zone, k.settings.trans h.settings, k.sense.trans h.sense, k.leak.trans h.leak, k.held.trans h.held,
    h.wet.trans k.wet, h.rope.trans k.rope,
    fun m hm => (h.slots m hm).trans (k.slots m (by rw [h.settings]; exact hm))⟩

theorem of_ripple (h : Ripple s t) (hQ : Touches ShedCause s t) (hslots : ∀ m : SlotId, s.settings.slots[m].zone = some z → Bides m s t) :
    ZoneRests z s t :=
  ⟨by rw [base_leak h.base], h.settings, h.sense, by rw [h.line], by rw [h.line], hQ _ (causeZoneWet_not_shed z),
    hQ _ (causeRopeFault_not_shed z), hslots⟩

theorem lockZone_ripple (h : Ripple s t) (y : ZoneId) : Ripple s (lockZone y t) := by
  rw [lockZone_eq]
  exact ite_keeps h (Ripple.seqEvent (List.foldlRecOn (motive := Ripple s) _ _ h fun _ hu _ _ => hu.leaveQueue.moveSlot))

theorem shedZone_ripple (h : Ripple s t) (y : ZoneId) : Ripple s (shedZone y t) :=
  List.foldlRecOn (motive := Ripple s) _ _ h fun _ hu _ _ => hu.shedSlot

theorem lineWatch (h : ZoneRests z s t) : ZoneRests z s (lineWatch t) :=
  h.trans (.of_ripple (Ripple.refl t).lineWatch (lineWatch_touches _ t) fun _ _ => .of_seq (lineWatch_seq t))

theorem report (h : ZoneRests z s t) {c : CauseId} (hw : c ≠ causeZoneWet z) (hr : c ≠ causeRopeFault z) (a : Bool) :
    ZoneRests z s (reportCondition c a t) := by
  have hquiet : Touches (· = c) t (reportCondition c a t) := (Touches.refl (· = c) t).report rfl a
  refine h.trans ⟨by rw [reportCondition_leak], base_settings (reportCondition_base _ _ _), base_sense (reportCondition_base _ _ _), ?_, ?_,
    hquiet _ hw.symm, hquiet _ hr.symm, fun _ _ => .of_seq (reportCondition_seq _ _ _)⟩
  · rw [reportCondition_line]
  · rw [reportCondition_line]

theorem raise (h : ZoneRests z s t) {c : CauseId} (hw : c ≠ causeZoneWet z) (hr : c ≠ causeRopeFault z) (v : Int) (code : Byte) :
    ZoneRests z s (raise c v code t) := by
  have hquiet : Touches (· = c) t (Machine.raise c v code t) := (Touches.refl (· = c) t).raise rfl v code
  refine h.trans ⟨by rw [base_leak (raise_base _ _ _ _)], base_settings (raise_base _ _ _ _), base_sense (raise_base _ _ _ _), ?_, ?_,
    hquiet _ hw.symm, hquiet _ hr.symm, fun _ _ => .of_seq (raise_seq _ _ _ _)⟩
  · rw [raise_line]
  · rw [raise_line]

/-- The steps of another zone. -/
theorem steps (hne : y ≠ z) (s : State) : RopeSteps y (ZoneRests z s) where
  lineWatch h := h.lineWatch
  lockZone {t} h := h.trans (.of_ripple (lockZone_ripple (.refl t) y) ((Touches.refl _ t).lockZone (fun _ => id) y) fun _ hm =>
    lockZone_bides fun hy => absurd (Option.some.inj (hy.symm.trans hm)) hne)
  shedZone {t} h := h.trans (.of_ripple (shedZone_ripple (.refl t) y) ((Touches.refl _ t).shedZone (fun _ => id) y) fun _ hm =>
    shedZone_bides fun hy => absurd (Option.some.inj (hy.symm.trans hm)) hne)
  setZone {t x} h := h.trans
    ⟨by rw [setZone_zones, if_neg hne], rfl, rfl, rfl, rfl, .of_eq rfl rfl, .of_eq rfl rfl, fun _ _ => .of_seq rfl⟩
  spendFree {t} h := h.trans ⟨rfl, rfl, rfl, rfl, rfl, .of_eq rfl rfl, .of_eq rfl rfl, fun _ _ => .of_seq rfl⟩
  reportZone h := h.report (fun e => hne (causeZoneWet_injective e)) (causeRopeFault_ne_wet z y).symm _
  raiseZone h := h.raise (fun e => hne (causeZoneWet_injective e)) (causeRopeFault_ne_wet z y).symm _ _
  reportRope h := h.report (causeRopeFault_ne_wet y z) (fun e => hne (causeRopeFault_injective e)) _
  raiseRope h := h.raise (causeRopeFault_ne_wet y z) (fun e => hne (causeRopeFault_injective e)) _ _

end ZoneRests

/-- The rope of zone `z`, with those of the others around it. -/
theorem sampleLeak_around (z : ZoneId) (s : State) :
    ∃ u, ZoneRests z s u ∧ ZoneRests z (sampleZone z u) (sampleLeak s) :=
  foldl_around (R := ZoneRests z) (f := fun s z => sampleZone z s) (ZoneRests.refl z) ZoneRests.trans (mem_zoneIds z) zoneIds_nodup
    (fun _ hy u => (ZoneRests.steps hy u).sampleZone (.refl z u)) s

end Sys2Proof.Machine
end

section
/-! PROOFS. O34: what the points, the PSUs, the BBUs and the holdup controller leave of the zones before their ropes are judged. -/

namespace Sys2Proof.Machine

/-! ### The causes of the zones -/

/-- The causes that are no zone's. -/
def OffZone (c : CauseId) : Prop := c.val < 32 ∨ 48 ≤ c.val

theorem OffZone.shed {c : CauseId} (h : ShedCause c) : OffZone c := by
  rcases h with rfl | rfl | ⟨n, rfl⟩
  · exact .inr (by decide)
  · exact .inr (by decide)
  · exact .inr (show 48 ≤ 72 + n.val by omega)

theorem OffZone.holdup {c : CauseId} (h : HoldupCause c) : OffZone c := by
  rcases h with (h | ⟨p, rfl⟩ | ⟨k, rfl⟩) | rfl | rfl | ⟨i, rfl⟩
  · exact .shed h
  · exact .inr (show 48 ≤ 96 + p.val by omega)
  · exact .inr (show 48 ≤ 112 + k.val by omega)
  · exact .inr (by decide)
  · exact .inr (by decide)
  · exact .inr (show 48 ≤ 120 + i.val by omega)

theorem OffZone.point (q : PointId) : OffZone (causePoint q) := .inl (Nat.lt_trans (causePoint_val_lt q) (by decide))

theorem OffZone.psu (k : PsuId) : OffZone (causePsu k) := .inr (show 48 ≤ 124 + k.val by omega)

theorem not_offZone_rope (z : ZoneId) : ¬ OffZone (causeRopeFault z) := by
  have hz := z.isLt
  rintro (h | h)
  · change 40 + z.val < 32 at h
    omega
  · change 48 ≤ 40 + z.val at h
    omega

/-! ### The points -/

section Points
variable {s t : State} (codes : Vector (BitVec 12) 29)

theorem scanAnalog_touches (p : AnalogId) (c : BitVec 12) (h : Touches OffZone s t) : Touches OffZone s (scanAnalog p c t) := by
  have hpoint (x : Point) : Touches OffZone s (reportCondition (causePoint (AnalogId.point p)) x.alarming (t.setPoint (AnalogId.point p) x)) :=
    (h.trans (u := t.setPoint (AnalogId.point p) x) (.of_same rfl rfl)).report (.point _) _
  exact ite_keeps (ite_keeps ((hpoint _).raise (.point _) _ _) (hpoint _)) (ite_keeps ((hpoint _).raise (.point _) _ _) (hpoint _))

theorem scanRope_touches (z : ZoneId) (c : BitVec 12) (h : Touches OffZone s t) : Touches OffZone s (scanRope z c t) := by
  have hpoint (x : Point) : Touches OffZone s (reportCondition (causePoint (ropePoint z)) (railCode c) (t.setPoint (ropePoint z) x)) :=
    (h.trans (u := t.setPoint (ropePoint z) x) (.of_same rfl rfl)).report (.point _) _
  exact ite_keeps ((hpoint _).raise (.point _) _ _) (hpoint _)

theorem scanned_touches (s : State) : Touches OffZone s (s.scanned codes) := by
  have hpass : Touches OffZone s (passInterval s) := .of_same rfl rfl
  have hanalog := List.foldlRecOn (motive := Touches OffZone s) analogIds (fun s p => scanAnalog p codes[AnalogId.point p] s) hpass
    fun u hu p _ => scanAnalog_touches p _ hu
  have hropes := List.foldlRecOn (motive := Touches OffZone s) zoneIds (fun s z => scanRope z codes[ropePoint z] s) hanalog
    fun u hu z _ => scanRope_touches z _ hu
  exact hropes.trans (.of_same rfl rfl)

/-! ### Up to the ropes -/

/-- The part as the leak monitor finds it on a sample set. -/
def State.leakReady (codes : Vector (BitVec 12) 29) (s : State) : State := sampleHoldup (s.readied codes)

theorem psusClassed_touches (s : State) : Touches OffZone s s.psusClassed :=
  List.foldlRecOn (motive := Touches OffZone s) psuIds _ (.refl _ s) fun u hu k _ =>
    hu.trans ((reclassifyPsu_touches k u).mono fun _ h => h ▸ .psu k)

theorem bbusSampled_touches (s : State) (fresh : Bool) : Touches OffZone s (s.bbusSampled fresh) :=
  List.foldlRecOn (motive := Touches OffZone s) bbuIds _ (.refl _ s) fun u hu i _ =>
    hu.trans (((BbuStep.refl i u).sampleBbu fresh).touches.mono fun _ h =>
      .holdup (h.elim (fun h => .inr (.inr (.inr ⟨i, h⟩))) fun h => .inr (.inr (.inl h))))

theorem leakReady_touches (s : State) : Touches OffZone s (s.leakReady codes) := by
  have hcapacity : Touches OffZone s (s.capacitated codes) :=
    ((scanned_touches codes s).trans (psusClassed_touches _)).trans (recomputeCapacity_touches _ _)
  have hbudget : Touches OffZone s (recompute (s.capacitated codes)) :=
    hcapacity.trans ((recompute_touches _).mono fun _ h => .shed (h.elim .inl fun h => .inr (.inl h)))
  have hready : Touches OffZone s (s.readied codes) := by
    rw [readied_capacitated]
    exact (hbudget.trans (bbusSampled_touches _ _)).trans ((recomputeReserve_touches _).mono fun _ h => .holdup (.inl h))
  exact hready.trans (((Touches.holdupInvariant _).sampleHoldup (.refl _ _)).mono fun _ h => .holdup h)

/-- What stands before the ropes are judged. -/
structure LeakReady (codes : Vector (BitVec 12) 29) (s l : State) : Prop where
  leak : l.leak = s.leak
  zones : l.settings.zones = s.settings.zones
  slots : l.settings.slots = s.settings.slots
  code : ∀ z : ZoneId, l.sense.pub[ropePoint z].raw = some codes[ropePoint z]
  quiet : ∀ z : ZoneId, Quiet (causeRopeFault z) s l
  sends : KeepsSending s l

theorem leakReady_sense (s : State) : (s.leakReady codes).sense = (sampleSet codes s).sense := by
  rw [sampleSet_sense, State.leakReady, base_sense (sampleHoldup_base _), (readied_spec codes s).sense]

theorem leakReady_spec (s : State) : LeakReady codes s (s.leakReady codes) := by
  have hready := readied_spec codes s
  have hset : (s.leakReady codes).settings = (s.readied codes).settings := base_settings (sampleHoldup_base _)
  have hquiet (z : ZoneId) : Quiet (causeRopeFault z) s (s.leakReady codes) := leakReady_touches codes s _ (not_offZone_rope z)
  refine ⟨(base_leak (sampleHoldup_base _)).trans hready.leak, ?_, ?_, fun z => ?_, hquiet, (hquiet 0).sending⟩
  · rw [hset, hready.settings]
  · rw [hset, hready.settings]
  · rw [leakReady_sense, sampleSet_pub, (sampleSet_rope codes s z).point]
    rfl

/-! ### The sequencer, while the holdup state stands -/

theorem passInterval_withheld (h : s.withheld) : (passInterval s).withheld := by
  unfold State.withheld
  rw [passInterval_staggered, passInterval_seqHoldup]
  exact h

theorem leakReady_seq (hstate : (sampleSet codes s).holdup.state = s.holdup.state) (harmed : s.charge.armed = false) :
    (s.leakReady codes).seq = (passInterval s).seq := by
  have hcap := capacitated_spec codes s
  have hready := (readied_spec codes s).holdup.state
  have hlate : (sampleHoldup (s.readied codes)).holdup.state = (s.readied codes).holdup.state := by
    have hframe : (sampleSet codes s).holdup = (sampleHoldup (s.readied codes)).holdup := by
      rw [sampleSet_eq]
      exact (LateFrame.sampleLater _).holdup
    have hpass : (passInterval s).holdup.state = s.holdup.state := by simp only [passInterval]
    rw [← hframe, hstate, hready, hpass]
  obtain ⟨x, -, e⟩ := sampleHoldup_still hlate
  have hdisarmed : (recompute (s.capacitated codes)).charge.armed = false :=
    (recompute_armed _).trans ((congrArg Charge.armed hcap.charge).trans ((passInterval_armed s).trans harmed))
  have hbudget : (recompute (s.capacitated codes)).seq = (passInterval s).seq := (recompute_seq _).trans hcap.seq
  have hseq : (s.readied codes).seq = (passInterval s).seq := by
    rw [readied_capacitated]
    generalize recompute (s.capacitated codes) = b at hdisarmed hbudget ⊢
    have hsteps := bbusSampled_step b (!s.sense.seen)
    have hbbus : (b.bbusSampled (!s.sense.seen)).seq = b.seq := by rw [hsteps.frame]
    exact ((recomputeReserve_disarmed (hsteps.armed hdisarmed)).1.trans hbbus).trans hbudget
  unfold State.leakReady
  rw [e]
  exact hseq

end Points

end Sys2Proof.Machine
end

section
/-! PROOFS. O34: one zone over the whole sample set (R144 to R152). -/

namespace Sys2Proof.Machine

/-- The steps of a zone grant no head. -/
theorem withheld_zoneSteps (z : ZoneId) : RopeSteps z State.withheld where
  lineWatch h := (Bides.of_seq (m := 0) (lineWatch_seq _) h).1
  lockZone h := lockZone_withheld h
  shedZone h := shedZone_withheld h
  setZone h := h.of_seq rfl rfl
  spendFree h := h.of_seq rfl rfl
  reportZone h := (Bides.of_seq (m := 0) (reportCondition_seq _ _ _) h).1
  raiseZone h := (Bides.of_seq (m := 0) (raise_seq _ _ _ _) h).1
  reportRope h := (Bides.of_seq (m := 0) (reportCondition_seq _ _ _) h).1
  raiseRope h := (Bides.of_seq (m := 0) (raise_seq _ _ _ _) h).1

/-- The steps of a zone move no setting. -/
theorem settings_zoneSteps (z : ZoneId) (s : State) : RopeSteps z fun t => t.settings = s.settings where
  lineWatch h := (base_settings (lineWatch_base _)).trans h
  lockZone h := (base_settings (lockZone_base _ _)).trans h
  shedZone h := (base_settings (shedZone_base _ _)).trans h
  setZone h := h
  spendFree h := h
  reportZone h := (base_settings (reportCondition_base _ _ _)).trans h
  raiseZone h := (base_settings (raise_base _ _ _ _)).trans h
  reportRope h := (base_settings (reportCondition_base _ _ _)).trans h
  raiseRope h := (base_settings (raise_base _ _ _ _)).trans h

section Set
variable {z : ZoneId} (codes : Vector (BitVec 12) 29) (s : State)

/-- What the regulator leaves of the zones on a sample set. -/
theorem sampleRegulator_zones (u : State) :
    (sampleRegulator u).leak = u.leak ∧ (sampleRegulator u).seq = u.seq ∧ Touches ShedCause u (sampleRegulator u) := by
  have hstep := sampleRegulator_step u
  have htouches := (Touches.shedInvariant (fun _ => id) u).sampleRegulator (.refl _ u)
  generalize sampleRegulator u = t at hstep htouches ⊢
  exact ⟨base_leak hstep.ripple.base, hstep.seq, htouches⟩

/-- A zone on a sample set, from before the set. -/
structure SetSampled (z : ZoneId) (c : BitVec 12) (s t : State) : Prop where
  zone : t.leak.zones[z] = s.leak.zones[z].sampled s.settings.zones[z] c
  told : s.leak.zones[z].state ≠ .wet → RopeTold z c (s.leak.zones[z].read s.settings.zones[z] c) s t
  raised : s.leak.zones[z].state ≠ .wet → t.leak.zones[z].state = .wet →
    RaisedFrom s t (causeZoneWet z) c.toNat (BitVec.ofNat 8 t.leak.zones[z].confirmation.code) ∧
      t.causes.recs[causeZoneWet z].condition = true
  slots : s.leak.zones[z].state ≠ .wet → t.leak.zones[z].state = .wet → t.holdup.state = s.holdup.state → s.charge.armed = false →
    s.withheld → ∀ m : SlotId, s.settings.slots[m].zone = some z →
      s.seq.slots[m].pass.Wetted s.settings.zones[z].policy t.seq.slots[m]

/-- One zone's rope, with the steps of the others and of the regulator around it. -/
theorem sampleLater_around (z : ZoneId) (l : State) :
    ∃ u, ZoneRests z l u ∧ (sampleZone z u).leak.zones[z] = (sampleRegulator (sampleLeak l)).leak.zones[z] ∧
      Quiet (causeZoneWet z) (sampleZone z u) (sampleRegulator (sampleLeak l)) ∧
      Quiet (causeRopeFault z) (sampleZone z u) (sampleRegulator (sampleLeak l)) ∧
      ((sampleZone z u).withheld → ∀ m : SlotId, u.settings.slots[m].zone = some z →
        (sampleRegulator (sampleLeak l)).seq.slots[m] = (sampleZone z u).seq.slots[m]) := by
  obtain ⟨u, hbefore, hafter⟩ := sampleLeak_around z l
  obtain ⟨hleak, hseq, htouches⟩ := sampleRegulator_zones (sampleLeak l)
  have hset : (sampleZone z u).settings = u.settings := (settings_zoneSteps z u).sampleZone rfl
  generalize sampleRegulator (sampleLeak l) = t at hleak hseq htouches ⊢
  refine ⟨u, hbefore, by rw [hleak, hafter.zone], hafter.wet.trans (htouches _ (causeZoneWet_not_shed z)),
    hafter.rope.trans (htouches _ (causeRopeFault_not_shed z)), fun hw m hm => ?_⟩
  rw [hseq]
  exact (hafter.slots m (by rw [hset]; exact hm) hw).2

theorem sampleSet_leakReady : sampleSet codes s = sampleRegulator (sampleLeak (s.leakReady codes)) := sampleSet_eq codes s

theorem sampleSet_zone (z : ZoneId) : SetSampled z codes[ropePoint z] s (sampleSet codes s) := by
  have hready := leakReady_spec codes s
  have hstill : (sampleSet codes s).holdup.state = s.holdup.state → s.charge.armed = false → _ := leakReady_seq codes
  rw [sampleSet_leakReady] at hstill ⊢
  generalize s.leakReady codes = l at hready hstill ⊢
  obtain ⟨u, hrests, hzone, hwet, hrope, hslots⟩ := sampleLater_around z l
  have hsampled := sampleZone_sampled (z := z) (c := codes[ropePoint z]) (s := u) (by rw [hrests.sense]; exact hready.code z)
  have hsend : KeepsSending u (sampleZone z u) := ((Touches.zone z u).sampleZone (.refl _ u) causeHoldup (not_zoneCause_holdup z)).sending
  have hstart : KeepsSending s u := hready.sends.trans hrests.rope.sending
  have hquiet : Quiet (causeRopeFault z) s u := (hready.quiet z).trans hrests.rope
  have hold : u.leak.zones[z] = s.leak.zones[z] := by rw [hrests.zone, hready.leak]
  have hsets : u.settings.zones[z] = s.settings.zones[z] := by rw [hrests.settings, hready.zones]
  have hholds : u.withheld → (sampleZone z u).withheld := (withheld_zoneSteps z).sampleZone
  generalize sampleZone z u = v at hzone hwet hrope hslots hsampled hsend hholds
  generalize sampleRegulator (sampleLeak l) = t at hzone hwet hrope hslots hstill ⊢
  obtain ⟨hrecord, htold, hentered⟩ := hsampled
  rw [hold, hsets] at hrecord
  rw [hold] at htold hentered
  rw [hsets] at htold hentered
  rw [hzone] at hrecord hentered
  refine ⟨hrecord, fun hst => ?_, fun hst ht => ?_, fun hst ht hstate harmed hw m hm => ?_⟩
  · obtain ⟨hbreaks, hstands, hmends, hraised⟩ := htold hst
    refine ⟨fun hb hf => hrope.condition.trans (hbreaks hb hf),
      fun hb hf => (hrope.condition.trans (hstands hb hf)).trans hquiet.condition, fun hd hf => hrope.condition.trans (hmends hd hf),
      fun hb hr => ?_⟩
    rw [hold] at hraised
    exact ((hraised hb hr).late hstart).widen (hstart.trans hsend) (Quiet.refl _ s).toUnraised hrope.toUnraised
  · obtain ⟨hraised, hcondition, -⟩ := hentered hst ht
    exact ⟨(hraised.late hstart).widen (hstart.trans hsend) (Quiet.refl _ s).toUnraised hwet.toUnraised, hwet.condition.trans hcondition⟩
  · obtain ⟨-, -, hwetted⟩ := hentered hst ht
    have hmu : u.settings.slots[m].zone = some z := by rw [hrests.settings, hready.slots, hm]
    have hml : l.settings.slots[m].zone = some z := by rw [hready.slots, hm]
    have hseq := hstill hstate harmed
    have hl : l.withheld := (Bides.of_seq (m := m) hseq (passInterval_withheld hw)).1
    obtain ⟨hu, hslot⟩ := hrests.slots m hml hl
    have hfinal := hwetted hu m hmu
    rw [hslots (hholds hu) m hmu, ← passInterval_slots, ← hseq, ← hslot]
    exact hfinal

end Set

end Sys2Proof.Machine
end

section
/-! PROOFS. O34: the record of a zone after a sample set, by the class of its rope and the state it was in (R144 to R150). -/

namespace Sys2Proof.Machine

/-! ### The class (R144) -/

section Class
variable {set : ZoneSettings} {c : BitVec 12}

theorem ropeClass_short (h : c.toNat ≤ set.shortThr) (old : RopeClass) : ropeClass set old c = .short := if_pos h

theorem ropeClass_open (h : set.shortThr < c.toNat) (ho : set.openThr ≤ c.toNat) (old : RopeClass) : ropeClass set old c = .open :=
  (if_neg (by omega)).trans (if_pos ho)

/-- The reading lies between the thresholds of a broken rope. -/
def RopeTrusted (set : ZoneSettings) (c : BitVec 12) : Prop := set.shortThr < c.toNat ∧ c.toNat < set.openThr

theorem ropeClass_broken (h : ¬ RopeTrusted set c) (old : RopeClass) : (ropeClass set old c).broken = true := by
  by_cases hs : c.toNat ≤ set.shortThr
  · rw [ropeClass_short hs]
    rfl
  · rw [ropeClass_open (by omega) (by unfold RopeTrusted at h; omega)]
    rfl

theorem ropeClass_trusted (h : RopeTrusted set c) (old : RopeClass) :
    ropeClass set old c =
      if c.toNat ≤ set.wetThr then .wet else if set.dryThr ≤ c.toNat then .dry else if old = .wet then .wet else .dry := by
  obtain ⟨hs, ho⟩ := h
  exact (if_neg (by omega)).trans (if_neg (by omega))

theorem ropeClass_wet (h : RopeTrusted set c) (hlegal : set.legal) {old : RopeClass}
    (hw : c.toNat ≤ set.wetThr ∨ (c.toNat < set.dryThr ∧ old = .wet)) : ropeClass set old c = .wet := by
  rw [ropeClass_trusted h]
  obtain ⟨-, horder, -⟩ := hlegal
  by_cases hlow : c.toNat ≤ set.wetThr
  · exact if_pos hlow
  · obtain ⟨hd, hold⟩ := hw.resolve_left hlow
    rw [if_neg hlow, if_neg (by omega), if_pos hold]

theorem ropeClass_dry (h : RopeTrusted set c) {old : RopeClass} (hw : set.wetThr < c.toNat)
    (hd : set.dryThr ≤ c.toNat ∨ old ≠ .wet) : ropeClass set old c = .dry := by
  rw [ropeClass_trusted h, if_neg (by omega)]
  by_cases hhigh : set.dryThr ≤ c.toNat
  · exact if_pos hhigh
  · rw [if_neg hhigh, if_neg (hd.resolve_left hhigh)]

end Class

/-! ### The record -/

section Record
variable {set : ZoneSettings} {c : BitVec 12} {x : Zone}

theorem Zone.roped_cls (x : Zone) : x.roped.cls = x.cls := by
  unfold Zone.roped
  split
  · split <;> rfl
  · split <;> rfl

theorem Zone.ropeCounted_cls (wet : Bool) (x : Zone) : (x.ropeCounted wet).cls = x.cls := by
  unfold Zone.ropeCounted
  split
  · split <;> rfl
  · rfl
  · rfl
  · rfl

theorem Zone.fallen_reads (x : Zone) : x.fallen.cls = x.cls ∧ x.fallen.code = x.code := by
  unfold Zone.fallen
  split <;> exact ⟨rfl, rfl⟩

theorem Zone.judged_reads (how : Confirmation) (x : Zone) : (x.judged set how).cls = x.cls ∧ (x.judged set how).code = x.code := by
  unfold Zone.judged
  split
  · exact x.fallen_reads
  · exact ⟨rfl, rfl⟩

/-- The reading stands in the record. -/
theorem Zone.sampled_reads (set : ZoneSettings) (c : BitVec 12) (x : Zone) :
    (x.sampled set c).cls = ropeClass set x.cls c ∧ (x.sampled set c).code = some c := by
  unfold Zone.sampled
  split
  · exact ⟨rfl, rfl⟩
  · have hreads := (x.read set c).evident.judged_reads (set := set)
      (Machine.confirmation (x.read set c).evident (x.read set c).evident.ropeCount set.kRope .rope)
    refine ⟨hreads.1.trans ?_, hreads.2.trans (Zone.evident_code _)⟩
    rw [Zone.evident, Zone.ropeCounted_cls, Zone.roped_cls]
    rfl

/-- A reading that is not counted confirms nothing (R147 to R150). -/
theorem Zone.sampled_uncounted (hst : x.state ≠ .wet) (hk : 1 ≤ set.kRope)
    (hu : ((x.read set c).roped.cls == .wet && !(x.read set c).roped.ropeFault) = false) :
    x.sampled set c = ((x.read set c).roped.ropeCounted false).fallen := by
  unfold Zone.sampled
  rw [if_neg hst, Zone.evident, hu]
  generalize (x.read set c).roped = r
  have hnone : Machine.confirmation (r.ropeCounted false) (r.ropeCounted false).ropeCount set.kRope .rope = .none := by
    unfold Machine.confirmation Zone.ropeCounted
    cases e : r.state with
    | dry | wet | fault => simp [e]
    | suspect =>
      have : ¬ set.kRope ≤ 0 := by omega
      simp [e, this]
  rw [hnone, Zone.judged, if_pos rfl]

/-- R145: a broken rope in a zone that is not WET. -/
structure Zone.Breaks (x y : Zone) : Prop where
  fault : y.ropeFault = true
  calm : y.state ≠ .wet
  dry : x.state = .dry → x.ropeFault = false → y.state = .fault
  stays : x.state = .fault → y.state = .fault
  suspect : x.state = .suspect →
    y.ropeCount = 0 ∧ (0 < x.trayCount → y.state = .suspect ∧ y.trayCount = x.trayCount) ∧
      (x.trayCount = 0 → x.ropeFault = false ∨ x.awaitCycle = false → y.state = .fault)

/-- A record in FAULT, or one in DRY, is left alone by a reading that is not counted. -/
theorem Zone.fallen_uncounted (x : Zone) :
    (x.state ≠ .suspect → (x.ropeCounted false).fallen = x) ∧
      (x.state = .suspect →
        (x.ropeCounted false).fallen =
          if x.trayCount = 0 ∧ x.awaitCycle = false then
            ({ x with ropeCount := 0, awaitSet := false, state := if x.ropeFault then .fault else .dry } : Zone).entered
          else { x with ropeCount := 0, awaitSet := false }) := by
  cases hst : x.state <;> simp [Zone.ropeCounted, Zone.fallen, hst]

/-- A flag that is set already. -/
theorem Zone.breaks_again (hst : x.state ≠ .wet) (hf : x.ropeFault = true) : x.Breaks ((x.ropeCounted false).fallen) := by
  obtain ⟨hother, hsuspect⟩ := x.fallen_uncounted
  have hset : x.ropeFault ≠ false := by rw [hf]; exact nofun
  by_cases hs : x.state = .suspect
  · rw [hsuspect hs]
    by_cases hfall : x.trayCount = 0 ∧ x.awaitCycle = false
    · rw [if_pos hfall, hf]
      exact ⟨rfl, nofun, fun _ _ => rfl, fun _ => rfl,
        fun _ => ⟨rfl, fun ht => absurd hfall.1 (Nat.ne_of_gt ht), fun _ _ => rfl⟩⟩
    · rw [if_neg hfall]
      exact ⟨hf, hst, fun _ hno => absurd hno hset, id,
        fun _ => ⟨rfl, fun _ => ⟨hs, rfl⟩, fun ht ha => absurd ⟨ht, ha.resolve_left hset⟩ hfall⟩⟩
  · rw [hother hs]
    exact ⟨hf, hst, fun _ hno => absurd hno hset, id, fun h => absurd h hs⟩

theorem Zone.ropeBroken_suspect (h : x.ropeBroken.state = .suspect) : x.state = .suspect ∧ 0 < x.trayCount := by
  unfold Zone.ropeBroken at h
  dsimp only at h
  cases hst : x.state with
  | dry | wet | fault => simp [hst] at h
  | suspect =>
    by_cases ht : 0 < x.trayCount
    · exact ⟨rfl, ht⟩
    · simp [hst, ht] at h

/-- A flag that this reading sets. -/
theorem Zone.breaks_first (hst : x.state ≠ .wet) : x.Breaks ((x.ropeBroken.entered.ropeCounted false).fallen) := by
  obtain ⟨hother, hsuspect⟩ := x.ropeBroken.entered.fallen_uncounted
  have hcount : x.state = .suspect → x.ropeBroken.entered.ropeCount = 0 := fun h => if_pos h
  by_cases hs : x.ropeBroken.state = .suspect
  · have ht := Zone.ropeBroken_suspect hs
    have hstays : ¬ (x.ropeBroken.entered.trayCount = 0 ∧ x.ropeBroken.entered.awaitCycle = false) := fun h => Nat.ne_of_gt ht.2 h.1
    rw [hsuspect hs, if_neg hstays]
    exact ⟨rfl, fun e => absurd (hs.symm.trans e) nofun, fun e => absurd (ht.1.symm.trans e) nofun, fun e => absurd (ht.1.symm.trans e) nofun,
      fun _ => ⟨rfl, fun _ => ⟨hs, rfl⟩, fun e => absurd e (Nat.ne_of_gt ht.2)⟩⟩
  · have hfault : x.ropeBroken.state = .fault := by
      rcases x.ropeBroken_state with e | ⟨-, e⟩ | ⟨e, -⟩
      · exact e
      · exact absurd e hs
      · exact absurd e hst
    rw [hother hs]
    refine ⟨rfl, fun e => absurd (hfault.symm.trans e) nofun, fun _ _ => hfault, fun _ => hfault, fun h => ⟨hcount h, fun ht => ?_, fun _ _ => hfault⟩⟩
    refine absurd ?_ hs
    simp [Zone.ropeBroken, h, ht]

theorem Zone.sampled_broken (hst : x.state ≠ .wet) (hk : 1 ≤ set.kRope) (hb : (ropeClass set x.cls c).broken = true) :
    x.Breaks (x.sampled set c) := by
  have hcls : (x.read set c).roped.cls ≠ .wet := fun e => by
    rw [Zone.roped_cls] at e
    change ropeClass set x.cls c = .wet at e
    rw [e] at hb
    cases hb
  have hread : (x.read set c).Breaks (((x.read set c).roped.ropeCounted false).fallen) := by
    have hroped : (x.read set c).roped = if x.ropeFault = true then x.read set c else (x.read set c).ropeBroken.entered := if_pos hb
    rw [hroped]
    by_cases hf : x.ropeFault = true
    · rw [if_pos hf]
      exact Zone.breaks_again (x := x.read set c) hst hf
    · rw [if_neg hf]
      exact Zone.breaks_first (x := x.read set c) hst
  rw [Zone.sampled_uncounted hst hk (by rw [beq_false_of_ne hcls]; rfl)]
  exact ⟨hread.fault, hread.calm, hread.dry, hread.stays, hread.suspect⟩

/-! ### A trusted rope -/

/-- R145: a DRY reading in a zone that is not WET. -/
structure Zone.Dries (x y : Zone) : Prop where
  trusted : y.ropeFault = false
  mended : x.state = .fault → x.ropeFault = true → y.state = .dry
  falls : x.state = .suspect → x.trayCount = 0 → x.awaitCycle = false → y.state = .dry

theorem Zone.dries (hf : x.ropeFault = false) : x.Dries ((x.ropeCounted false).fallen) := by
  obtain ⟨hother, hsuspect⟩ := x.fallen_uncounted
  have hset : x.ropeFault ≠ true := by rw [hf]; exact nofun
  by_cases hs : x.state = .suspect
  · rw [hsuspect hs]
    by_cases hfall : x.trayCount = 0 ∧ x.awaitCycle = false
    · rw [if_pos hfall]
      exact ⟨hf, fun _ h => absurd h hset, fun _ _ _ => if_neg hset⟩
    · rw [if_neg hfall]
      exact ⟨hf, fun _ h => absurd h hset, fun _ ht ha => absurd ⟨ht, ha⟩ hfall⟩
  · rw [hother hs]
    exact ⟨hf, fun _ h => absurd h hset, fun h => absurd h hs⟩

theorem Zone.dries_mended (x : Zone) : x.Dries ((x.ropeMended.entered.ropeCounted false).fallen) := by
  obtain ⟨htrusted, -, hfalls⟩ := Zone.dries (x := x.ropeMended.entered) rfl
  refine ⟨htrusted, fun hst _ => ?_, fun hst ht ha => ?_⟩
  · have hdry : x.ropeMended.state = .dry := if_pos hst
    obtain ⟨hother, -⟩ := x.ropeMended.entered.fallen_uncounted
    rw [hother fun e => absurd (hdry.symm.trans e) nofun]
    exact hdry
  · refine hfalls ?_ ht ?_
    · exact (if_neg (by rw [hst]; exact nofun)).trans hst
    · show (x.awaitCycle && _) = false
      rw [ha]
      rfl

theorem Zone.sampled_dry (hst : x.state ≠ .wet) (hk : 1 ≤ set.kRope) (hd : ropeClass set x.cls c = .dry) :
    x.Dries (x.sampled set c) := by
  have hcls : (x.read set c).roped.cls ≠ .wet := by
    rw [Zone.roped_cls]
    exact fun e => absurd (hd.symm.trans e) nofun
  have hbroken : ¬ (x.read set c).cls.broken = true := by
    show ¬ (ropeClass set x.cls c).broken = true
    rw [hd]
    exact nofun
  have hread : (x.read set c).Dries (((x.read set c).roped.ropeCounted false).fallen) := by
    unfold Zone.roped
    rw [if_neg hbroken]
    by_cases hf : x.ropeFault = true
    · rw [if_pos ⟨hd, hf⟩]
      exact (x.read set c).dries_mended
    · rw [if_neg fun h => hf h.2]
      exact Zone.dries (x := x.read set c) (Bool.eq_false_iff.2 hf)
  rw [Zone.sampled_uncounted hst hk (by rw [beq_false_of_ne hcls]; rfl)]
  exact ⟨hread.trusted, hread.mended, hread.falls⟩

end Record

end Sys2Proof.Machine
end

section
/-! PROOFS. O34: a WET reading of a rope, and the obligation (R144 to R152). -/

namespace Sys2Proof.Machine

section Wet
variable {set : ZoneSettings} {c : BitVec 12} {x : Zone}

theorem Zone.roped_wet (h : x.cls = .wet) : x.roped = x := by
  unfold Zone.roped
  rw [if_neg (by rw [h]; exact nofun), if_neg (by rw [h]; exact nofun)]

/-- A WET reading of a rope whose fault flag stands is not counted. -/
theorem Zone.sampled_wet_untrusted (hst : x.state ≠ .wet) (hk : 1 ≤ set.kRope) (hw : ropeClass set x.cls c = .wet) (hf : x.ropeFault = true) :
    (x.sampled set c).ropeFault = true ∧ (x.state = .fault → (x.sampled set c).state = .fault) := by
  have hread : (x.read set c).roped = x.read set c := Zone.roped_wet hw
  have hagain := Zone.breaks_again (x := x.read set c) hst hf
  have hfault : (x.read set c).ropeFault = true := hf
  rw [Zone.sampled_uncounted hst hk (by rw [hread, hfault, Bool.not_true, Bool.and_false]), hread]
  exact ⟨hagain.fault, hagain.stays⟩

/-- A WET reading of a trusted rope is counted. -/
theorem Zone.sampled_wet_trusted (hst : x.state ≠ .wet) (hw : ropeClass set x.cls c = .wet) (hf : x.ropeFault = false) :
    x.sampled set c =
      ((x.read set c).ropeCounted true).judged set
        (Machine.confirmation ((x.read set c).ropeCounted true) ((x.read set c).ropeCounted true).ropeCount set.kRope .rope) := by
  have hcls : (x.read set c).cls = .wet := hw
  have hfault : (x.read set c).ropeFault = false := hf
  have hevident : (x.read set c).evident = (x.read set c).ropeCounted true := by
    rw [Zone.evident, Zone.roped_wet hcls, hcls, hfault]
    rfl
  unfold Zone.sampled
  rw [if_neg hst, hevident]

/-- The record in SUSPECT by its first WET reading (R147). -/
def Zone.suspected (x : Zone) : Zone := ({ x with state := .suspect, ropeCount := 1, trayCount := 0 } : Zone).entered

/-- The record with another WET reading counted (R148). -/
def Zone.recounted (x : Zone) : Zone := { x with ropeCount := min 255 (x.ropeCount + 1), awaitSet := false }

theorem Zone.ropeCounted_dry (h : x.state = .dry) : x.ropeCounted true = x.suspected := by
  unfold Zone.ropeCounted
  rw [h]
  rfl

theorem Zone.ropeCounted_suspect (h : x.state = .suspect) : x.ropeCounted true = x.recounted := by
  unfold Zone.ropeCounted
  split
  · next e => exact absurd (h.symm.trans e) nofun
  · rfl
  · next e => exact absurd (h.symm.trans e) nofun
  · next e => exact absurd (h.symm.trans e) nofun

/-- R149 at a rope counter that is above 0. -/
theorem confirmation_rope (hst : x.state = .suspect) (hc : 0 < x.ropeCount) (k : Nat) :
    (0 < x.trayCount → Machine.confirmation x x.ropeCount k .rope = .both) ∧
      (x.trayCount = 0 → k ≤ x.ropeCount → Machine.confirmation x x.ropeCount k .rope = .rope) ∧
      (x.trayCount = 0 → x.ropeCount < k → Machine.confirmation x x.ropeCount k .rope = .none) := by
  unfold Machine.confirmation
  rw [if_pos hst]
  refine ⟨fun ht => if_pos ⟨hc, ht⟩, fun ht hk => ?_, fun ht hk => ?_⟩
  · rw [if_neg (by omega), if_pos hk]
  · rw [if_neg (by omega), if_neg (by omega)]

/-- What a counted WET reading makes of a zone with `n` of them. -/
structure Zone.Wets (set : ZoneSettings) (n : Nat) (x y : Zone) : Prop where
  both : 0 < x.trayCount → y.state = .wet ∧ y.confirmation = .both ∧ y.valve = (x.valve || set.policy.closesValve)
  rope : x.trayCount = 0 → set.kRope ≤ n →
    y.state = .wet ∧ y.confirmation = .rope ∧ y.valve = (x.valve || set.policy.closesValve)
  counts : x.trayCount = 0 → n < set.kRope → y.state = .suspect ∧ y.ropeCount = n ∧ y.trayCount = 0

theorem Zone.judged_wets (hst : x.state = .suspect) (hc : 0 < x.ropeCount) :
    x.Wets set x.ropeCount (x.judged set (Machine.confirmation x x.ropeCount set.kRope .rope)) := by
  obtain ⟨hboth, hrope, hnone⟩ := confirmation_rope hst hc set.kRope
  refine ⟨fun ht => ?_, fun ht hk => ?_, fun ht hk => ?_⟩
  · rw [hboth ht]
    exact ⟨rfl, rfl, rfl⟩
  · rw [hrope ht hk]
    exact ⟨rfl, rfl, rfl⟩
  · have hfallen : x.fallen = x := if_neg fun h => absurd h.2.1 (Nat.ne_of_gt hc)
    rw [hnone ht hk, Zone.judged, if_pos rfl, hfallen]
    exact ⟨hst, rfl, ht⟩

theorem Zone.sampled_wet_dry (hst : x.state = .dry) (hw : ropeClass set x.cls c = .wet) (hf : x.ropeFault = false) :
    (set.kRope ≤ 1 →
        (x.sampled set c).state = .wet ∧ (x.sampled set c).confirmation = .rope ∧
          (x.sampled set c).valve = (x.valve || set.policy.closesValve)) ∧
      (1 < set.kRope → (x.sampled set c).state = .suspect ∧ (x.sampled set c).ropeCount = 1 ∧ (x.sampled set c).trayCount = 0) := by
  have hwets := Zone.judged_wets (set := set) (x := (x.read set c).suspected) rfl (Nat.one_pos)
  rw [Zone.sampled_wet_trusted (by rw [hst]; exact nofun) hw hf, Zone.ropeCounted_dry (x := x.read set c) hst]
  exact ⟨hwets.rope rfl, hwets.counts rfl⟩

theorem Zone.sampled_wet_suspect (hst : x.state = .suspect) (hw : ropeClass set x.cls c = .wet) (hf : x.ropeFault = false) :
    x.Wets set (min 255 (x.ropeCount + 1)) (x.sampled set c) := by
  have hwets := Zone.judged_wets (set := set) (x := (x.read set c).recounted) hst (show 0 < min 255 (x.ropeCount + 1) by omega)
  rw [Zone.sampled_wet_trusted (by rw [hst]; exact nofun) hw hf, Zone.ropeCounted_suspect (x := x.read set c) hst]
  exact ⟨hwets.both, hwets.rope, hwets.counts⟩

end Wet

/-! ### The slots of the zone -/

/-- What a leak shed makes of a record whose timers have run on. -/
theorem Slot.Leaked.passed {v w : Slot} (h : v.pass.Leaked w) : v.Leaked w := ⟨h.off, h.drains, h.locks, h.draining, h.down⟩

theorem Slot.Wetted.passed {policy : Policy} {v w : Slot} (h : v.pass.Wetted policy w) :
    (v.state = .queued → w.state = .locked ∧ w.restore = false) ∧
      (policy ≠ .valveAndShed → v.state ≠ .queued → w.state = v.state ∧ w.reason = v.reason) ∧
      (policy = .valveAndShed → v.state ≠ .queued → v.Leaked w) := by
  refine ⟨h.queued, fun hp hq => ?_, fun hp hq => (h.shed hp hq).passed⟩
  rw [h.kept hp hq]
  exact ⟨rfl, rfl⟩

theorem Slot.powered_ne_queued {v : Slot} (h : v.drainsForLeak) : v.state ≠ .queued := by
  rcases h with h | h | ⟨h | h, -⟩ <;> rw [h] <;> exact nofun

end Sys2Proof.Machine

open Sys2Proof Sys2Proof.Machine

/-- Settles O34: each zone's rope is judged on the part that the points, the PSUs, the BBUs and the holdup controller leave, which
have the zone, its settings and its causes as they stood; the other zones and the regulator leave them so. -/
theorem sampleSetJudgesRopes : Obligations.SampleSetJudgesRopes := by
  unfold Obligations.SampleSetJudgesRopes
  intro codes s hrun hsettings hzones
  refine ⟨sampleSet codes s, exec_sampleSet_running codes hrun, ?_⟩
  have hsampled := fun z => sampleSet_zone codes s z
  generalize sampleSet codes s = t at hsampled ⊢
  beta_reduce
  intro z set c x y trusted wet dry
  obtain ⟨-, hrope, hfalls, hfault, -⟩ := hzones hrun z
  have hlegal : set.legal := hsettings.1.2.2.2.2.2.2.2.2.2.1 z
  have hk : 1 ≤ set.kRope := hlegal.2.2.2.2.1
  obtain ⟨hzone, htold, hraised, hslots⟩ := hsampled z
  obtain ⟨hcls, hcode⟩ := Zone.sampled_reads set codes[ropePoint z] x
  change y = x.sampled set codes[ropePoint z] at hzone
  rw [← hzone] at hcls hcode
  have hwet : wet → ropeClass set x.cls codes[ropePoint z] = .wet := fun h => ropeClass_wet h.1 hlegal h.2
  have hdry : dry → ropeClass set x.cls codes[ropePoint z] = .dry := fun h => ropeClass_dry h.1 h.2.1 h.2.2
  have hbroken (h : ¬ trusted) : (ropeClass set x.cls codes[ropePoint z]).broken = true := ropeClass_broken h x.cls
  refine ⟨hcode, fun h => hcls.trans (hwet h), fun h => hcls.trans (hdry h), fun h => hcls.trans (ropeClass_short h _),
    fun h ho => hcls.trans (ropeClass_open h ho _), fun h hst => ?_, fun h hst => ?_, fun h hst hf => ?_, fun h hst hf => ?_, fun h hf => ?_,
    fun h hf hst => ?_, fun hst ht => ?_, fun hst hf h hone => ?_, fun hst hf h hone => ?_, fun hst hf h => ?_, fun hst h ht ha => ?_,
    fun hst => ?_⟩
  · obtain ⟨hbreaks, hstands, -, hfresh⟩ := htold hst
    have hb := Zone.sampled_broken hst hk (hbroken h)
    rw [← hzone] at hb
    refine ⟨hb.fault, hb.calm, ?_, fun hr => ?_, hb.dry, hb.stays, hb.suspect⟩
    · by_cases hf : x.ropeFault = true
      · exact (hstands (hbroken h) hf).trans (hrope.trans hf)
      · exact hbreaks (hbroken h) (Bool.eq_false_iff.2 hf)
    · rw [hcls]
      rw [hcls] at hr
      refine hfresh (hbroken h) (hr.imp_right fun hclasses => ?_)
      show (x.cls.broken && x.cls != ropeClass set x.cls codes[ropePoint z]) = true
      rcases hclasses with ⟨e, e'⟩ | ⟨e, e'⟩
      · rw [e, e']
        rfl
      · rw [e, e']
        rfl
  · rw [hzone]
    exact (Zone.sampled_dry hst hk (hdry h)).trusted
  · rw [hzone]
    exact (Zone.sampled_dry (by rw [hst]; exact nofun) hk (hdry h)).mended hst hf
  · exact (htold hst).mends (hdry h) hf
  · rw [hzone]
    by_cases hst : x.state = .wet
    · rw [Zone.sampled, if_pos hst]
      exact hf
    · exact (Zone.sampled_wet_untrusted hst hk (hwet h) hf).1
  · rw [hzone]
    exact (Zone.sampled_wet_untrusted (by rw [hst]; exact nofun) hk (hwet h) hf).2 hst
  · obtain ⟨htold, hcondition⟩ := hraised hst ht
    refine ⟨htold, hcondition, fun hstate harmed hw n hn => ?_⟩
    intro v w powered
    obtain ⟨hqueued, hkept, hshed⟩ := (hslots hst ht hstate harmed hw n hn).passed
    refine ⟨hqueued, hkept, fun hp => ⟨fun hv => ?_, fun hv => ?_, fun hv => ?_, fun hv => ?_, fun hv => ?_⟩⟩
    · exact (hshed hp (fun e => absurd (hv.symm.trans e) nofun)).off hv
    · exact (hshed hp (Slot.powered_ne_queued hv)).drains hv
    · exact (hshed hp (Slot.powered_ne_queued hv)).locks hv
    · obtain ⟨hstate, hreason, -⟩ := (hshed hp (fun e => absurd (hv.symm.trans e) nofun)).draining hv
      exact ⟨hstate, hreason⟩
    · have hne : v.state ≠ .queued := by
        rcases hv with hv | hv <;> rw [hv] <;> exact nofun
      obtain ⟨hstate, hreason, -⟩ := (hshed hp hne).down hv
      exact ⟨hstate, hreason⟩
  · rw [hzone]
    exact (Zone.sampled_wet_dry hst (hwet h) hf).2 hone
  · rw [hzone]
    exact (Zone.sampled_wet_dry hst (hwet h) hf).1 (Nat.le_of_eq hone)
  · intro n
    have hwets := Zone.sampled_wet_suspect hst (hwet h) hf
    rw [← hzone] at hwets
    exact ⟨hwets.both, hwets.rope, fun ht hn => ⟨(hwets.counts ht hn).1, (hwets.counts ht hn).2.1⟩⟩
  · rw [hzone]
    exact (Zone.sampled_dry (by rw [hst]; exact nofun) hk (hdry h)).falls hst ht ha
  · rw [hcls, hcode, hzone, Zone.sampled, if_pos hst]
    rfl
end

section
/-! PROOFS. O59: the line at a cycle end, and what it reports itself (R136 to R139). -/

namespace Sys2Proof.Machine

section Cycle
variable (c : CycleSamples) (s : State)

/-- The part with the line's counts and vectors taken and cause 132 told. -/
def State.lineClosed : State := reportLine s.line.state (closeCycle c s)

/-- The part with the attention causes told as well. -/
def State.lineTold : State := slotIds.foldl (fun u n => reportAttention s.line.attention n u) (s.lineClosed c)

theorem endCycle_eq : endCycle c s = lineWatch (cycleLeak (cycleHolds (s.lineTold c))) := rfl

/-! ### Cause 132 (R139) -/

theorem reportLine_touches (old : LineState) (u : State) : Touches (· = causeLine) u (reportLine old u) :=
  have hreport := (Touches.refl (· = causeLine) u).report rfl (u.line.state == .failed)
  ite_keeps (P := fun v : State => Touches (· = causeLine) u v) (.refl _ u) (hreport.raise rfl _ _)

theorem reportLine_base (old : LineState) (u : State) : (reportLine old u).base = u.base :=
  ite_keeps (P := fun v : State => v.base = u.base) rfl ((raise_base _ _ _ _).trans (reportCondition_base _ _ _))

theorem reportLine_seq (old : LineState) (u : State) : (reportLine old u).seq = u.seq :=
  ite_keeps (P := fun v : State => v.seq = u.seq) rfl ((raise_seq _ _ _ _).trans (reportCondition_seq _ _ _))

theorem reportLine_told (old : LineState) (u : State) :
    (reportLine old u).causes.recs[causeLine].condition =
        (if u.line.state = old then u.causes.recs[causeLine].condition else u.line.state == .failed) ∧
      (u.line.state ≠ old →
        RaisedFrom u (reportLine old u) causeLine (u.line.faults : Nat) (if u.line.state = .failed then codeLineFailed else codeLineOk)) := by
  unfold reportLine
  by_cases h : u.line.state = old
  · rw [if_pos h, if_pos h]
    exact ⟨rfl, fun hne => absurd h hne⟩
  · rw [if_neg h, if_neg h]
    refine ⟨?_, fun _ => reported_raised _ _ _ _ (.refl _ u)⟩
    rw [raise_condition (by decide), reportCondition_condition]

/-! ### The attention causes (R137) -/

theorem causeAttention_injective {m n : SlotId} (h : causeAttention m = causeAttention n) : m = n := by
  have hval : 48 + m.val = 48 + n.val := congrArg Fin.val h
  exact Fin.ext (by omega)

theorem causeAttention_ne_line (n : SlotId) : causeAttention n ≠ causeLine := by
  revert n
  decide

theorem holdup_ne_attention (n : SlotId) : causeHoldup ≠ causeAttention n := by
  revert n
  decide

theorem eventSource_attention (n : SlotId) : eventSource (causeAttention n) = false := by
  revert n
  decide

section Attention
variable (old : BitVec 24) (n : SlotId) (u : State)

theorem reportAttention_touches : Touches (· = causeAttention n) u (reportAttention old n u) := by
  have hreport := (Touches.refl (· = causeAttention n) u).report rfl (u.line.attention.getLsbD n.val)
  exact ite_keeps (hreport.raise rfl _ _) hreport

/-- What the line's own reports leave. -/
structure LineReport (s t : State) : Prop where
  line : t.line = s.line
  seq : t.seq = s.seq
  base : t.base = s.base

theorem LineReport.trans {s t u : State} (h : LineReport s t) (k : LineReport t u) : LineReport s u :=
  ⟨k.line.trans h.line, k.seq.trans h.seq, k.base.trans h.base⟩

theorem LineReport.report {s t : State} (h : LineReport s t) (d : CauseId) (a : Bool) : LineReport s (reportCondition d a t) :=
  h.trans ⟨reportCondition_line _ _ _, reportCondition_seq _ _ _, reportCondition_base _ _ _⟩

theorem LineReport.raise {s t : State} (h : LineReport s t) (d : CauseId) (v : Int) (code : Byte) : LineReport s (raise d v code t) :=
  h.trans ⟨raise_line _ _ _ _, raise_seq _ _ _ _, raise_base _ _ _ _⟩

theorem reportAttention_report : LineReport u (reportAttention old n u) := by
  have hreport := (⟨rfl, rfl, rfl⟩ : LineReport u u).report (causeAttention n) (u.line.attention.getLsbD n.val)
  exact ite_keeps (hreport.raise _ _ _) hreport

theorem reportAttention_told :
    (reportAttention old n u).causes.recs[causeAttention n].condition = u.line.attention.getLsbD n.val ∧
      (old.getLsbD n.val = false → u.line.attention.getLsbD n.val = true →
        RaisedFrom u (reportAttention old n u) (causeAttention n) (u.line.cycleNo : Nat) (stateCode u.seq.slots[n].state.code)) := by
  have hcondition := reportCondition_condition (causeAttention n) (u.line.attention.getLsbD n.val) u
  have hline := reportCondition_line (causeAttention n) (u.line.attention.getLsbD n.val) u
  have hseq := reportCondition_seq (causeAttention n) (u.line.attention.getLsbD n.val) u
  have hraised (v : Int) (code : Byte) := reported_raised (causeAttention n) (u.line.attention.getLsbD n.val) v code (.refl _ u)
  unfold reportAttention
  dsimp only
  generalize reportCondition (causeAttention n) (u.line.attention.getLsbD n.val) u = r at hcondition hline hseq hraised ⊢
  refine ⟨?_, fun hold hnow => ?_⟩
  · split
    · rw [raise_condition (eventSource_attention n), hcondition]
    · exact hcondition
  · have hnew : (u.line.attention.getLsbD n.val && !old.getLsbD n.val) = true := by rw [hnow, hold]; rfl
    rw [if_pos hnew, hline, hseq]
    exact hraised _ _

end Attention

/-! ### The line and its causes, before the holds and the zones -/

/-- What stands once the line has told its causes. -/
structure LineTold (c : CycleSamples) (s t : State) : Prop where
  line : t.line = s.closedLine c
  seq : t.seq = s.seq
  leak : t.leak = s.leak
  settings : t.settings = s.settings
  sends : KeepsSending s t
  condition :
    t.causes.recs[causeLine].condition =
      (if (s.closedLine c).state = s.line.state then s.causes.recs[causeLine].condition else (s.closedLine c).state == .failed)
  raised : (s.closedLine c).state ≠ s.line.state →
    RaisedFrom s t causeLine ((s.closedLine c).faults : Nat) (if (s.closedLine c).state = .failed then codeLineFailed else codeLineOk)
  attention : ∀ n : SlotId, t.causes.recs[causeAttention n].condition = (s.closedLine c).attention.getLsbD n.val
  attends : ∀ n : SlotId, s.line.attention.getLsbD n.val = false → (s.closedLine c).attention.getLsbD n.val = true →
    RaisedFrom s t (causeAttention n) ((s.closedLine c).cycleNo : Nat) (stateCode s.seq.slots[n].state.code)

theorem lineClosed_report : LineReport (closeCycle c s) (s.lineClosed c) :=
  ⟨reportLine_line _ _, reportLine_seq _ _, reportLine_base _ _⟩

/-- The report of one slot's attention, between those of the others. -/
theorem lineTold_attention (n : SlotId) :
    ∃ u, (LineReport (s.lineClosed c) u ∧ Quiet (causeAttention n) (s.lineClosed c) u) ∧
      Quiet (causeAttention n) (reportAttention s.line.attention n u) (s.lineTold c) := by
  obtain ⟨u, hbefore, -, hafter⟩ := foldl_around (R := fun s t => LineReport s t ∧ Quiet (causeAttention n) s t)
    (f := fun u m => reportAttention s.line.attention m u) (fun u => ⟨⟨rfl, rfl, rfl⟩, .refl _ u⟩)
    (fun h k => ⟨h.1.trans k.1, h.2.trans k.2⟩) (mem_slotIds n) slotIds_nodup
    (fun m hm u => ⟨reportAttention_report _ m u, reportAttention_touches _ m u _ fun e => hm (causeAttention_injective e).symm⟩)
    (s.lineClosed c)
  exact ⟨u, hbefore, hafter⟩

theorem lineTold_rest :
    LineReport (s.lineClosed c) (s.lineTold c) ∧ Quiet causeLine (s.lineClosed c) (s.lineTold c) ∧
      KeepsSending (s.lineClosed c) (s.lineTold c) := by
  have hrest := List.foldlRecOn (motive := fun u => LineReport (s.lineClosed c) u ∧ Quiet causeLine (s.lineClosed c) u) slotIds
    (fun u n => reportAttention s.line.attention n u) ⟨⟨rfl, rfl, rfl⟩, .refl _ _⟩ fun u hu n _ =>
      ⟨hu.1.trans (reportAttention_report _ n u), hu.2.trans (reportAttention_touches _ n u _ (causeAttention_ne_line n).symm)⟩
  exact ⟨hrest.1, hrest.2, hrest.2.sending⟩

theorem lineClosed_sending : KeepsSending s (s.lineClosed c) :=
  fun h => (reportLine_touches s.line.state (closeCycle c s) causeHoldup (by decide)).sending h

theorem lineTold_told : LineTold c s (s.lineTold c) := by
  obtain ⟨hcondition, hraised⟩ := reportLine_told s.line.state (closeCycle c s)
  have hclosed := lineClosed_report c s
  have hstart := lineClosed_sending c s
  obtain ⟨hrest, hquiet, hsend⟩ := lineTold_rest c s
  have hattention := lineTold_attention c s
  change (s.lineClosed c).causes.recs[causeLine].condition = _ at hcondition
  have hraised : (s.closedLine c).state ≠ s.line.state →
      RaisedFrom s (s.lineClosed c) causeLine ((s.closedLine c).faults : Nat)
        (if (s.closedLine c).state = .failed then codeLineFailed else codeLineOk) := fun h => (hraised h).congr rfl rfl rfl
  have hline : (s.lineClosed c).line = s.closedLine c := hclosed.line
  have hseq : (s.lineClosed c).seq = s.seq := hclosed.seq
  have hleak : (s.lineClosed c).leak = s.leak := base_leak hclosed.base
  have hset : (s.lineClosed c).settings = s.settings := base_settings hclosed.base
  generalize s.lineClosed c = v at *
  generalize s.lineTold c = t at *
  refine ⟨hrest.line.trans hline, hrest.seq.trans hseq, (base_leak hrest.base).trans hleak, (base_settings hrest.base).trans hset,
    hstart.trans hsend, hquiet.condition.trans hcondition,
    fun h => (hraised h).widen (hstart) (Quiet.refl _ s).toUnraised hquiet.toUnraised, fun n => ?_, fun n hold hnow => ?_⟩
  · obtain ⟨u, ⟨hreport, -⟩, hafter⟩ := hattention n
    rw [hafter.condition, (reportAttention_told _ n u).1, hreport.line, hline]
  · obtain ⟨u, ⟨hreport, hbefore⟩, hafter⟩ := hattention n
    have hown := (reportAttention_told s.line.attention n u).2 hold (by rw [hreport.line, hline]; exact hnow)
    have hstep := (reportAttention_touches s.line.attention n u causeHoldup (holdup_ne_attention n)).sending
    rw [hreport.line, hline, hreport.seq, hseq] at hown
    exact (hown.widen hstep hbefore.toUnraised hafter.toUnraised).late hstart

end Cycle

end Sys2Proof.Machine
end

section
/-! PROOFS. O59: the counts, the state and the vectors of the line at a cycle end (R130, R134, R136, R138, R139). -/

namespace Sys2Proof.Machine

/-! ### Bits of a vector -/

/-- A bit of a vector that sets the bits of the items for which `f` holds. -/
theorem getLsbD_setBits {w : Nat} {α : Type} (f : α → Bool) (bit : α → Nat) (l : List α) (v : BitVec w) (i : Nat) :
    (l.foldl (fun v n => if f n then v ||| (1#w <<< bit n) else v) v).getLsbD i =
      (v.getLsbD i || (decide (i < w) && l.any fun n => f n && decide (bit n = i))) := by
  induction l generalizing v with
  | nil => simp
  | cons n l ih =>
    rw [List.foldl_cons, ih, List.any_cons]
    cases hf : f n
    · simp
    · by_cases hi : bit n = i
      · subst hi
        by_cases hw : bit n < w <;> simp [hw]
      · have hlow : ∀ h : bit n ≤ i, i - bit n ≠ 0 := by omega
        by_cases hle : bit n ≤ i
        · simp [hi, hlow hle]
        · have hsub : i < bit n := Nat.lt_of_not_le hle
          simp [hi, hsub]

theorem slotVector_bit (f : SlotId → Bool) (n : SlotId) : (slotVector f).getLsbD n.val = f n := by
  rw [slotVector, getLsbD_setBits f (fun n => n.val) slotIds]
  have hany : (slotIds.any fun m => f m && decide (m.val = n.val)) = f n := by
    rw [Bool.eq_iff_iff, List.any_eq_true]
    constructor
    · rintro ⟨m, -, hm⟩
      rw [Bool.and_eq_true, decide_eq_true_eq] at hm
      exact Fin.ext hm.2 ▸ hm.1
    · intro hf
      exact ⟨n, mem_slotIds n, by simp [hf]⟩
  rw [hany]
  simp

theorem believe_bit (s : State) (bits : BitVec 24) (n : SlotId) :
    (s.believe bits).getLsbD n.val = (bits.getLsbD n.val && s.seq.slots[n].believed) := slotVector_bit _ n

theorem leakReports_bit (s : State) (attention : BitVec 24) (z : ZoneId) :
    (s.leakReports attention).getLsbD z.val = true ↔
      ∃ n : SlotId, s.settings.slots[n].role = .leak ∧ s.settings.slots[n].zone = some z ∧ attention.getLsbD n.val = true := by
  have hz := z.isLt
  have hany (f : ZoneId → Bool) : (zoneIds.any fun y => f y && decide (y.val = z.val)) = f z := by
    rw [Bool.eq_iff_iff, List.any_eq_true]
    constructor
    · rintro ⟨y, -, hy⟩
      rw [Bool.and_eq_true, decide_eq_true_eq] at hy
      exact Fin.ext hy.2 ▸ hy.1
    · intro hf
      exact ⟨z, mem_zoneIds z, by simp [hf]⟩
  rw [State.leakReports, getLsbD_setBits (fun y => slotIds.any fun n =>
    s.settings.slots[n].role == .leak && s.settings.slots[n].zone == some y && attention.getLsbD n.val) (fun y => y.val) zoneIds, hany]
  simp [hz, and_assoc, mem_slotIds]

/-- R136: the slots that cannot drive the line. -/
def State.silent (s : State) (n : SlotId) : Prop :=
  (s.seq.slots[n].state = .off ∨ s.seq.slots[n].state = .queued ∨ s.seq.slots[n].state = .locked ∨ s.seq.slots[n].state = .faulted) ∧
    s.seq.slots[n].pg = false

theorem believed_eq_false (s : State) (n : SlotId) : s.seq.slots[n].believed = false ↔ s.silent n := by
  unfold Slot.believed State.silent
  cases s.seq.slots[n].state <;> simp

theorem believe_silent (s : State) (bits : BitVec 24) (n : SlotId) :
    (s.silent n → (s.believe bits).getLsbD n.val = false) ∧
      (¬ s.silent n → (s.believe bits).getLsbD n.val = bits.getLsbD n.val) := by
  rw [believe_bit, ← believed_eq_false]
  cases s.seq.slots[n].believed <;> simp

/-! ### The line -/

section Line
variable (c : CycleSamples) (s : State)

theorem cycleFaulted_iff : cycleFaulted c = true ↔ (c.x ≠ 0 ∨ c.t ≠ 0) := by
  unfold cycleFaulted
  simp

/-- R138: the three counts. -/
theorem closedLine_counts :
    let x := s.line
    let y := s.closedLine c
    y.faultRun = (if cycleFaulted c then min 3 (x.faultRun + 1) else 0) ∧
      y.cleanRun = (if cycleFaulted c then 0 else min 16 (x.cleanRun + 1)) ∧
      y.faults = (if cycleFaulted c then min 65535 (x.faults + 1) else x.faults) := by
  intro x y
  show (x.count (cycleFaulted c)).faultRun = _ ∧ (x.count (cycleFaulted c)).cleanRun = _ ∧ (x.count (cycleFaulted c)).faults = _
  unfold Line.count
  cases cycleFaulted c <;> exact ⟨rfl, rfl, rfl⟩

/-- R139: the state by the counts. -/
theorem closedLine_state :
    (s.closedLine c).state =
      if s.line.state = .ok then (if cycleFaulted c = true ∧ (s.closedLine c).faultRun = 3 then .failed else .ok)
      else if ¬ cycleFaulted c = true ∧ (s.closedLine c).cleanRun = 16 then .ok else .failed := by
  show (s.line.count (cycleFaulted c)).judge (cycleFaulted c) = _
  have hstate : (s.line.count (cycleFaulted c)).state = s.line.state := by
    unfold Line.count
    split <;> rfl
  unfold Line.judge
  rw [hstate]
  cases s.line.state <;> simp [State.closedLine]

/-- The cycle is decoded. -/
def State.decodesCycle (s : State) (c : CycleSamples) : Bool := !cycleFaulted c && (s.closedLine c).state == .ok

theorem closedLine_vectors :
    (s.closedLine c).attention = (if s.decodesCycle c then s.believe c.a else s.line.attention) ∧
      (s.closedLine c).hold = (if s.decodesCycle c then s.believe c.b else 0) ∧
      (s.closedLine c).leak = (if s.decodesCycle c then s.leakReports (s.believe c.a) else s.line.leak) ∧
      (s.closedLine c).leakHeld = !s.decodesCycle c := by
  have hvectors : (s.line.count (cycleFaulted c)).attention = s.line.attention ∧ (s.line.count (cycleFaulted c)).leak = s.line.leak := by
    unfold Line.count
    split <;> exact ⟨rfl, rfl⟩
  unfold State.decodesCycle State.closedLine
  dsimp only
  rw [hvectors.1, hvectors.2]
  split <;> exact ⟨rfl, rfl, rfl, rfl⟩

theorem closedLine_drives {clocks : Nat} (h : s.line.cycle = .stopFrame clocks) :
    (s.closedLine c).cycle = .idle ∧ (s.closedLine c).cycleNo = (s.line.cycleNo + 1) % 4294967296 ∧
      (s.closedLine c).mode = s.line.mode ∧
      (s.closedLine c).wave = s.line.wave ++ List.replicate clocks .partLow ++
        (if s.line.mode = .continuous then List.replicate 8 .released else []) := by
  obtain ⟨-, hwave, hcycle, hmode, -, -, -⟩ := s.line.count_frame (cycleFaulted c)
  have hno : (s.line.count (cycleFaulted c)).cycleNo = s.line.cycleNo := by
    unfold Line.count
    split <;> rfl
  unfold State.closedLine
  dsimp only
  rw [hwave, hcycle, hmode, hno, h]
  refine ⟨rfl, rfl, rfl, ?_⟩
  cases s.line.mode <;> rfl

end Line

end Sys2Proof.Machine
end

section
/-! PROOFS. O59: the holds at a cycle end (R117, R137). -/

namespace Sys2Proof.Machine

theorem SlotSteps.judgeHold {n : SlotId} {P : State → Prop} {t : State} (inv : SlotSteps n P) (h : P t) (asserted : Bool) :
    P (judgeHold asserted n t) := by
  unfold Machine.judgeHold
  dsimp only
  split
  · exact ite_keeps (inv.recompute (inv.moveSlot h)) h
  · exact ite_keeps h (inv.enterDraining h)
  · exact h

theorem Spared.judgeHold {m n : SlotId} {P : Slot → Prop} {t : State} (h : Spared m P t) (hne : n ≠ m) (asserted : Bool) :
    Spared m P (judgeHold asserted n t) := by
  unfold Machine.judgeHold
  dsimp only
  split
  · exact ite_keeps (h.shiftSlot hne) h
  · exact ite_keeps h (h.enterDraining hne)
  · exact h

/-! ### One slot -/

/-- The record of a NOTICE slot whose tray holds (R117). -/
def Slot.heldOff (x : Slot) (limit : Nat) : Slot := ({ x with window := none, hold := some (limit * 1000) } : Slot).moved .held

section Slot
variable {n : SlotId} {u : State} {asserted : Bool}

/-- The hold limit of the slot's class. -/
def State.holdLimitOf (s : State) (n : SlotId) : Nat := s.settings.sequence.holdLimit s.settings.slots[n].cls

/-- The cases of the judgement of a hold. -/
theorem judgeHold_cases (asserted : Bool) (n : SlotId) (u : State) :
    (u.seq.slots[n].state = .notice ∧ asserted = true ∧ u.seq.slots[n].urgency = .orderly ∧ 0 < u.holdLimitOf n ∧
        judgeHold asserted n u = holdSlot n (u.holdLimitOf n) u) ∨
      (u.seq.slots[n].state = .held ∧ asserted = false ∧ judgeHold asserted n u = enterDraining n u) ∨
      ((u.seq.slots[n].state = .notice → asserted = false ∨ u.seq.slots[n].urgency ≠ .orderly ∨ u.holdLimitOf n = 0) ∧
        (u.seq.slots[n].state = .held → asserted = true) ∧ judgeHold asserted n u = u) := by
  unfold judgeHold
  dsimp only
  cases hst : u.seq.slots[n].state with
  | notice =>
    by_cases h : (asserted && u.seq.slots[n].urgency == .orderly && decide (0 < u.holdLimitOf n)) = true
    · have hall : (asserted = true ∧ u.seq.slots[n].urgency = .orderly) ∧ 0 < u.holdLimitOf n := by
        simpa only [Bool.and_eq_true, beq_iff_eq, decide_eq_true_eq] using h
      exact .inl ⟨rfl, hall.1.1, hall.1.2, hall.2, if_pos h⟩
    · refine .inr (.inr ⟨fun _ => ?_, nofun, if_neg h⟩)
      simp only [Bool.and_eq_true, beq_iff_eq, decide_eq_true_eq, not_and, Nat.not_lt, Nat.le_zero] at h
      by_cases ha : asserted = true
      · by_cases ho : u.seq.slots[n].urgency = .orderly
        · exact .inr (.inr (h ⟨ha, ho⟩))
        · exact .inr (.inl ho)
      · exact .inl (Bool.eq_false_iff.2 ha)
  | held =>
    cases asserted with
    | true => exact .inr (.inr ⟨nofun, fun _ => rfl, rfl⟩)
    | false => exact .inr (.inl ⟨rfl, rfl, rfl⟩)
  | off | queued | soak | on | draining | faulted | locked => exact .inr (.inr ⟨nofun, nofun, rfl⟩)

/-- R117: what the hold makes of a record. -/
structure Slot.HoldTaken (limit drainLimit : Nat) (asserted : Bool) (x y : Slot) : Prop where
  held : x.state = .notice → asserted = true → x.urgency = .orderly → 0 < limit → y = x.heldOff limit
  waits : x.state = .notice → asserted = false ∨ x.urgency ≠ .orderly ∨ limit = 0 → y = x
  stays : x.state = .held → asserted = true → y = x
  drains : x.state = .held → asserted = false → x.pg = true → y = x.drainedBy drainLimit
  other : x.state ≠ .notice → x.state ≠ .held → y = x

theorem judgeHold_taken (asserted : Bool) (n : SlotId) (u : State) :
    u.seq.slots[n].HoldTaken (u.holdLimitOf n) u.settings.slots[n].drainLimit asserted (judgeHold asserted n u).seq.slots[n] := by
  rcases judgeHold_cases asserted n u with ⟨hst, ha, ho, hl, e⟩ | ⟨hst, ha, e⟩ | ⟨hn, hh, e⟩
  · have hslot : (holdSlot n (u.holdLimitOf n) u).seq.slots[n] = u.seq.slots[n].heldOff (u.holdLimitOf n) := by
      rw [holdSlot, shiftSlot_seq]
      exact get_set_same _ _ _
    rw [e, hslot]
    refine ⟨fun _ _ _ _ => rfl, fun _ h => ?_, fun h => absurd (hst.symm.trans h) nofun, fun h => absurd (hst.symm.trans h) nofun,
      fun h => absurd hst h⟩
    rcases h with h | h | h
    · exact absurd (ha.symm.trans h) nofun
    · exact absurd ho h
    · exact absurd h (Nat.ne_of_gt hl)
  · rw [e]
    refine ⟨fun h => absurd (hst.symm.trans h) nofun, fun h => absurd (hst.symm.trans h) nofun, fun _ h => absurd (ha.symm.trans h) nofun,
      fun _ _ hpg => ?_, fun _ h => absurd hst h⟩
    rw [enterDraining_seq hpg]
    exact get_set_same _ _ _
  · rw [e]
    refine ⟨fun h ha ho hl => ?_, fun _ _ => rfl, fun _ _ => rfl, fun h ha => absurd (ha.symm.trans (hh h)) nofun, fun _ _ => rfl⟩
    rcases hn h with h' | h' | h'
    · exact absurd (ha.symm.trans h') nofun
    · exact absurd ho h'
    · exact absurd h' (Nat.ne_of_gt hl)

/-- A slot outside the queue stays there, but for a drain that ends at once. -/
theorem judgeHold_out (hq : n ∉ u.seq.queue) (hpg : u.seq.slots[n].state = .held → asserted = false → u.seq.slots[n].pg = true) :
    n ∉ (judgeHold asserted n u).seq.queue := by
  rcases judgeHold_cases asserted n u with ⟨-, -, -, -, e⟩ | ⟨hst, ha, e⟩ | ⟨-, -, e⟩ <;> rw [e]
  · rw [holdSlot, shiftSlot_seq]
    exact hq
  · rw [enterDraining_seq (hpg hst ha)]
    exact hq
  · exact hq

end Slot

/-! ### The twenty-four slots -/

theorem ripple_steps (n : SlotId) (s : State) : SlotSteps n (Ripple s) where
  setSlot h := h.setSlot _
  leaveQueue h := h.leaveQueue
  joinQueue h := h.setSeq _
  seqEvent h := h.seqEvent
  lineWatch h := h.lineWatch
  report h := h.reportCondition _ _
  recompute h := h.recompute

theorem judgeHold_ripple (asserted : Bool) (n : SlotId) (u : State) : Ripple u (judgeHold asserted n u) :=
  (ripple_steps n u).judgeHold (.refl u) asserted

theorem touches_steps (n : SlotId) (s : State) : SlotSteps n (Touches ShedCause s) where
  setSlot h := (Touches.shedInvariant (fun _ => id) s).setSeq h
  leaveQueue h := (Touches.shedInvariant (fun _ => id) s).setSeq h
  joinQueue h := (Touches.shedInvariant (fun _ => id) s).setSeq h
  seqEvent h := (Touches.shedInvariant (fun _ => id) s).seqEvent h
  lineWatch h := h.trans (lineWatch_touches _ _)
  report h := h.report (.inr (.inr ⟨n, rfl⟩)) _
  recompute h := (Touches.shedInvariant (fun _ => id) s).recompute h

section Holds
variable {s : State} {m : SlotId}

theorem cycleHolds_ripple (s : State) : Ripple s (cycleHolds s) :=
  List.foldlRecOn (motive := Ripple s) slotIds _ (.refl s) fun u hu n _ => hu.trans (judgeHold_ripple _ n u)

theorem cycleHolds_touches (s : State) : Touches ShedCause s (cycleHolds s) :=
  List.foldlRecOn (motive := Touches ShedCause s) slotIds _ (.refl _ s) fun _ hu n _ => (touches_steps n s).judgeHold hu _

theorem Ripple.hold {t : State} (h : Ripple s t) : t.line.hold = s.line.hold := by rw [h.line]

theorem Slot.HoldTaken.congr {u : State} {x : Slot} {asserted : Bool} (h : Ripple s u)
    (k : u.seq.slots[m].HoldTaken (u.holdLimitOf m) u.settings.slots[m].drainLimit asserted x) (hslot : u.seq.slots[m] = s.seq.slots[m]) :
    s.seq.slots[m].HoldTaken (s.holdLimitOf m) s.settings.slots[m].drainLimit asserted x := by
  unfold State.holdLimitOf at k ⊢
  rw [h.settings, hslot] at k
  exact k

/-- A slot outside the queue, by its own hold alone. -/
theorem cycleHolds_out (hq : m ∉ s.seq.queue)
    (hpg : s.seq.slots[m].state = .held → s.line.hold.getLsbD m.val = false → s.seq.slots[m].pg = true) :
    ∃ y, s.seq.slots[m].HoldTaken (s.holdLimitOf m) s.settings.slots[m].drainLimit (s.line.hold.getLsbD m.val) y ∧
      Spared m (· = y) (cycleHolds s) := by
  obtain ⟨u, hripple, hslot, hout, hend⟩ := foldl_takes (f := fun s n => judgeHold (s.line.hold.getLsbD n.val) n s) (R := Ripple) Ripple.refl
    (fun _ _ _ h => h.trans (judgeHold_ripple _ _ _)) (fun _ _ _ hne h => h.judgeHold hne _) slotIds_nodup (mem_slotIds m) hq
  have htaken := (judgeHold_taken (u.line.hold.getLsbD m.val) m u).congr hripple hslot
  have hstays := judgeHold_out (asserted := u.line.hold.getLsbD m.val) hout (by rw [hslot, hripple.hold]; exact hpg)
  have hhold := hripple.hold
  generalize judgeHold (u.line.hold.getLsbD m.val) m u = v at htaken hstays hend
  rw [hhold] at htaken
  have hspared : Spared m (· = v.seq.slots[m]) v := ⟨rfl, fun hm => absurd hm hstays⟩
  exact ⟨v.seq.slots[m], htaken, hend (· = v.seq.slots[m]) hspared⟩

/-- Every slot by its own hold alone, while no head can be granted. -/
theorem cycleHolds_withheld (h : s.withheld) :
    (cycleHolds s).withheld ∧
      s.seq.slots[m].HoldTaken (s.holdLimitOf m) s.settings.slots[m].drainLimit (s.line.hold.getLsbD m.val) (cycleHolds s).seq.slots[m] := by
  obtain ⟨u, ⟨hripple, hbefore⟩, -, hafter⟩ := foldl_around (R := fun s t => Ripple s t ∧ Bides m s t)
    (f := fun s n => judgeHold (s.line.hold.getLsbD n.val) n s) (fun u => ⟨.refl u, .refl m u⟩)
    (fun h k => ⟨h.1.trans k.1, h.2.trans k.2⟩) (mem_slotIds m) slotIds_nodup
    (fun n hn u => ⟨judgeHold_ripple _ n u, (Bides.steps hn u).judgeHold (.refl m u) _⟩) s
  obtain ⟨hu, hslot⟩ := hbefore h
  change Bides m (judgeHold (u.line.hold.getLsbD m.val) m u) (cycleHolds s) at hafter
  generalize cycleHolds s = t at hafter ⊢
  obtain ⟨hw, hlast⟩ := hafter ((withheld_steps m).judgeHold hu _)
  have htaken := (judgeHold_taken (u.line.hold.getLsbD m.val) m u).congr hripple hslot
  rw [← hlast, hripple.hold] at htaken
  exact ⟨hw, htaken⟩

end Holds

end Sys2Proof.Machine
end

section
/-! PROOFS. O59: one zone at a cycle end, and what the zones leave of the rest (R146 to R152). -/

namespace Sys2Proof.Machine

/-! ### The record -/

/-- The record with the tray report taken (R146). -/
def Zone.seen (x : Zone) (report held : Bool) : Zone := { x with report := report, reportHeld := held }

/-- The record after a cycle end (R146 to R150). -/
def Zone.cycled (set : ZoneSettings) (report held : Bool) (x : Zone) : Zone :=
  let y := (x.seen report held).trayCounted (report && set.acceptTray)
  if x.state = .wet then x.seen report held else y.judged set (Machine.confirmation y y.trayCount set.kTray .tray)

theorem Zone.trayCounted_code (accepted : Bool) (x : Zone) : (x.trayCounted accepted).code = x.code := by
  unfold Zone.trayCounted
  split
  · split <;> rfl
  · split <;> rfl
  · rfl
  · rfl

theorem Zone.trayCounted_calm (accepted : Bool) {x : Zone} (h : x.state ≠ .wet) : (x.trayCounted accepted).state ≠ .wet := by
  unfold Zone.trayCounted
  split
  · split
    · exact nofun
    · exact h
  · split
    · exact nofun
    · exact h
  · exact h
  · exact h

/-! ### One zone -/

section Zone
variable {z : ZoneId} {s : State} (report held : Bool)

/-- The part with the zone's tray report taken and its counter moved. -/
def State.trayCounted (s : State) (z : ZoneId) (report held : Bool) : State :=
  countTray z (report && s.settings.zones[z].acceptTray) (s.setZone z (s.leak.zones[z].seen report held))

theorem cycleZone_eq :
    cycleZone z report held s =
      if s.leak.zones[z].state = .wet then s.setZone z (s.leak.zones[z].seen report held)
      else
        judgeZone z
          (confirmation (s.trayCounted z report held).leak.zones[z] (s.trayCounted z report held).leak.zones[z].trayCount
            s.settings.zones[z].kTray .tray)
          (s.trayCounted z report held) := rfl

theorem trayCounted_step :
    ZoneStep z ((s.leak.zones[z].seen report held).trayCounted (report && s.settings.zones[z].acceptTray)) s (s.trayCounted z report held) := by
  have hseen := setZone_step (z := z) (s := s) (s.leak.zones[z].seen report held)
  unfold State.trayCounted
  generalize s.setZone z (s.leak.zones[z].seen report held) = r at hseen ⊢
  have hcount := countTray_step (z := z) (s := r) (report && s.settings.zones[z].acceptTray)
  rw [hseen.zone] at hcount
  exact hseen.trans hcount

theorem trayCounted_sending : KeepsSending s (s.trayCounted z report held) :=
  ((Touches.wet z s).countTray ((Touches.wet z s).setZone (.refl _ s)) _ (causeRopeFault z) (not_wetCause_rope z z)).sending

/-- One zone at a cycle end. -/
structure ZoneCycled (z : ZoneId) (report held : Bool) (s t : State) : Prop where
  zone : t.leak.zones[z] = s.leak.zones[z].cycled s.settings.zones[z] report held
  entered : s.leak.zones[z].state ≠ .wet → t.leak.zones[z].state = .wet → ZoneEntered z s t

theorem cycleZone_cycled : ZoneCycled z report held s (cycleZone z report held s) := by
  have hseen := setZone_step (z := z) (s := s) (s.leak.zones[z].seen report held)
  have hstep := trayCounted_step (z := z) (s := s) report held
  have hsend := trayCounted_sending (z := z) (s := s) report held
  rw [cycleZone_eq]
  by_cases hst : s.leak.zones[z].state = .wet
  · rw [if_pos hst]
    exact ⟨hseen.zone.trans (if_pos hst).symm, fun hno => absurd hst hno⟩
  · rw [if_neg hst]
    generalize s.trayCounted z report held = u at hstep hsend ⊢
    have hzone := judgeZone_zone z (confirmation u.leak.zones[z] u.leak.zones[z].trayCount s.settings.zones[z].kTray .tray) u
    have hcalm : u.leak.zones[z].state ≠ .wet := by
      rw [hstep.zone]
      exact Zone.trayCounted_calm _ hst
    refine ⟨?_, fun _ hwet => (judgeZone_entered hcalm hwet).after hstep (Zone.trayCounted_code _ _) hsend⟩
    rw [hzone, hstep.zone, hstep.settings]
    exact (if_neg hst).symm

end Zone

/-! ### The zones -/

/-- The zone's own cycle end, with those of the others around it. -/
theorem cycleLeak_around (z : ZoneId) (s : State) :
    ∃ u, ZoneRests z s u ∧ ZoneRests z (cycleZone z (u.line.leak.getLsbD z.val) u.line.leakHeld u) (cycleLeak s) :=
  foldl_around (R := ZoneRests z) (f := fun s z => cycleZone z (s.line.leak.getLsbD z.val) s.line.leakHeld s) (ZoneRests.refl z)
    ZoneRests.trans (mem_zoneIds z) zoneIds_nodup (fun _ hy u => (ZoneRests.steps hy u).toWetSteps.cycleZone (.refl z u) _ _) s

/-- What the sheds and the WET entries leave of the line. -/
def LineKept (s t : State) : Prop := t.line = { s.line with startDue := t.line.startDue, survey := t.line.survey }

theorem LineKept.trans {s t u : State} (h : LineKept s t) (k : LineKept t u) : LineKept s u := by
  unfold LineKept at h k ⊢
  rw [k, h]

theorem LineKept.of_ripple {s t : State} (h : Ripple s t) : LineKept s t := h.line

theorem LineKept.of_line {s t : State} (h : t.line = s.line) : LineKept s t := by
  unfold LineKept
  rw [h]

theorem LineKept.steps (z : ZoneId) (s : State) : WetSteps z (LineKept s) where
  lineWatch h := h.trans (.of_ripple (Ripple.refl _).lineWatch)
  lockZone h := h.trans (.of_ripple (ZoneRests.lockZone_ripple (.refl _) z))
  shedZone h := h.trans (.of_ripple (ZoneRests.shedZone_ripple (.refl _) z))
  setZone h := h.trans (.of_line rfl)
  spendFree h := h.trans (.of_line rfl)
  reportZone h := h.trans (.of_line (reportCondition_line _ _ _))
  raiseZone h := h.trans (.of_line (raise_line _ _ _ _))

theorem cycleLeak_line (s : State) : LineKept s (cycleLeak s) :=
  List.foldlRecOn (motive := LineKept s) zoneIds _ (.of_line rfl) fun _ hu z _ => (LineKept.steps z s).cycleZone hu _ _

/-- The causes of the sheds and of the WET entries. -/
def TrayCause (c : CauseId) : Prop := ShedCause c ∨ ∃ z, c = causeZoneWet z

theorem cycleLeak_touches (s : State) : Touches TrayCause s (cycleLeak s) :=
  List.foldlRecOn (motive := Touches TrayCause s) zoneIds _ (.refl _ s) fun u hu z _ =>
    hu.trans (((Touches.wet z u).cycleZone (.refl _ u) _ _).mono fun _ h => h.imp_right fun h => ⟨z, h⟩)

/-- A slot of no zone, through the zones. -/
theorem Spared.zoneSteps {m : SlotId} {P : Slot → Prop} {s : State} (hm : s.settings.slots[m].zone = none) (z : ZoneId) :
    WetSteps z fun t => Spared m P t ∧ t.settings = s.settings where
  lineWatch {t} h := ⟨h.1.of_seq (by rw [lineWatch_seq]) (by rw [lineWatch_seq]; exact id), (base_settings (lineWatch_base _)).trans h.2⟩
  lockZone {t} h := by
    refine ⟨?_, (base_settings (lockZone_base _ _)).trans h.2⟩
    rw [lockZone_eq]
    refine ite_keeps h.1 (Spared.seqEvent (List.foldlRecOn (motive := Spared m P) _ _ h.1 fun u hu n hn => ?_))
    refine Spared.moveSlot hu.leaveQueue ?_
    rintro rfl
    have hz := (mem_zoneQueue.1 hn).1
    rw [h.2, hm] at hz
    cases hz
  shedZone {t} h := by
    refine ⟨List.foldlRecOn (motive := Spared m P) (t.zoneSlots z) _ h.1 fun u hu n hn => hu.shedSlot ?_,
      (base_settings (shedZone_base _ _)).trans h.2⟩
    rintro rfl
    have hz := mem_zoneSlots.1 hn
    rw [h.2, hm] at hz
    cases hz
  setZone h := ⟨h.1.of_seq rfl id, h.2⟩
  spendFree h := ⟨h.1.of_seq rfl id, h.2⟩
  reportZone h := ⟨h.1.of_seq (by rw [reportCondition_seq]) (by rw [reportCondition_seq]; exact id),
    (base_settings (reportCondition_base _ _ _)).trans h.2⟩
  raiseZone h := ⟨h.1.of_seq (by rw [raise_seq]) (by rw [raise_seq]; exact id), (base_settings (raise_base _ _ _ _)).trans h.2⟩

theorem Spared.cycleLeak {m : SlotId} {P : Slot → Prop} {s : State} (h : Spared m P s) (hm : s.settings.slots[m].zone = none) :
    Spared m P (cycleLeak s) :=
  (List.foldlRecOn (motive := fun t => Spared m P t ∧ t.settings = s.settings) zoneIds _ ⟨h, rfl⟩ fun _ hu z _ =>
    (Spared.zoneSteps hm z).cycleZone hu _ _).1

end Sys2Proof.Machine
end

section
/-! PROOFS. O59: the record of a zone after a cycle end, and the obligation (R130, R134, R136 to R139, R146 to R152). -/

namespace Sys2Proof.Machine

section Record
variable {set : ZoneSettings} {x : Zone}

/-- What the tray counter, the confirmation and the fallback leave of a record. -/
structure Zone.KeepsReadings (x y : Zone) : Prop where
  report : y.report = x.report
  held : y.reportHeld = x.reportHeld
  code : y.code = x.code
  cls : y.cls = x.cls
  ropeFault : y.ropeFault = x.ropeFault

theorem Zone.KeepsReadings.refl (x : Zone) : x.KeepsReadings x := ⟨rfl, rfl, rfl, rfl, rfl⟩

theorem Zone.KeepsReadings.trans {y w : Zone} (h : x.KeepsReadings y) (k : y.KeepsReadings w) : x.KeepsReadings w :=
  ⟨k.report.trans h.report, k.held.trans h.held, k.code.trans h.code, k.cls.trans h.cls, k.ropeFault.trans h.ropeFault⟩

theorem Zone.trayCounted_readings (accepted : Bool) (x : Zone) : x.KeepsReadings (x.trayCounted accepted) := by
  unfold Zone.trayCounted
  split
  · split <;> exact ⟨rfl, rfl, rfl, rfl, rfl⟩
  · split <;> exact ⟨rfl, rfl, rfl, rfl, rfl⟩
  · exact ⟨rfl, rfl, rfl, rfl, rfl⟩
  · exact .refl x

theorem Zone.judged_readings (how : Confirmation) (x : Zone) : x.KeepsReadings (x.judged set how) := by
  unfold Zone.judged Zone.fallen
  split
  · split <;> exact ⟨rfl, rfl, rfl, rfl, rfl⟩
  · exact ⟨rfl, rfl, rfl, rfl, rfl⟩

theorem Zone.cycled_readings (set : ZoneSettings) (report held : Bool) (x : Zone) :
    (x.seen report held).KeepsReadings (x.cycled set report held) := by
  unfold Zone.cycled
  dsimp only
  split
  · exact .refl _
  · exact (Zone.trayCounted_readings _ _).trans (Zone.judged_readings _ _)

/-- A record that is not SUSPECT is neither confirmed nor falls back. -/
theorem Zone.judged_calm (h : x.state ≠ .suspect) (count k : Nat) (alone : Confirmation) :
    x.judged set (Machine.confirmation x count k alone) = x := by
  have hnone : Machine.confirmation x count k alone = .none := if_neg h
  rw [hnone, Zone.judged, if_pos rfl]
  exact if_neg fun h' => h h'.1

/-- R149 at a tray counter that is above 0. -/
theorem confirmation_tray (hst : x.state = .suspect) (hc : 0 < x.trayCount) (k : Nat) :
    (0 < x.ropeCount → Machine.confirmation x x.trayCount k .tray = .both) ∧
      (x.ropeCount = 0 → k ≤ x.trayCount → Machine.confirmation x x.trayCount k .tray = .tray) ∧
      (x.ropeCount = 0 → x.trayCount < k → Machine.confirmation x x.trayCount k .tray = .none) := by
  unfold Machine.confirmation
  rw [if_pos hst]
  refine ⟨fun hr => if_pos ⟨hr, hc⟩, fun hr hk => ?_, fun hr hk => ?_⟩
  · rw [if_neg (by omega), if_pos hk]
  · rw [if_neg (by omega), if_neg (by omega)]

/-- What the confirmation makes of a SUSPECT zone with tray evidence. -/
structure Zone.Trays (set : ZoneSettings) (x y : Zone) : Prop where
  rope : y.ropeCount = x.ropeCount
  tray : y.trayCount = x.trayCount
  both : 0 < x.ropeCount → y.state = .wet ∧ y.confirmation = .both ∧ y.valve = (x.valve || set.policy.closesValve)
  alone : x.ropeCount = 0 → set.kTray ≤ x.trayCount →
    y.state = .wet ∧ y.confirmation = .tray ∧ y.valve = (x.valve || set.policy.closesValve)
  waits : x.ropeCount = 0 → x.trayCount < set.kTray → y.state = .suspect ∧ y.valve = x.valve

theorem Zone.judged_trays (hst : x.state = .suspect) (hc : 0 < x.trayCount) :
    x.Trays set (x.judged set (Machine.confirmation x x.trayCount set.kTray .tray)) := by
  obtain ⟨hboth, htray, hnone⟩ := confirmation_tray hst hc set.kTray
  have hfallen : x.fallen = x := if_neg fun h => absurd h.2.2.1 (Nat.ne_of_gt hc)
  have hcounts (how : Confirmation) : (x.judged set how).ropeCount = x.ropeCount ∧ (x.judged set how).trayCount = x.trayCount := by
    unfold Zone.judged
    rw [hfallen]
    split <;> exact ⟨rfl, rfl⟩
  refine ⟨(hcounts _).1, (hcounts _).2, fun hr => ?_, fun hr hk => ?_, fun hr hk => ?_⟩
  · rw [hboth hr]
    exact ⟨rfl, rfl, rfl⟩
  · rw [htray hr hk]
    exact ⟨rfl, rfl, rfl⟩
  · rw [hnone hr hk, Zone.judged, if_pos rfl, hfallen]
    exact ⟨hst, rfl⟩

/-- What the fallback makes of a SUSPECT zone without a tray report. -/
structure Zone.Empties (x y : Zone) : Prop where
  rope : y.ropeCount = x.ropeCount
  tray : y.trayCount = 0
  valve : y.valve = x.valve
  stays : 0 < x.ropeCount ∨ x.awaitSet = true → y.state = .suspect
  falls : x.ropeCount = 0 → x.awaitSet = false → y.state = if x.ropeFault then .fault else .dry

/-- The record with its tray counter emptied. -/
def Zone.trayEmptied (x : Zone) : Zone := { x with trayCount := 0, awaitCycle := false }

theorem Zone.judged_empties (hst : x.state = .suspect) (hk : 1 ≤ set.kTray) :
    x.Empties (x.trayEmptied.judged set (Machine.confirmation x.trayEmptied 0 set.kTray .tray)) := by
  have hnone : Machine.confirmation x.trayEmptied 0 set.kTray .tray = .none := by
    unfold Machine.confirmation
    rw [if_pos (show x.trayEmptied.state = .suspect from hst), if_neg fun h => absurd h.2 (Nat.lt_irrefl 0), if_neg (by omega)]
  rw [hnone, Zone.judged, if_pos rfl, Zone.fallen]
  by_cases hfall : x.ropeCount = 0 ∧ x.awaitSet = false
  · obtain ⟨hr, ha⟩ := hfall
    rw [if_pos ⟨hst, hr, rfl, ha, rfl⟩]
    refine ⟨rfl, rfl, rfl, fun h => ?_, fun _ _ => rfl⟩
    rcases h with h | h
    · exact absurd hr (Nat.ne_of_gt h)
    · exact absurd (ha.symm.trans h) nofun
  · rw [if_neg fun h => hfall ⟨h.2.1, h.2.2.2.1⟩]
    exact ⟨rfl, rfl, rfl, fun _ => hst, fun hr ha => absurd ⟨hr, ha⟩ hfall⟩

/-- The record in SUSPECT by its first accepted tray report (R147). -/
def Zone.trayed (x : Zone) : Zone := ({ x with state := .suspect, ropeCount := 0, trayCount := 1 } : Zone).entered

/-- The record with another tray report counted (R148). -/
def Zone.retrayed (x : Zone) : Zone := { x with trayCount := min 255 (x.trayCount + 1), awaitCycle := false }

theorem Zone.trayCounted_calmed (h : x.state = .dry ∨ x.state = .fault) :
    x.trayCounted true = x.trayed ∧ x.trayCounted false = x := by
  unfold Zone.trayCounted
  split
  · exact ⟨rfl, rfl⟩
  · exact ⟨rfl, rfl⟩
  · next e => rcases h with h | h <;> exact absurd (h.symm.trans e) nofun
  · next e => rcases h with h | h <;> exact absurd (h.symm.trans e) nofun

theorem Zone.trayCounted_suspect (h : x.state = .suspect) :
    x.trayCounted true = x.retrayed ∧ x.trayCounted false = x.trayEmptied := by
  unfold Zone.trayCounted
  split
  · next e => exact absurd (h.symm.trans e) nofun
  · next e => exact absurd (h.symm.trans e) nofun
  · exact ⟨rfl, rfl⟩
  · next e => exact absurd (h.symm.trans e) nofun

section Cycled
variable {report held : Bool}

theorem Zone.cycled_wet (h : x.state = .wet) : x.cycled set report held = x.seen report held := if_pos h

theorem Zone.cycled_eq (h : x.state ≠ .wet) {y : Zone} (hy : (x.seen report held).trayCounted (report && set.acceptTray) = y) :
    x.cycled set report held = y.judged set (Machine.confirmation y y.trayCount set.kTray .tray) := by
  unfold Zone.cycled
  dsimp only
  rw [if_neg h, hy]

/-- R147: a DRY or FAULT zone. -/
theorem Zone.cycled_calm (h : x.state = .dry ∨ x.state = .fault) :
    ((report && set.acceptTray) = false → x.cycled set report held = x.seen report held) ∧
      ((report && set.acceptTray) = true → (x.seen report held).trayed.Trays set (x.cycled set report held)) := by
  have hst : x.state ≠ .wet ∧ x.state ≠ .suspect := by
    rcases h with h | h <;> rw [h] <;> exact ⟨nofun, nofun⟩
  obtain ⟨htrue, hfalse⟩ := Zone.trayCounted_calmed (x := x.seen report held) h
  refine ⟨fun ha => ?_, fun ha => ?_⟩
  · rw [Zone.cycled_eq hst.1 (y := x.seen report held) (by rw [ha]; exact hfalse)]
    exact Zone.judged_calm (x := x.seen report held) hst.2 _ _ _
  · rw [Zone.cycled_eq hst.1 (y := (x.seen report held).trayed) (by rw [ha]; exact htrue)]
    exact Zone.judged_trays (x := (x.seen report held).trayed) rfl Nat.one_pos

/-- R148, R150: a SUSPECT zone. -/
theorem Zone.cycled_suspect (h : x.state = .suspect) (hk : 1 ≤ set.kTray) :
    ((report && set.acceptTray) = true → (x.seen report held).retrayed.Trays set (x.cycled set report held)) ∧
      ((report && set.acceptTray) = false → (x.seen report held).Empties (x.cycled set report held)) := by
  have hst : x.state ≠ .wet := by rw [h]; exact nofun
  obtain ⟨htrue, hfalse⟩ := Zone.trayCounted_suspect (x := x.seen report held) h
  refine ⟨fun ha => ?_, fun ha => ?_⟩
  · rw [Zone.cycled_eq hst (y := (x.seen report held).retrayed) (by rw [ha]; exact htrue)]
    exact Zone.judged_trays (x := (x.seen report held).retrayed) h (show 0 < min 255 (x.trayCount + 1) by omega)
  · rw [Zone.cycled_eq hst (y := (x.seen report held).trayEmptied) (by rw [ha]; exact hfalse)]
    exact Zone.judged_empties (x := x.seen report held) h hk

end Cycled

end Record

/-! ### The slots of a zone that enters WET -/

/-- What the holds and a WET entry make of a slot of the zone (R97, R113 to R119, R124). -/
structure Slot.CycleWetted (policy : Policy) (p q : Slot) : Prop where
  queued : p.state = .queued → q.state = .locked ∧ q.restore = false
  kept : policy ≠ .valveAndShed → p.state ≠ .queued → p.state ≠ .notice → p.state ≠ .held → q = p
  off : policy = .valveAndShed → p.state = .off → q.state = .locked ∧ q.reason = .leak ∧ q.restore = false
  drains : policy = .valveAndShed → p.drainsForLeak → p.pg = true →
    q.state = .draining ∧ q.reason = .leak ∧ q.urgency = .immediate ∧ q.en = false
  locks : policy = .valveAndShed → p.state = .soak ∨ p.state = .on → p.pg = false → q.state = .locked ∧ q.reason = .leak ∧ q.en = false
  draining : policy = .valveAndShed → p.state = .draining → q.state = .draining ∧ q.reason = .leak
  down : policy = .valveAndShed → p.state = .faulted ∨ p.state = .locked → q.state = p.state ∧ q.reason = .leak

theorem Slot.HoldTaken.wetted {limit drainLimit : Nat} {asserted : Bool} {policy : Policy} {p y q : Slot}
    (h : p.HoldTaken limit drainLimit asserted y) (k : y.Wetted policy q) : p.CycleWetted policy q := by
  have hsame (hn : p.state ≠ .notice) (hh : p.state ≠ .held) : p.Wetted policy q := by
    rw [← h.other hn hh]
    exact k
  have hleaked (hp : policy = .valveAndShed) (hn : p.state ≠ .notice) (hh : p.state ≠ .held) (hq : p.state ≠ .queued) : p.Leaked q :=
    (hsame hn hh).shed hp hq
  have hne {st st' : SlotState} (hst : p.state = st) (hd : st ≠ st') : p.state ≠ st' := by
    rw [hst]
    exact hd
  refine ⟨fun hst => (hsame (hne hst nofun) (hne hst nofun)).queued hst, fun hp hq hn hh => (hsame hn hh).kept hp hq,
    fun hp hst => (hleaked hp (hne hst nofun) (hne hst nofun) (hne hst nofun)).off hst, fun hp hpow hpg => ?_, fun hp hst hpg => ?_,
    fun hp hst => ?_, fun hp hst => ?_⟩
  · have hsoak (hst : p.state = .soak ∨ p.state = .on) : p.Leaked q := by
      rcases hst with hst | hst <;> exact hleaked hp (hne hst nofun) (hne hst nofun) (hne hst nofun)
    rcases hpow with hst | hst | ⟨hst | hst, hr⟩
    · exact (hsoak (.inl hst)).drains (.inl hst) hpg
    · exact (hsoak (.inr hst)).drains (.inr (.inl hst)) hpg
    · by_cases hall : asserted = true ∧ p.urgency = .orderly ∧ 0 < limit
      · rw [h.held hst hall.1 hall.2.1 hall.2.2] at k
        exact (k.shed hp nofun).drains (.inr (.inr ⟨.inr rfl, hr⟩)) hpg
      · have hwaits : y = p := h.waits hst <| by
          by_cases ha : asserted = true
          · by_cases ho : p.urgency = .orderly
            · exact .inr (.inr (Nat.eq_zero_of_not_pos fun hl => hall ⟨ha, ho, hl⟩))
            · exact .inr (.inl ho)
          · exact .inl (Bool.eq_false_iff.2 ha)
        rw [hwaits] at k
        exact (k.shed hp (hne hst nofun)).drains (.inr (.inr ⟨.inl hst, hr⟩)) hpg
    · cases asserted with
      | true =>
        rw [h.stays hst rfl] at k
        exact (k.shed hp (hne hst nofun)).drains (.inr (.inr ⟨.inr hst, hr⟩)) hpg
      | false =>
        rw [h.drains hst rfl hpg] at k
        obtain ⟨hstate, hreason, hlast⟩ := (k.shed hp nofun).draining rfl
        obtain ⟨hurgency, hen⟩ := hlast hr
        exact ⟨hstate, hreason, hurgency, hen⟩
  · rcases hst with hst | hst
    · exact (hleaked hp (hne hst nofun) (hne hst nofun) (hne hst nofun)).locks (.inl hst) hpg
    · exact (hleaked hp (hne hst nofun) (hne hst nofun) (hne hst nofun)).locks (.inr (.inl hst)) hpg
  · obtain ⟨hstate, hreason, -⟩ := (hleaked hp (hne hst nofun) (hne hst nofun) (hne hst nofun)).draining hst
    exact ⟨hstate, hreason⟩
  · have hdown : p.Leaked q := by
      rcases hst with hst | hst <;> exact hleaked hp (hne hst nofun) (hne hst nofun) (hne hst nofun)
    obtain ⟨hstate, hreason, -⟩ := hdown.down hst
    exact ⟨hstate, hreason⟩

end Sys2Proof.Machine
end

section
/-! PROOFS. O59: a whole cycle end (R130, R134, R136 to R139, R146 to R152). -/

namespace Sys2Proof.Machine

theorem not_shedCause_line : ¬ ShedCause causeLine := by
  rintro (h | h | ⟨n, h⟩)
  · exact absurd h (by decide)
  · exact absurd h (by decide)
  · have hn := congrArg Fin.val h
    change 132 = 72 + n.val at hn
    omega

theorem not_trayCause_line : ¬ TrayCause causeLine := by
  rintro (h | ⟨z, h⟩)
  · exact not_shedCause_line h
  · have hz := congrArg Fin.val h
    change 132 = 32 + z.val at hz
    omega

theorem not_trayCause_attention (n : SlotId) : ¬ TrayCause (causeAttention n) := by
  have hn := n.isLt
  rintro ((h | h | ⟨m, h⟩) | ⟨z, h⟩)
  · have hv := congrArg Fin.val h
    change 48 + n.val = 131 at hv
    omega
  · have hv := congrArg Fin.val h
    change 48 + n.val = 136 at hv
    omega
  · have hv := congrArg Fin.val h
    change 48 + n.val = 72 + m.val at hv
    omega
  · have hv := congrArg Fin.val h
    change 48 + n.val = 32 + z.val at hv
    omega

section Cycle
variable (c : CycleSamples) (s : State)

/-- What a zone is left with by a cycle end. -/
structure ZoneEnds (z : ZoneId) (c : CycleSamples) (s t : State) : Prop where
  zone : t.leak.zones[z] =
    s.leak.zones[z].cycled s.settings.zones[z] ((s.closedLine c).leak.getLsbD z.val) (s.closedLine c).leakHeld
  told : s.leak.zones[z].state ≠ .wet → t.leak.zones[z].state = .wet →
    (∀ code, s.leak.zones[z].code = some code →
        RaisedFrom s t (causeZoneWet z) code.toNat (BitVec.ofNat 8 t.leak.zones[z].confirmation.code)) ∧
      t.causes.recs[causeZoneWet z].condition = true
  slots : s.leak.zones[z].state ≠ .wet → t.leak.zones[z].state = .wet → s.withheld →
    ∀ m : SlotId, s.settings.slots[m].zone = some z → s.seq.slots[m].CycleWetted s.settings.zones[z].policy t.seq.slots[m]

/-- What a cycle end leaves. -/
structure CycleEnds (c : CycleSamples) (s t : State) : Prop where
  line : LineKept ((s.lineTold c)) t
  causes : Touches TrayCause (s.lineTold c) t
  slots : ∀ n : SlotId, s.settings.slots[n].zone = none → n ∉ s.seq.queue →
    s.seq.slots[n].HoldTaken (s.holdLimitOf n) s.settings.slots[n].drainLimit ((s.closedLine c).hold.getLsbD n.val) t.seq.slots[n]
  zones : ∀ z : ZoneId, ZoneEnds z c s t

theorem lineWatch_zoneRests (z : ZoneId) (s : State) : ZoneRests z s (lineWatch s) := (ZoneRests.refl z s).lineWatch

theorem Slot.HoldTaken.vacuous {limit drainLimit : Nat} {asserted : Bool} {x y : Slot} (h : x.state = .held) (ha : asserted = false)
    (hpg : x.pg = false) : x.HoldTaken limit drainLimit asserted y :=
  ⟨fun e => absurd (h.symm.trans e) nofun, fun e => absurd (h.symm.trans e) nofun, fun _ e => absurd (ha.symm.trans e) nofun,
    fun _ _ e => absurd (hpg.symm.trans e) nofun, fun _ e => absurd h e⟩

theorem endCycle_slots (n : SlotId) (hz : s.settings.slots[n].zone = none) (hq : n ∉ s.seq.queue) :
    s.seq.slots[n].HoldTaken (s.holdLimitOf n) s.settings.slots[n].drainLimit ((s.closedLine c).hold.getLsbD n.val)
      (endCycle c s).seq.slots[n] := by
  by_cases hpg : s.seq.slots[n].state = .held → (s.closedLine c).hold.getLsbD n.val = false → s.seq.slots[n].pg = true
  · have htold := lineTold_told c s
    rw [endCycle_eq]
    generalize s.lineTold c = a at htold ⊢
    obtain ⟨y, htaken, hspared⟩ := cycleHolds_out (s := a) (m := n) (by rw [htold.seq]; exact hq) (by rw [htold.seq, htold.line]; exact hpg)
    have hzone : (cycleHolds a).settings.slots[n].zone = none := by
      rw [(cycleHolds_ripple a).settings, htold.settings, hz]
    have hlast := hspared.cycleLeak hzone
    generalize cycleLeak (cycleHolds a) = d at hlast ⊢
    have hy : d.seq.slots[n] = y := hlast.1
    unfold State.holdLimitOf at htaken ⊢
    rw [htold.seq, htold.settings, htold.line] at htaken
    rw [lineWatch_seq, hy]
    exact htaken
  · simp only [Classical.not_imp, Bool.not_eq_true] at hpg
    obtain ⟨hst, ha, hlow⟩ := hpg
    exact .vacuous hst ha hlow

theorem endCycle_zone (z : ZoneId) : ZoneEnds z c s (endCycle c s) := by
  have htold := lineTold_told c s
  rw [endCycle_eq]
  generalize s.lineTold c = a at htold ⊢
  have hripple := cycleHolds_ripple a
  have htouches := cycleHolds_touches a
  have hholds := fun m => cycleHolds_withheld (s := a) (m := m)
  generalize cycleHolds a = b at hripple htouches hholds ⊢
  obtain ⟨u, hbefore, hafter⟩ := cycleLeak_around z b
  have hlast := hafter.trans (lineWatch_zoneRests z (cycleLeak b))
  have hold : u.leak.zones[z] = s.leak.zones[z] := by rw [hbefore.zone, base_leak hripple.base, htold.leak]
  have hset : u.settings = s.settings := by rw [hbefore.settings, hripple.settings, htold.settings]
  have hleak : u.line.leak = (s.closedLine c).leak := by rw [hbefore.leak, hripple.line, htold.line]
  have hheld : u.line.leakHeld = (s.closedLine c).leakHeld := by rw [hbefore.held, hripple.line, htold.line]
  have hstart : KeepsSending s u :=
    (htold.sends.trans (htouches _ (causeRopeFault_not_shed z)).sending).trans hbefore.rope.sending
  rw [hleak, hheld] at hlast
  have hcycled := cycleZone_cycled (z := z) (s := u) ((s.closedLine c).leak.getLsbD z.val) (s.closedLine c).leakHeld
  have hsend : KeepsSending u (cycleZone z ((s.closedLine c).leak.getLsbD z.val) (s.closedLine c).leakHeld u) :=
    ((Touches.wet z u).cycleZone (.refl _ u) _ _ (causeRopeFault z) (not_wetCause_rope z z)).sending
  have hwithheld (h : u.withheld) : (cycleZone z ((s.closedLine c).leak.getLsbD z.val) (s.closedLine c).leakHeld u).withheld :=
    (withheld_zoneSteps z).toWetSteps.cycleZone h _ _
  have hsetlast : (cycleZone z ((s.closedLine c).leak.getLsbD z.val) (s.closedLine c).leakHeld u).settings = s.settings :=
    (settings_zoneSteps z s).toWetSteps.cycleZone hset _ _
  generalize cycleZone z ((s.closedLine c).leak.getLsbD z.val) (s.closedLine c).leakHeld u = v at hlast hcycled hsend hwithheld hsetlast
  generalize lineWatch (cycleLeak b) = t at hlast ⊢
  have hentered (hst : s.leak.zones[z].state ≠ .wet) (ht : t.leak.zones[z].state = .wet) : ZoneEntered z u v :=
    hcycled.entered (by rw [hold]; exact hst) (by rw [← hlast.zone]; exact ht)
  refine ⟨?_, fun hst ht => ?_, fun hst ht hw m hm => ?_⟩
  · rw [hlast.zone, hcycled.zone, hold, hset]
  · obtain ⟨hraised, hcondition, -⟩ := hentered hst ht
    refine ⟨fun code hcode => ?_, hlast.wet.condition.trans hcondition⟩
    have hown := hraised code (by rw [hold]; exact hcode)
    rw [← hlast.zone] at hown
    exact (hown.late hstart).widen (hstart.trans hsend) (Quiet.refl _ s).toUnraised hlast.wet.toUnraised
  · have ha : a.withheld := (Bides.of_seq (m := m) htold.seq hw).1
    obtain ⟨hb, htaken⟩ := hholds m ha
    have hmb : b.settings.slots[m].zone = some z := by rw [hripple.settings, htold.settings, hm]
    obtain ⟨hu, hslot⟩ := hbefore.slots m hmb hb
    have hwetted := (hentered hst ht).slots hu m (by rw [hset]; exact hm)
    have hend := (hlast.slots m (by rw [hsetlast]; exact hm) (hwithheld hu)).2
    rw [hslot, hset, ← hend] at hwetted
    rw [htold.seq] at htaken
    exact htaken.wetted hwetted

theorem endCycle_ends : CycleEnds c s (endCycle c s) := by
  have hslots := endCycle_slots c s
  have hzones := endCycle_zone c s
  rw [endCycle_eq] at hslots hzones ⊢
  have hholds := cycleHolds_ripple (s.lineTold c)
  have hholdcauses := cycleHolds_touches (s.lineTold c)
  have hwatch := (Ripple.refl (cycleLeak (cycleHolds (s.lineTold c)))).lineWatch
  have hwatchcauses := lineWatch_touches TrayCause (cycleLeak (cycleHolds (s.lineTold c)))
  generalize lineWatch (cycleLeak (cycleHolds (s.lineTold c))) = t at hslots hzones hwatch hwatchcauses ⊢
  have hleak := cycleLeak_line (cycleHolds (s.lineTold c))
  have hleakcauses := cycleLeak_touches (cycleHolds (s.lineTold c))
  exact ⟨((LineKept.of_ripple hholds).trans hleak).trans (.of_ripple hwatch),
    ((hholdcauses.mono fun _ => .inl).trans hleakcauses).trans hwatchcauses, hslots, hzones⟩

end Cycle

end Sys2Proof.Machine
end

section
/-! PROOFS. O59: the obligation (R130, R134, R136 to R139, R146 to R152). -/

namespace Sys2Proof.Machine

section Obligation
variable {c : CycleSamples} {s : State} {clocks : Nat}

theorem exec_cycleEnd_stopping (c : CycleSamples) (hrun : s.running) (h : s.line.cycle = .stopFrame clocks) :
    exec (.cycleEnd c) s = .next (endCycle c s) := by
  have hexec : exec (.cycleEnd c) s = .next (whenRunning (cycleEnd c) s) := by
    unfold exec execCycleEnd
    with_reducible rfl
  rw [hexec, whenRunning_of_running hrun, cycleEnd, h]

/-- The line's own fields after a cycle end. -/
theorem LineKept.fields {t u : State} (h : LineKept u t) :
    t.line.cycle = u.line.cycle ∧ t.line.cycleNo = u.line.cycleNo ∧ t.line.faultRun = u.line.faultRun ∧
      t.line.cleanRun = u.line.cleanRun ∧ t.line.faults = u.line.faults ∧ t.line.state = u.line.state ∧ t.line.mode = u.line.mode ∧
      t.line.wave = u.line.wave ∧ t.line.leakHeld = u.line.leakHeld ∧ t.line.attention = u.line.attention ∧
      t.line.hold = u.line.hold ∧ t.line.leak = u.line.leak := by
  unfold LineKept at h
  rw [h]
  exact ⟨rfl, rfl, rfl, rfl, rfl, rfl, rfl, rfl, rfl, rfl, rfl, rfl⟩

end Obligation

end Sys2Proof.Machine

open Sys2Proof Sys2Proof.Machine

/-- Settles O59: the line is closed and tells its causes before the holds and the zones, which leave it and its causes so; each slot of no
zone is judged by its own hold, and each zone by its own report, with its slots as the holds left them. -/
theorem cycleEndDecodesAndCounts : Obligations.CycleEndDecodesAndCounts := by
  unfold Obligations.CycleEndDecodesAndCounts
  intro s c clocks hrun hcycle x faulted run clean state decodes silent
  refine ⟨endCycle c s, exec_cycleEnd_stopping c hrun hcycle, ?_⟩
  have htold := lineTold_told c s
  obtain ⟨hline, hcauses, hslots, hzones⟩ := endCycle_ends c s
  obtain ⟨hrunEq, hcleanEq, hfaultsEq⟩ := closedLine_counts c s
  have hstateEq := closedLine_state c s
  obtain ⟨hattention, hhold, hleak, hheld⟩ := closedLine_vectors c s
  obtain ⟨hidle, hno, hmode, hwave⟩ := closedLine_drives c s hcycle
  generalize endCycle c s = t at hline hcauses hslots hzones ⊢
  have hfaulted : cycleFaulted c = true ↔ faulted := cycleFaulted_iff c
  have hrunEq : (s.closedLine c).faultRun = run := hrunEq.trans (if_congr hfaulted rfl rfl)
  have hcleanEq : (s.closedLine c).cleanRun = clean := hcleanEq.trans (if_congr hfaulted rfl rfl)
  have hfaultsEq : (s.closedLine c).faults = if faulted then min 65535 (x.faults + 1) else x.faults :=
    hfaultsEq.trans (if_congr hfaulted rfl rfl)
  have hstateEq : (s.closedLine c).state = state := by
    rw [hstateEq, hrunEq, hcleanEq]
    exact if_congr Iff.rfl (if_congr (and_congr_left' hfaulted) rfl rfl) (if_congr (and_congr_left' (not_congr hfaulted)) rfl rfl)
  have hdecodes : s.decodesCycle c = true ↔ decodes := by
    rw [State.decodesCycle, hstateEq, Bool.and_eq_true, Bool.not_eq_true', ← Bool.not_eq_true, hfaulted, beq_iff_eq]
  have hquiet : ∀ d, ¬ TrayCause d → Quiet d (s.lineTold c) t := hcauses
  obtain ⟨e1, e2, e3, e4, e5, e6, e7, e8, e9, e10, e11, e12⟩ := hline.fields
  rw [htold.line] at e1 e2 e3 e4 e5 e6 e7 e8 e9 e10 e11 e12
  beta_reduce
  intro y
  refine ⟨e1.trans hidle, e2.trans hno, e3.trans hrunEq, e4.trans hcleanEq, e5.trans hfaultsEq, e6.trans hstateEq, e7.trans hmode,
    e8.trans hwave, ?_, ?_, fun hne => ?_, fun hd => ?_, fun hd n => ?_, fun hd z => ?_, fun n => ⟨?_, fun hold hnow => ?_⟩,
    fun n hn hq => ?_, fun z hk => ?_⟩
  · rw [e9, hheld, Bool.eq_iff_iff, Bool.not_eq_true', ← Bool.not_eq_true, hdecodes, Bool.not_eq_true', decide_eq_false_iff_not]
  · rw [(hquiet _ not_trayCause_line).condition, htold.condition, hstateEq]
  · have hraised := htold.raised (by rw [hstateEq]; exact hne)
    rw [e5]
    rw [hstateEq] at hraised
    exact hraised.widen htold.sends (Quiet.refl _ s).toUnraised (hquiet _ not_trayCause_line).toUnraised
  · have hno : ¬ s.decodesCycle c = true := fun h => hd (hdecodes.1 h)
    rw [if_neg hno] at hattention hhold hleak
    exact ⟨e10.trans hattention, e11.trans hhold, e12.trans hleak⟩
  · have hyes : s.decodesCycle c = true := hdecodes.2 hd
    rw [if_pos hyes] at hattention hhold
    rw [e10, e11, hattention, hhold]
    obtain ⟨hsilent, hspeaks⟩ := believe_silent s c.a n
    obtain ⟨hsilent', hspeaks'⟩ := believe_silent s c.b n
    exact ⟨fun h => ⟨hsilent h, hsilent' h⟩, fun h => ⟨hspeaks h, hspeaks' h⟩⟩
  · have hyes : s.decodesCycle c = true := hdecodes.2 hd
    rw [if_pos hyes] at hattention hleak
    rw [e12, e10, hleak, hattention]
    exact leakReports_bit s (s.believe c.a) z
  · rw [(hquiet _ (not_trayCause_attention n)).condition, htold.attention, e10]
  · have hraised := htold.attends n hold (by rw [← e10]; exact hnow)
    rw [e2]
    exact hraised.widen htold.sends (Quiet.refl _ s).toUnraised (hquiet _ (not_trayCause_attention n)).toUnraised
  · have htaken := hslots n hn hq
    rw [← e11] at htaken
    intro v w limit held
    have hlimit : s.holdLimitOf n = limit := by
      show s.settings.sequence.holdLimit s.settings.slots[n].cls = limit
      rfl
    rw [hlimit] at htaken
    refine ⟨fun hst hh ho hl => ?_, htaken.waits, htaken.stays, htaken.drains, htaken.other⟩
    refine (htaken.held hst hh ho hl).trans ?_
    rw [Slot.heldOff, Slot.moved_eq _ (st := .held) nofun]
    rfl
  · obtain ⟨hzone, htoldz, hslotsz⟩ := hzones z
    rw [← e12, ← e9] at hzone
    intro set v report seen w accepted count closed
    have haccepted : (report && set.acceptTray) = true ↔ accepted := Bool.and_eq_true_iff
    have hrefused : (report && set.acceptTray) = false ↔ ¬ accepted := by rw [← Bool.not_eq_true, haccepted]
    change w = v.cycled set report y.leakHeld at hzone
    have hreadings := Zone.cycled_readings set report y.leakHeld v
    have hwet := Zone.cycled_wet (set := set) (report := report) (held := y.leakHeld) (x := v)
    have hcalm := Zone.cycled_calm (set := set) (report := report) (held := y.leakHeld) (x := v)
    have hsuspect := fun h => Zone.cycled_suspect (set := set) (report := report) (held := y.leakHeld) (x := v) h hk
    rw [← hzone] at hreadings hwet hcalm hsuspect
    refine ⟨hreadings.report, hreadings.held, hreadings.code, hreadings.cls, hreadings.ropeFault, hwet,
      fun hst ha => (hcalm hst).1 (hrefused.2 ha), fun hst ha => ?_, fun hst ha => ?_, fun hst ha => ?_, fun hst ht => ?_⟩
    · have htrays := (hcalm hst).2 (haccepted.2 ha)
      exact ⟨htrays.rope, htrays.tray, htrays.waits rfl, fun hone => htrays.alone rfl (Nat.le_of_eq hone)⟩
    · have htrays := (hsuspect hst).1 (haccepted.2 ha)
      exact ⟨htrays.rope, htrays.tray, htrays.both, htrays.alone, htrays.waits⟩
    · have hempties := (hsuspect hst).2 (hrefused.2 ha)
      exact ⟨hempties.rope, hempties.tray, hempties.valve, hempties.stays, hempties.falls⟩
    · obtain ⟨hraised, hcondition⟩ := htoldz hst ht
      refine ⟨hraised, hcondition, fun hw n hn => ?_⟩
      obtain ⟨hqueued, hkept, hoff, hdrains, hlocks, hdraining, hdown⟩ := hslotsz hst ht hw n hn
      intro p q warned powered
      exact ⟨hqueued, hkept, fun hp => ⟨hoff hp, hdrains hp, hlocks hp, hdraining hp, hdown hp⟩⟩
end
